-- ==== Sys2Proof/Word.lean ====
section
/-! DEFINITION. The machine words of the part: a register word (Register access codes: registers are 32 bits wide) and a byte. -/

namespace Sys2Proof

/-- A 32-bit register, parameter or reply word. -/
abbrev Word := BitVec 32

/-- A byte of a packet or of a store. -/
abbrev Byte := BitVec 8

/-- The word that holds `n` modulo 2^32. -/
abbrev word (n : Nat) : Word := BitVec.ofNat 32 n

end Sys2Proof
end

