-- ==== Sys2Proof/Syntax.lean ====
section
/-! DEFINITION. The commands of the part as syntax: where a request comes from, what a packet holds, and one constructor of `Instr` for
each row of the table of operations and events. -/

namespace Sys2Proof

/-- Where a request or a register access comes from: the transports of Table 2.4, and the Hooks as masters of register accesses. -/
inductive Via where
  | spi
  | pcie (k : Nat)
  | usb (k : Nat)
  | link (k p : Nat)
  | needle (n : Nat)
  | hook (h : Nat)
  deriving DecidableEq, Repr

/-- A command, reply, event or link-message packet (Table 2.1); CRC and PLEN follow from the rest. -/
structure Packet where
  opcode : Nat
  tag : Nat
  flags : Nat
  target : Nat
  status : Nat
  detail : Nat
  data : List Word
  deriving DecidableEq, Repr

/-- A request as a transport received it: its header fields, the PLEN it states, the bytes received, whether its CRC matched,
the slot it was posted from (PCIe only), and its parameter words. -/
structure Req where
  via : Via
  tag : Nat
  flags : Nat
  target : Nat
  plen : Nat
  received : Nat
  crcOk : Bool
  slot : Nat
  params : List Word
  deriving DecidableEq, Repr

/-- A frame at an input, as the receiver finds it (R208): its timing (pixel rate in kHz, period in ns), whether it is interlaced, whether
its format is one of those of Table 6.2, its sampling, form, depth, range and matrix coded as Table 6.15, and the samples of each
component in raster order. -/
structure InFrame where
  width : Nat
  height : Nat
  hTotal : Nat
  vTotal : Nat
  pixelRate : Nat
  period : Nat
  interlaced : Bool
  standard : Bool
  sampling : Nat
  rgb : Bool
  ten : Bool
  limited : Bool
  matrix : Nat
  planes : List (List Nat)
  deriving DecidableEq, Repr

/-- A token at the upstream port of a USB hub: the address and endpoint it names, the micro-frame it falls in (8 x frame number plus
micro-frame), and for a split transaction the TT port, whether it is the complete-split, and low speed; port 0 for no split. `ty` is the
endpoint type: 0 control, 1 isochronous, 2 bulk, 3 interrupt. -/
structure UsbTok where
  addr : Nat
  ep : Nat
  uf : Nat
  port : Nat
  complete : Bool
  low : Bool
  ty : Nat
  deriving DecidableEq, Repr

/-- A GOOSE message as the mapper decodes it (R356): APPID, gocbRef, timeAllowedToLive in ms, stNum, sqNum, simulation, confRev, and the type
and value of each member of its data set: 0 BOOLEAN, 1 INT32, 2 FLOAT32 as words, 3 the 13-bit quality, 4 UtcTime in ns UTC, 5 anything
else. -/
structure GooseMsg where
  appid : Nat
  gocbRef : List Byte
  tal : Nat
  stNum : Nat
  sqNum : Nat
  simulation : Bool
  confRev : Nat
  members : List (Nat × Nat)
  deriving DecidableEq, Repr

/-- A lane block (R85): its 3-bit header, leftmost bit first, and its 192 payload bits as they are on the line, bit 191 first. -/
structure Block where
  header : BitVec 3
  payload : BitVec 192
  deriving DecidableEq, Repr

/-- Where a packet came to the part: the link port, and the label of its tunnel where it is an in-band message and not one of a control tunnel. -/
structure PacketPath where
  port : Nat
  inBand : Option Nat
  deriving DecidableEq, Repr

/-- What a link module says of itself beside its type and length: the vendor's OUI, and its highest lane rate (R104, R106). -/
structure ModuleMaker where
  oui : Nat
  rate : Nat
  deriving DecidableEq, Repr

/-- The headers a lane shows in turn (R96). -/
structure LaneHeaders where
  lane : Nat
  headers : List (BitVec 3)
  deriving DecidableEq, Repr

/-- Lane blocks that come in at a link port. -/
structure PortBlocks where
  port : Nat
  blocks : List Block
  deriving DecidableEq, Repr

/-- The link port whose link leaves Husk, and whether the far end asked for it (R112). -/
structure HuskWake where
  port : Nat
  far : Bool
  deriving DecidableEq, Repr

/-- What a Discover or Enter Mode message names: its SVID, and the mode where it enters one (R103, R403). -/
structure VdmObject where
  svid : Nat
  mode : Nat
  deriving DecidableEq, Repr

/-- The commands the part takes from outside: one constructor for each row of the table of operations and events. -/
inductive Instr where
  /-- `SPI_WRITE_PACKET`, R45: The SPI host sends a WRITE_PACKET instruction, and the part takes the packet or discards it with STAT_FRAME_ERR. -/
  | spiWritePacket (bytes : List Byte)
  /-- `SPI_READ_PACKET`, R46: The SPI host clocks out the oldest waiting reply or event; the packet is removed only once its last CRC byte has been clocked out. -/
  | spiReadPacket (clocked : Nat)
  /-- `SPI_READ_STATUS`, R44: The SPI host reads the status byte again, which clears STAT_FRAME_ERR. -/
  | spiReadStatus
  /-- `SPI_BAD_INSTRUCTION`, R44: An unknown SPI instruction byte makes the part ignore the rest of the transaction and set STAT_FRAME_ERR. -/
  | spiBadInstruction (instruction : Byte)
  /-- `USB_COMMAND_TRANSFER`, R47: A whole bulk transfer arrives on EP1 OUT of the management function and is executed as a command packet. -/
  | usbCommandTransfer (k : Nat) (bytes : List Byte)
  /-- `CMD_POST`, R49: A write to CMD_POST submits the packet in a PCIe command slot, or is ignored and logged if the slot is busy. -/
  | cmdPost (k : Nat) (slot : Nat) (bytes : List Byte)
  /-- `RSP_READY_WRITE`, R48: Writing 1 to a bit of RSP_READY frees that PCIe reply slot. -/
  | rspReadyWrite (k : Nat) (w : Word)
  /-- `EVT_TAIL_WRITE`, R49: Software advances EVT_TAIL, which frees entries of the PCIe event ring. -/
  | evtTailWrite (k : Nat) (w : Word)
  /-- `SYS_INFO` (0x0001), R81: Returns the variant, the kernel states, the lead, the versions and the limits. -/
  | sysInfo (r : Req)
  /-- `SYS_STATE_SET` (0x0002), R454: Starts a job that moves the part to Run, Quiet or Seed. -/
  | sysStateSet (r : Req)
  /-- `SYS_RESET` (0x0003), R465: Replies DONE, then resets the part, one kernel or one unit. -/
  | sysReset (r : Req)
  /-- `GET_REPLY` (0x0004), R64: Returns a kept reply by tag, unchanged. -/
  | getReply (r : Req)
  /-- `EVENT_SUBSCRIBE` (0x0005), R65: Sets the minimum severity and class mask of this transport's events. -/
  | eventSubscribe (r : Req)
  /-- `JOB_STATUS` (0x0006), R63: Returns the state, step and final status of a job. -/
  | jobStatus (r : Req)
  /-- `JOB_ABORT` (0x0007), R63: Stops a Running job at its next step boundary. -/
  | jobAbort (r : Req)
  /-- `NOP` (0x0008), R81: Replies DONE with its parameters echoed. -/
  | nop (r : Req)
  /-- `KERNEL_RECOVER` (0x0009), R469: Declares a kernel faulty and starts its recovery job. -/
  | kernelRecover (r : Req)
  /-- `PORT_INFO` (0x0101), R122: Returns the port state, partner identity, cast-on step and backoff. -/
  | portInfo (r : Req)
  /-- `PORT_CAST_ON` (0x0102), R105: Starts the nine-step cast-on job on a port. -/
  | portCastOn (r : Req)
  /-- `PORT_BIND_OFF` (0x0103), R114: Starts the orderly bind-off job of a port. -/
  | portBindOff (r : Req)
  /-- `PORT_POWER_STATE` (0x0104), R111: Sets the power policy and idle times of a port, and with NOW sends HUSK_REQ at once. -/
  | portPowerState (r : Req)
  /-- `PORT_EQ_SELECT` (0x0105), R102: Sets or clears the forced equalisation row of a port. -/
  | portEqSelect (r : Req)
  /-- `PORT_ALIGN_MODE` (0x0106), R100: Moves a port into or out of the Test state for manual alignment. -/
  | portAlignMode (r : Req)
  /-- `PORT_BIT_SLIP` (0x0107), R100: Moves the receive offset of a lane in Test by a number of bits. -/
  | portBitSlip (r : Req)
  /-- `PORT_PRBS` (0x0108), R122: Starts, stops or reads a PRBS check on the lanes of a port in Test. -/
  | portPrbs (r : Req)
  /-- `PLY_FORM` (0x0109), R117: Starts a job that forms a tight or loose ply. -/
  | plyForm (r : Req)
  /-- `PLY_SPLIT` (0x010A), R121: Starts a job that splits a ply into its member ports. -/
  | plySplit (r : Req)
  /-- `ROLE_SWAP_REQUEST` (0x010B), R159: Starts a job that asks the far end to swap link roles. -/
  | roleSwapRequest (r : Req)
  /-- `TUN_OPEN` (0x0201), R138: Starts a job that opens a tunnel with the far end. -/
  | tunOpen (r : Req)
  /-- `TUN_CLOSE` (0x0202), R142: Starts a job that drains and closes a tunnel. -/
  | tunClose (r : Req)
  /-- `TUN_INFO` (0x0203), R168: Returns the 16 words of a tunnel context without clearing its counters. -/
  | tunInfo (r : Req)
  /-- `TUN_MODIFY` (0x0204), R135: Changes the options of a Closed tunnel context. -/
  | tunModify (r : Req)
  /-- `TUN_RELEASE` (0x0205), R167: Ends a Held or Fault tunnel, either by closing it or by reopening it. -/
  | tunRelease (r : Req)
  /-- `RESUME_WINDOW_SET` (0x0206), R164: Sets the resume window of a port. -/
  | resumeWindowSet (r : Req)
  /-- `RAW_ROUTE_SET` (0x0207), R130: Creates or deletes a raw route that maps a pass-through label between link ports. -/
  | rawRouteSet (r : Req)
  /-- `ROW_TABLE_READ` (0x0301), R156: Returns the epoch and entries of the active or shadow row table. -/
  | rowTableRead (r : Req)
  /-- `ROW_SHADOW_WRITE` (0x0302), R147: Writes entries of the shadow row table of a port. -/
  | rowShadowWrite (r : Req)
  /-- `ROW_SWAP` (0x0303), R152: Checks the shadow row table and arms a swap at the next row boundary. -/
  | rowSwap (r : Req)
  /-- `REGAUGE` (0x0304), R155: Checks a re-gauge, computes its ordered steps and starts them as a job. -/
  | regauge (r : Req)
  /-- `REGAUGE_ROLLBACK` (0x0305), R158: Starts a job that rolls a Partial or Aborted re-gauge back. -/
  | regaugeRollback (r : Req)
  /-- `GAUGE_CEILING_SET` (0x0306), R150: Lowers or raises the reservation ceiling of a port. -/
  | gaugeCeilingSet (r : Req)
  /-- `RAW_ROUTE_READ` (0x0307), R154: Returns a raw route and the gauge of its egress label. -/
  | rawRouteRead (r : Req)
  /-- `SKEIN_CARVE` (0x0401), R180: Resizes skeins 2 to 4 of the shared store when they are idle. -/
  | skeinCarve (r : Req)
  /-- `SKEIN_INFO` (0x0402), R205: Returns the layout and use of each skein. -/
  | skeinInfo (r : Req)
  /-- `QUEUE_THRESHOLD_SET` (0x0403), R183: Sets the threshold exponent, minimum and mark depth of a queue or class. -/
  | queueThresholdSet (r : Req)
  /-- `SCHED_NODE_SET` (0x0404), R197: Sets the level, weights or port of a scheduler node. -/
  | schedNodeSet (r : Req)
  /-- `SHAPER_SET` (0x0405), R201: Sets a shaper's rate, burst and overhead, and resets its tokens. -/
  | shaperSet (r : Req)
  /-- `MCAST_LIST_SET` (0x0406), R189: Binds a replication list with its legs to a context, or unbinds it. -/
  | mcastListSet (r : Req)
  /-- `LAT_SAMPLE_SET` (0x0407), R203: Clears a queue's sampler, sets its interval and restarts it. -/
  | latSampleSet (r : Req)
  /-- `LAT_SAMPLE_READ` (0x0408), R203: Returns the sampler words of a queue from one instant, optionally clearing them. -/
  | latSampleRead (r : Req)
  /-- `DIN_CONFIG` (0x0501), R235: Sets the receiver enable, the lane and rate limits and the coded form of an input. -/
  | dinConfig (r : Req)
  /-- `EDID_PROXY_SET` (0x0502), R211: Selects a far or fixed EDID for an input, optionally loading one. -/
  | edidProxySet (r : Req)
  /-- `PURL_MODE_SET` (0x0503), R224: Sets the Purl mode X, B or C of a stream and the mode's parameters. -/
  | purlModeSet (r : Req)
  /-- `EXACT_REGION_SET` (0x0504), R227: Replaces the exact-region list of a stream. -/
  | exactRegionSet (r : Req)
  /-- `DAMAGE_CONFIG` (0x0505), R219: Sets the forced-refresh interval and the skip options of a stream. -/
  | damageConfig (r : Req)
  /-- `PURL_FRAME_REPORT` (0x0506), R235: Returns the report of the last completed coded frame, optionally clearing the counters. -/
  | purlFrameReport (r : Req)
  /-- `DOUT_TIMING_STAGE` (0x0601), R265: Stages an output timing for the next frame boundary. -/
  | doutTimingStage (r : Req)
  /-- `DOUT_PAIR_SET` (0x0602), R260: Sets the pair mode of the two outputs from the next frame boundary of O0. -/
  | doutPairSet (r : Req)
  /-- `FRAME_LOCK_SET` (0x0603), R261: Sets the frame-lock period, phase and slew of an output. -/
  | frameLockSet (r : Req)
  /-- `PSR_CONFIG` (0x0604), R256: Sets the panel self-refresh enable and idle count. -/
  | psrConfig (r : Req)
  /-- `TEST_PATTERN` (0x0605), R268: Replaces the picture of an output with a test pattern from the next frame boundary. -/
  | testPattern (r : Req)
  /-- `DOUT_STATUS` (0x0606), R269: Returns the output state and counters, optionally clearing them. -/
  | doutStatus (r : Req)
  /-- `PCIE_CONFIG` (0x0701), R293: Sets the idle form, width, speed, clocking and read-ahead options of the bridge. -/
  | pcieConfig (r : Req)
  /-- `PCIE_WINDOW` (0x0702), R285: Declares, moves or invalidates a read-ahead window. -/
  | pcieWindow (r : Req)
  /-- `PCIE_STATUS` (0x0703), R293: Returns the bridge status, credits and counters. -/
  | pcieStatus (r : Req)
  /-- `PCIE_READAHEAD_LOG` (0x0704), R287: Returns entries of the read-ahead discard log. -/
  | pcieReadaheadLog (r : Req)
  /-- `USB_CONFIG` (0x0801), R317: Sets the hub's idle form, fetch depth and OUT depth. -/
  | usbConfig (r : Req)
  /-- `USB_EP_LAYOUT` (0x0802), R313: Carves the management endpoint buffers in skein USBEP. -/
  | usbEpLayout (r : Req)
  /-- `USB_PORT_POWER` (0x0803), R317: Forces a downstream port off, power-cycles it, or lets it follow the host. -/
  | usbPortPower (r : Req)
  /-- `USB_STATUS` (0x0804), R317: Returns the hub and port states and counters. -/
  | usbStatus (r : Req)
  /-- `ETH_CONFIG` (0x0901), R319: Sets the medium, speed and options of an Ethernet port. -/
  | ethConfig (r : Req)
  /-- `PRP_PAIR_SET` (0x0902), R323: Forms or splits the PRP pair of E0 and E1. -/
  | prpPairSet (r : Req)
  /-- `ETH_STATUS` (0x0903), R346: Returns the link state and the Ethernet and PRP counters. -/
  | ethStatus (r : Req)
  /-- `TIME_SOURCE_LIST` (0x0A01), R330: Sets the timebase source list in order of priority. -/
  | timeSourceList (r : Req)
  /-- `TIME_READ` (0x0A02), R346: Returns the current time, state and source. -/
  | timeRead (r : Req)
  /-- `TIME_SET` (0x0A03), R331: Sets the time while the timebase is in Free-run. -/
  | timeSet (r : Req)
  /-- `PTP_CONFIG` (0x0A04), R337: Sets the PTP role, domain, port and priorities. -/
  | ptpConfig (r : Req)
  /-- `ASYMMETRY_SET` (0x0A05), R335: Sets the link time-transfer asymmetry correction of a port. -/
  | asymmetrySet (r : Req)
  /-- `LOG_READ` (0x0A06), R344: Reads entries of the kernel's log ring from a first index. -/
  | logRead (r : Req)
  /-- `BLACKBOX_READ` (0x0A07), R345: Reads black-box entries, numbered from the oldest held. -/
  | blackboxRead (r : Req)
  /-- `BLACKBOX_CLEAR` (0x0A08), R345: Empties the black box when the transport's key slot allows it. -/
  | blackboxClear (r : Req)
  /-- `SMAP_SIGNAL_SET` (0x0B01), R349: Defines or deletes a mapped signal in one step. -/
  | smapSignalSet (r : Req)
  /-- `SMAP_SIGNAL_READ` (0x0B02), R375: Returns the current value, quality and time of a signal. -/
  | smapSignalRead (r : Req)
  /-- `GOOSE_SUBSCRIBE` (0x0B03), R356: Defines a GOOSE subscription. -/
  | gooseSubscribe (r : Req)
  /-- `GOOSE_PUBLISH_SET` (0x0B04), R358: Defines a GOOSE publication with its data set and ladder. -/
  | goosePublishSet (r : Req)
  /-- `HID_SNOOP_SET` (0x0B05), R361: Defines a snooped HID report field. -/
  | hidSnoopSet (r : Req)
  /-- `CHECK_UNIT_SET` (0x0B06), R368: Configures a check unit, returns its state and optionally loads a new one. -/
  | checkUnitSet (r : Req)
  /-- `CHECK_SCAN` (0x0B07), R370: Starts a job that scans a store range through a check unit. -/
  | checkScan (r : Req)
  /-- `SEAL_SET` (0x0B08), R375: Sets the end-to-end seal of a context and its failure action. -/
  | sealSet (r : Req)
  /-- `PWR_FEED_STATUS` (0x0C01), R396: Returns the feed, PANEL and LOAD status and the last trip. -/
  | pwrFeedStatus (r : Req)
  /-- `PWR_LOAD_ENABLE` (0x0C02), R387: Sets SW_EN to 1 so that LOAD ramps on, and cancels a pending disable. -/
  | pwrLoadEnable (r : Req)
  /-- `PWR_LOAD_DISABLE` (0x0C03), R387: Clears SW_EN and the trip latch, and turns LOAD off after DELAY. -/
  | pwrLoadDisable (r : Req)
  /-- `PWR_BREAKER_SET` (0x0C04), R388: Sets the inrush, SOA, short and curve settings of the LOAD breaker. -/
  | pwrBreakerSet (r : Req)
  /-- `PWR_WARN_SET` (0x0C05), R389: Sets WARN, DROP, HYST and HOLD in one step. -/
  | pwrWarnSet (r : Req)
  /-- `PWR_METER_READ` (0x0C06), R393: Returns the meter channels from one sample instant. -/
  | pwrMeterRead (r : Req)
  /-- `PWR_ENERGY_CLEAR` (0x0C07), R394: Clears the named energy accumulators and returns their values. -/
  | pwrEnergyClear (r : Req)
  /-- `PD_STATUS` (0x0D01), R416: Returns the attach state, role, contract and VBUS status of a Type-C port. -/
  | pdStatus (r : Req)
  /-- `PD_ROLE_PREF_SET` (0x0D02), R398: Sets the attach behaviour and swap acceptance of a Type-C port. -/
  | pdRolePrefSet (r : Req)
  /-- `PD_SOURCE_CAPS_SET` (0x0D03), R407: Replaces the offered source capabilities of a port. -/
  | pdSourceCapsSet (r : Req)
  /-- `PD_SINK_REQUEST` (0x0D04), R406: Requests a sink contract, automatic or named. -/
  | pdSinkRequest (r : Req)
  /-- `PD_FRS_SET` (0x0D05), R411: Sets the fast role swap enable, current and trigger. -/
  | pdFrsSet (r : Req)
  /-- `HOOK_POLICY_UPDATE` (0x0D06), R415: Takes Hook policy image data, and on the last packet starts the write, verify and mark job. -/
  | hookPolicyUpdate (r : Req)
  /-- `CABLE_ID_READ` (0x0D07), R404: Returns the cable e-marker VDOs and the cable class. -/
  | cableIdRead (r : Req)
  /-- `KEY_SLOT_INFO` (0x0E01), R444: Returns the attributes, info, key hash and public key of a slot. -/
  | keySlotInfo (r : Req)
  /-- `KEY_DERIVE` (0x0E02), R425: Derives a key into an empty slot, or imports a public key, or creates a grant. -/
  | keyDerive (r : Req)
  /-- `KEY_ERASE` (0x0E03), R427: Erases a slot that is not PERMANENT. -/
  | keyErase (r : Req)
  /-- `KEY_ATTR_SET` (0x0E04), R427: Narrows the attributes of a slot. -/
  | keyAttrSet (r : Req)
  /-- `LIFECYCLE_ADVANCE` (0x0E05), R431: Starts a job that blows the fuses of the next life-cycle state and applies its rules. -/
  | lifecycleAdvance (r : Req)
  /-- `LINK_AUTH_POLICY` (0x0E06), R432: Sets a port's authentication mode, identity slot, trust anchors and phase time. -/
  | linkAuthPolicy (r : Req)
  /-- `FW_INFO` (0x0F01), R444: Returns the firmware slot status, SVN_MIN and the slot headers. -/
  | fwInfo (r : Req)
  /-- `FW_WRITE_BEGIN` (0x0F02), R440: Opens a write session on the firmware slot that is not running, and invalidates that slot. -/
  | fwWriteBegin (r : Req)
  /-- `FW_WRITE_DATA` (0x0F03), R440: Writes the next image data to K0's copy of the open slot. -/
  | fwWriteData (r : Req)
  /-- `FW_WRITE_COMMIT` (0x0F04), R440: Starts a job that checks the image and copies it to every kernel. -/
  | fwWriteCommit (r : Req)
  /-- `FW_SLOT_SELECT` (0x0F05), R442: Selects, trials or confirms a firmware slot, or raises SVN_MIN. -/
  | fwSlotSelect (r : Req)
  /-- `BOARD_TABLE_LOAD` (0x0F06), R443: Takes board-table data, and on the last packet starts the check, stage and pend job. -/
  | boardTableLoad (r : Req)
  /-- `MBOX_WRITE` (0x1001), R82: Writes mailbox words, optionally delivering by writing word 63 last. -/
  | mboxWrite (r : Req)
  /-- `MBOX_READ` (0x1002), R82: Reads mailbox words, optionally consuming by reading word 63 last. -/
  | mboxRead (r : Req)
  /-- `DOORBELL_RING` (0x1003), R72: Rings the doorbells of a mask. -/
  | doorbellRing (r : Req)
  /-- `LOCK_ACQUIRE` (0x1004), R73: Tries to acquire a mailbox lock. -/
  | lockAcquire (r : Req)
  /-- `LOCK_RELEASE` (0x1005), R82: Releases a mailbox lock after the GEN and stale-owner checks. -/
  | lockRelease (r : Req)
  /-- `LOCK_BREAK` (0x1006), R76: Breaks a lock held by an owner in Fault, incrementing GEN. -/
  | lockBreak (r : Req)
  /-- `LOCK_STATUS` (0x1007), R73: Returns the lock owner, GEN and mailbox status without acquiring. -/
  | lockStatus (r : Req)
  /-- `DIAG_COUNTERS_READ` (0x1101), R83: Reads a block's RC words, optionally clearing them. -/
  | diagCountersRead (r : Req)
  /-- `DIAG_LOOPBACK` (0x1102), R83: Sets near loopback, far loopback or none on a port in Test. -/
  | diagLoopback (r : Req)
  /-- `DIAG_SENSORS` (0x1103), R83: Returns the die temperature and rail voltages. -/
  | diagSensors (r : Req)
  /-- `DIAG_SEAM_TEST` (0x1104), R83: Starts a job that moves flows off a seam and runs PRBS31 across it. -/
  | diagSeamTest (r : Req)
  /-- `DIAG_STORE_TEST` (0x1105), R83: Starts a job that pattern-tests an unallocated store range. -/
  | diagStoreTest (r : Req)
  /-- `REG_READ` (0x1F01), R67: Reads a range of registers in increasing address order. -/
  | regRead (r : Req)
  /-- `REG_WRITE` (0x1F02), R67: Writes a range of registers in increasing address order. -/
  | regWrite (r : Req)
  /-- `REG_MODIFY` (0x1F03), R480: Read-modify-writes one register and returns the old and new words. -/
  | regModify (r : Req)
  /-- `MBOX_LOCK_READ`, R73: A read of MBOX_LOCK acquires a free lock, or reports the owner. -/
  | mboxLockRead (via : Via) (k m : Nat)
  /-- `MBOX_LOCK_WRITE`, R74: A write of 0 by the owner to MBOX_LOCK releases the lock. -/
  | mboxLockWrite (via : Via) (k m : Nat) (w : Word)
  /-- `MBOX_WORD63_WRITE`, R69: A write to word 63 of a mailbox sets FULL and wakes the receiver. -/
  | mboxWord63Write (via : Via) (k m : Nat) (w : Word)
  /-- `MBOX_WORD63_READ`, R70: A read of word 63 of a mailbox clears FULL. -/
  | mboxWord63Read (via : Via) (k m : Nat)
  /-- `DB_RING_WRITE`, R72: Writing 1s to DB_RING sets pending doorbells and wakes their receivers. -/
  | dbRingWrite (via : Via) (k : Nat) (w : Word)
  /-- `DB_PEND_WRITE`, R72: Writing 1s to DB_PEND clears pending doorbells. -/
  | dbPendWrite (via : Via) (k : Nat) (w : Word)
  /-- `TIME_NOW_READ`, R488: A read of TIME_NOW_LO captures TIME_NOW_HI and TIME_NOW_FRAC at the same instant. -/
  | timeNowRead (k : Nat)
  /-- `LOG_WIN_READ`, R347: A read of word 0 of LOG_WIN captures the newest entry at one instant. -/
  | logWinRead (k : Nat)
  /-- `RC_FIELD_READ`, R12: A read of an RC field returns its value and clears what it returned. -/
  | rcFieldRead (a : Nat)
  /-- `LAT_CTRL_WRITE`, R203: A write to LAT_CTRL clears and restarts the queue's sampler. -/
  | latCtrlWrite (via : Via) (k q : Nat) (w : Word)
  /-- `PCIW_CTRL_WRITE`, R294: A write to PCIW_CTRL applies the window registers together and checks the window. -/
  | pciwCtrlWrite (via : Via) (k win : Nat) (w : Word)
  /-- `LOAD_SW_EN_WRITE`, R397: A write to LOAD_CTRL.SW_EN acts as PWR_LOAD_DISABLE with DELAY 0 or as PWR_LOAD_ENABLE. -/
  | loadSwEnWrite (via : Via) (on : Bool)
  /-- `MTR_SNAP_WRITE`, R393: Writing MTR_SNAP.HOLD freezes or releases the meter registers. -/
  | mtrSnapWrite (via : Via) (hold : Bool)
  /-- `REGISTER_WRITE`, R479: A write to a register without a row of its own takes effect as its command would, or is ignored and counted. -/
  | registerWrite (via : Via) (a : Nat) (w : Word)
  /-- `REMOTE_REQUEST_RX`, R50: A far part receives a remote request on a control tunnel and executes it as master 4. -/
  | remoteRequestRx (k p : Nat) (bytes : List Byte)
  /-- `REMOTE_REPLY_RX`, R52: A reply to a remote request arrives and is passed back with the requester's tag, or discarded as late. -/
  | remoteReplyRx (k p : Nat) (pk : Packet)
  /-- `REMOTE_TIMEOUT`, R51: REMOTE_TIMEOUT runs out for a remote request, and it is answered PARTNER_TIMEOUT. -/
  | remoteTimeout (k p linkTag : Nat)
  /-- `BAD_CONTROL_PACKET`, R143: A control-tunnel packet with bad CRC or length is dropped unanswered as a class 9 violation. -/
  | badControlPacket (k : Nat) (path : PacketPath)
  /-- `MODULE_ATTACH`, R104: MODPRS_N has been low for 50 ms, so the module port detects attach and powers the module. -/
  | moduleAttach (k p : Nat)
  /-- `MODULE_READY`, R104: The module reports ready, and its identity is read. -/
  | moduleReady (k p mtype len : Nat) (maker : ModuleMaker)
  /-- `MODULE_DETACH`, R116: MODPRS_N has been high for 10 ms, a clean detach. -/
  | moduleDetach (k p : Nat)
  /-- `TYPEC_ATTACH`, R398: A Type-C attach is debounced; the roles and orientation are set. -/
  | typecAttach (h : Nat) (source cc2 : Bool) (accessory : Nat)
  /-- `TYPEC_DETACH`, R399: CC is open for tPDDebounce, or VBUS is lost as sink; the port detaches. -/
  | typecDetach (h vbus : Nat)
  /-- `ALAVIN_MODE_ENTER`, R103: The Hook completes Enter Mode for SVID 0x2E4D, or records NO_MODE. -/
  | alavinModeEnter (h : Nat) (ok : Bool)
  /-- `UFP_MODE_WAIT_EXPIRY`, R403: A UFP Hook has seen no Enter Mode 500 ms after its contract and requests DR_Swap. -/
  | ufpModeWaitExpiry (h : Nat)
  /-- `TRAIN_RX`, R96: A training burst is received; the lane locks and corrects polarity, order and skew. The bits of the first
  `lanes` streams are received; a tight ply has four lanes at most (R117). -/
  | trainRx (k p lanes stream0 stream1 stream2 stream3 : Nat)
  /-- `LANE_LOCK_LOSS`, R96: 8 invalid headers in 32 blocks make a lane lose lock and hunt again. -/
  | laneLockLoss (k p : Nat) (shown : LaneHeaders)
  /-- `RELOCK_TIMEOUT`, R99: A port has not relocked within LNK_RELOCK_ROWS, so it goes Detached with EV_LINK_LOST. -/
  | relockTimeout (k p : Nat)
  /-- `CAST_ON_STEP_TIMEOUT`, R108: A cast-on step's time limit runs out; cast-on fails and the port enters Backoff. -/
  | castOnStepTimeout (k p : Nat)
  /-- `BACKOFF_EXPIRY`, R115: The Backoff wait ends and cast-on is retried from step 3 or 2. -/
  | backoffExpiry (k p : Nat)
  /-- `IDENT`, R123: The partner's IDENT message arrives at step 4, carrying its identity and session tokens. -/
  | ident (k p : Nat) (blocks : List Block)
  /-- `AUTH_HELLO`, R433: The partner's ephemeral key and nonce arrive at step 5. -/
  | authHello (k p : Nat) (blocks : List Block)
  /-- `AUTH_CERT`, R434: The partner's certificate chain arrives and is checked. -/
  | authCert (k p leaf anchor : Nat) (signed valid : Bool)
  /-- `AUTH_SIG`, R434: The partner's signature arrives and is verified. -/
  | authSig (k p : Nat) (good : Bool)
  /-- `AUTH_DONE`, R434: The partner's confirmation tag arrives and is checked, ending step 5. -/
  | authDone (k p : Nat) (good : Bool)
  /-- `ROLE_MSG`, R123: The partner's ROLE message arrives at step 6 and settles the role or a conflict. -/
  | roleMsg (k p : Nat) (blocks : List Block)
  /-- `RATE_GO`, R106: RATE_GO starts a rate check at the next row marker. -/
  | rateGo (k p : Nat) (blocks : List Block)
  /-- `PRBS_WINDOW_END`, R106: LNK_PRBS_WINDOW ends, and the ends return to TRAIN to exchange counts. -/
  | prbsWindowEnd (k p err0 err1 bits : Nat)
  /-- `RATE_RESULT`, R106: The partner's error counts arrive; the rate passes, steps up or falls back. -/
  | rateResult (k p : Nat) (blocks : List Block)
  /-- `ROW_SYNC`, R105: Valid markers with TUNNEL_VALID are seen at step 8 and the port becomes Open. -/
  | rowSync (k p : Nat) (blocks : List Block)
  /-- `ROW_MARK_RX`, R148: A row marker is received; a new epoch is recorded and answered with EPOCH_ACK. -/
  | rowMarkRx (k p : Nat) (first : Block) (others : List Block)
  /-- `ROW_INFO_RX`, R335: A ROW_INFO block yields the four instants from which path delay and offset are computed. The first `n` blocks are received:
  the marker of a tight ply has six (R87). -/
  | rowInfoRx (k p n : Nat) (b0 b1 b2 b3 b4 b5 : Block)
  /-- `SHELL_IDLE_EXPIRY`, R109: The transmitter has sent LNK_SHELL_IDLE idle stitches and enters Shell. -/
  | shellIdleExpiry (k p : Nat)
  /-- `SHELL_ENTER_RX`, R109: The receiver recognises SHELL_ENTER and holds its state. -/
  | shellEnterRx (k : Nat) (rx : PortBlocks)
  /-- `SHELL_EXIT`, R110: A cell becomes ready in Shell, and the transmitter sends a TRAIN burst to leave. -/
  | shellExit (k p : Nat)
  /-- `HUSK_IDLE_EXPIRY`, R111: LNK_HUSK_IDLE passes with no cell and HUSK_REQ is sent if the conditions hold. -/
  | huskIdleExpiry (k p : Nat)
  /-- `HUSK_REQ`, R111: A HUSK_REQ arrives and is answered HUSK_ACK or HUSK_NAK. -/
  | huskReq (k p tag : Nat)
  /-- `HUSK_ACK`, R111: A HUSK_ACK arrives; both ends send HUSK_ENTER and stop their PLLs. -/
  | huskAck (k p : Nat)
  /-- `HUSK_NAK`, R111: A HUSK_NAK arrives and the port stays active. -/
  | huskNak (k p code : Nat)
  /-- `HUSK_ENTER_RX`, R111: HUSK_ENTER blocks are received and the receiver stops. -/
  | huskEnterRx (k : Nat) (rx : PortBlocks)
  /-- `HUSK_EXIT`, R112: A cell, a wake or the far signal detector makes an end leave Husk and send TRAIN. -/
  | huskExit (k : Nat) (wake : HuskWake)
  /-- `BIND_REQ`, R114: A BIND_REQ arrives; the far end answers BIND_ACK and runs bind-off. -/
  | bindReq (k p tag drain : Nat)
  /-- `BIND_ACK`, R114: A BIND_ACK arrives and bind-off continues with the drain. -/
  | bindAck (k p : Nat)
  /-- `BIND_TIMEOUT`, R114: The far end has not answered BIND_REQ within 50 ms; the near end binds off alone. -/
  | bindTimeout (k p : Nat)
  /-- `BIND_DRAIN_END`, R114: DRAIN_MS ends or the queues are empty; tunnels close and BIND_END follows. -/
  | bindDrainEnd (k p : Nat)
  /-- `BIND_END_RX`, R114: BIND_END is received, and the port goes Off. -/
  | bindEndRx (k : Nat) (rx : PortBlocks)
  /-- `PLY_REQ`, R119: A PLY_REQ arrives and is matched, merged or refused with PLY_NAK. -/
  | plyReq (k p tag kind : Nat)
  /-- `PLY_NAK`, R119: A PLY_NAK arrives and the ply job fails PARTNER_REFUSED. -/
  | plyNak (k p status : Nat)
  /-- `ROLE_SWAP`, R160: A ROLE_SWAP arrives and is acknowledged, refused or settled against a crossing request. -/
  | roleSwap (k p tag prio tok att : Nat)
  /-- `ROLE_SWAP_ACK`, R159: The ROLE_SWAP_ACK arrives; the PCIe and USB tunnels enter Held. -/
  | roleSwapAck (k p : Nat)
  /-- `ROLE_SWAP_NAK`, R161: A ROLE_SWAP_NAK arrives and the job ends PARTNER_REFUSED. -/
  | roleSwapNak (k p status : Nat)
  /-- `ROLE_FLIP`, R159: The first row two row periods after the ACK starts, and LNK_STATE.ROLE flips. -/
  | roleFlip (k p : Nat)
  /-- `ROLE_SWAP_RETRY`, R160: The random wait after equal W ends, and ROLE_SWAP is sent with the next attempt. -/
  | roleSwapRetry (k p : Nat)
  /-- `ROLE_SWAP_TIMEOUT`, R161: No answer to ROLE_SWAP within 50 ms ends the job PARTNER_TIMEOUT. -/
  | roleSwapTimeout (k p : Nat)
  /-- `OPEN_REQ`, R139: An OPEN_REQ arrives and is accepted with OPEN_ACK or refused with OPEN_NAK. -/
  | openReq (k p tag : Nat) (inBand : Option Nat) (w : List Word)
  /-- `OPEN_ACK`, R138: An OPEN_ACK arrives; the context learns its OUT_LABEL and goes Open. -/
  | openAck (k p tag label : Nat) (inBand : Option Nat)
  /-- `OPEN_NAK`, R136: An OPEN_NAK arrives and the Opening context goes Closed. -/
  | openNak (k p tag status : Nat) (inBand : Option Nat)
  /-- `OPEN_TIMEOUT`, R136: No answer in 50 ms, or 10 s for a prearranged tunnel, closes the Opening context. -/
  | openTimeout (k t : Nat)
  /-- `PREARRANGED_OPEN_RESEND`, R140: Every 1 ms a prearranged Opening end sends its OPEN_REQ in-band. -/
  | prearrangedOpenResend (k t : Nat)
  /-- `CLOSE_REQ`, R142: A CLOSE_REQ arrives; the context enters Draining, or a Closed label gets CLOSE_DONE. -/
  | closeReq (k p tag label drain : Nat)
  /-- `CLOSE_DONE`, R142: A CLOSE_DONE arrives, which closes the context once it has sent its own. -/
  | closeDone (k p tag label : Nat)
  /-- `CLOSE_DRAIN_EXPIRY`, R142: DRAIN_MS passes in Draining, and the context closes, discarding what remains. -/
  | closeDrainExpiry (k t : Nat)
  /-- `CREDIT`, R144: A CREDIT message acknowledges cells, grants credit or NACKs a gap. -/
  | credit (k p : Nat) (entries : List Word)
  /-- `REPLAY_TIMEOUT`, R144: No CREDIT entry for 4 row periods; the sender resends from its oldest unacknowledged cell. -/
  | replayTimeout (k t p : Nat) (route : Bool)
  /-- `EPOCH_ACK`, R148: An EPOCH_ACK arrives and a waiting re-gauge proceeds to its next step. -/
  | epochAck (k p epoch : Nat)
  /-- `REGAUGE_STEP_TIMEOUT`, R155: EPOCH_ACK does not come within 16 row periods, and the re-gauge stops in Partial. -/
  | regaugeStepTimeout (job : Nat)
  /-- `RESUME_LIST`, R166: A RESUME_LIST arrives; when all parts are in, the Held tunnels are paired. -/
  | resumeList (k p : Nat) (w : List Word)
  /-- `RESUME_PAIRING_TIMEOUT`, R166: Pairing has not started 50 ms after the control tunnel opened, so every Held tunnel closes. -/
  | resumePairingTimeout (k p : Nat)
  /-- `RESUME_WINDOW_EXPIRY`, R167: A port's resume window ends, and its Held tunnels close. -/
  | resumeWindowExpiry (k p : Nat)
  /-- `VIOLATION_NOTICE`, R162: A VIOLATION_NOTICE arrives and is logged only. -/
  | violationNotice (k p cls label count : Nat)
  /-- `QUARANTINE`, R162: A QUARANTINE arrives and the named context moves to Fault. -/
  | quarantine (k p label cls : Nat)
  /-- `CELL_RX`, R128: A cell arrives at a link port and is resolved by label, checked and admitted, routed or dropped. -/
  | cellRx (k p : Nat) (b0 b1 b2 : Block) (plain : Option (List Byte)) (busy : Bool)
  /-- `PACKET_HANDOVER`, R132: An adapter hands a packet to its context, which splits it into cells and queues them. -/
  | packetHandover (k t p : Nat) (bytes : List Byte) (busy : Bool)
  /-- `STITCH_START`, R149: At each stitch the port sends a gauged cell, a scheduled cell or an idle cell. -/
  | stitchStart (k p : Nat) (late : Bool)
  /-- `ROW_BOUNDARY`, R147: A row begins; an armed swap takes effect and the epoch advances. -/
  | rowBoundary (k p : Nat) (transitHeld : Bool)
  /-- `FENCE_LIFT`, R192: The old path of a moved bucket has drained, and its fenced cells move on. -/
  | fenceLift (k hashSet bucket : Nat)
  /-- `RESIDUE_AGE_EXPIRY`, R188: A multicast leg still in the residue after RESIDUE_AGE drops the rest of the packet. -/
  | residueAgeExpiry (k t leg : Nat)
  /-- `LAT_SAMPLE_TICK`, R202: Every INTERVAL row periods a queue's sampler records its depth and head sojourn. -/
  | latSampleTick (k q : Nat)
  /-- `SEAM_FAILED`, R23: A seam fails; flows are re-pinned and unreachable kernels lose their tunnels. -/
  | seamFailed (k i : Nat)
  /-- `SEAM_UP`, R23: A failed seam returns to Up, and reach may be regained. -/
  | seamUp (k i : Nat)
  /-- `SEAM_TEST_END`, R83: The duration of a seam PRBS test ends, the errors are counted and the buckets return. -/
  | seamTestEnd (k i errNear errFar : Nat)
  /-- `STORE_TEST_STEP`, R83: A store test completes the pattern over one MiB. -/
  | storeTestStep (k fails firstOffset : Nat)
  /-- `SCAN_STEP`, R370: The scan engine completes one MiB of a CHECK_SCAN. -/
  | scanStep (k : Nat)
  /-- `DIN_TRAINING`, R209: A DisplayPort source trains the receiver link. -/
  | dinTraining (k i : Nat) (trained : Option (Nat × Nat))
  /-- `DIN_SIGNAL_LOST`, R209: No trained link or no valid MSA for 100 ms puts the input in NoSignal and aborts the frame. -/
  | dinSignalLost (k i : Nat) (link : Bool)
  /-- `INPUT_FRAME_START`, R230: At an input frame start the encoder begins a coded frame, or holds it if the last has not left. -/
  | inputFrameStart (k i : Nat) (frame : InFrame)
  /-- `HPD_PULSE_END`, R212: The 100 ms HPD pulse for a changed EDID or limit ends, and EV_EDID_CHANGED is logged. -/
  | hpdPulseEnd (k i : Nat)
  /-- `SINK_EDID`, R211: A SINK_EDID block arrives; the proxy takes the far EDID once it is whole and valid. -/
  | sinkEdid (k i : Nat)
  /-- `REFRESH`, R232: A REFRESH arrives, and the named tile rows are sent whole in the next coded frame. -/
  | refresh (k i : Nat)
  /-- `SINK_STATUS`, R253: A SINK_STATUS packet arrives at the source end. -/
  | sinkStatus (k i : Nat)
  /-- `FRAME_START`, R229: A FRAME_START arrives at the sink, which begins a new BUILD and discards an unfinished one. -/
  | frameStart (k o : Nat)
  /-- `TILE_ROW`, R240: A TILE_ROW arrives and is parsed into records of BUILD, or counted and refreshed if bad. -/
  | tileRow (k o : Nat)
  /-- `FRAME_END`, R241: FRAME_END completes BUILD, which becomes READY or waits for its record scan. -/
  | frameEnd (k o : Nat)
  /-- `FRAME_ABORT`, R231: A FRAME_ABORT arrives, and the sink discards the frame it was building. -/
  | frameAbort (k o : Nat)
  /-- `RECORD_SCAN_DONE`, R373: On an ELN-8 the scan engine has written the check words of a frame's records, and the frame completes. -/
  | recordScanDone (k o : Nat)
  /-- `FRAME_BOUNDARY`, R250: An output frame boundary starts; READY flips or FRONT repeats, and staged timings apply. -/
  | frameBoundary (k o : Nat)
  /-- `UNDERRUN`, R264: An active line is due without decoded data, and the frame is aborted. -/
  | underrun (k o line : Nat)
  /-- `RECORD_CHECK_FAIL`, R374: A fetched record fails its check word; the row is blanked and refreshed. -/
  | recordCheckFail (k o group row : Nat)
  /-- `PANEL_HPD_RISE`, R255: The panel's HPD rises; the transmitter reads its EDID and trains. -/
  | panelHpdRise (k o : Nat) (edid : List Byte) (selfRefresh trainOnExit : Bool)
  /-- `PANEL_HPD_FALL`, R255: HPD is low for more than 2 ms; the output enters NoPanel. -/
  | panelHpdFall (k o : Nat)
  /-- `IRQ_HPD`, R255: An HPD pulse of 2 ms or less is answered as the standard requires. -/
  | irqHpd (k o : Nat)
  /-- `DOUT_TRAIN_FAIL`, R255: Output link training fails and the output enters LinkFail. -/
  | doutTrainFail (k o : Nat)
  /-- `DOUT_RETRY_TIMER`, R255: Every 1 s in LinkFail the transmitter retries training. -/
  | doutRetryTimer (k o : Nat)
  /-- `HOST_TLP`, R279: A TLP from the X link is forwarded into the tunnel with credit, or answered locally. -/
  | hostTlp (k : Nat) (bytes : List Byte)
  /-- `TLP_P`, R283: A posted TLP arrives from the tunnel and is sent onto the X link. -/
  | tlpP (k : Nat)
  /-- `TLP_NP`, R280: A non-posted TLP arrives from the tunnel and is sent on once room is reserved. -/
  | tlpNp (k : Nat) (toDevice : Bool)
  /-- `TLP_CPL`, R283: A completion arrives from the tunnel and is delivered, held as read-ahead or discarded. -/
  | tlpCpl (k : Nat)
  /-- `BRIDGE_CREDIT`, R279: A bridge CREDIT packet returns adapter credit from the far bridge. -/
  | bridgeCredit (k : Nat)
  /-- `LINK_STATE`, R291: A LINK_STATE packet updates the virtual downstream port's slot. -/
  | linkState (k : Nat)
  /-- `LINK_CTRL`, R292: A LINK_CTRL packet makes the dock end retrain, reset or drive PX_PERST_N. -/
  | linkCtrl (k : Nat)
  /-- `PCIE_WAKE`, R273: A WAKE packet is forwarded toward the host end. -/
  | pcieWake (k : Nat) (hostInL2 : Bool)
  /-- `CPL_TIMEOUT`, R284: A non-posted request has had no completion within PCIE_CPL_TIMEOUT and is completed Completer Abort. -/
  | cplTimeout (k reqId tag : Nat)
  /-- `READ_AHEAD_AGE`, R287: Held read-ahead data older than PCIW_AGE is discarded. -/
  | readAheadAge (k num : Nat)
  /-- `PX_PERST_LOW`, R292: PX_PERST_N falls at the host end, resetting the ELN functions. -/
  | pxPerstLow (k : Nat)
  /-- `HOST_HOT_RESET`, R292: A hot reset or DL_Down of the host link resets the function state. -/
  | hostHotReset (k : Nat) (down : Bool)
  /-- `DOCK_LINK_DOWN`, R289: The dock-end X link goes down and the path below the port is lost. -/
  | dockLinkDown (k : Nat) (present : Bool)
  /-- `SETUP_TOKEN`, R298: The host end ACKs a SETUP and forwards it. -/
  | setupToken (k : Nat) (t : UsbTok) (setup : List Byte)
  /-- `IN_TOKEN`, R299: The host end answers an IN from held data, or NAKs it and fetches. -/
  | inToken (k : Nat) (t : UsbTok) (ack : Bool)
  /-- `OUT_TOKEN`, R300: The host end accepts OUT data against credit, or NAKs it. -/
  | outToken (k : Nat) (t : UsbTok) (toggle : Bool) (data : List Byte)
  /-- `PING_TOKEN`, R300: The host end answers a PING by its OUT credit. -/
  | pingToken (k : Nat) (t : UsbTok)
  /-- `HUB_CLASS_REQUEST`, R297: A hub request is answered from the mirror, or forwarded as PORT_CMD. -/
  | hubClassRequest (k : Nat) (setup : List Byte)
  /-- `UPSTREAM_BUS_RESET`, R311: An upstream bus reset resets the hub and the management function. -/
  | upstreamBusReset (k : Nat) (full cmdPart ep0 : Bool)
  /-- `UPSTREAM_IDLE_SUSPEND`, R307: The upstream bus has been idle for 3 ms, so the host end suspends and sends BUS_STATE. -/
  | upstreamIdleSuspend (k : Nat)
  /-- `HOST_RESUME`, R308: A host resume on the upstream port is repeated downstream. -/
  | hostResume (k : Nat) (start : Bool)
  /-- `DEVICE_REMOTE_WAKE`, R309: A device signals remote wake, and the dock end sends WAKE. -/
  | deviceRemoteWake (k p : Nat)
  /-- `BABBLE`, R306: A device transmitting at EOF2 has its port disabled. -/
  | babble (k p : Nat)
  /-- `USB_OVER_CURRENT`, R500: A port held at its current limit for 8 ms reports over-current and is switched off. -/
  | usbOverCurrent (k p : Nat)
  /-- `DEVICE_TRANSACTION_DONE`, R301: A downstream device transaction completes, or fails three times and is reported as ERROR. -/
  | deviceTransactionDone (k addr ep kind result : Nat) (toggle recent : Bool) (data : List Byte)
  /-- `ENDPOINT_IDLE_EXPIRY`, R303: An endpoint context holding no data or credit for 1 s is freed. -/
  | endpointIdleExpiry (k addr ep : Nat) (dirIn : Bool)
  /-- `PORT_RESET_END`, R311: The 15 ms downstream reset ends and is reported to the host end. -/
  | portResetEnd (k p : Nat) (high low : Bool)
  /-- `SETUP_PACKET`, R298: A SETUP tunnel packet reaches the dock end and is issued to the device. -/
  | setupPacket (k : Nat)
  /-- `FETCH`, R299: A FETCH reaches the dock end, which polls the device endpoint. -/
  | fetch (k : Nat)
  /-- `IN_RESULT`, R299: An IN_RESULT delivers fetched data or a handshake to the host end. -/
  | inResult (k : Nat) (late : Bool)
  /-- `OUT_PACKET`, R300: An OUT packet reaches the dock end for delivery to the device. -/
  | outPacket (k : Nat)
  /-- `OUT_RESULT`, R300: An OUT_RESULT reports delivery and grants OUT credit. -/
  | outResult (k : Nat)
  /-- `CREDIT_REQ`, R300: A CREDIT_REQ asks the dock end for OUT credit on an endpoint. -/
  | creditReq (k : Nat)
  /-- `ISO_OUT`, R304: Isochronous OUT data reaches the dock end one micro-frame later. -/
  | isoOut (k : Nat)
  /-- `ISO_IN`, R304: Isochronous IN data reaches the host end for the next micro-frame. -/
  | isoIn (k : Nat)
  /-- `SOF_PACKET`, R304: A SOF packet starts the dock end's downstream micro-frame. -/
  | sofPacket (k : Nat)
  /-- `PORT_CMD`, R297: A PORT_CMD makes the dock end change a downstream port. -/
  | portCmd (k : Nat)
  /-- `PORT_STATUS`, R297: A PORT_STATUS updates the host end's mirror of a port. -/
  | portStatus (k : Nat)
  /-- `BUS_STATE`, R308: A BUS_STATE makes the dock end suspend, resume or reset its ports. -/
  | busState (k : Nat)
  /-- `USB_WAKE`, R310: A WAKE reaches the host end and is propagated, merged or ignored. -/
  | usbWake (k : Nat)
  /-- `ETH_FRAME_RX`, R321: A frame received on an Ethernet port enters its tunnel or is handled locally. -/
  | ethFrameRx (k e : Nat) (bytes : List Byte) (fcsOk full : Bool)
  /-- `ETH_FRAME_PACKET`, R322: A FRAME packet leaves the tunnel and is sent by the egress MAC, with ECN CE if marked. -/
  | ethFramePacket (k e : Nat)
  /-- `PTP_FRAME_PACKET`, R338: A PTP_FRAME leaves the tunnel with the residence time added to its correction. -/
  | ptpFramePacket (k e : Nat)
  /-- `PTP_MESSAGE_RX`, R340: A PTP message arrives for the ordinary clock or the peer delay measurement. -/
  | ptpMessageRx (k e : Nat) (msg : List Byte)
  /-- `PRP_LIFE_CHECK_TIMER`, R326: Every PRP_LIFE_CHECK the pair sends supervision frames on both LANs. -/
  | prpLifeCheckTimer (k : Nat)
  /-- `PRP_LAN_CHANGE`, R326: A LAN port of the pair goes down or comes back up. -/
  | prpLanChange (k lan : Nat)
  /-- `PRP_ENTRY_EXPIRY`, R325: A duplicate-table entry is forgotten after PRP_FORGET, or a proxy entry after 60 s. -/
  | prpEntryExpiry (k : Nat) (proxy : Bool) (mac seq : Nat)
  /-- `PPS_EDGE`, R333: A rising edge of PPS_IN marks the second. -/
  | ppsEdge
  /-- `IRIG_FRAME`, R332: An IRIG-B frame is decoded and checked against the expected second. -/
  | irigFrame (ok : Bool) (year : Option Nat) (day sod : Nat) (ext : Bool) (utc zone : Int) (leaps age : Nat)
  /-- `TIME_SOURCE_CHANGE`, R330: A source becomes invalid, or a higher one stays valid for TIME_SWITCH_HOLD, and the timebase moves to it. -/
  | timeSourceChange (i : Nat)
  /-- `HOLDOVER_EXPIRY`, R331: TIME_HOLDOVER_MAX ends and the timebase goes Free-run. -/
  | holdoverExpiry
  /-- `TIME_INFO_TIMER`, R336: Once per second T4 sends TIME_INFO on each Open port not in Husk. -/
  | timeInfoTimer
  /-- `TIME_INFO`, R336: A TIME_INFO arrives and resolves the time fields of its port. -/
  | timeInfo (k p : Nat)
  /-- `GOOSE_FRAME`, R356: A subscribed GOOSE frame is accepted, ignored or discarded, and its members are applied. -/
  | gooseFrame (k e : Nat) (msg : GooseMsg)
  /-- `GOOSE_TAL_EXPIRY`, R357: timeAllowedToLive expires and the subscription's signals go invalid. -/
  | gooseTalExpiry (k sub : Nat)
  /-- `GOOSE_GATHER_END`, R358: The 250 µs gathering window ends and the gathered state is sent. -/
  | gooseGatherEnd (k pub : Nat)
  /-- `GOOSE_RETRANSMIT`, R359: The ladder interval ends and the publication retransmits. -/
  | gooseRetransmit (k pub : Nat)
  /-- `GPIO_DEBOUNCE`, R360: A GPIO input level has held for DEBOUNCE and is accepted. -/
  | gpioDebounce (k g : Nat) (level : Bool) (stamp : Nat)
  /-- `HID_REPORT`, R361: A snooped HID report updates its field's signal. -/
  | hidReport (k p ep : Nat) (data : List Byte)
  /-- `PIP_FRAME`, R364: A pip frame arrives and is checked by CRC and ALIVE before its entries apply. -/
  | pipFrame (k p : Nat)
  /-- `PIP_HEARTBEAT`, R363: A channel not sent for PIP_HEARTBEAT is sent again. -/
  | pipHeartbeat (k p : Nat)
  /-- `PIP_TIMEOUT`, R366: No entry for a pip-sourced signal within SMAP_TIMEOUT; the signal goes invalid. -/
  | pipTimeout (k g : Nat)
  /-- `POWER_ON`, R459: VAON rises above the detector level and the power die is released. -/
  | powerOn
  /-- `VAON_FALL`, R459: VAON falls below the detector level and the power die is reset. -/
  | vaonFall
  /-- `FEED_VOLTAGE_CHANGE`, R378: A feed crosses its UV limits, becoming valid or invalid. -/
  | feedVoltageChange (f mv : Nat)
  /-- `FEED_REVERSE`, R379: PANEL rises 20 mV above a feed and the path turns off, or the feed is forward again. -/
  | feedReverse (f : Nat) (reverse : Bool)
  /-- `FEED_OVER_VOLTAGE`, R380: A feed above its over-voltage level enters Over and opens. -/
  | feedOverVoltage (f peak : Nat)
  /-- `FEED_OV_RECOVER`, R380: A feed below 61 V for 10 ms leaves Over. -/
  | feedOvRecover (f : Nat)
  /-- `FEED_FAULT`, R380: A path held at the current limit for 20 ms enters Fault. -/
  | feedFault (f ma : Nat)
  /-- `LOAD_EN_CHANGE`, R382: The debounced LOAD_EN level changes, turning LOAD off or clearing a trip. -/
  | loadEnChange (level : Bool)
  /-- `RAMP_COMPLETE`, R383: LOAD has stayed within 0.5 V of PANEL for 1 ms; the gate goes fully on and LOAD_PG rises. -/
  | rampComplete (us mj : Nat)
  /-- `RAMP_TIMER`, R383: The ramp has not completed within TIMER; LOAD trips with cause TIMER. -/
  | rampTimer (ma mv mj : Nat)
  /-- `SOA_TRIP`, R384: The FET energy reaches EMAX during the ramp; LOAD trips with cause SOA. -/
  | soaTrip (ma mv : Nat)
  /-- `METER_SAMPLE`, R393: Each 100 µs the meter samples, accumulates energy and updates the breaker counters. -/
  | meterSample (codes : List (Nat × Int))
  /-- `SHORT_TRIP`, R386: LOAD current exceeds SHORT; the gate is pulled off and LOAD trips. -/
  | shortTrip (ma mv : Nat)
  /-- `LOAD_DISABLE_DELAY_END`, R396: The DELAY of PWR_LOAD_DISABLE ends and the gate turns off. -/
  | loadDisableDelayEnd
  /-- `PANEL_WARN`, R389: PANEL falls below WARN; PFW_N falls and a warning starts. -/
  | panelWarn (mv : Nat)
  /-- `PANEL_DROP`, R390: PANEL falls below DROP; LOAD_PG falls, the gate turns off and LOAD is Dropped. -/
  | panelDrop (mv : Nat)
  /-- `PANEL_RISE`, R391: PANEL rises above WARN + HYST and HOLD starts. -/
  | panelRise (mv : Nat)
  /-- `PANEL_HOLD_EXPIRY`, R391: PANEL has stayed above WARN + HYST for HOLD, ending the dip or ramping LOAD again. -/
  | panelHoldExpiry
  /-- `FRS_SIGNAL`, R412: An armed sink detects the fast role swap signal and starts sourcing 5 V. -/
  | frsSignal (h : Nat)
  /-- `PANEL_BELOW_8V`, R409: PANEL falls below 8.0 V and the source converters turn off. -/
  | panelBelow8v (mv : Nat)
  /-- `DEAD_BATTERY_START`, R400: vSafe5V appears on a dead-battery CC clamp and the start path joins VBUS to PANEL. -/
  | deadBatteryStart (h : Nat)
  /-- `HOOK_ROM_START`, R401: A Hook starts and negotiates as sink under the ROM policy. -/
  | hookRomStart (h : Nat)
  /-- `PD_SOURCE_CAPABILITIES`, R406: Source_Capabilities arrive and the sink Hook chooses its Request. -/
  | pdSourceCapabilities (h : Nat) (pdos : List Word) (frs epr : Bool)
  /-- `PD_REQUEST`, R408: A Request reaches a source Hook and is accepted within the budget or rejected. -/
  | pdRequest (h index volts amps : Nat) (frs : Bool)
  /-- `PD_PS_RDY`, R406: PS_RDY completes a contract transition; the sink path joins PANEL. -/
  | pdPsRdy (h : Nat)
  /-- `PD_HARD_RESET`, R402: A Hard_Reset is received and handled as the standard states. -/
  | pdHardReset (h : Nat)
  /-- `PD_SWAP_REQUEST`, R402: A PR_Swap, DR_Swap or VCONN_Swap is answered as the policy allows. -/
  | pdSwapRequest (h kind : Nat)
  /-- `DISCOVER_MESSAGE`, R403: A Discover or Enter Mode VDM is answered or processed. -/
  | discoverMessage (h kind : Nat) (object : VdmObject) (reply : Nat)
  /-- `CABLE_DISCOVER_IDENTITY`, R404: The cable's SOP′ identity is read and the cable class is derived. -/
  | cableDiscoverIdentity (h : Nat) (vdos : List Word)
  /-- `PD_KEEPALIVE_TIMER`, R410: A sink's keep-alive interval ends and it sends its keep-alive message. -/
  | pdKeepaliveTimer (h : Nat)
  /-- `PD_KEEPALIVE_LOST`, R410: A source's keep-alive timeout expires, and it sends Hard_Reset. -/
  | pdKeepaliveLost (h : Nat)
  /-- `HOOK_WATCHDOG`, R468: A Hook's 50 ms watchdog expires and the Hook restarts from its image. -/
  | hookWatchdog (h : Nat)
  /-- `HOOK_RESTARTED`, R468: The restarted Hook runs again, sends Soft_Reset and negotiates again. -/
  | hookRestarted (h : Nat)
  /-- `SYS_PWROK_RISE`, R460: SYS_PWROK rises, and the kernels are released 1 ms later. -/
  | sysPwrokRise
  /-- `SYS_PWROK_FALL`, R460: SYS_PWROK falls and every kernel is held in reset. -/
  | sysPwrokFall
  /-- `RESET_N_LOW`, R463: RESET_N is low for 10 µs and every kernel is reset. -/
  | resetNLow
  /-- `KERNEL_RELEASE`, R461: A kernel is released from reset and runs the start sequence of Table 15.5. -/
  | kernelRelease (k attempts : Nat) (rootOk goodA goodB bootSlot : Bool)
  /-- `QUIET_DRAIN_END`, R454: The queues empty, or 10 ms pass, in Quiet entry, and the domains go off. -/
  | quietDrainEnd
  /-- `QUIET_WAKE`, R455: A wake in Quiet restores the saved state and returns the part to Run. -/
  | quietWake (k src : Nat)
  /-- `SEED_DELAY_EXPIRY`, R457: SEED_DELAY after the Seed job, LOAD turns off and the part enters Seed. -/
  | seedDelayExpiry
  /-- `SEED_WAKE`, R458: WAKE_N, a Type-C attach or a rising feed wakes the part from Seed. -/
  | seedWake (sources : Nat)
  /-- `DOMAIN_POWER_UP`, R451: A kernel domain finishes powering up and becomes usable. -/
  | domainPowerUp (k d : Nat)
  /-- `WATCHDOG_EXPIRY`, R466: A Needle's watchdog expires; the Needle halts and the expiry is reported. -/
  | watchdogExpiry (k : Nat)
  /-- `HEARTBEAT_TIMEOUT`, R467: The lead has seen no heartbeat from a Needle for HEARTBEAT_TIMEOUT. -/
  | heartbeatTimeout (k : Nat)
  /-- `INTERNAL_FAULT`, R467: A Needle reports an internal fault that it cannot correct. -/
  | internalFault (k : Nat)
  /-- `KERNEL_REJOIN`, R469: The reset kernel rejoins the part and its recovery job ends DONE. -/
  | kernelRejoin (k : Nat) (good : Bool)
  /-- `REJOIN_TIMEOUT`, R470: The kernel has not rejoined within 2 s; recovery restarts or the kernel is Disabled. -/
  | rejoinTimeout (k : Nat)
  /-- `LEAD_TAKEOVER`, R471: K1 takes the lead on missing K0 heartbeats or a K0 watchdog report. -/
  | leadTakeover
  /-- `LEAD_LOST`, R472: DDI sees no lead heartbeat for 100 ms and the power die resets the part. -/
  | leadLost
  /-- `LOCK_IDLE_BREAK`, R79: A host without a working transport for MBOX_LOCK_IDLE has its locks broken. -/
  | lockIdleBreak (k m : Nat)
  /-- `DRBG_HEALTH_FAIL`, R419: A continuous health test fails and the kernel's DRBG stops. -/
  | drbgHealthFail (k test : Nat)
  /-- `PHASE_CHANGE`, R437: PN reaches 2^32 or PHASE_S passes, and the sender moves to the next key phase. -/
  | phaseChange (k p : Nat)
  /-- `OLD_PHASE_DISCARD`, R437: 16 row periods after the first packet of a new phase, the old phase keys are discarded. -/
  | oldPhaseDiscard (k p : Nat)
  /-- `FW_SESSION_IDLE`, R440: A firmware write session with no packet for 60 s closes. -/
  | fwSessionIdle
  /-- `JOB_EXPIRY`, R63: 60 s after its end a job stops being queryable. -/
  | jobExpiry (job : Nat)
  /-- `REPLY_KEEP_EXPIRY`, R64: A kept reply is dropped 5 s after delivery. -/
  | replyKeepExpiry (via : Via) (tag : Nat)
  /-- `DOWNSTREAM_CONNECT_CHANGE`, R297: A device connects to or disconnects from a dock-end downstream port, and the dock end sends PORT_STATUS. -/
  | downstreamConnectChange (k p : Nat) (connected low : Bool)
  /-- `USB_UPSTREAM_DISCONNECT`, R515: The hub's upstream port is disconnected, taking the USB management transport down and clearing its subscriptions. -/
  | usbUpstreamDisconnect (k : Nat)
  /-- `MANAGEMENT_EP0_REQUEST`, R314: A standard request such as SET_CONFIGURATION reaches EP0 of the management function on port 5. -/
  | managementEp0Request (k : Nat) (setup : List Byte)
  /-- `PX_PERST_RISE`, R292: PX_PERST_N rises at the host end, ending the fundamental reset and sending PERST_RELEASE to the dock end. -/
  | pxPerstRise (k width speed : Nat)
  /-- `PX_WAKE_N_FALL`, R273: PX_WAKE_N falls at the dock end and a wake message is raised toward the host end. -/
  | pxWakeNFall (k : Nat)
  /-- `DOCK_LINK_UP`, R290: The dock-end X link finishes training and the dock end sends LINK_STATE with LINK_UP 1. -/
  | dockLinkUp (k width speed : Nat)
  /-- `PERST_RELEASE_TIMER`, R275: 100 ms after the tunnel goes Open, the dock end releases PX_PERST_N and trains the link. -/
  | perstReleaseTimer (k : Nat)
  /-- `DOUT_TRAIN_PASS`, R255: Output link training passes and the output leaves Training for Blank or Showing. -/
  | doutTrainPass (k o : Nat)
  /-- `ALAVIN_MODE_EXIT`, R103: The Type-C partner leaves the Alavin alternate mode, which ends the link as a detach does. -/
  | alavinModeExit (h : Nat)
  /-- `ETH_LINK_CHANGE`, R319: An Ethernet port's link goes up or down. -/
  | ethLinkChange (k e : Nat) (up : Bool) (rate : Nat)
  /-- `SFP_MODULE_INSERT`, R319: An SFP module is inserted, its identity read, and a mismatch holds the port down. -/
  | sfpModuleInsert (k e : Nat) (present fits : Bool) (code : Nat)
  /-- `REFCLK_CHANGE`, R331: A 10 or 25 MHz REFCLK signal appears or disappears, changing the source's validity and holdover behaviour. -/
  | refclkChange (present : Bool)
  /-- `PTP_INTERVAL_TIMER`, R337: A Sync, Announce or Pdelay_Req interval, or the Announce receipt timeout, expires. -/
  | ptpIntervalTimer (k e kind : Nat)
  /-- `PANEL_ABOVE_DROP`, R382: PANEL rises above DROP while LOAD waits in Off, and LOAD starts to ramp. -/
  | panelAboveDrop (mv : Nat)
  /-- `PD_ACCEPT_OR_REJECT`, R406: Accept, Reject or Wait arrives in answer to the sink's Request. -/
  | pdAcceptOrReject (h : Nat) (accepted : Bool)
  /-- `VBUS_TRANSITION_COMPLETE`, R402: As source, VBUS reaches the contracted level and the Hook sends PS_RDY. -/
  | vbusTransitionComplete (h : Nat)
  /-- `USB_POWER_CYCLE_END`, R317: The 500 ms off time of a power-cycle ends and the port follows the host again. -/
  | usbPowerCycleEnd (k p : Nat)
  /-- `USB_FORM_RECONNECT`, R295: 100 ms after a form change, the hub upstream port connects in the new form. -/
  | usbFormReconnect (k : Nat)
  /-- `ROLE_SWAP_DONE`, R159: The PCIe and USB functions reappear in their new form, their tunnels return to Open and the job ends DONE. -/
  | roleSwapDone (k p : Nat)
  /-- `FW_COMMIT_STEP`, R440: A firmware commit step (check, mark, or copy to one kernel) completes. -/
  | fwCommitStep (good : Bool)
  /-- `POLICY_IMAGE_STEP`, R415: A step of HOOK_POLICY_UPDATE (write, verify, mark valid) completes. -/
  | policyImageStep
  /-- `BOARD_TABLE_STEP`, R443: A step of BOARD_TABLE_LOAD (check, stage, pend) completes. -/
  | boardTableStep
  /-- `LIFECYCLE_FUSE_STEP`, R431: Blowing the antifuses of the next life-cycle state completes and its rules are applied. -/
  | lifecycleFuseStep
  /-- `AON_LOCK_TIME_SAVE`, R492: Once per second while Locked, the timebase is saved to AON_LOCK_TIME. -/
  | aonLockTimeSave
  deriving DecidableEq, Repr

end Sys2Proof
end

