-- ==== Sys2Proof/Decode.lean ====
section
/-! DEFINITION. Commands read from words. No row of the table of commands has bits: commands reach the block as packets, pins and messages,
so no word spells one. The reading of a command packet's bytes is `parseRequest` and `command?` in Machine/Packets.lean and
Machine/Transports.lean. -/

namespace Sys2Proof

/-- The command that a word of `nbits` bits spells: none (no row of the table gives bits). -/
def decodeTableWord (_nbits _w : Nat) : Option Instr := none

end Sys2Proof
end

