-- ==== Sys2Proof/Config.lean ====
section
/-! DEFINITION. What one part's manufacture fixes and the spec leaves open, and the free values of the model.
None has a body: a statement about them holds whatever they are. -/

namespace Sys2Proof

/-- The n-th open value: a sensor reading, a random number, a cryptographic result, or a result the spec says is not determined.
A step that needs one reads it at the state's counter `free` and advances the counter (log entry 5). -/
opaque Config.freeWord : Nat → Word

/-- The 64-bit die serial number of unit u, written at Ghenaram test (R485, R491). -/
opaque Config.dieSerial : Nat → BitVec 64

/-- The version of the Hook ROM policy (R401, R491). -/
opaque Config.romPolicyVersion : Word

/-- The value of the ramp test pattern at column x of a line of w pixels with greatest value m (Table 7.10): the spec gives its ends only. -/
opaque Config.rampValue : Nat → Nat → Nat → Nat

/-- Where the PCI Express and the Advanced Error Reporting capabilities of function f of a host-end bridge stand in its configuration space,
as word numbers (R274, R290): the spec gives the functions these capabilities and not their places. -/
opaque Config.pcieCap : Nat → Nat
opaque Config.aerCap : Nat → Nat

/-- The certificate chain of the factory key that the part sends for identity slot 0 where no board table gives one (R433), at most 3,072
bytes. -/
opaque Config.factoryChain : List Byte

/-- The root secret, 32 bytes, as the part generates it at its first start (R418): no rule shows it. -/
opaque Config.rootSecret : List Byte

/-- The public keys of factory slots 1 and 2 (Table 14.1), 97 bytes each. -/
opaque Config.factoryPublic : Nat → List Byte

/-- What the first 256 bytes of a firmware slot's MRAM hold as the part is delivered. -/
opaque Config.factoryFw : Nat → List Byte

/-- The test access port (R502): the code of an instruction other than BYPASS, the manufacturer's identity in IDCODE, and the length of the boundary-scan
register of die d and of what a debug instruction selects there. -/
opaque Config.tapCode : Nat → BitVec 8
opaque Config.tapMaker : BitVec 11
opaque Config.boundaryLength : Nat → Nat
opaque Config.debugLength : Nat → Nat

/-- Whether the events of a code carry a hardware stamp (Table 10.8, HW): the spec does not list which do. -/
opaque Config.hwStamped : Nat → Bool

end Sys2Proof
end

