-- ==== Sys2Proof/Machine/Events.lean ====
section
/-! DEFINITION. The events the part logs (R348): code, severity and SOURCE kind of each (Tables 10.9, 10.18, 11.5, 12.8, 13.11, 14.12, 15.11
and the table under R343). -/

namespace Sys2Proof.Machine

/-- One kind of event: its code, its severity and its SOURCE kind. -/
structure EvDef where
  code : Nat
  severity : Nat
  kind : Nat
  deriving DecidableEq, Repr

/-- The class of an event is bits [15:11] of its code (Table 10.8). -/
def EvDef.cls (e : EvDef) : Nat := e.code / 0x800

def Ev.prpLanDown : EvDef := ⟨0x5002, 3, 7⟩
def Ev.jobDone : EvDef := ⟨0x0801, 1, 13⟩
def Ev.eventsLost : EvDef := ⟨0x0802, 3, 13⟩
def Ev.lateReply : EvDef := ⟨0x0803, 2, 1⟩
def Ev.cmdPostIgnored : EvDef := ⟨0x0804, 3, 13⟩
def Ev.linkLost : EvDef := ⟨0x1001, 4, 1⟩
def Ev.noAlavinMode : EvDef := ⟨0x1002, 3, 1⟩
def Ev.castOnFail : EvDef := ⟨0x1003, 3, 1⟩
def Ev.rateFallback : EvDef := ⟨0x1004, 3, 1⟩
def Ev.roleConflict : EvDef := ⟨0x1005, 3, 1⟩
def Ev.portDown : EvDef := ⟨0x1006, 2, 1⟩
def Ev.plyDegraded : EvDef := ⟨0x1007, 4, 1⟩
def Ev.roleSwapped : EvDef := ⟨0x1008, 2, 1⟩
def Ev.tunState : EvDef := ⟨0x1801, 1, 2⟩
def Ev.partnerViolation : EvDef := ⟨0x1802, 3, 1⟩
def Ev.tunQuarantine : EvDef := ⟨0x1803, 4, 2⟩
def Ev.portViolationBindoff : EvDef := ⟨0x1804, 4, 1⟩
def Ev.resumeExpired : EvDef := ⟨0x1805, 3, 1⟩
def Ev.violationNotice : EvDef := ⟨0x1806, 3, 1⟩
def Ev.regaugeStep : EvDef := ⟨0x2001, 1, 1⟩
def Ev.seamFailed : EvDef := ⟨0x2801, 4, 3⟩
def Ev.seamUp : EvDef := ⟨0x2802, 2, 3⟩
def Ev.kernelReachable : EvDef := ⟨0x2804, 2, 0⟩
def Ev.kernelUnreachable : EvDef := ⟨0x2803, 5, 0⟩
def Ev.dinLost : EvDef := ⟨0x3001, 3, 4⟩
def Ev.dinUnsupported : EvDef := ⟨0x3002, 3, 4⟩
def Ev.edidChanged : EvDef := ⟨0x3003, 2, 4⟩
def Ev.exactSuspended : EvDef := ⟨0x3004, 2, 4⟩
def Ev.fstoreFull : EvDef := ⟨0x3801, 4, 5⟩
def Ev.doutTrainFail : EvDef := ⟨0x3802, 3, 5⟩
def Ev.doutIndependent : EvDef := ⟨0x3803, 2, 5⟩
def Ev.doutUnderrun : EvDef := ⟨0x3804, 4, 5⟩
def Ev.pcieCplTimeout : EvDef := ⟨0x4001, 3, 6⟩
def Ev.pcieRaDiscard : EvDef := ⟨0x4002, 2, 6⟩
def Ev.usbDiscard : EvDef := ⟨0x4801, 2, 8⟩
def Ev.usbEpOverflow : EvDef := ⟨0x4802, 3, 8⟩
def Ev.usbWakeMerged : EvDef := ⟨0x4803, 2, 8⟩
def Ev.mboxFull : EvDef := ⟨0x8801, 1, 14⟩
def Ev.doorbell : EvDef := ⟨0x8802, 1, 14⟩
def Ev.lockBroken : EvDef := ⟨0x8803, 3, 14⟩
def Ev.diagSeamFail : EvDef := ⟨0x9001, 4, 3⟩
def Ev.diagStoreFail : EvDef := ⟨0x9002, 4, 0⟩
def Ev.ethModuleMismatch : EvDef := ⟨0x5001, 3, 7⟩
def Ev.prpLanUp : EvDef := ⟨0x5003, 2, 7⟩
def Ev.timeStep : EvDef := ⟨0x5801, 3, 11⟩
def Ev.timeSource : EvDef := ⟨0x5802, 2, 11⟩
def Ev.gooseTimeout : EvDef := ⟨0x6001, 4, 7⟩
def Ev.gooseConfrev : EvDef := ⟨0x6002, 4, 7⟩
def Ev.pipGap : EvDef := ⟨0x6003, 3, 1⟩
def Ev.pipTimeout : EvDef := ⟨0x6004, 4, 9⟩
def Ev.sealFail : EvDef := ⟨0x6005, 4, 2⟩
def Ev.fstoreCheckFail : EvDef := ⟨0x6006, 4, 5⟩
def Ev.smapSat : EvDef := ⟨0x6007, 2, 9⟩
def Ev.loadTrip : EvDef := ⟨0x6801, 5, 15⟩
def Ev.loadOn : EvDef := ⟨0x6802, 1, 15⟩
def Ev.panelWarn : EvDef := ⟨0x6803, 4, 15⟩
def Ev.panelDip : EvDef := ⟨0x6804, 3, 15⟩
def Ev.panelDrop : EvDef := ⟨0x6805, 5, 15⟩
def Ev.feedChange : EvDef := ⟨0x6806, 2, 15⟩
def Ev.feedOv : EvDef := ⟨0x6807, 4, 15⟩
def Ev.feedFault : EvDef := ⟨0x6808, 4, 15⟩
def Ev.pdContract : EvDef := ⟨0x7001, 1, 15⟩
def Ev.pdFrs : EvDef := ⟨0x7002, 4, 15⟩
def Ev.pdPullInTransition : EvDef := ⟨0x7003, 3, 15⟩
def Ev.pdKeepaliveLost : EvDef := ⟨0x7004, 3, 15⟩
def Ev.pdHardReset : EvDef := ⟨0x7005, 3, 15⟩
def Ev.pdAccessory : EvDef := ⟨0x7006, 2, 15⟩
def Ev.pdBudgetReject : EvDef := ⟨0x7007, 2, 15⟩
def Ev.pdPolicy : EvDef := ⟨0x7008, 2, 15⟩
def Ev.rootGenerated : EvDef := ⟨0x7801, 2, 12⟩
def Ev.entropyFail : EvDef := ⟨0x7802, 5, 12⟩
def Ev.linkAuthFail : EvDef := ⟨0x7803, 3, 1⟩
def Ev.keyChanged : EvDef := ⟨0x7804, 2, 12⟩
def Ev.lifecycle : EvDef := ⟨0x7805, 4, 12⟩
def Ev.keyDenied : EvDef := ⟨0x7806, 3, 13⟩
def Ev.phase : EvDef := ⟨0x7807, 1, 1⟩
def Ev.fwCommitted : EvDef := ⟨0x8001, 2, 0⟩
def Ev.fwVerifyFail : EvDef := ⟨0x8002, 4, 0⟩
def Ev.fwBoot : EvDef := ⟨0x8003, 2, 0⟩
def Ev.fwRevert : EvDef := ⟨0x8004, 4, 0⟩
def Ev.svnRaised : EvDef := ⟨0x8005, 4, 0⟩
def Ev.fwCopyRepaired : EvDef := ⟨0x8006, 3, 0⟩
def Ev.boardTableFail : EvDef := ⟨0x8007, 4, 0⟩
def Ev.start : EvDef := ⟨0x9801, 2, 0⟩
def Ev.state : EvDef := ⟨0x9802, 2, 0⟩
def Ev.seedAbort : EvDef := ⟨0x9803, 3, 0⟩
def Ev.wdt : EvDef := ⟨0x9804, 4, 0⟩
def Ev.kernelFault : EvDef := ⟨0x9805, 5, 0⟩
def Ev.kernelRecovered : EvDef := ⟨0x9806, 3, 0⟩
def Ev.kernelDisabled : EvDef := ⟨0x9807, 5, 0⟩
def Ev.leadChange : EvDef := ⟨0x9808, 4, 0⟩
def Ev.hookRestart : EvDef := ⟨0x9809, 3, 15⟩

end Sys2Proof.Machine
end

