-- ==== Sys2Proof/Machine/Bits.lean ====
section
/-! DEFINITION. Bit fields of words, byte order, and the sparse maps in one canonical form that the state is made of. -/

namespace Sys2Proof.Machine

/-- The mask of the field of `n` bits at bit `lo` (R7). -/
def fldMask (lo n : Nat) : Word := ((BitVec.allOnes n).setWidth 32) <<< lo

/-- The unsigned value of the field of `n` bits at bit `lo`. -/
def fld (w : Word) (lo n : Nat) : Nat := (w.extractLsb' lo n).toNat

/-- The field of `n` bits at bit `lo` replaced by `v` modulo 2^n. -/
def setFld (w : Word) (lo n v : Nat) : Word :=
  (w &&& ~~~ fldMask lo n) ||| ((BitVec.ofNat 32 v <<< lo) &&& fldMask lo n)

/-- Bit `i` of a word. -/
def bitAt (w : Word) (i : Nat) : Bool := w.getLsbD i

def setBit (w : Word) (i : Nat) (b : Bool) : Word := setFld w i 1 b.toNat

/-- The signed value of the field of `n` bits at bit `lo`. -/
def sfld (w : Word) (lo n : Nat) : Int := (w.extractLsb' lo n).toInt

/-- A word made of fields (low bit, width, value) over zero. -/
def packWord (fields : List (Nat × Nat × Nat)) : Word :=
  fields.foldl (fun w f => setFld w f.1 f.2.1 f.2.2) 0

/-- Bits of a number below `n`, as the mask of the indexes that hold. -/
def maskOf (n : Nat) (p : Nat → Bool) : Nat :=
  (List.range n).foldl (fun acc i => if p i then acc + 2 ^ i else acc) 0

/-- The four little-endian bytes of a word (R8). -/
def wordBytes (w : Word) : List Byte :=
  [w.extractLsb' 0 8, w.extractLsb' 8 8, w.extractLsb' 16 8, w.extractLsb' 24 8]

/-- The words of a little-endian byte string; trailing bytes short of a word are padded with zeros. -/
def bytesWords : List Byte → List Word
  | [] => []
  | [a] => [a.setWidth 32]
  | [a, b] => [(b ++ a).setWidth 32]
  | [a, b, c] => [(c ++ b ++ a).setWidth 32]
  | a :: b :: c :: d :: rest => (d ++ c ++ b ++ a) :: bytesWords rest

/-- The bytes of a list of words. -/
def wordsBytes (ws : List Word) : List Byte := ws.flatMap wordBytes

/-- One more, stopping at the greatest 32-bit value: the counters of the part saturate. -/
def satInc (w : Word) (n : Nat) : Word := word (min (w.toNat + n) 0xFFFFFFFF)

/-- The two's complement 32-bit word of an integer, clamped to the signed range. -/
def satSigned (i : Int) : Word := BitVec.ofInt 32 (max (-0x80000000) (min i 0x7FFFFFFF))

/-- Unsigned division rounded up. -/
def ceilDiv (a b : Nat) : Nat := (a + b - 1) / b

/-- The value a sparse map holds at `k`; a key not listed reads as `d k`. -/
def smapGet {α : Type} (d : Nat → α) : List (Nat × α) → Nat → α
  | [], k => d k
  | (k', v) :: t, k => if k' = k then v else smapGet d t k

/-- A sparse map with key `k` removed. -/
def smapErase {α : Type} : List (Nat × α) → Nat → List (Nat × α)
  | [], _ => []
  | (k', v) :: t, k => if k' < k then (k', v) :: smapErase t k else if k' = k then t else (k', v) :: t

/-- A sparse map with `v` listed at `k`, keys kept rising. -/
def smapInsert {α : Type} : List (Nat × α) → Nat → α → List (Nat × α)
  | [], k, v => [(k, v)]
  | (k', v') :: t, k, v =>
    if k' < k then (k', v') :: smapInsert t k v else if k' = k then (k, v) :: t else (k, v) :: (k', v') :: t

/-- A sparse map with `v` at `k`: writing what an unlisted key reads as removes the entry. -/
def smapPut {α : Type} [DecidableEq α] (d : Nat → α) : List (Nat × α) → Nat → α → List (Nat × α)
  | [], k, v => if v = d k then [] else [(k, v)]
  | (k', v') :: t, k, v =>
    if k' < k then (k', v') :: smapPut d t k v
    else if k' = k then (if v = d k then t else (k, v) :: t)
    else if v = d k then (k', v') :: t else (k, v) :: (k', v') :: t

/-- The canonical form: keys strictly rising, and no entry equal to what an unlisted key reads as. -/
def smapWf {α : Type} [DecidableEq α] (d : Nat → α) (m : List (Nat × α)) : Bool :=
  decide (m.Pairwise fun a b => a.1 < b.1) && m.all fun e => decide (e.2 ≠ d e.1)

end Sys2Proof.Machine
end

