-- ==== Sys2Proof/Machine/RegMap.lean ====
section
/-! DEFINITION. The register map of the part (R475, R483, R484): the address of every register the spec names, and one row per
register in the table of its block: its offset, its array strides and counts, its access code (R10) and the fields
software may write with the range each accepts (R479). -/

namespace Sys2Proof.Machine

/-- The address of offset `off` of block `blk` in unit `u` (R475). -/
def regAddr (u blk off : Nat) : Nat := u * 0x10000000 + blk * 0x100000 + off

/-- UNIT, BLOCK and OFFSET of an address (Table 16.1). -/
def addrUnit (a : Nat) : Nat := a / 0x10000000
def addrBlock (a : Nat) : Nat := a / 0x100000 % 0x100
def addrOff (a : Nat) : Nat := a % 0x100000

/-- How a register word answers a read and a write (Table 0.5); `rw` covers the registers with at least one writable field. -/
inductive Acc where
  | rw | ro | rc
  deriving DecidableEq, Repr

/-- A writable field: low bit, width, least and greatest accepted value (R479). -/
structure RwField where
  lo : Nat
  width : Nat
  min : Nat
  max : Nat
  deriving DecidableEq, Repr

/-- One register, or one array of registers, of a block: strides and counts outermost first. -/
structure RegDesc where
  name : String
  base : Nat
  dims : List (Nat × Nat)
  acc : Acc
  fields : List RwField
  deriving DecidableEq, Repr

/-- A register of the block with nothing to write. -/
def RegDesc.plain (name : String) (base : Nat) (dims : List (Nat × Nat)) (acc : Acc) : RegDesc :=
  { name := name, base := base, dims := dims, acc := acc, fields := [] }

/-- True when `d` is the distance of some element of the array from its base. -/
def dimsHit : List (Nat × Nat) → Nat → Bool
  | [], d => d == 0
  | (stride, count) :: rest, d => decide (d / stride < count) && dimsHit rest (d % stride)

def RegDesc.hits (r : RegDesc) (off : Nat) : Bool := decide (r.base ≤ off) && dimsHit r.dims (off - r.base)

def Reg.MBOX_DATA (k m w : Nat) : Nat := regAddr k 0x2 (0x0 + m * 0x100 + w * 0x4)
def Reg.MBOX_STAT (k m : Nat) : Nat := regAddr k 0x2 (0x1000 + m * 0x10)
def Reg.MBOX_RECV (k m : Nat) : Nat := regAddr k 0x2 (0x1004 + m * 0x10)
def Reg.MBOX_LOCK (k m : Nat) : Nat := regAddr k 0x2 (0x1008 + m * 0x10)
def Reg.MBOX_CNT (k m : Nat) : Nat := regAddr k 0x2 (0x100c + m * 0x10)
def Reg.DB_RING (k : Nat) : Nat := regAddr k 0x2 0x2000
def Reg.DB_PEND (k : Nat) : Nat := regAddr k 0x2 0x2004
def Reg.DB_RECV (k dx : Nat) : Nat := regAddr k 0x2 (0x2080 + dx * 0x4)
def Reg.MBOX_LOCK_IDLE (k : Nat) : Nat := regAddr k 0x2 0x2100
def Reg.LNK_STATE (k p : Nat) : Nat := regAddr k (0x8 + p) 0x0
def Reg.LNK_CTRL (k p : Nat) : Nat := regAddr k (0x8 + p) 0x4
def Reg.LNK_SHELL_IDLE (k p : Nat) : Nat := regAddr k (0x8 + p) 0x8
def Reg.LNK_HUSK_IDLE (k p : Nat) : Nat := regAddr k (0x8 + p) 0xc
def Reg.LNK_EQ_SEL (k p : Nat) : Nat := regAddr k (0x8 + p) 0x10
def Reg.LNK_PRBS_WINDOW (k p : Nat) : Nat := regAddr k (0x8 + p) 0x14
def Reg.LNK_RELOCK_ROWS (k p : Nat) : Nat := regAddr k (0x8 + p) 0x18
def Reg.LNK_BACKOFF (k p : Nat) : Nat := regAddr k (0x8 + p) 0x1c
def Reg.LNK_PARTNER_ID_LO (k p : Nat) : Nat := regAddr k (0x8 + p) 0x20
def Reg.LNK_PARTNER_ID_HI (k p : Nat) : Nat := regAddr k (0x8 + p) 0x24
def Reg.LNK_CAST_STEP (k p : Nat) : Nat := regAddr k (0x8 + p) 0x28
def Reg.LANE_ALIGN (k p l : Nat) : Nat := regAddr k (0x8 + p) (0x40 + l * 0x20)
def Reg.LANE_HDR_ERR (k p l : Nat) : Nat := regAddr k (0x8 + p) (0x44 + l * 0x20)
def Reg.LANE_LOCK_LOSS (k p l : Nat) : Nat := regAddr k (0x8 + p) (0x48 + l * 0x20)
def Reg.LANE_STUFFED (k p l : Nat) : Nat := regAddr k (0x8 + p) (0x4c + l * 0x20)
def Reg.LANE_PRBS_ERR (k p l : Nat) : Nat := regAddr k (0x8 + p) (0x50 + l * 0x20)
def Reg.LNK_RUN_DEFER (k p : Nat) : Nat := regAddr k (0x8 + p) 0x80
def Reg.LNK_CTRL_BAD (k p : Nat) : Nat := regAddr k (0x8 + p) 0x84
def Reg.LNK_STITCH_LOST (k p : Nat) : Nat := regAddr k (0x8 + p) 0x88
def Reg.LNK_SHELL_ENTRIES (k p : Nat) : Nat := regAddr k (0x8 + p) 0x8c
def Reg.LNK_HUSK_ENTRIES (k p : Nat) : Nat := regAddr k (0x8 + p) 0x90
def Reg.EQ_ROW_W0 (k p r : Nat) : Nat := regAddr k (0x8 + p) (0x100 + r * 0x8)
def Reg.EQ_ROW_W1 (k p r : Nat) : Nat := regAddr k (0x8 + p) (0x104 + r * 0x8)
def Reg.EQ_CLASS_MAP_LO (k p : Nat) : Nat := regAddr k (0x8 + p) 0x180
def Reg.EQ_CLASS_MAP_HI (k p : Nat) : Nat := regAddr k (0x8 + p) 0x184
def Reg.TUN_CTRL (k t : Nat) : Nat := regAddr k 0x10 (0x0 + t * 0x40)
def Reg.TUN_LABELS (k t : Nat) : Nat := regAddr k 0x10 (0x4 + t * 0x40)
def Reg.TUN_PATH (k t : Nat) : Nat := regAddr k 0x10 (0x8 + t * 0x40)
def Reg.TUN_GAUGE (k t : Nat) : Nat := regAddr k 0x10 (0xc + t * 0x40)
def Reg.TUN_SCHED (k t : Nat) : Nat := regAddr k 0x10 (0x10 + t * 0x40)
def Reg.TUN_OPTS (k t : Nat) : Nat := regAddr k 0x10 (0x14 + t * 0x40)
def Reg.TUN_TYPEREF (k t : Nat) : Nat := regAddr k 0x10 (0x18 + t * 0x40)
def Reg.TUN_FAR_ID (k t : Nat) : Nat := regAddr k 0x10 (0x1c + t * 0x40)
def Reg.TUN_SEQ (k t : Nat) : Nat := regAddr k 0x10 (0x20 + t * 0x40)
def Reg.TUN_CELLS_TX (k t : Nat) : Nat := regAddr k 0x10 (0x24 + t * 0x40)
def Reg.TUN_CELLS_RX (k t : Nat) : Nat := regAddr k 0x10 (0x28 + t * 0x40)
def Reg.TUN_DISCARD (k t : Nat) : Nat := regAddr k 0x10 (0x2c + t * 0x40)
def Reg.TUN_GAPS (k t : Nat) : Nat := regAddr k 0x10 (0x30 + t * 0x40)
def Reg.TUN_VIOL (k t : Nat) : Nat := regAddr k 0x10 (0x34 + t * 0x40)
def Reg.TUN_MISS (k t : Nat) : Nat := regAddr k 0x10 (0x38 + t * 0x40)
def Reg.TUN_HELD_LEFT (k t : Nat) : Nat := regAddr k 0x10 (0x3c + t * 0x40)
def Reg.TUN_ACCEPT (k : Nat) : Nat := regAddr k 0x10 0x8000
def Reg.TUN_VIOL_LIMIT (k : Nat) : Nat := regAddr k 0x10 0x8004
def Reg.TUN_RESUME (k p : Nat) : Nat := regAddr k 0x10 (0x8010 + p * 0x4)
def Reg.TUN_VIOL_CNT (k p : Nat) : Nat := regAddr k 0x10 (0x8020 + p * 0x4)
def Reg.TUN_OPEN_CNT (k : Nat) : Nat := regAddr k 0x10 0x8030
def Reg.RAW_ROUTE_A (k r : Nat) : Nat := regAddr k 0x10 (0xa000 + r * 0x8)
def Reg.RAW_ROUTE_B (k r : Nat) : Nat := regAddr k 0x10 (0xa004 + r * 0x8)
def Reg.ROW_ACTIVE (k p w : Nat) : Nat := regAddr k 0x11 (0x0 + p * 0x2000 + w * 0x4)
def Reg.ROW_SHADOW (k p w : Nat) : Nat := regAddr k 0x11 (0x1000 + p * 0x2000 + w * 0x4)
def Reg.ROW_EPOCH (k p : Nat) : Nat := regAddr k 0x11 (0x8000 + p * 0x20)
def Reg.ROW_CEIL (k p : Nat) : Nat := regAddr k 0x11 (0x8004 + p * 0x20)
def Reg.ROW_RESERVED (k p : Nat) : Nat := regAddr k 0x11 (0x8008 + p * 0x20)
def Reg.ROW_SWAP_STAT (k p : Nat) : Nat := regAddr k 0x11 (0x800c + p * 0x20)
def Reg.ROW_MISS (k p : Nat) : Nat := regAddr k 0x11 (0x8010 + p * 0x20)
def Reg.ROW_SWAPS (k p : Nat) : Nat := regAddr k 0x11 (0x8014 + p * 0x20)
def Reg.SVC_NODE (k p s : Nat) : Nat := regAddr k 0x12 (0x0 + p * 0x100 + s * 0x8)
def Reg.SVC_SENT (k p s : Nat) : Nat := regAddr k 0x12 (0x4 + p * 0x100 + s * 0x8)
def Reg.SUB_NODE (k i : Nat) : Nat := regAddr k 0x12 (0x1000 + i * 0x4)
def Reg.Q_WEIGHT (k q : Nat) : Nat := regAddr k 0x12 (0x2000 + q * 0x4)
def Reg.SVC_CLASS_MAP (k : Nat) : Nat := regAddr k 0x12 0x3000
def Reg.CORE_CYCLE (k : Nat) : Nat := regAddr k 0x12 0x3100
def Reg.CORE_TRANSIT_HOLD (k : Nat) : Nat := regAddr k 0x12 0x3104
def Reg.SHP_RATE (k n : Nat) : Nat := regAddr k 0x13 (0x0 + n * 0x10)
def Reg.SHP_BURST (k n : Nat) : Nat := regAddr k 0x13 (0x4 + n * 0x10)
def Reg.SHP_OVERHEAD (k n : Nat) : Nat := regAddr k 0x13 (0x8 + n * 0x10)
def Reg.SHP_TOKENS (k n : Nat) : Nat := regAddr k 0x13 (0xc + n * 0x10)
def Reg.SKEIN_BASE (k i : Nat) : Nat := regAddr k 0x14 (0x0 + i * 0x10)
def Reg.SKEIN_SIZE (k i : Nat) : Nat := regAddr k 0x14 (0x4 + i * 0x10)
def Reg.SKEIN_KIND (k i : Nat) : Nat := regAddr k 0x14 (0x8 + i * 0x10)
def Reg.SKEIN_USE (k i : Nat) : Nat := regAddr k 0x14 (0xc + i * 0x10)
def Reg.BUF_CELLS_TOTAL (k : Nat) : Nat := regAddr k 0x14 0x100
def Reg.BUF_CELLS_USED (k : Nat) : Nat := regAddr k 0x14 0x104
def Reg.BUF_CELLS_RESERVED (k : Nat) : Nat := regAddr k 0x14 0x108
def Reg.BUF_CELLS_FREE (k : Nat) : Nat := regAddr k 0x14 0x10c
def Reg.BUF_USED_MAX (k : Nat) : Nat := regAddr k 0x14 0x110
def Reg.BUF_REPLAY (k : Nat) : Nat := regAddr k 0x14 0x114
def Reg.Q_THRESH (k q : Nat) : Nat := regAddr k 0x15 (0x0 + q * 0x8)
def Reg.Q_MARK (k q : Nat) : Nat := regAddr k 0x15 (0x4 + q * 0x8)
def Reg.CLASS_THRESH (k c : Nat) : Nat := regAddr k 0x15 (0x2000 + c * 0x4)
def Reg.CONG_FENCE_HOLD (k : Nat) : Nat := regAddr k 0x15 0x2100
def Reg.SEAM_MOVES (k : Nat) : Nat := regAddr k 0x15 0x2104
def Reg.HASH_PLY (k w : Nat) : Nat := regAddr k 0x15 (0x2200 + w * 0x4)
def Reg.HASH_SEAM (k dx w : Nat) : Nat := regAddr k 0x15 (0x2300 + dx * 0x20 + w * 0x4)
def Reg.Q_DEPTH (k q : Nat) : Nat := regAddr k 0x15 (0x4000 + q * 0x4)
def Reg.Q_DROP (k q : Nat) : Nat := regAddr k 0x15 (0x5000 + q * 0x4)
def Reg.Q_MARKED (k q : Nat) : Nat := regAddr k 0x15 (0x6000 + q * 0x4)
def Reg.Q_RXDEPTH (k t : Nat) : Nat := regAddr k 0x15 (0x7000 + t * 0x4)
def Reg.MC_CTRL (k l : Nat) : Nat := regAddr k 0x15 (0x8000 + l * 0x80)
def Reg.MC_LEG (k l i : Nat) : Nat := regAddr k 0x15 (0x8004 + l * 0x80 + i * 0x4)
def Reg.MC_RESIDUE_DROP (k l : Nat) : Nat := regAddr k 0x15 (0x8044 + l * 0x80)
def Reg.MC_COPIES (k l : Nat) : Nat := regAddr k 0x15 (0x8048 + l * 0x80)
def Reg.LAT_CTRL (k q : Nat) : Nat := regAddr k 0x16 (0x0 + q * 0x80)
def Reg.LAT_DEPTH_N (k q : Nat) : Nat := regAddr k 0x16 (0x4 + q * 0x80)
def Reg.LAT_DELAY_N (k q : Nat) : Nat := regAddr k 0x16 (0x8 + q * 0x80)
def Reg.LAT_DEPTH_MIN (k q : Nat) : Nat := regAddr k 0x16 (0xc + q * 0x80)
def Reg.LAT_DEPTH_MAX (k q : Nat) : Nat := regAddr k 0x16 (0x10 + q * 0x80)
def Reg.LAT_DEPTH_LAST (k q : Nat) : Nat := regAddr k 0x16 (0x14 + q * 0x80)
def Reg.LAT_DEPTH_SUM_LO (k q : Nat) : Nat := regAddr k 0x16 (0x18 + q * 0x80)
def Reg.LAT_DEPTH_SUM_HI (k q : Nat) : Nat := regAddr k 0x16 (0x1c + q * 0x80)
def Reg.LAT_DELAY_MIN (k q : Nat) : Nat := regAddr k 0x16 (0x20 + q * 0x80)
def Reg.LAT_DELAY_MAX (k q : Nat) : Nat := regAddr k 0x16 (0x24 + q * 0x80)
def Reg.LAT_DELAY_LAST (k q : Nat) : Nat := regAddr k 0x16 (0x28 + q * 0x80)
def Reg.LAT_DELAY_SUM_LO (k q : Nat) : Nat := regAddr k 0x16 (0x2c + q * 0x80)
def Reg.LAT_DELAY_SUM_HI (k q : Nat) : Nat := regAddr k 0x16 (0x30 + q * 0x80)
def Reg.LAT_HIST (k q i : Nat) : Nat := regAddr k 0x16 (0x40 + q * 0x80 + i * 0x4)
def Reg.DIN_CTRL (k d : Nat) : Nat := regAddr k (0x18 + d) 0x0
def Reg.DIN_STATUS (k d : Nat) : Nat := regAddr k (0x18 + d) 0x4
def Reg.DIN_ACTIVE (k d : Nat) : Nat := regAddr k (0x18 + d) 0x8
def Reg.DIN_TOTAL (k d : Nat) : Nat := regAddr k (0x18 + d) 0xc
def Reg.DIN_PERIOD (k d : Nat) : Nat := regAddr k (0x18 + d) 0x10
def Reg.DIN_FRAMES (k d : Nat) : Nat := regAddr k (0x18 + d) 0x14
def Reg.DIN_LOSSES (k d : Nat) : Nat := regAddr k (0x18 + d) 0x18
def Reg.DIN_UNSUP (k d : Nat) : Nat := regAddr k (0x18 + d) 0x1c
def Reg.DIN_TRAINS (k d : Nat) : Nat := regAddr k (0x18 + d) 0x20
def Reg.DIN_EDID (k d j : Nat) : Nat := regAddr k (0x18 + d) (0x400 + j * 0x4)
def Reg.PURL_MODE (k s : Nat) : Nat := regAddr k 0x1a (0x0 + s * 0x400)
def Reg.DAMAGE_CTRL (k s : Nat) : Nat := regAddr k 0x1a (0x4 + s * 0x400)
def Reg.PURL_STATUS (k s : Nat) : Nat := regAddr k 0x1a (0x8 + s * 0x400)
def Reg.EXACT_RGN_A (k s i : Nat) : Nat := regAddr k 0x1a (0x10 + s * 0x400 + i * 0x8)
def Reg.EXACT_RGN_B (k s i : Nat) : Nat := regAddr k 0x1a (0x14 + s * 0x400 + i * 0x8)
def Reg.PURL_LAST_FRAME (k s : Nat) : Nat := regAddr k 0x1a (0x100 + s * 0x400)
def Reg.PURL_LAST_TILES (k s : Nat) : Nat := regAddr k 0x1a (0x104 + s * 0x400)
def Reg.PURL_LAST_EXACT (k s : Nat) : Nat := regAddr k 0x1a (0x108 + s * 0x400)
def Reg.PURL_LAST_FORCED (k s : Nat) : Nat := regAddr k 0x1a (0x10c + s * 0x400)
def Reg.PURL_LAST_BYTES (k s : Nat) : Nat := regAddr k 0x1a (0x110 + s * 0x400)
def Reg.PURL_HELD (k s : Nat) : Nat := regAddr k 0x1a (0x114 + s * 0x400)
def Reg.PURL_ABORTED (k s : Nat) : Nat := regAddr k 0x1a (0x118 + s * 0x400)
def Reg.PURL_OVER_CAP (k s : Nat) : Nat := regAddr k 0x1a (0x11c + s * 0x400)
def Reg.PURL_REFRESH_RX (k s : Nat) : Nat := regAddr k 0x1a (0x120 + s * 0x400)
def Reg.PURL_HIST (k s b : Nat) : Nat := regAddr k 0x1a (0x180 + s * 0x400 + b * 0x4)
def Reg.DOUT_CTRL (k d : Nat) : Nat := regAddr k (0x1c + d) 0x0
def Reg.DOUT_STATUS (k d : Nat) : Nat := regAddr k (0x1c + d) 0x4
def Reg.DOUT_BORDER (k d : Nat) : Nat := regAddr k (0x1c + d) 0x8
def Reg.DOUT_ORIGIN (k d : Nat) : Nat := regAddr k (0x1c + d) 0xc
def Reg.DOUT_TIM_ACTIVE (k d i : Nat) : Nat := regAddr k (0x1c + d) (0x10 + i * 0x4)
def Reg.DOUT_TIM_STAGED (k d i : Nat) : Nat := regAddr k (0x1c + d) (0x30 + i * 0x4)
def Reg.DOUT_PAIR (k d : Nat) : Nat := regAddr k (0x1c + d) 0x50
def Reg.FLOCK_CTRL (k d : Nat) : Nat := regAddr k (0x1c + d) 0x60
def Reg.FLOCK_PERIOD_NS (k d : Nat) : Nat := regAddr k (0x1c + d) 0x64
def Reg.FLOCK_PERIOD_FRAC (k d : Nat) : Nat := regAddr k (0x1c + d) 0x68
def Reg.FLOCK_PHASE_NS (k d : Nat) : Nat := regAddr k (0x1c + d) 0x6c
def Reg.FLOCK_ERR (k d : Nat) : Nat := regAddr k (0x1c + d) 0x70
def Reg.FLOCK_TRIM (k d : Nat) : Nat := regAddr k (0x1c + d) 0x74
def Reg.PSR_CTRL (k d : Nat) : Nat := regAddr k (0x1c + d) 0x80
def Reg.TP_CTRL (k d : Nat) : Nat := regAddr k (0x1c + d) 0x90
def Reg.TP_COLOR (k d : Nat) : Nat := regAddr k (0x1c + d) 0x94
def Reg.DOUT_UNDERRUN (k d : Nat) : Nat := regAddr k (0x1c + d) 0xa0
def Reg.DOUT_REPEATS (k d : Nat) : Nat := regAddr k (0x1c + d) 0xa4
def Reg.DOUT_FLIPS (k d : Nat) : Nat := regAddr k (0x1c + d) 0xa8
def Reg.DOUT_PSR_ENTRIES (k d : Nat) : Nat := regAddr k (0x1c + d) 0xac
def Reg.DOUT_RETRAINS (k d : Nat) : Nat := regAddr k (0x1c + d) 0xb0
def Reg.DOUT_UNDERRUN_LINE (k d : Nat) : Nat := regAddr k (0x1c + d) 0xb4
def Reg.DOUT_LOCK_LOSS (k d : Nat) : Nat := regAddr k (0x1c + d) 0xb8
def Reg.PURLD_PARSE_ERR (k o : Nat) : Nat := regAddr k 0x1b (0x0 + o * 0x100)
def Reg.PURLD_REFRESH_TX (k o : Nat) : Nat := regAddr k 0x1b (0x4 + o * 0x100)
def Reg.PURLD_ROW_TIME (k o : Nat) : Nat := regAddr k 0x1b (0x8 + o * 0x100)
def Reg.FST_CTRL (k o : Nat) : Nat := regAddr k 0x1e (0x0 + o * 0x100)
def Reg.FST_SETS (k o : Nat) : Nat := regAddr k 0x1e (0x4 + o * 0x100)
def Reg.FST_FRAMES (k o : Nat) : Nat := regAddr k 0x1e (0x8 + o * 0x100)
def Reg.FST_BYTES (k o : Nat) : Nat := regAddr k 0x1e (0xc + o * 0x100)
def Reg.FST_BYTES_MAX (k o : Nat) : Nat := regAddr k 0x1e (0x10 + o * 0x100)
def Reg.FST_SKIPPED (k o : Nat) : Nat := regAddr k 0x1e (0x14 + o * 0x100)
def Reg.FST_NOSPACE (k o : Nat) : Nat := regAddr k 0x1e (0x18 + o * 0x100)
def Reg.PCIE_CTRL (k : Nat) : Nat := regAddr k 0x20 0x0
def Reg.PCIE_STATUS (k : Nat) : Nat := regAddr k 0x20 0x4
def Reg.PCIE_ID (k : Nat) : Nat := regAddr k 0x20 0x8
def Reg.PCIE_SUBSYS (k : Nat) : Nat := regAddr k 0x20 0xc
def Reg.PCIE_CPL_TIMEOUT (k : Nat) : Nat := regAddr k 0x20 0x10
def Reg.PCIE_NP_LIMIT (k : Nat) : Nat := regAddr k 0x20 0x14
def Reg.PCIE_FAR_CRED_P (k : Nat) : Nat := regAddr k 0x20 0x20
def Reg.PCIE_FAR_CRED_NP (k : Nat) : Nat := regAddr k 0x20 0x24
def Reg.PCIE_CPL_RESV (k : Nat) : Nat := regAddr k 0x20 0x28
def Reg.PCIE_TLP_TX (k : Nat) : Nat := regAddr k 0x20 0x40
def Reg.PCIE_TLP_RX (k : Nat) : Nat := regAddr k 0x20 0x44
def Reg.PCIE_POSTED_LOST (k : Nat) : Nat := regAddr k 0x20 0x48
def Reg.PCIE_SYNTH_CA (k : Nat) : Nat := regAddr k 0x20 0x4c
def Reg.PCIE_SYNTH_UR (k : Nat) : Nat := regAddr k 0x20 0x50
def Reg.PCIE_LOCKED (k : Nat) : Nat := regAddr k 0x20 0x54
def Reg.PCIE_CPL_TIMEOUTS (k : Nat) : Nat := regAddr k 0x20 0x58
def Reg.PCIE_CPL_UNEXPECTED (k : Nat) : Nat := regAddr k 0x20 0x5c
def Reg.PCIE_SURPRISE_DOWN (k : Nat) : Nat := regAddr k 0x20 0x60
def Reg.PCIE_HOT_RESETS (k : Nat) : Nat := regAddr k 0x20 0x64
def Reg.PCIW_BASE_LO (k w : Nat) : Nat := regAddr k 0x21 (0x0 + w * 0x20)
def Reg.PCIW_BASE_HI (k w : Nat) : Nat := regAddr k 0x21 (0x4 + w * 0x20)
def Reg.PCIW_SIZE_LO (k w : Nat) : Nat := regAddr k 0x21 (0x8 + w * 0x20)
def Reg.PCIW_SIZE_HI (k w : Nat) : Nat := regAddr k 0x21 (0xc + w * 0x20)
def Reg.PCIW_CTRL (k w : Nat) : Nat := regAddr k 0x21 (0x10 + w * 0x20)
def Reg.PCIW_AGE (k : Nat) : Nat := regAddr k 0x21 0x100
def Reg.PCIW_RA_ISSUED (k : Nat) : Nat := regAddr k 0x21 0x104
def Reg.PCIW_RA_HIT (k : Nat) : Nat := regAddr k 0x21 0x108
def Reg.PCIW_RA_DISCARD (k : Nat) : Nat := regAddr k 0x21 0x10c
def Reg.PCIW_LOG_HEAD (k : Nat) : Nat := regAddr k 0x21 0x110
def Reg.PCIW_LOG_LOST (k : Nat) : Nat := regAddr k 0x21 0x114
def Reg.PCIW_LOG (k e w : Nat) : Nat := regAddr k 0x21 (0x200 + e * 0x10 + w * 0x4)
def Reg.USBH_CTRL (k : Nat) : Nat := regAddr k 0x24 0x0
def Reg.USBH_STATUS (k : Nat) : Nat := regAddr k 0x24 0x4
def Reg.USBH_ID (k : Nat) : Nat := regAddr k 0x24 0x8
def Reg.USBH_PORT (k p : Nat) : Nat := regAddr k 0x24 (0x10 + p * 0x4)
def Reg.USBH_PORT_PWR (k p : Nat) : Nat := regAddr k 0x24 (0x20 + p * 0x4)
def Reg.USBH_EP_CTX (k : Nat) : Nat := regAddr k 0x24 0x30
def Reg.USBH_ISO_EP (k : Nat) : Nat := regAddr k 0x24 0x34
def Reg.USBH_FETCH_DISCARD (k : Nat) : Nat := regAddr k 0x24 0x80
def Reg.USBH_OUT_DISCARD (k : Nat) : Nat := regAddr k 0x24 0x84
def Reg.USBH_ISO_UNCLAIMED (k : Nat) : Nat := regAddr k 0x24 0x88
def Reg.USBH_ISO_LATE (k : Nat) : Nat := regAddr k 0x24 0x8c
def Reg.USBH_ERR_REPORTED (k : Nat) : Nat := regAddr k 0x24 0x90
def Reg.USBH_BABBLE (k : Nat) : Nat := regAddr k 0x24 0x94
def Reg.USBH_TOGGLE_RESYNC (k : Nat) : Nat := regAddr k 0x24 0x98
def Reg.USBH_WAKE_MERGED (k : Nat) : Nat := regAddr k 0x24 0x9c
def Reg.USBH_WAKE_IGNORED (k : Nat) : Nat := regAddr k 0x24 0xa0
def Reg.USBH_EP_OVERFLOW (k : Nat) : Nat := regAddr k 0x24 0xa4
def Reg.USBH_BUS_RESETS (k : Nat) : Nat := regAddr k 0x24 0xa8
def Reg.USBH_PORT_RESETS (k : Nat) : Nat := regAddr k 0x24 0xac
def Reg.USBH_OVERCURRENT (k : Nat) : Nat := regAddr k 0x24 0xb0
def Reg.USBD_STATUS (k : Nat) : Nat := regAddr k 0x25 0x0
def Reg.USBD_ID (k : Nat) : Nat := regAddr k 0x25 0x4
def Reg.USBD_EP_LAYOUT (k e : Nat) : Nat := regAddr k 0x25 (0x10 + e * 0x4)
def Reg.USBD_CMD_RX (k : Nat) : Nat := regAddr k 0x25 0x40
def Reg.USBD_CMD_DISCARD (k : Nat) : Nat := regAddr k 0x25 0x44
def Reg.USBD_CTRL_ABORT (k : Nat) : Nat := regAddr k 0x25 0x48
def Reg.USBD_REPLY_ABORT (k : Nat) : Nat := regAddr k 0x25 0x4c
def Reg.USBD_EVT_RESENT (k : Nat) : Nat := regAddr k 0x25 0x50
def Reg.ETH_CTRL (k e : Nat) : Nat := regAddr k (0x28 + e) 0x0
def Reg.ETH_STATUS (k e : Nat) : Nat := regAddr k (0x28 + e) 0x4
def Reg.ETH_MAC_LO (k e : Nat) : Nat := regAddr k (0x28 + e) 0x8
def Reg.ETH_MAC_HI (k e : Nat) : Nat := regAddr k (0x28 + e) 0xc
def Reg.ETH_RX_FRAMES (k e : Nat) : Nat := regAddr k (0x28 + e) 0x40
def Reg.ETH_TX_FRAMES (k e : Nat) : Nat := regAddr k (0x28 + e) 0x44
def Reg.ETH_RX_FCS_ERR (k e : Nat) : Nat := regAddr k (0x28 + e) 0x48
def Reg.ETH_RX_SIZE_ERR (k e : Nat) : Nat := regAddr k (0x28 + e) 0x4c
def Reg.ETH_RX_FIFO_DROP (k e : Nat) : Nat := regAddr k (0x28 + e) 0x50
def Reg.ETH_TUN_DOWN_DROP (k e : Nat) : Nat := regAddr k (0x28 + e) 0x54
def Reg.ETH_ECN_CE (k e : Nat) : Nat := regAddr k (0x28 + e) 0x58
def Reg.ETH_PAUSE_RX (k e : Nat) : Nat := regAddr k (0x28 + e) 0x5c
def Reg.PRP_CTRL (k : Nat) : Nat := regAddr k 0x2a 0x0
def Reg.PRP_LIFE_CHECK (k : Nat) : Nat := regAddr k 0x2a 0x4
def Reg.PRP_FORGET (k : Nat) : Nat := regAddr k 0x2a 0x8
def Reg.PRP_STATUS (k : Nat) : Nat := regAddr k 0x2a 0xc
def Reg.PRP_DUP_DISCARD (k : Nat) : Nat := regAddr k 0x2a 0x40
def Reg.PRP_DUP_LATE (k : Nat) : Nat := regAddr k 0x2a 0x44
def Reg.PRP_WRONG_LAN (k : Nat) : Nat := regAddr k 0x2a 0x48
def Reg.PRP_PROXY_FULL (k : Nat) : Nat := regAddr k 0x2a 0x4c
def Reg.PRP_TOO_LONG (k : Nat) : Nat := regAddr k 0x2a 0x50
def Reg.PTP_CTRL (k : Nat) : Nat := regAddr k 0x2b 0x0
def Reg.PTP_PRIO (k : Nat) : Nat := regAddr k 0x2b 0x4
def Reg.PTP_HOLDOVER_SPEC (k : Nat) : Nat := regAddr k 0x2b 0x8
def Reg.PTP_PORT_STATE (k e : Nat) : Nat := regAddr k 0x2b (0x10 + e * 0x8)
def Reg.PTP_LINK_DELAY (k e : Nat) : Nat := regAddr k 0x2b (0x14 + e * 0x8)
def Reg.PTP_OC_OFFSET (k : Nat) : Nat := regAddr k 0x2b 0x20
def Reg.PTP_GM_ID_LO (k : Nat) : Nat := regAddr k 0x2b 0x24
def Reg.PTP_GM_ID_HI (k : Nat) : Nat := regAddr k 0x2b 0x28
def Reg.PTP_TC_FWD (k : Nat) : Nat := regAddr k 0x2b 0x40
def Reg.PTP_TC_UNMEASURED (k : Nat) : Nat := regAddr k 0x2b 0x44
def Reg.LOG_HEAD (k : Nat) : Nat := regAddr k 0x4 0x0
def Reg.BB_CTRL (k : Nat) : Nat := regAddr k 0x4 0x4
def Reg.BB_COUNT (k : Nat) : Nat := regAddr k 0x4 0x8
def Reg.BB_LOST (k : Nat) : Nat := regAddr k 0x4 0xc
def Reg.LOG_WIN (k j : Nat) : Nat := regAddr k 0x4 (0x100 + j * 0x4)
def Reg.SMAP_CTRL (k s : Nat) : Nat := regAddr k 0x2c (0x0 + s * 0x40)
def Reg.SMAP_SRC (k s : Nat) : Nat := regAddr k 0x2c (0x4 + s * 0x40)
def Reg.SMAP_DST (k s : Nat) : Nat := regAddr k 0x2c (0x8 + s * 0x40)
def Reg.SMAP_A (k s : Nat) : Nat := regAddr k 0x2c (0xc + s * 0x40)
def Reg.SMAP_B (k s : Nat) : Nat := regAddr k 0x2c (0x10 + s * 0x40)
def Reg.SMAP_DEADBAND (k s : Nat) : Nat := regAddr k 0x2c (0x14 + s * 0x40)
def Reg.SMAP_TIMEOUT (k s : Nat) : Nat := regAddr k 0x2c (0x18 + s * 0x40)
def Reg.SMAP_IN (k s : Nat) : Nat := regAddr k 0x2c (0x1c + s * 0x40)
def Reg.SMAP_OUT (k s : Nat) : Nat := regAddr k 0x2c (0x20 + s * 0x40)
def Reg.SMAP_QUAL (k s : Nat) : Nat := regAddr k 0x2c (0x24 + s * 0x40)
def Reg.SMAP_TIME_LO (k s : Nat) : Nat := regAddr k 0x2c (0x28 + s * 0x40)
def Reg.SMAP_TIME_HI (k s : Nat) : Nat := regAddr k 0x2c (0x2c + s * 0x40)
def Reg.SMAP_UPDATES (k s : Nat) : Nat := regAddr k 0x2c (0x30 + s * 0x40)
def Reg.SMAP_PUBLISHED (k s : Nat) : Nat := regAddr k 0x2c (0x34 + s * 0x40)
def Reg.SMAP_SATS (k s : Nat) : Nat := regAddr k 0x2c (0x38 + s * 0x40)
def Reg.GSUB_CTRL (k i : Nat) : Nat := regAddr k 0x2c (0x4000 + i * 0x20)
def Reg.GSUB_APPID (k i : Nat) : Nat := regAddr k 0x2c (0x4004 + i * 0x20)
def Reg.GSUB_STNUM (k i : Nat) : Nat := regAddr k 0x2c (0x4008 + i * 0x20)
def Reg.GSUB_SQNUM (k i : Nat) : Nat := regAddr k 0x2c (0x400c + i * 0x20)
def Reg.GSUB_IGNORED (k i : Nat) : Nat := regAddr k 0x2c (0x4010 + i * 0x20)
def Reg.GSUB_SQ_GAPS (k i : Nat) : Nat := regAddr k 0x2c (0x4014 + i * 0x20)
def Reg.GSUB_TAL_EXP (k i : Nat) : Nat := regAddr k 0x2c (0x4018 + i * 0x20)
def Reg.GPUB_CTRL (k i : Nat) : Nat := regAddr k 0x2c (0x5000 + i * 0x10)
def Reg.GPUB_STNUM (k i : Nat) : Nat := regAddr k 0x2c (0x5004 + i * 0x10)
def Reg.GPUB_SQNUM (k i : Nat) : Nat := regAddr k 0x2c (0x5008 + i * 0x10)
def Reg.GPUB_SENT (k i : Nat) : Nat := regAddr k 0x2c (0x500c + i * 0x10)
def Reg.HID_FIELD_A (k f : Nat) : Nat := regAddr k 0x2c (0x5400 + f * 0x8)
def Reg.HID_FIELD_B (k f : Nat) : Nat := regAddr k 0x2c (0x5404 + f * 0x8)
def Reg.PIP_RX_FRAMES (k p : Nat) : Nat := regAddr k 0x2c (0x5800 + p * 0x10)
def Reg.PIP_REPEATS (k p : Nat) : Nat := regAddr k 0x2c (0x5804 + p * 0x10)
def Reg.PIP_GAPS (k p : Nat) : Nat := regAddr k 0x2c (0x5808 + p * 0x10)
def Reg.PIP_CRC_ERR (k p : Nat) : Nat := regAddr k 0x2c (0x580c + p * 0x10)
def Reg.PIP_HEARTBEAT (k : Nat) : Nat := regAddr k 0x2c 0x5c00
def Reg.CHK_CFG (k u : Nat) : Nat := regAddr k 0x2d (0x0 + u * 0x40)
def Reg.CHK_POLY (k u : Nat) : Nat := regAddr k 0x2d (0x4 + u * 0x40)
def Reg.CHK_INIT (k u : Nat) : Nat := regAddr k 0x2d (0x8 + u * 0x40)
def Reg.CHK_XOROUT (k u : Nat) : Nat := regAddr k 0x2d (0xc + u * 0x40)
def Reg.CHK_STATE (k u : Nat) : Nat := regAddr k 0x2d (0x10 + u * 0x40)
def Reg.CHK_RESULT (k u : Nat) : Nat := regAddr k 0x2d (0x14 + u * 0x40)
def Reg.CHK_BYTES (k u : Nat) : Nat := regAddr k 0x2d (0x18 + u * 0x40)
def Reg.CHK_PACKETS (k u : Nat) : Nat := regAddr k 0x2d (0x1c + u * 0x40)
def Reg.CHK_SKIPPED (k u : Nat) : Nat := regAddr k 0x2d (0x20 + u * 0x40)
def Reg.SEAL_ACT (k w : Nat) : Nat := regAddr k 0x2d (0x100 + w * 0x4)
def Reg.SEAL_FAIL (k t : Nat) : Nat := regAddr k 0x2d (0x800 + t * 0x4)
def Reg.FS_CHECK_FAIL (k o : Nat) : Nat := regAddr k 0x2d (0x1000 + o * 0x4)
def Reg.GPIO_IN (k : Nat) : Nat := regAddr k 0x3c 0x0
def Reg.GPIO_RAW (k : Nat) : Nat := regAddr k 0x3c 0x4
def Reg.GPIO_OUT (k : Nat) : Nat := regAddr k 0x3c 0x8
def Reg.GPIO_OWNED (k : Nat) : Nat := regAddr k 0x3c 0xc
def Reg.GPIO_CFG (k g : Nat) : Nat := regAddr k 0x3c (0x40 + g * 0x4)
def Reg.FEED_CTRL (f : Nat) : Nat := regAddr 15 0x1 (0x0 + f * 0x20)
def Reg.FEED_STATUS (f : Nat) : Nat := regAddr 15 0x1 (0x4 + f * 0x20)
def Reg.FEED_REV_OFF (f : Nat) : Nat := regAddr 15 0x1 (0x8 + f * 0x20)
def Reg.FEED_OV_EVENTS (f : Nat) : Nat := regAddr 15 0x1 (0xc + f * 0x20)
def Reg.FEED_FAULTS (f : Nat) : Nat := regAddr 15 0x1 (0x10 + f * 0x20)
def Reg.PANEL_STATUS : Nat := regAddr 15 0x1 0x100
def Reg.LOAD_CTRL : Nat := regAddr 15 0x2 0x0
def Reg.LOAD_STATUS : Nat := regAddr 15 0x2 0x4
def Reg.LOAD_INRUSH : Nat := regAddr 15 0x2 0x8
def Reg.LOAD_SOA : Nat := regAddr 15 0x2 0xc
def Reg.LOAD_SHORT : Nat := regAddr 15 0x2 0x10
def Reg.BRK_I (i : Nat) : Nat := regAddr 15 0x2 (0x20 + i * 0x8)
def Reg.BRK_T (i : Nat) : Nat := regAddr 15 0x2 (0x24 + i * 0x8)
def Reg.PWR_WARN : Nat := regAddr 15 0x2 0x60
def Reg.PWR_HOLD : Nat := regAddr 15 0x2 0x64
def Reg.LOAD_TRIPS : Nat := regAddr 15 0x2 0x70
def Reg.LOAD_LAST_TRIP : Nat := regAddr 15 0x2 0x74
def Reg.LOAD_FET_ENERGY : Nat := regAddr 15 0x2 0x78
def Reg.LOAD_RAMP_TIME : Nat := regAddr 15 0x2 0x7c
def Reg.BRK_ACC (i : Nat) : Nat := regAddr 15 0x2 (0x80 + i * 0x4)
def Reg.DIP_COUNT : Nat := regAddr 15 0x2 0xa0
def Reg.DIP_LAST_MIN : Nat := regAddr 15 0x2 0xa4
def Reg.DIP_LAST_DUR : Nat := regAddr 15 0x2 0xa8
def Reg.DROP_COUNT : Nat := regAddr 15 0x2 0xac
def Reg.MTR_V (c : Nat) : Nat := regAddr 15 0x3 (0x0 + c * 0x40)
def Reg.MTR_I (c : Nat) : Nat := regAddr 15 0x3 (0x4 + c * 0x40)
def Reg.MTR_P (c : Nat) : Nat := regAddr 15 0x3 (0x8 + c * 0x40)
def Reg.MTR_VAVG (c : Nat) : Nat := regAddr 15 0x3 (0xc + c * 0x40)
def Reg.MTR_IAVG (c : Nat) : Nat := regAddr 15 0x3 (0x10 + c * 0x40)
def Reg.MTR_E_LO (c : Nat) : Nat := regAddr 15 0x3 (0x14 + c * 0x40)
def Reg.MTR_E_HI (c : Nat) : Nat := regAddr 15 0x3 (0x18 + c * 0x40)
def Reg.MTR_VMIN (c : Nat) : Nat := regAddr 15 0x3 (0x1c + c * 0x40)
def Reg.MTR_IMAX (c : Nat) : Nat := regAddr 15 0x3 (0x20 + c * 0x40)
def Reg.MTR_AVG : Nat := regAddr 15 0x3 0x200
def Reg.MTR_SNAP : Nat := regAddr 15 0x3 0x204
def Reg.VBUS_STATUS (h : Nat) : Nat := regAddr 15 (0x4 + h) 0x0
def Reg.VBUS_SRC_SET (h : Nat) : Nat := regAddr 15 (0x4 + h) 0x4
def Reg.PDC_CTRL (h : Nat) : Nat := regAddr 15 (0x6 + h) 0x0
def Reg.PDC_STATUS (h : Nat) : Nat := regAddr 15 (0x6 + h) 0x4
def Reg.PDC_CONTRACT (h : Nat) : Nat := regAddr 15 (0x6 + h) 0x8
def Reg.PDC_CONTRACT_VI (h : Nat) : Nat := regAddr 15 (0x6 + h) 0xc
def Reg.PDC_KEEPALIVE (h : Nat) : Nat := regAddr 15 (0x6 + h) 0x10
def Reg.PDC_CABLE (h : Nat) : Nat := regAddr 15 (0x6 + h) 0x14
def Reg.PDC_PARTNER_PDO (h i : Nat) : Nat := regAddr 15 (0x6 + h) (0x40 + i * 0x4)
def Reg.PDC_SRC_PDO (h i : Nat) : Nat := regAddr 15 (0x6 + h) (0x80 + i * 0x4)
def Reg.PDC_SNK_PDO (h i : Nat) : Nat := regAddr 15 (0x6 + h) (0xa0 + i * 0x4)
def Reg.PDC_CABLE_VDO (h i : Nat) : Nat := regAddr 15 (0x6 + h) (0xc0 + i * 0x4)
def Reg.PDC_HARD_RESETS (h : Nat) : Nat := regAddr 15 (0x6 + h) 0x100
def Reg.PDC_REJECTS (h : Nat) : Nat := regAddr 15 (0x6 + h) 0x104
def Reg.PDC_FRS (h : Nat) : Nat := regAddr 15 (0x6 + h) 0x108
def Reg.PDC_PULL_TRANS (h : Nat) : Nat := regAddr 15 (0x6 + h) 0x10c
def Reg.PDC_KEEPALIVE_LOST (h : Nat) : Nat := regAddr 15 (0x6 + h) 0x110
def Reg.HOOK_STATUS : Nat := regAddr 15 0x8 0x0
def Reg.HOOK_VER_A : Nat := regAddr 15 0x8 0x4
def Reg.HOOK_VER_B : Nat := regAddr 15 0x8 0x8
def Reg.HOOK_BUDGET : Nat := regAddr 15 0x8 0xc
def Reg.KEY_ATTR (k s : Nat) : Nat := regAddr k 0x30 (0x0 + s * 0x8)
def Reg.KEY_INFO (k s : Nat) : Nat := regAddr k 0x30 (0x4 + s * 0x8)
def Reg.KEY_HASH_LO (k s : Nat) : Nat := regAddr k 0x30 (0x200 + s * 0x8)
def Reg.KEY_HASH_HI (k s : Nat) : Nat := regAddr k 0x30 (0x204 + s * 0x8)
def Reg.LC_STATE (k : Nat) : Nat := regAddr k 0x30 0x400
def Reg.ROOT_STATUS (k : Nat) : Nat := regAddr k 0x30 0x404
def Reg.SVN_MIN (k : Nat) : Nat := regAddr k 0x30 0x408
def Reg.FW_STATUS (k : Nat) : Nat := regAddr k 0x30 0x40c
def Reg.ENTROPY_STATUS (k : Nat) : Nat := regAddr k 0x30 0x410
def Reg.KEY_DENIED (k : Nat) : Nat := regAddr k 0x30 0x414
def Reg.CRYPT_STATUS (k p : Nat) : Nat := regAddr k 0x31 (0x0 + p * 0x40)
def Reg.CRYPT_POLICY (k p : Nat) : Nat := regAddr k 0x31 (0x4 + p * 0x40)
def Reg.CRYPT_ANCHORS (k p : Nat) : Nat := regAddr k 0x31 (0x8 + p * 0x40)
def Reg.CRYPT_PHASE_S (k p : Nat) : Nat := regAddr k 0x31 (0xc + p * 0x40)
def Reg.CRYPT_TX_PN_LO (k p : Nat) : Nat := regAddr k 0x31 (0x10 + p * 0x40)
def Reg.CRYPT_TX_PN_HI (k p : Nat) : Nat := regAddr k 0x31 (0x14 + p * 0x40)
def Reg.CRYPT_AUTH_FAIL (k p : Nat) : Nat := regAddr k 0x31 (0x18 + p * 0x40)
def Reg.CRYPT_REPLAY (k p : Nat) : Nat := regAddr k 0x31 (0x1c + p * 0x40)
def Reg.CRYPT_NOKEY (k p : Nat) : Nat := regAddr k 0x31 (0x20 + p * 0x40)
def Reg.CRYPT_PHASES (k p : Nat) : Nat := regAddr k 0x31 (0x24 + p * 0x40)
def Reg.KID_PART (k : Nat) : Nat := regAddr k 0x0 0x0
def Reg.KID_SEAMS (k : Nat) : Nat := regAddr k 0x0 0x4
def Reg.KID_DIE_LO (k : Nat) : Nat := regAddr k 0x0 0x8
def Reg.KID_DIE_HI (k : Nat) : Nat := regAddr k 0x0 0xc
def Reg.KID_FW_VER (k : Nat) : Nat := regAddr k 0x0 0x10
def Reg.KID_BT_VER (k : Nat) : Nat := regAddr k 0x0 0x14
def Reg.KID_CAPS (k : Nat) : Nat := regAddr k 0x0 0x18
def Reg.REMOTE_TIMEOUT (k : Nat) : Nat := regAddr k 0x1 0x0
def Reg.REMOTE_GROUPS (k : Nat) : Nat := regAddr k 0x1 0x4
def Reg.KCTL_SCRATCH (k : Nat) : Nat := regAddr k 0x1 0x8
def Reg.PWR_DOM_EN (k : Nat) : Nat := regAddr k 0x1 0x100
def Reg.PWR_DOM_STATE (k : Nat) : Nat := regAddr k 0x1 0x104
def Reg.PWR_WAKE_MASK (k : Nat) : Nat := regAddr k 0x1 0x108
def Reg.KERNEL_STATE (k : Nat) : Nat := regAddr k 0x1 0x10c
def Reg.RESET_CAUSE (k : Nat) : Nat := regAddr k 0x1 0x110
def Reg.WDT_CTRL (k : Nat) : Nat := regAddr k 0x1 0x114
def Reg.WDT_COUNT (k : Nat) : Nat := regAddr k 0x1 0x118
def Reg.QUIET_PORTS (k : Nat) : Nat := regAddr k 0x1 0x11c
def Reg.HEARTBEAT_TIMEOUT (k : Nat) : Nat := regAddr k 0x1 0x120
def Reg.FAULT_SEAM_LOST (k : Nat) : Nat := regAddr k 0x1 0x124
def Reg.TIME_STATE (k : Nat) : Nat := regAddr k 0x3 0x0
def Reg.TIME_CTRL (k : Nat) : Nat := regAddr k 0x3 0x4
def Reg.TIME_UTC_OFFSET (k : Nat) : Nat := regAddr k 0x3 0x8
def Reg.TIME_STEP_LIMIT (k : Nat) : Nat := regAddr k 0x3 0xc
def Reg.TIME_SLEW (k : Nat) : Nat := regAddr k 0x3 0x10
def Reg.TIME_SWITCH_HOLD (k : Nat) : Nat := regAddr k 0x3 0x14
def Reg.TIME_HOLDOVER_MAX (k : Nat) : Nat := regAddr k 0x3 0x18
def Reg.TIME_FREQ (k : Nat) : Nat := regAddr k 0x3 0x1c
def Reg.TIME_NOW_LO (k : Nat) : Nat := regAddr k 0x3 0x20
def Reg.TIME_NOW_HI (k : Nat) : Nat := regAddr k 0x3 0x24
def Reg.TIME_NOW_FRAC (k : Nat) : Nat := regAddr k 0x3 0x28
def Reg.TIME_IRIG_ERR (k : Nat) : Nat := regAddr k 0x3 0x2c
def Reg.TIME_SRC (k i : Nat) : Nat := regAddr k 0x3 (0x30 + i * 0x4)
def Reg.LTT_DELAY (k p : Nat) : Nat := regAddr k 0x3 (0x100 + p * 0x10)
def Reg.LTT_OFFSET (k p : Nat) : Nat := regAddr k 0x3 (0x104 + p * 0x10)
def Reg.LTT_ASYM (k p : Nat) : Nat := regAddr k 0x3 (0x108 + p * 0x10)
def Reg.SEAM_STATE (k i : Nat) : Nat := regAddr k 0xd (0x0 + i * 0x40)
def Reg.SEAM_CREDIT (k i h : Nat) : Nat := regAddr k 0xd (0x4 + i * 0x40 + h * 0x4)
def Reg.SEAM_TX_CELLS (k i : Nat) : Nat := regAddr k 0xd (0x10 + i * 0x40)
def Reg.SEAM_RX_CELLS (k i : Nat) : Nat := regAddr k 0xd (0x14 + i * 0x40)
def Reg.SEAM_RETRAINS (k i : Nat) : Nat := regAddr k 0xd (0x18 + i * 0x40)
def Reg.DIAG_REJECT (k m : Nat) : Nat := regAddr k 0x38 (0x0 + m * 0x4)
def Reg.DIAG_WR_IGNORED (k : Nat) : Nat := regAddr k 0x38 0x80
def Reg.DIAG_WR_LAST (k : Nat) : Nat := regAddr k 0x38 0x84
def Reg.DIAG_TJ (k : Nat) : Nat := regAddr k 0x38 0x100
def Reg.DIAG_RAIL (k v : Nat) : Nat := regAddr k 0x38 (0x104 + v * 0x4)
def Reg.DIAG_LOOP (k : Nat) : Nat := regAddr k 0x38 0x180
def Reg.DIAG_TEST (k : Nat) : Nat := regAddr k 0x38 0x184
def Reg.PID_ID : Nat := regAddr 15 0x0 0x0
def Reg.PID_DIE_LO : Nat := regAddr 15 0x0 0x4
def Reg.PID_DIE_HI : Nat := regAddr 15 0x0 0x8
def Reg.PID_ROM_VER : Nat := regAddr 15 0x0 0xc
def Reg.PID_BT : Nat := regAddr 15 0x0 0x10
def Reg.AON_STATE : Nat := regAddr 15 0x9 0x0
def Reg.AON_WAKE_SRC : Nat := regAddr 15 0x9 0x4
def Reg.AON_RESET_CAUSE : Nat := regAddr 15 0x9 0x8
def Reg.AON_SEED_COUNT : Nat := regAddr 15 0x9 0xc
def Reg.AON_LOCK_TIME_LO : Nat := regAddr 15 0x9 0x10
def Reg.AON_LOCK_TIME_HI : Nat := regAddr 15 0x9 0x14
def Reg.AON_RETAIN (j : Nat) : Nat := regAddr 15 0x9 (0x20 + j * 0x4)
def Reg.PLY_TIGHT01 (k : Nat) : Nat := regAddr k 0xc 0x0
def Reg.PLY_TIGHT23 (k : Nat) : Nat := regAddr k 0xc 0x4
def Reg.PLY_LOOSE (k : Nat) : Nat := regAddr k 0xc 0x8
def Reg.PLY_MOVES (k : Nat) : Nat := regAddr k 0xc 0xc

/-- Table 2.11. -/
def mboxRegs : List RegDesc := [
  { name := "MBOX_DATA", base := 0x0, dims := [(0x100, 16), (0x4, 64)], acc := .rw, fields := [⟨0, 32, 0, 4294967295⟩] },
  .plain "MBOX_STAT" 0x1000 [(0x10, 16)] .rw,
  { name := "MBOX_RECV", base := 0x1004, dims := [(0x10, 16)], acc := .rw, fields := [⟨0, 5, 0, 17⟩] },
  .plain "MBOX_LOCK" 0x1008 [(0x10, 16)] .rw,
  .plain "MBOX_CNT" 0x100c [(0x10, 16)] .ro,
  .plain "DB_RING" 0x2000 [] .rw,
  .plain "DB_PEND" 0x2004 [] .rw,
  { name := "DB_RECV", base := 0x2080, dims := [(0x4, 32)], acc := .rw, fields := [⟨0, 5, 0, 17⟩] },
  { name := "MBOX_LOCK_IDLE", base := 0x2100, dims := [], acc := .rw, fields := [⟨0, 6, 1, 60⟩] }]

/-- Table 3.14. -/
def lnkRegs : List RegDesc := [
  .plain "LNK_STATE" 0x0 [] .ro,
  { name := "LNK_CTRL", base := 0x4, dims := [], acc := .rw, fields := [⟨0, 2, 0, 2⟩, ⟨2, 2, 0, 3⟩, ⟨4, 2, 0, 3⟩, ⟨6, 1, 0, 1⟩] },
  { name := "LNK_SHELL_IDLE", base := 0x8, dims := [], acc := .rw, fields := [⟨0, 16, 64, 65535⟩] },
  { name := "LNK_HUSK_IDLE", base := 0xc, dims := [], acc := .rw, fields := [⟨0, 10, 1, 1000⟩] },
  { name := "LNK_EQ_SEL", base := 0x10, dims := [], acc := .rw, fields := [⟨8, 1, 0, 1⟩, ⟨12, 4, 0, 15⟩] },
  { name := "LNK_PRBS_WINDOW", base := 0x14, dims := [], acc := .rw, fields := [⟨0, 7, 1, 100⟩] },
  { name := "LNK_RELOCK_ROWS", base := 0x18, dims := [], acc := .rw, fields := [⟨0, 7, 1, 64⟩] },
  .plain "LNK_BACKOFF" 0x1c [] .ro,
  .plain "LNK_PARTNER_ID_LO" 0x20 [] .ro,
  .plain "LNK_PARTNER_ID_HI" 0x24 [] .ro,
  .plain "LNK_CAST_STEP" 0x28 [] .ro,
  .plain "LANE_ALIGN" 0x40 [(0x20, 2)] .rw,
  .plain "LANE_HDR_ERR" 0x44 [(0x20, 2)] .rc,
  .plain "LANE_LOCK_LOSS" 0x48 [(0x20, 2)] .rc,
  .plain "LANE_STUFFED" 0x4c [(0x20, 2)] .rc,
  .plain "LANE_PRBS_ERR" 0x50 [(0x20, 2)] .rc,
  .plain "LNK_RUN_DEFER" 0x80 [] .rc,
  .plain "LNK_CTRL_BAD" 0x84 [] .rc,
  .plain "LNK_STITCH_LOST" 0x88 [] .rc,
  .plain "LNK_SHELL_ENTRIES" 0x8c [] .rc,
  .plain "LNK_HUSK_ENTRIES" 0x90 [] .rc,
  .plain "EQ_ROW_W0" 0x100 [(0x8, 16)] .ro,
  .plain "EQ_ROW_W1" 0x104 [(0x8, 16)] .ro,
  .plain "EQ_CLASS_MAP_LO" 0x180 [] .ro,
  .plain "EQ_CLASS_MAP_HI" 0x184 [] .ro]

/-- Table 4.4. -/
def tunRegs : List RegDesc := [
  .plain "TUN_CTRL" 0x0 [(0x40, 512)] .ro,
  .plain "TUN_LABELS" 0x4 [(0x40, 512)] .ro,
  .plain "TUN_PATH" 0x8 [(0x40, 512)] .ro,
  .plain "TUN_GAUGE" 0xc [(0x40, 512)] .ro,
  .plain "TUN_SCHED" 0x10 [(0x40, 512)] .ro,
  .plain "TUN_OPTS" 0x14 [(0x40, 512)] .ro,
  .plain "TUN_TYPEREF" 0x18 [(0x40, 512)] .ro,
  .plain "TUN_FAR_ID" 0x1c [(0x40, 512)] .ro,
  .plain "TUN_SEQ" 0x20 [(0x40, 512)] .ro,
  .plain "TUN_CELLS_TX" 0x24 [(0x40, 512)] .rc,
  .plain "TUN_CELLS_RX" 0x28 [(0x40, 512)] .rc,
  .plain "TUN_DISCARD" 0x2c [(0x40, 512)] .rc,
  .plain "TUN_GAPS" 0x30 [(0x40, 512)] .rc,
  .plain "TUN_VIOL" 0x34 [(0x40, 512)] .rc,
  .plain "TUN_MISS" 0x38 [(0x40, 512)] .rc,
  .plain "TUN_HELD_LEFT" 0x3c [(0x40, 512)] .ro,
  { name := "TUN_ACCEPT", base := 0x8000, dims := [], acc := .rw, fields := [⟨3, 4, 0, 15⟩, ⟨8, 1, 0, 1⟩] },
  { name := "TUN_VIOL_LIMIT", base := 0x8004, dims := [], acc := .rw, fields := [⟨0, 16, 0, 65535⟩] },
  { name := "TUN_RESUME", base := 0x8010, dims := [(0x4, 4)], acc := .rw, fields := [⟨0, 14, 0, 16383⟩] },
  .plain "TUN_VIOL_CNT" 0x8020 [(0x4, 4)] .rc,
  .plain "TUN_OPEN_CNT" 0x8030 [] .ro,
  .plain "RAW_ROUTE_A" 0xa000 [(0x8, 1024)] .ro,
  .plain "RAW_ROUTE_B" 0xa004 [(0x8, 1024)] .ro]

/-- Table 4.18. -/
def rowsRegs : List RegDesc := [
  .plain "ROW_ACTIVE" 0x0 [(0x2000, 4), (0x4, 1024)] .ro,
  { name := "ROW_SHADOW", base := 0x1000, dims := [(0x2000, 4), (0x4, 1024)], acc := .rw, fields := [⟨0, 32, 0, 4294967295⟩] },
  .plain "ROW_EPOCH" 0x8000 [(0x20, 4)] .ro,
  .plain "ROW_CEIL" 0x8004 [(0x20, 4)] .ro,
  .plain "ROW_RESERVED" 0x8008 [(0x20, 4)] .ro,
  .plain "ROW_SWAP_STAT" 0x800c [(0x20, 4)] .ro,
  .plain "ROW_MISS" 0x8010 [(0x20, 4)] .rc,
  .plain "ROW_SWAPS" 0x8014 [(0x20, 4)] .rc]

/-- Table 5.9. -/
def schedRegs : List RegDesc := [
  { name := "SVC_NODE", base := 0x0, dims := [(0x100, 4), (0x8, 16)], acc := .rw, fields := [⟨0, 2, 0, 3⟩, ⟨8, 8, 0, 255⟩, ⟨16, 8, 0, 255⟩] },
  .plain "SVC_SENT" 0x4 [(0x100, 4), (0x8, 16)] .rc,
  { name := "SUB_NODE", base := 0x1000, dims := [(0x4, 128)], acc := .rw, fields := [⟨0, 2, 0, 3⟩, ⟨8, 8, 0, 255⟩] },
  { name := "Q_WEIGHT", base := 0x2000, dims := [(0x4, 576)], acc := .rw, fields := [⟨0, 8, 0, 255⟩] },
  { name := "SVC_CLASS_MAP", base := 0x3000, dims := [], acc := .rw, fields := [⟨0, 32, 0, 4294967295⟩] },
  .plain "CORE_CYCLE" 0x3100 [] .ro,
  .plain "CORE_TRANSIT_HOLD" 0x3104 [] .rc]

/-- Table 5.10. -/
def shapeRegs : List RegDesc := [
  { name := "SHP_RATE", base := 0x0, dims := [(0x10, 772)], acc := .rw, fields := [⟨0, 28, 0, 268435455⟩] },
  { name := "SHP_BURST", base := 0x4, dims := [(0x10, 772)], acc := .rw, fields := [⟨0, 24, 0, 16777215⟩, ⟨24, 1, 0, 1⟩] },
  { name := "SHP_OVERHEAD", base := 0x8, dims := [(0x10, 772)], acc := .rw, fields := [⟨0, 8, 0, 255⟩] },
  .plain "SHP_TOKENS" 0xc [(0x10, 772)] .ro]

/-- Table 5.12. -/
def bufRegs : List RegDesc := [
  .plain "SKEIN_BASE" 0x0 [(0x10, 6)] .ro,
  .plain "SKEIN_SIZE" 0x4 [(0x10, 6)] .ro,
  .plain "SKEIN_KIND" 0x8 [(0x10, 6)] .ro,
  .plain "SKEIN_USE" 0xc [(0x10, 6)] .ro,
  .plain "BUF_CELLS_TOTAL" 0x100 [] .ro,
  .plain "BUF_CELLS_USED" 0x104 [] .ro,
  .plain "BUF_CELLS_RESERVED" 0x108 [] .ro,
  .plain "BUF_CELLS_FREE" 0x10c [] .ro,
  .plain "BUF_USED_MAX" 0x110 [] .rc,
  .plain "BUF_REPLAY" 0x114 [] .ro]

/-- Table 5.12. -/
def congRegs : List RegDesc := [
  { name := "Q_THRESH", base := 0x0, dims := [(0x8, 576)], acc := .rw, fields := [⟨0, 4, 0, 15⟩, ⟨8, 8, 0, 255⟩] },
  { name := "Q_MARK", base := 0x4, dims := [(0x8, 576)], acc := .rw, fields := [⟨0, 20, 0, 1048575⟩] },
  { name := "CLASS_THRESH", base := 0x2000, dims := [(0x4, 8)], acc := .rw, fields := [⟨0, 4, 0, 15⟩, ⟨8, 8, 0, 255⟩] },
  { name := "CONG_FENCE_HOLD", base := 0x2100, dims := [], acc := .rw, fields := [⟨0, 5, 0, 31⟩] },
  .plain "SEAM_MOVES" 0x2104 [] .rc,
  { name := "HASH_PLY", base := 0x2200, dims := [(0x4, 8)], acc := .rw, fields := [⟨0, 32, 0, 4294967295⟩] },
  { name := "HASH_SEAM", base := 0x2300, dims := [(0x20, 8), (0x4, 8)], acc := .rw, fields := [⟨0, 32, 0, 4294967295⟩] },
  .plain "Q_DEPTH" 0x4000 [(0x4, 576)] .ro,
  .plain "Q_DROP" 0x5000 [(0x4, 576)] .rc,
  .plain "Q_MARKED" 0x6000 [(0x4, 576)] .rc,
  .plain "Q_RXDEPTH" 0x7000 [(0x4, 512)] .ro,
  .plain "MC_CTRL" 0x8000 [(0x80, 256)] .ro,
  .plain "MC_LEG" 0x8004 [(0x80, 256), (0x4, 15)] .ro,
  .plain "MC_RESIDUE_DROP" 0x8044 [(0x80, 256)] .rc,
  .plain "MC_COPIES" 0x8048 [(0x80, 256)] .rc]

/-- Table 5.13. -/
def latRegs : List RegDesc := [
  { name := "LAT_CTRL", base := 0x0, dims := [(0x80, 576)], acc := .rw, fields := [⟨0, 7, 0, 127⟩, ⟨8, 8, 0, 255⟩] },
  .plain "LAT_DEPTH_N" 0x4 [(0x80, 576)] .ro,
  .plain "LAT_DELAY_N" 0x8 [(0x80, 576)] .ro,
  .plain "LAT_DEPTH_MIN" 0xc [(0x80, 576)] .ro,
  .plain "LAT_DEPTH_MAX" 0x10 [(0x80, 576)] .ro,
  .plain "LAT_DEPTH_LAST" 0x14 [(0x80, 576)] .ro,
  .plain "LAT_DEPTH_SUM_LO" 0x18 [(0x80, 576)] .ro,
  .plain "LAT_DEPTH_SUM_HI" 0x1c [(0x80, 576)] .ro,
  .plain "LAT_DELAY_MIN" 0x20 [(0x80, 576)] .ro,
  .plain "LAT_DELAY_MAX" 0x24 [(0x80, 576)] .ro,
  .plain "LAT_DELAY_LAST" 0x28 [(0x80, 576)] .ro,
  .plain "LAT_DELAY_SUM_LO" 0x2c [(0x80, 576)] .ro,
  .plain "LAT_DELAY_SUM_HI" 0x30 [(0x80, 576)] .ro,
  .plain "LAT_HIST" 0x40 [(0x80, 576), (0x4, 16)] .ro]

/-- Table 6.14. -/
def dinRegs : List RegDesc := [
  { name := "DIN_CTRL", base := 0x0, dims := [], acc := .rw, fields := [⟨0, 1, 0, 1⟩, ⟨1, 1, 0, 1⟩, ⟨4, 3, 0, 7⟩, ⟨8, 4, 0, 15⟩, ⟨16, 2, 0, 3⟩, ⟨18, 1, 0, 1⟩, ⟨19, 1, 0, 1⟩, ⟨24, 1, 0, 1⟩, ⟨25, 1, 0, 1⟩] },
  .plain "DIN_STATUS" 0x4 [] .ro,
  .plain "DIN_ACTIVE" 0x8 [] .ro,
  .plain "DIN_TOTAL" 0xc [] .ro,
  .plain "DIN_PERIOD" 0x10 [] .ro,
  .plain "DIN_FRAMES" 0x14 [] .rc,
  .plain "DIN_LOSSES" 0x18 [] .rc,
  .plain "DIN_UNSUP" 0x1c [] .rc,
  .plain "DIN_TRAINS" 0x20 [] .rc,
  .plain "DIN_EDID" 0x400 [(0x4, 128)] .ro]

/-- Table 6.16. -/
def purleRegs : List RegDesc := [
  { name := "PURL_MODE", base := 0x0, dims := [(0x400, 2)], acc := .rw, fields := [⟨0, 2, 0, 3⟩, ⟨4, 2, 0, 3⟩, ⟨8, 6, 0, 63⟩, ⟨16, 5, 0, 31⟩] },
  { name := "DAMAGE_CTRL", base := 0x4, dims := [(0x400, 2)], acc := .rw, fields := [⟨0, 8, 0, 255⟩, ⟨8, 1, 0, 1⟩, ⟨9, 1, 0, 1⟩] },
  .plain "PURL_STATUS" 0x8 [(0x400, 2)] .ro,
  .plain "EXACT_RGN_A" 0x10 [(0x400, 2), (0x8, 16)] .ro,
  .plain "EXACT_RGN_B" 0x14 [(0x400, 2), (0x8, 16)] .ro,
  .plain "PURL_LAST_FRAME" 0x100 [(0x400, 2)] .ro,
  .plain "PURL_LAST_TILES" 0x104 [(0x400, 2)] .ro,
  .plain "PURL_LAST_EXACT" 0x108 [(0x400, 2)] .ro,
  .plain "PURL_LAST_FORCED" 0x10c [(0x400, 2)] .ro,
  .plain "PURL_LAST_BYTES" 0x110 [(0x400, 2)] .ro,
  .plain "PURL_HELD" 0x114 [(0x400, 2)] .rc,
  .plain "PURL_ABORTED" 0x118 [(0x400, 2)] .rc,
  .plain "PURL_OVER_CAP" 0x11c [(0x400, 2)] .rc,
  .plain "PURL_REFRESH_RX" 0x120 [(0x400, 2)] .rc,
  .plain "PURL_HIST" 0x180 [(0x400, 2), (0x4, 32)] .ro]

/-- Table 7.13. -/
def doutRegs : List RegDesc := [
  { name := "DOUT_CTRL", base := 0x0, dims := [], acc := .rw, fields := [⟨0, 1, 0, 1⟩, ⟨1, 1, 0, 1⟩, ⟨2, 1, 0, 1⟩] },
  .plain "DOUT_STATUS" 0x4 [] .ro,
  { name := "DOUT_BORDER", base := 0x8, dims := [], acc := .rw, fields := [⟨0, 10, 0, 1023⟩, ⟨10, 10, 0, 1023⟩, ⟨20, 10, 0, 1023⟩] },
  { name := "DOUT_ORIGIN", base := 0xc, dims := [], acc := .rw, fields := [⟨0, 13, 0, 8191⟩, ⟨16, 13, 0, 8191⟩] },
  .plain "DOUT_TIM_ACTIVE" 0x10 [(0x4, 6)] .ro,
  .plain "DOUT_TIM_STAGED" 0x30 [(0x4, 6)] .ro,
  { name := "DOUT_PAIR", base := 0x50, dims := [], acc := .rw, fields := [⟨0, 2, 0, 3⟩, ⟨4, 1, 0, 1⟩, ⟨5, 1, 0, 1⟩] },
  { name := "FLOCK_CTRL", base := 0x60, dims := [], acc := .rw, fields := [⟨0, 1, 0, 1⟩, ⟨1, 1, 0, 1⟩, ⟨16, 11, 0, 2047⟩] },
  { name := "FLOCK_PERIOD_NS", base := 0x64, dims := [], acc := .rw, fields := [⟨0, 32, 0, 4294967295⟩] },
  { name := "FLOCK_PERIOD_FRAC", base := 0x68, dims := [], acc := .rw, fields := [⟨0, 16, 0, 65535⟩] },
  { name := "FLOCK_PHASE_NS", base := 0x6c, dims := [], acc := .rw, fields := [⟨0, 32, 0, 4294967295⟩] },
  .plain "FLOCK_ERR" 0x70 [] .ro,
  .plain "FLOCK_TRIM" 0x74 [] .ro,
  { name := "PSR_CTRL", base := 0x80, dims := [], acc := .rw, fields := [⟨0, 1, 0, 1⟩, ⟨8, 4, 0, 15⟩] },
  { name := "TP_CTRL", base := 0x90, dims := [], acc := .rw, fields := [⟨0, 4, 0, 15⟩] },
  { name := "TP_COLOR", base := 0x94, dims := [], acc := .rw, fields := [⟨0, 10, 0, 1023⟩, ⟨10, 10, 0, 1023⟩, ⟨20, 10, 0, 1023⟩] },
  .plain "DOUT_UNDERRUN" 0xa0 [] .rc,
  .plain "DOUT_REPEATS" 0xa4 [] .rc,
  .plain "DOUT_FLIPS" 0xa8 [] .rc,
  .plain "DOUT_PSR_ENTRIES" 0xac [] .rc,
  .plain "DOUT_RETRAINS" 0xb0 [] .rc,
  .plain "DOUT_UNDERRUN_LINE" 0xb4 [] .ro,
  .plain "DOUT_LOCK_LOSS" 0xb8 [] .rc]

/-- Table 7.14. -/
def purldRegs : List RegDesc := [
  .plain "PURLD_PARSE_ERR" 0x0 [(0x100, 2)] .rc,
  .plain "PURLD_REFRESH_TX" 0x4 [(0x100, 2)] .rc,
  .plain "PURLD_ROW_TIME" 0x8 [(0x100, 2)] .ro]

/-- Table 7.14. -/
def fstoreRegs : List RegDesc := [
  { name := "FST_CTRL", base := 0x0, dims := [(0x100, 2)], acc := .rw, fields := [⟨0, 1, 0, 1⟩] },
  .plain "FST_SETS" 0x4 [(0x100, 2)] .ro,
  .plain "FST_FRAMES" 0x8 [(0x100, 2)] .ro,
  .plain "FST_BYTES" 0xc [(0x100, 2)] .ro,
  .plain "FST_BYTES_MAX" 0x10 [(0x100, 2)] .rc,
  .plain "FST_SKIPPED" 0x14 [(0x100, 2)] .rc,
  .plain "FST_NOSPACE" 0x18 [(0x100, 2)] .rc]

/-- Table 8.12. -/
def pcieRegs : List RegDesc := [
  { name := "PCIE_CTRL", base := 0x0, dims := [], acc := .rw, fields := [⟨0, 2, 0, 3⟩, ⟨2, 2, 0, 3⟩, ⟨4, 3, 0, 7⟩, ⟨8, 1, 0, 1⟩, ⟨9, 1, 0, 1⟩] },
  .plain "PCIE_STATUS" 0x4 [] .ro,
  .plain "PCIE_ID" 0x8 [] .ro,
  .plain "PCIE_SUBSYS" 0xc [] .ro,
  { name := "PCIE_CPL_TIMEOUT", base := 0x10, dims := [], acc := .rw, fields := [⟨0, 12, 1, 4000⟩] },
  { name := "PCIE_NP_LIMIT", base := 0x14, dims := [], acc := .rw, fields := [⟨0, 7, 1, 64⟩] },
  .plain "PCIE_FAR_CRED_P" 0x20 [] .ro,
  .plain "PCIE_FAR_CRED_NP" 0x24 [] .ro,
  .plain "PCIE_CPL_RESV" 0x28 [] .ro,
  .plain "PCIE_TLP_TX" 0x40 [] .rc,
  .plain "PCIE_TLP_RX" 0x44 [] .rc,
  .plain "PCIE_POSTED_LOST" 0x48 [] .rc,
  .plain "PCIE_SYNTH_CA" 0x4c [] .rc,
  .plain "PCIE_SYNTH_UR" 0x50 [] .rc,
  .plain "PCIE_LOCKED" 0x54 [] .rc,
  .plain "PCIE_CPL_TIMEOUTS" 0x58 [] .rc,
  .plain "PCIE_CPL_UNEXPECTED" 0x5c [] .rc,
  .plain "PCIE_SURPRISE_DOWN" 0x60 [] .rc,
  .plain "PCIE_HOT_RESETS" 0x64 [] .rc]

/-- Table 8.15. -/
def pciwRegs : List RegDesc := [
  { name := "PCIW_BASE_LO", base := 0x0, dims := [(0x20, 8)], acc := .rw, fields := [⟨12, 20, 0, 1048575⟩] },
  { name := "PCIW_BASE_HI", base := 0x4, dims := [(0x20, 8)], acc := .rw, fields := [⟨0, 32, 0, 4294967295⟩] },
  { name := "PCIW_SIZE_LO", base := 0x8, dims := [(0x20, 8)], acc := .rw, fields := [⟨12, 20, 0, 1048575⟩] },
  { name := "PCIW_SIZE_HI", base := 0xc, dims := [(0x20, 8)], acc := .rw, fields := [⟨0, 32, 0, 4294967295⟩] },
  { name := "PCIW_CTRL", base := 0x10, dims := [(0x20, 8)], acc := .rw, fields := [⟨0, 1, 0, 1⟩, ⟨4, 5, 1, 16⟩] },
  { name := "PCIW_AGE", base := 0x100, dims := [], acc := .rw, fields := [⟨0, 14, 10, 10000⟩] },
  .plain "PCIW_RA_ISSUED" 0x104 [] .rc,
  .plain "PCIW_RA_HIT" 0x108 [] .rc,
  .plain "PCIW_RA_DISCARD" 0x10c [] .rc,
  .plain "PCIW_LOG_HEAD" 0x110 [] .ro,
  .plain "PCIW_LOG_LOST" 0x114 [] .rc,
  .plain "PCIW_LOG" 0x200 [(0x10, 32), (0x4, 4)] .ro]

/-- Table 9.11. -/
def usbhRegs : List RegDesc := [
  { name := "USBH_CTRL", base := 0x0, dims := [], acc := .rw, fields := [⟨0, 2, 0, 3⟩, ⟨4, 3, 0, 7⟩, ⟨8, 3, 0, 7⟩] },
  .plain "USBH_STATUS" 0x4 [] .ro,
  .plain "USBH_ID" 0x8 [] .ro,
  .plain "USBH_PORT" 0x10 [(0x4, 4)] .ro,
  { name := "USBH_PORT_PWR", base := 0x20, dims := [(0x4, 4)], acc := .rw, fields := [⟨0, 2, 0, 2⟩] },
  .plain "USBH_EP_CTX" 0x30 [] .ro,
  .plain "USBH_ISO_EP" 0x34 [] .ro,
  .plain "USBH_FETCH_DISCARD" 0x80 [] .rc,
  .plain "USBH_OUT_DISCARD" 0x84 [] .rc,
  .plain "USBH_ISO_UNCLAIMED" 0x88 [] .rc,
  .plain "USBH_ISO_LATE" 0x8c [] .rc,
  .plain "USBH_ERR_REPORTED" 0x90 [] .rc,
  .plain "USBH_BABBLE" 0x94 [] .rc,
  .plain "USBH_TOGGLE_RESYNC" 0x98 [] .rc,
  .plain "USBH_WAKE_MERGED" 0x9c [] .rc,
  .plain "USBH_WAKE_IGNORED" 0xa0 [] .rc,
  .plain "USBH_EP_OVERFLOW" 0xa4 [] .rc,
  .plain "USBH_BUS_RESETS" 0xa8 [] .rc,
  .plain "USBH_PORT_RESETS" 0xac [] .rc,
  .plain "USBH_OVERCURRENT" 0xb0 [] .rc]

/-- Table 9.14. -/
def usbdRegs : List RegDesc := [
  .plain "USBD_STATUS" 0x0 [] .ro,
  .plain "USBD_ID" 0x4 [] .ro,
  .plain "USBD_EP_LAYOUT" 0x10 [(0x4, 4)] .ro,
  .plain "USBD_CMD_RX" 0x40 [] .rc,
  .plain "USBD_CMD_DISCARD" 0x44 [] .rc,
  .plain "USBD_CTRL_ABORT" 0x48 [] .rc,
  .plain "USBD_REPLY_ABORT" 0x4c [] .rc,
  .plain "USBD_EVT_RESENT" 0x50 [] .rc]

/-- Table 10.13. -/
def ethRegs : List RegDesc := [
  { name := "ETH_CTRL", base := 0x0, dims := [], acc := .rw, fields := [⟨0, 3, 0, 7⟩, ⟨4, 2, 0, 3⟩, ⟨8, 1, 0, 1⟩, ⟨9, 1, 0, 1⟩, ⟨16, 14, 1518, 9216⟩] },
  .plain "ETH_STATUS" 0x4 [] .ro,
  .plain "ETH_MAC_LO" 0x8 [] .ro,
  .plain "ETH_MAC_HI" 0xc [] .ro,
  .plain "ETH_RX_FRAMES" 0x40 [] .rc,
  .plain "ETH_TX_FRAMES" 0x44 [] .rc,
  .plain "ETH_RX_FCS_ERR" 0x48 [] .rc,
  .plain "ETH_RX_SIZE_ERR" 0x4c [] .rc,
  .plain "ETH_RX_FIFO_DROP" 0x50 [] .rc,
  .plain "ETH_TUN_DOWN_DROP" 0x54 [] .rc,
  .plain "ETH_ECN_CE" 0x58 [] .rc,
  .plain "ETH_PAUSE_RX" 0x5c [] .rc]

/-- Table 10.16. -/
def prpRegs : List RegDesc := [
  { name := "PRP_CTRL", base := 0x0, dims := [], acc := .rw, fields := [⟨0, 1, 0, 1⟩, ⟨1, 1, 0, 1⟩] },
  { name := "PRP_LIFE_CHECK", base := 0x4, dims := [], acc := .rw, fields := [⟨0, 14, 100, 10000⟩] },
  { name := "PRP_FORGET", base := 0x8, dims := [], acc := .rw, fields := [⟨0, 14, 10, 10000⟩] },
  .plain "PRP_STATUS" 0xc [] .ro,
  .plain "PRP_DUP_DISCARD" 0x40 [] .rc,
  .plain "PRP_DUP_LATE" 0x44 [] .rc,
  .plain "PRP_WRONG_LAN" 0x48 [] .rc,
  .plain "PRP_PROXY_FULL" 0x4c [] .rc,
  .plain "PRP_TOO_LONG" 0x50 [] .rc]

/-- Table 10.16. -/
def ptpRegs : List RegDesc := [
  { name := "PTP_CTRL", base := 0x0, dims := [], acc := .rw, fields := [⟨0, 2, 0, 3⟩, ⟨8, 8, 0, 255⟩, ⟨16, 2, 0, 2⟩, ⟨18, 1, 0, 1⟩, ⟨20, 3, 0, 7⟩] },
  { name := "PTP_PRIO", base := 0x4, dims := [], acc := .rw, fields := [⟨0, 8, 0, 255⟩, ⟨8, 8, 0, 255⟩, ⟨16, 12, 0, 4095⟩] },
  { name := "PTP_HOLDOVER_SPEC", base := 0x8, dims := [], acc := .rw, fields := [⟨0, 16, 0, 65535⟩] },
  .plain "PTP_PORT_STATE" 0x10 [(0x8, 2)] .ro,
  .plain "PTP_LINK_DELAY" 0x14 [(0x8, 2)] .ro,
  .plain "PTP_OC_OFFSET" 0x20 [] .ro,
  .plain "PTP_GM_ID_LO" 0x24 [] .ro,
  .plain "PTP_GM_ID_HI" 0x28 [] .ro,
  .plain "PTP_TC_FWD" 0x40 [] .rc,
  .plain "PTP_TC_UNMEASURED" 0x44 [] .rc]

/-- Table 10.17. -/
def logwRegs : List RegDesc := [
  .plain "LOG_HEAD" 0x0 [] .ro,
  { name := "BB_CTRL", base := 0x4, dims := [], acc := .rw, fields := [⟨0, 3, 0, 5⟩, ⟨8, 1, 0, 1⟩] },
  .plain "BB_COUNT" 0x8 [] .ro,
  .plain "BB_LOST" 0xc [] .rc,
  .plain "LOG_WIN" 0x100 [(0x4, 8)] .ro]

/-- Table 11.6. -/
def smapRegs : List RegDesc := [
  .plain "SMAP_CTRL" 0x0 [(0x40, 256)] .ro,
  .plain "SMAP_SRC" 0x4 [(0x40, 256)] .ro,
  .plain "SMAP_DST" 0x8 [(0x40, 256)] .ro,
  .plain "SMAP_A" 0xc [(0x40, 256)] .ro,
  .plain "SMAP_B" 0x10 [(0x40, 256)] .ro,
  .plain "SMAP_DEADBAND" 0x14 [(0x40, 256)] .ro,
  .plain "SMAP_TIMEOUT" 0x18 [(0x40, 256)] .ro,
  .plain "SMAP_IN" 0x1c [(0x40, 256)] .ro,
  .plain "SMAP_OUT" 0x20 [(0x40, 256)] .ro,
  .plain "SMAP_QUAL" 0x24 [(0x40, 256)] .ro,
  .plain "SMAP_TIME_LO" 0x28 [(0x40, 256)] .ro,
  .plain "SMAP_TIME_HI" 0x2c [(0x40, 256)] .ro,
  .plain "SMAP_UPDATES" 0x30 [(0x40, 256)] .rc,
  .plain "SMAP_PUBLISHED" 0x34 [(0x40, 256)] .rc,
  .plain "SMAP_SATS" 0x38 [(0x40, 256)] .rc,
  .plain "GSUB_CTRL" 0x4000 [(0x20, 16)] .ro,
  .plain "GSUB_APPID" 0x4004 [(0x20, 16)] .ro,
  .plain "GSUB_STNUM" 0x4008 [(0x20, 16)] .ro,
  .plain "GSUB_SQNUM" 0x400c [(0x20, 16)] .ro,
  .plain "GSUB_IGNORED" 0x4010 [(0x20, 16)] .rc,
  .plain "GSUB_SQ_GAPS" 0x4014 [(0x20, 16)] .rc,
  .plain "GSUB_TAL_EXP" 0x4018 [(0x20, 16)] .rc,
  .plain "GPUB_CTRL" 0x5000 [(0x10, 4)] .ro,
  .plain "GPUB_STNUM" 0x5004 [(0x10, 4)] .ro,
  .plain "GPUB_SQNUM" 0x5008 [(0x10, 4)] .ro,
  .plain "GPUB_SENT" 0x500c [(0x10, 4)] .rc,
  .plain "HID_FIELD_A" 0x5400 [(0x8, 8)] .ro,
  .plain "HID_FIELD_B" 0x5404 [(0x8, 8)] .ro,
  .plain "PIP_RX_FRAMES" 0x5800 [(0x10, 4)] .rc,
  .plain "PIP_REPEATS" 0x5804 [(0x10, 4)] .rc,
  .plain "PIP_GAPS" 0x5808 [(0x10, 4)] .rc,
  .plain "PIP_CRC_ERR" 0x580c [(0x10, 4)] .rc,
  { name := "PIP_HEARTBEAT", base := 0x5c00, dims := [], acc := .rw, fields := [⟨0, 14, 1, 10000⟩] }]

/-- Table 11.7. -/
def chkRegs : List RegDesc := [
  { name := "CHK_CFG", base := 0x0, dims := [(0x40, 4)], acc := .rw, fields := [⟨0, 6, 0, 63⟩, ⟨8, 1, 0, 1⟩, ⟨9, 1, 0, 1⟩, ⟨12, 2, 0, 3⟩, ⟨14, 1, 0, 1⟩, ⟨15, 1, 0, 1⟩] },
  { name := "CHK_POLY", base := 0x4, dims := [(0x40, 4)], acc := .rw, fields := [⟨0, 32, 0, 4294967295⟩] },
  { name := "CHK_INIT", base := 0x8, dims := [(0x40, 4)], acc := .rw, fields := [⟨0, 32, 0, 4294967295⟩] },
  { name := "CHK_XOROUT", base := 0xc, dims := [(0x40, 4)], acc := .rw, fields := [⟨0, 32, 0, 4294967295⟩] },
  { name := "CHK_STATE", base := 0x10, dims := [(0x40, 4)], acc := .rw, fields := [⟨0, 32, 0, 4294967295⟩] },
  .plain "CHK_RESULT" 0x14 [(0x40, 4)] .ro,
  .plain "CHK_BYTES" 0x18 [(0x40, 4)] .rc,
  .plain "CHK_PACKETS" 0x1c [(0x40, 4)] .rc,
  .plain "CHK_SKIPPED" 0x20 [(0x40, 4)] .rc,
  { name := "SEAL_ACT", base := 0x100, dims := [(0x4, 32)], acc := .rw, fields := [⟨0, 32, 0, 4294967295⟩] },
  .plain "SEAL_FAIL" 0x800 [(0x4, 512)] .rc,
  .plain "FS_CHECK_FAIL" 0x1000 [(0x4, 2)] .rc]

/-- Table 11.8. -/
def gpioRegs : List RegDesc := [
  .plain "GPIO_IN" 0x0 [] .ro,
  .plain "GPIO_RAW" 0x4 [] .ro,
  { name := "GPIO_OUT", base := 0x8, dims := [], acc := .rw, fields := [⟨0, 16, 0, 65535⟩] },
  .plain "GPIO_OWNED" 0xc [] .ro,
  { name := "GPIO_CFG", base := 0x40, dims := [(0x4, 16)], acc := .rw, fields := [⟨0, 2, 0, 3⟩, ⟨2, 1, 0, 1⟩, ⟨3, 1, 0, 1⟩, ⟨4, 1, 0, 1⟩, ⟨8, 8, 0, 255⟩] }]

/-- Table 12.9. -/
def feedRegs : List RegDesc := [
  { name := "FEED_CTRL", base := 0x0, dims := [(0x20, 4)], acc := .rw, fields := [⟨0, 1, 0, 1⟩, ⟨4, 10, 80, 580⟩] },
  .plain "FEED_STATUS" 0x4 [(0x20, 4)] .ro,
  .plain "FEED_REV_OFF" 0x8 [(0x20, 4)] .rc,
  .plain "FEED_OV_EVENTS" 0xc [(0x20, 4)] .rc,
  .plain "FEED_FAULTS" 0x10 [(0x20, 4)] .rc,
  .plain "PANEL_STATUS" 0x100 [] .ro]

/-- Table 12.10. -/
def loadRegs : List RegDesc := [
  { name := "LOAD_CTRL", base := 0x0, dims := [], acc := .rw, fields := [⟨0, 1, 0, 1⟩] },
  .plain "LOAD_STATUS" 0x4 [] .ro,
  { name := "LOAD_INRUSH", base := 0x8, dims := [], acc := .rw, fields := [⟨0, 10, 25, 1000⟩, ⟨16, 10, 1, 1000⟩] },
  { name := "LOAD_SOA", base := 0xc, dims := [], acc := .rw, fields := [⟨0, 7, 10, 120⟩, ⟨16, 10, 10, 800⟩] },
  { name := "LOAD_SHORT", base := 0x10, dims := [], acc := .rw, fields := [⟨0, 4, 6, 12⟩] },
  { name := "BRK_I", base := 0x20, dims := [(0x8, 8)], acc := .rw, fields := [⟨0, 12, 25, 2000⟩] },
  { name := "BRK_T", base := 0x24, dims := [(0x8, 8)], acc := .rw, fields := [⟨0, 23, 1, 6000000⟩] },
  { name := "PWR_WARN", base := 0x60, dims := [], acc := .rw, fields := [⟨0, 10, 80, 580⟩, ⟨16, 10, 80, 580⟩] },
  { name := "PWR_HOLD", base := 0x64, dims := [], acc := .rw, fields := [⟨0, 6, 1, 50⟩, ⟨16, 10, 1, 1000⟩] },
  .plain "LOAD_TRIPS" 0x70 [] .rc,
  .plain "LOAD_LAST_TRIP" 0x74 [] .ro,
  .plain "LOAD_FET_ENERGY" 0x78 [] .ro,
  .plain "LOAD_RAMP_TIME" 0x7c [] .ro,
  .plain "BRK_ACC" 0x80 [(0x4, 8)] .ro,
  .plain "DIP_COUNT" 0xa0 [] .rc,
  .plain "DIP_LAST_MIN" 0xa4 [] .ro,
  .plain "DIP_LAST_DUR" 0xa8 [] .ro,
  .plain "DROP_COUNT" 0xac [] .rc]

/-- Table 12.13. -/
def meterRegs : List RegDesc := [
  .plain "MTR_V" 0x0 [(0x40, 6)] .ro,
  .plain "MTR_I" 0x4 [(0x40, 6)] .ro,
  .plain "MTR_P" 0x8 [(0x40, 6)] .ro,
  .plain "MTR_VAVG" 0xc [(0x40, 6)] .ro,
  .plain "MTR_IAVG" 0x10 [(0x40, 6)] .ro,
  .plain "MTR_E_LO" 0x14 [(0x40, 6)] .ro,
  .plain "MTR_E_HI" 0x18 [(0x40, 6)] .ro,
  .plain "MTR_VMIN" 0x1c [(0x40, 6)] .rc,
  .plain "MTR_IMAX" 0x20 [(0x40, 6)] .rc,
  { name := "MTR_AVG", base := 0x200, dims := [], acc := .rw, fields := [⟨0, 4, 0, 12⟩] },
  { name := "MTR_SNAP", base := 0x204, dims := [], acc := .rw, fields := [⟨0, 1, 0, 1⟩] }]

/-- Table 13.12. -/
def vbusRegs : List RegDesc := [
  .plain "VBUS_STATUS" 0x0 [] .ro,
  .plain "VBUS_SRC_SET" 0x4 [] .ro]

/-- Table 13.12. -/
def pdcRegs : List RegDesc := [
  { name := "PDC_CTRL", base := 0x0, dims := [], acc := .rw, fields := [⟨0, 3, 0, 7⟩, ⟨4, 1, 0, 1⟩, ⟨5, 1, 0, 1⟩, ⟨8, 1, 0, 1⟩, ⟨9, 1, 0, 1⟩, ⟨10, 1, 0, 1⟩] },
  .plain "PDC_STATUS" 0x4 [] .ro,
  .plain "PDC_CONTRACT" 0x8 [] .ro,
  .plain "PDC_CONTRACT_VI" 0xc [] .ro,
  { name := "PDC_KEEPALIVE", base := 0x10, dims := [], acc := .rw, fields := [⟨0, 4, 1, 9⟩, ⟨16, 5, 10, 20⟩] },
  .plain "PDC_CABLE" 0x14 [] .ro,
  .plain "PDC_PARTNER_PDO" 0x40 [(0x4, 11)] .ro,
  .plain "PDC_SRC_PDO" 0x80 [(0x4, 7)] .ro,
  .plain "PDC_SNK_PDO" 0xa0 [(0x4, 7)] .ro,
  .plain "PDC_CABLE_VDO" 0xc0 [(0x4, 4)] .ro,
  .plain "PDC_HARD_RESETS" 0x100 [] .rc,
  .plain "PDC_REJECTS" 0x104 [] .rc,
  .plain "PDC_FRS" 0x108 [] .rc,
  .plain "PDC_PULL_TRANS" 0x10c [] .rc,
  .plain "PDC_KEEPALIVE_LOST" 0x110 [] .rc]

/-- Table 13.14. -/
def hookRegs : List RegDesc := [
  .plain "HOOK_STATUS" 0x0 [] .ro,
  .plain "HOOK_VER_A" 0x4 [] .ro,
  .plain "HOOK_VER_B" 0x8 [] .ro,
  .plain "HOOK_BUDGET" 0xc [] .ro]

/-- Table 14.13. -/
def keysRegs : List RegDesc := [
  .plain "KEY_ATTR" 0x0 [(0x8, 64)] .ro,
  .plain "KEY_INFO" 0x4 [(0x8, 64)] .ro,
  .plain "KEY_HASH_LO" 0x200 [(0x8, 64)] .ro,
  .plain "KEY_HASH_HI" 0x204 [(0x8, 64)] .ro,
  .plain "LC_STATE" 0x400 [] .ro,
  .plain "ROOT_STATUS" 0x404 [] .ro,
  .plain "SVN_MIN" 0x408 [] .ro,
  .plain "FW_STATUS" 0x40c [] .ro,
  .plain "ENTROPY_STATUS" 0x410 [] .ro,
  .plain "KEY_DENIED" 0x414 [] .rc]

/-- Table 14.14. -/
def cryptRegs : List RegDesc := [
  .plain "CRYPT_STATUS" 0x0 [(0x40, 4)] .ro,
  .plain "CRYPT_POLICY" 0x4 [(0x40, 4)] .ro,
  .plain "CRYPT_ANCHORS" 0x8 [(0x40, 4)] .ro,
  .plain "CRYPT_PHASE_S" 0xc [(0x40, 4)] .ro,
  .plain "CRYPT_TX_PN_LO" 0x10 [(0x40, 4)] .ro,
  .plain "CRYPT_TX_PN_HI" 0x14 [(0x40, 4)] .ro,
  .plain "CRYPT_AUTH_FAIL" 0x18 [(0x40, 4)] .rc,
  .plain "CRYPT_REPLAY" 0x1c [(0x40, 4)] .rc,
  .plain "CRYPT_NOKEY" 0x20 [(0x40, 4)] .rc,
  .plain "CRYPT_PHASES" 0x24 [(0x40, 4)] .rc]

/-- Table 16.5. -/
def kidRegs : List RegDesc := [
  .plain "KID_PART" 0x0 [] .ro,
  .plain "KID_SEAMS" 0x4 [] .ro,
  .plain "KID_DIE_LO" 0x8 [] .ro,
  .plain "KID_DIE_HI" 0xc [] .ro,
  .plain "KID_FW_VER" 0x10 [] .ro,
  .plain "KID_BT_VER" 0x14 [] .ro,
  .plain "KID_CAPS" 0x18 [] .ro]

/-- Table 16.7. -/
def kctlRegs : List RegDesc := [
  { name := "REMOTE_TIMEOUT", base := 0x0, dims := [], acc := .rw, fields := [⟨0, 11, 10, 2000⟩] },
  { name := "REMOTE_GROUPS", base := 0x4, dims := [], acc := .rw, fields := [⟨0, 32, 0, 4294967295⟩] },
  { name := "KCTL_SCRATCH", base := 0x8, dims := [], acc := .rw, fields := [⟨0, 32, 0, 4294967295⟩] },
  { name := "PWR_DOM_EN", base := 0x100, dims := [], acc := .rw, fields := [⟨3, 2, 0, 3⟩, ⟨6, 6, 0, 63⟩] },
  .plain "PWR_DOM_STATE" 0x104 [] .ro,
  { name := "PWR_WAKE_MASK", base := 0x108, dims := [], acc := .rw, fields := [⟨0, 4, 0, 15⟩, ⟨16, 16, 0, 65535⟩] },
  .plain "KERNEL_STATE" 0x10c [] .ro,
  .plain "RESET_CAUSE" 0x110 [] .ro,
  { name := "WDT_CTRL", base := 0x114, dims := [], acc := .rw, fields := [⟨0, 14, 10, 10000⟩] },
  .plain "WDT_COUNT" 0x118 [] .rc,
  { name := "QUIET_PORTS", base := 0x11c, dims := [], acc := .rw, fields := [⟨0, 4, 0, 15⟩] },
  { name := "HEARTBEAT_TIMEOUT", base := 0x120, dims := [], acc := .rw, fields := [⟨0, 7, 2, 100⟩] },
  .plain "FAULT_SEAM_LOST" 0x124 [] .rc]

/-- Table 16.14. -/
def timeRegs : List RegDesc := [
  .plain "TIME_STATE" 0x0 [] .ro,
  { name := "TIME_CTRL", base := 0x4, dims := [], acc := .rw, fields := [⟨0, 1, 0, 1⟩, ⟨1, 1, 0, 1⟩, ⟨2, 1, 0, 1⟩, ⟨3, 1, 0, 1⟩, ⟨8, 6, 0, 63⟩] },
  { name := "TIME_UTC_OFFSET", base := 0x8, dims := [], acc := .rw, fields := [⟨0, 16, 0, 65535⟩, ⟨16, 1, 0, 1⟩, ⟨17, 1, 0, 1⟩] },
  { name := "TIME_STEP_LIMIT", base := 0xc, dims := [], acc := .rw, fields := [⟨0, 30, 0, 1000000000⟩] },
  { name := "TIME_SLEW", base := 0x10, dims := [], acc := .rw, fields := [⟨0, 10, 10, 1000⟩] },
  { name := "TIME_SWITCH_HOLD", base := 0x14, dims := [], acc := .rw, fields := [⟨0, 6, 1, 60⟩] },
  { name := "TIME_HOLDOVER_MAX", base := 0x18, dims := [], acc := .rw, fields := [⟨0, 16, 1, 65535⟩] },
  .plain "TIME_FREQ" 0x1c [] .ro,
  .plain "TIME_NOW_LO" 0x20 [] .ro,
  .plain "TIME_NOW_HI" 0x24 [] .ro,
  .plain "TIME_NOW_FRAC" 0x28 [] .ro,
  .plain "TIME_IRIG_ERR" 0x2c [] .rc,
  .plain "TIME_SRC" 0x30 [(0x4, 6)] .ro,
  .plain "LTT_DELAY" 0x100 [(0x10, 4)] .ro,
  .plain "LTT_OFFSET" 0x104 [(0x10, 4)] .ro,
  { name := "LTT_ASYM", base := 0x108, dims := [(0x10, 4)], acc := .rw, fields := [⟨0, 32, 0, 4294967295⟩] }]

/-- Table 16.17. -/
def seamRegs : List RegDesc := [
  .plain "SEAM_STATE" 0x0 [(0x40, 3)] .ro,
  .plain "SEAM_CREDIT" 0x4 [(0x40, 3), (0x4, 3)] .ro,
  .plain "SEAM_TX_CELLS" 0x10 [(0x40, 3)] .rc,
  .plain "SEAM_RX_CELLS" 0x14 [(0x40, 3)] .rc,
  .plain "SEAM_RETRAINS" 0x18 [(0x40, 3)] .rc]

/-- Table 16.18. -/
def diagRegs : List RegDesc := [
  .plain "DIAG_REJECT" 0x0 [(0x4, 18)] .rc,
  .plain "DIAG_WR_IGNORED" 0x80 [] .rc,
  .plain "DIAG_WR_LAST" 0x84 [] .ro,
  .plain "DIAG_TJ" 0x100 [] .ro,
  .plain "DIAG_RAIL" 0x104 [(0x4, 6)] .ro,
  .plain "DIAG_LOOP" 0x180 [] .ro,
  .plain "DIAG_TEST" 0x184 [] .ro]

/-- Table 16.19. -/
def pidRegs : List RegDesc := [
  .plain "PID_ID" 0x0 [] .ro,
  .plain "PID_DIE_LO" 0x4 [] .ro,
  .plain "PID_DIE_HI" 0x8 [] .ro,
  .plain "PID_ROM_VER" 0xc [] .ro,
  .plain "PID_BT" 0x10 [] .ro]

/-- Table 16.20. -/
def aonRegs : List RegDesc := [
  .plain "AON_STATE" 0x0 [] .ro,
  .plain "AON_WAKE_SRC" 0x4 [] .ro,
  .plain "AON_RESET_CAUSE" 0x8 [] .ro,
  .plain "AON_SEED_COUNT" 0xc [] .ro,
  .plain "AON_LOCK_TIME_LO" 0x10 [] .ro,
  .plain "AON_LOCK_TIME_HI" 0x14 [] .ro,
  { name := "AON_RETAIN", base := 0x20, dims := [(0x4, 4)], acc := .rw, fields := [⟨0, 32, 0, 4294967295⟩] }]

/-- Chapter 3, section Registers. -/
def plyRegs : List RegDesc := [
  .plain "PLY_TIGHT01" 0x0 [] .ro,
  .plain "PLY_TIGHT23" 0x4 [] .ro,
  .plain "PLY_LOOSE" 0x8 [] .ro,
  .plain "PLY_MOVES" 0xc [] .rc]

/-- The registers of a kernel block (Table 16.2); none for a block number the table does not list. -/
def kernelBlockRegs : Nat → List RegDesc
  | 0x00 => kidRegs
  | 0x01 => kctlRegs
  | 0x02 => mboxRegs
  | 0x03 => timeRegs
  | 0x04 => logwRegs
  | 0x08 => lnkRegs
  | 0x09 => lnkRegs
  | 0x0a => lnkRegs
  | 0x0b => lnkRegs
  | 0x0c => plyRegs
  | 0x0d => seamRegs
  | 0x10 => tunRegs
  | 0x11 => rowsRegs
  | 0x12 => schedRegs
  | 0x13 => shapeRegs
  | 0x14 => bufRegs
  | 0x15 => congRegs
  | 0x16 => latRegs
  | 0x18 => dinRegs
  | 0x19 => dinRegs
  | 0x1a => purleRegs
  | 0x1b => purldRegs
  | 0x1c => doutRegs
  | 0x1d => doutRegs
  | 0x1e => fstoreRegs
  | 0x20 => pcieRegs
  | 0x21 => pciwRegs
  | 0x24 => usbhRegs
  | 0x25 => usbdRegs
  | 0x28 => ethRegs
  | 0x29 => ethRegs
  | 0x2a => prpRegs
  | 0x2b => ptpRegs
  | 0x2c => smapRegs
  | 0x2d => chkRegs
  | 0x30 => keysRegs
  | 0x31 => cryptRegs
  | 0x38 => diagRegs
  | 0x3c => gpioRegs
  | _ => []

/-- The registers of a power-die block (Table 16.3). -/
def powerBlockRegs : Nat → List RegDesc
  | 0x00 => pidRegs
  | 0x01 => feedRegs
  | 0x02 => loadRegs
  | 0x03 => meterRegs
  | 0x04 => vbusRegs
  | 0x05 => vbusRegs
  | 0x06 => pdcRegs
  | 0x07 => pdcRegs
  | 0x08 => hookRegs
  | 0x09 => aonRegs
  | _ => []

/-- Size of a kernel block in bytes (Table 16.2); 0 for a block number the table does not list. -/
def kernelBlockSize : Nat → Nat
  | 0x00 => 0x100
  | 0x01 => 0x200
  | 0x02 => 0x2200
  | 0x03 => 0x200
  | 0x04 => 0x200
  | 0x08 => 0x200
  | 0x09 => 0x200
  | 0x0a => 0x200
  | 0x0b => 0x200
  | 0x0c => 0x100
  | 0x0d => 0x100
  | 0x10 => 0xc000
  | 0x11 => 0x8100
  | 0x12 => 0x3200
  | 0x13 => 0x3100
  | 0x14 => 0x200
  | 0x15 => 0x10000
  | 0x16 => 0x12000
  | 0x18 => 0x600
  | 0x19 => 0x600
  | 0x1a => 0x800
  | 0x1b => 0x200
  | 0x1c => 0x100
  | 0x1d => 0x100
  | 0x1e => 0x200
  | 0x20 => 0x100
  | 0x21 => 0x400
  | 0x24 => 0x100
  | 0x25 => 0x100
  | 0x28 => 0x100
  | 0x29 => 0x100
  | 0x2a => 0x100
  | 0x2b => 0x100
  | 0x2c => 0x6000
  | 0x2d => 0x1100
  | 0x30 => 0x500
  | 0x31 => 0x100
  | 0x38 => 0x200
  | 0x3c => 0x100
  | _ => 0

/-- Size of a power-die block in bytes (Table 16.3). -/
def powerBlockSize : Nat → Nat
  | 0x00 => 0x100
  | 0x01 => 0x200
  | 0x02 => 0x100
  | 0x03 => 0x300
  | 0x04 => 0x100
  | 0x05 => 0x100
  | 0x06 => 0x200
  | 0x07 => 0x200
  | 0x08 => 0x100
  | 0x09 => 0x100
  | _ => 0

/-- The power domain, 1 to 12, of a kernel block (Table 16.2); 0 for none. -/
def kernelBlockDomain : Nat → Nat
  | 0x00 => 1
  | 0x01 => 1
  | 0x02 => 1
  | 0x03 => 1
  | 0x04 => 1
  | 0x08 => 4
  | 0x09 => 4
  | 0x0a => 5
  | 0x0b => 5
  | 0x0c => 2
  | 0x0d => 6
  | 0x10 => 2
  | 0x11 => 2
  | 0x12 => 2
  | 0x13 => 2
  | 0x14 => 3
  | 0x15 => 2
  | 0x16 => 2
  | 0x18 => 7
  | 0x19 => 7
  | 0x1a => 7
  | 0x1b => 8
  | 0x1c => 8
  | 0x1d => 8
  | 0x1e => 3
  | 0x20 => 9
  | 0x21 => 9
  | 0x24 => 11
  | 0x25 => 11
  | 0x28 => 10
  | 0x29 => 10
  | 0x2a => 10
  | 0x2b => 10
  | 0x2c => 2
  | 0x2d => 2
  | 0x30 => 12
  | 0x31 => 12
  | 0x38 => 1
  | 0x3c => 1
  | _ => 0

/-- The register row that names offset `off` of block `blk` of unit `u`; none where the address is reserved (R476). -/
def regDesc? (u blk off : Nat) : Option RegDesc :=
  (if u = 15 then powerBlockRegs blk else kernelBlockRegs blk).find? fun r => r.hits off

def regDescAt? (a : Nat) : Option RegDesc := regDesc? (addrUnit a) (addrBlock a) (addrOff a)

end Sys2Proof.Machine
end

