-- ==== Sys2Proof/Machine/RegReset.lean ====
section
/-! DEFINITION. The word each register address holds after power-on reset (R14), by block. An address that no row below names holds
zero: where the spec states no reset value, zero is the model's (log entry 4). Registers whose content is computed
when they are read hold nothing here. -/

namespace Sys2Proof.Machine

/-- The factory attribute words of key slots 0 to 2 (Tables 14.1 and 14.2). -/
def factoryKeyAttr : Nat → Word
  | 0 => packWord [(1, 1, 1), (20, 1, 1), (23, 1, 1), (24, 3, 7), (28, 3, 2)]
  | 1 => packWord [(2, 1, 1), (20, 1, 1), (22, 1, 1), (23, 1, 1), (24, 3, 7), (28, 3, 3)]
  | 2 => packWord [(3, 1, 1), (20, 2, 3), (22, 1, 1), (23, 1, 1), (24, 3, 7), (28, 3, 3)]
  | _ => 0

/-- Default level, weight and transit weight of service node s (Table 5.4). -/
def svcNodeReset (s : Nat) : Word :=
  match s with
  | 0 => packWord [(0, 2, 1), (8, 8, 1), (16, 8, 1)]
  | 1 => packWord [(0, 2, 0), (8, 8, 1), (16, 8, 1)]
  | 2 => packWord [(0, 2, 2), (8, 8, 4), (16, 8, 1)]
  | 3 => packWord [(0, 2, 3), (8, 8, 1), (16, 8, 1)]
  | 4 => packWord [(0, 2, 2), (8, 8, 2), (16, 8, 1)]
  | 5 => packWord [(0, 2, 0), (8, 8, 1), (16, 8, 1)]
  | _ => packWord [(0, 2, 3), (8, 8, 1), (16, 8, 1)]

/-- Default K and MIN of a class (Table 5.3); K is a signed 4-bit exponent. -/
def classThreshReset (c : Nat) : Word :=
  match c with
  | 0 => packWord [(0, 4, 0), (8, 8, 8)]
  | 1 => packWord [(0, 4, 1), (8, 8, 4)]
  | 2 => packWord [(0, 4, 0), (8, 8, 4)]
  | 3 => packWord [(0, 4, 1), (8, 8, 8)]
  | 4 => packWord [(0, 4, 0), (8, 8, 8)]
  | 5 => packWord [(0, 4, 14), (8, 8, 0)]
  | _ => 0

/-- The fixed type and class of contexts T0 to T5 (Tables 4.1 and 4.5). -/
def tunCtrlReset (t : Nat) : Word :=
  if t = 4 then packWord [(4, 4, 1), (8, 3, 2), (11, 1, 1)]
  else if t = 5 then packWord [(4, 4, 2), (8, 3, 2), (11, 1, 1)]
  else 0

/-- Class of queue q before a tunnel gives it one: control for T0 to T3, time-critical for T4 and T5, 0 elsewhere (log entry 4). -/
def queueClassReset (q : Nat) : Nat := if q = 4 || q = 5 then 2 else 0

/-- The default endpoint layout of the management function (R313). -/
def epLayoutReset (e : Nat) : Word :=
  match e with
  | 0 => packWord [(0, 14, 0), (16, 14, 512)]
  | 1 => packWord [(0, 14, 0x200), (16, 14, 4096)]
  | 2 => packWord [(0, 14, 0x1200), (16, 14, 4096)]
  | _ => packWord [(0, 14, 0x2200), (16, 14, 2048)]

/-- The example curve of Table 12.3: I_k in 10 mA. -/
def brkIReset (k : Nat) : Nat := [600, 700, 800, 1000, 1200, 1400, 1600, 2000].getD k 0

/-- The example curve of Table 12.3: t_k in 0.1 ms. -/
def brkTReset (k : Nat) : Nat := [600000, 100000, 20000, 5000, 1000, 200, 50, 10].getD k 0

/-- Reset words of the kernel blocks, by block and offset. -/
def kernelReset (blk off : Nat) : Word :=
  match blk with
  | 0x01 =>
    if off = 0x000 then 100 else if off = 0x004 then 0x8 else if off = 0x100 then 0xFFF else if off = 0x108 then 0xF
    else if off = 0x10C then 1 else if off = 0x114 then 100 else if off = 0x120 then 10 else 0
  | 0x02 => if off = 0x2100 then 10 else 0
  | 0x03 =>
    if off = 0x000 then 0x70 else if off = 0x008 then 37 else if off = 0x00C then 1000000 else if off = 0x010 then 100
    else if off = 0x014 then 5 else if off = 0x018 then 3600 else 0
  | 0x04 => if off = 0x004 then 4 else 0
  | 0x08 | 0x09 | 0x0A | 0x0B =>
    if off = 0x004 then 0x4C else if off = 0x008 then 1024 else if off = 0x00C then 100
    else if off = 0x014 then 1 else if off = 0x018 then 4 else 0
  | 0x10 =>
    if off < 0x8000 then
      (if off % 64 = 0x00 then tunCtrlReset (off / 64) else if off % 64 = 0x14 then 0x20
       else if off % 64 = 0x18 then 0x3FF else 0)
    else if off = 0x8000 then 0x78 else if off = 0x8004 then 256
    else if 0x8010 ≤ off ∧ off < 0x8020 ∧ off % 4 = 0 then 2000 else 0
  | 0x11 => if 0x8000 ≤ off ∧ off < 0x8080 ∧ off % 32 = 4 then 920 else 0
  | 0x12 =>
    if off < 0x400 then (if off % 8 = 0 ∧ off % 256 < 128 then svcNodeReset (off % 256 / 8) else 0)
    else if 0x1000 ≤ off ∧ off < 0x1200 ∧ off % 4 = 0 then packWord [(0, 2, (off - 0x1000) / 4 % 4), (8, 8, 1)]
    else if 0x2000 ≤ off ∧ off < 0x2900 ∧ off % 4 = 0 then 1
    else if off = 0x3000 then 0x00342105 else 0
  | 0x13 => if off < 0x3040 ∧ off % 16 = 4 then 3072 else 0
  | 0x14 =>
    if off < 0x60 ∧ off % 16 = 8 then word (off / 16 + (if off < 0x20 then 256 else 0))
    else if off < 0x60 ∧ off % 16 = 0 then word ([0, 0x3FC000, 0x400000, 0x1000000, 0x2000000, 0x3000000].getD (off / 16) 0)
    else if off < 0x60 ∧ off % 16 = 4 then word ([0x3FC000, 0x4000, 0xC00000, 0x1000000, 0x1000000, 0].getD (off / 16) 0)
    else 0
  | 0x15 =>
    if off < 0x1200 then (if off % 8 = 0 then classThreshReset (queueClassReset (off / 8)) else 0)
    else if 0x2000 ≤ off ∧ off < 0x2020 ∧ off % 4 = 0 then classThreshReset ((off - 0x2000) / 4)
    else if off = 0x2100 then 2
    else if (0x2200 ≤ off ∧ off < 0x2220 ∨ 0x2300 ≤ off ∧ off < 0x2400) ∧ off % 4 = 0 then 0xAAAAAAAA
    else if 0x8000 ≤ off ∧ off % 128 = 0 then 0x020001FF else 0
  | 0x16 => if off % 128 = 0 ∧ off < 0x12000 then 0x1000 else 0
  | 0x18 | 0x19 => if off = 0 then 0x640 else 0
  | 0x1A => if off % 1024 = 0 then 0x001F0000 else if off % 1024 = 4 then 0x240 else 0
  | 0x1C => if off = 0x50 then 0x32 else if off = 0x60 then packWord [(1, 1, 1), (16, 11, 1000)]
            else if off = 0x80 then 0x401 else 0
  | 0x1D => if off = 0x60 then packWord [(1, 1, 1), (16, 11, 1000)] else if off = 0x80 then 0x401 else 0
  | 0x1E => if off % 256 = 4 then 0x3F else 0
  | 0x20 => if off = 0 then 0x58 else if off = 0x10 then 64 else if off = 0x14 then 64 else 0
  | 0x21 => if off < 0x100 then (if off % 32 = 0x10 then 0x10 else 0) else if off = 0x100 then 1000 else 0
  | 0x24 => if off = 0 then 0x210 else 0
  | 0x25 => if 0x10 ≤ off ∧ off < 0x20 ∧ off % 4 = 0 then epLayoutReset ((off - 0x10) / 4) else 0
  | 0x28 | 0x29 => if off = 0 then packWord [(9, 1, 1), (16, 14, 1522)] else 0
  | 0x2A => if off = 0 then 2 else if off = 4 then 2000 else if off = 8 then 400 else 0
  | 0x2B => if off = 4 then 0x8080 else if off = 8 then 300 else 0
  | 0x2C => if off = 0x5C00 then 100 else 0
  | 0x2D =>
    if off < 0x100 then
      (if off % 64 = 0 then packWord [(0, 6, 32), (8, 2, 3), (12, 2, if off / 64 < 2 then 0 else 3)]
       else if off % 64 = 4 then 0x1EDC6F41 else if off % 64 = 8 then 0xFFFFFFFF
       else if off % 64 = 12 then 0xFFFFFFFF else 0)
    else 0
  | 0x30 =>
    if off < 0x200 then
      (if off % 8 = 0 then factoryKeyAttr (off / 8)
       else if off % 8 = 4 then (if off / 8 = 0 then 0xFF else if off / 8 < 3 then 0xFE else 0xFD) else 0)
    else if off = 0x400 then 0x30 else 0
  | 0x31 =>
    if off % 64 = 8 then 0xFFFFFF01 else if off % 64 = 12 then 3600 else 0
  | _ => 0

/-- The default source block (R407) in the formats of USB PD: fixed 5, 9, 15 and 20 V at 3.0 A, and PPS 3.3 to 21 V at 2.85 A. -/
def defaultPdo (i : Nat) : Word :=
  match i with
  | 0 => packWord [(0, 10, 300), (10, 10, 100)]
  | 1 => packWord [(0, 10, 300), (10, 10, 180)]
  | 2 => packWord [(0, 10, 300), (10, 10, 300)]
  | 3 => packWord [(0, 10, 300), (10, 10, 400)]
  | 4 => packWord [(0, 7, 57), (8, 8, 33), (17, 8, 210), (30, 2, 3)]
  | _ => 0

/-- Reset words of the power-die blocks. -/
def powerReset (blk off : Nat) : Word :=
  match blk with
  | 0x01 => if off = 0 ∨ off = 32 then packWord [(0, 1, 1), (4, 10, 85)] else if off = 64 ∨ off = 96 then packWord [(4, 10, 85)] else 0
  | 0x02 =>
    if off = 0 then 1 else if off = 4 then 0x10 else if off = 8 then packWord [(0, 10, 100), (16, 10, 100)]
    else if off = 0xC then packWord [(0, 7, 60), (16, 10, 300)] else if off = 0x10 then packWord [(0, 4, 8), (16, 16, 4000)]
    else if 0x20 ≤ off ∧ off < 0x60 then
      (if off % 8 = 0 then word (brkIReset ((off - 0x20) / 8)) else if off % 8 = 4 then word (brkTReset ((off - 0x20) / 8)) else 0)
    else if off = 0x60 then packWord [(0, 10, 90), (16, 10, 80)]
    else if off = 0x64 then packWord [(0, 6, 10), (16, 10, 10)] else 0
  | 0x03 => if off = 0x200 then 10 else 0
  | 0x06 | 0x07 =>
    if off = 0 then word (blk - 5) else if off = 0x10 then packWord [(0, 4, 8), (16, 5, 15)]
    else if 0x80 ≤ off ∧ off < 0x9C ∧ off % 4 = 0 then defaultPdo ((off - 0x80) / 4) else 0
  | 0x08 => if off = 0xC then packWord [(16, 16, 10000)] else 0
  | 0x09 => if off = 0 then 0x80 else 0
  | _ => 0

/-- The word a register address holds at power-on reset: TUN_LABELS shows the local label 512 n + t (Table 4.4), LNK_STATE.TYPE_C
is fixed at K0.P0 and K0.P1 (Table 3.15). -/
def resetWord (a : Nat) : Word :=
  let u := addrUnit a
  let blk := addrBlock a
  let off := addrOff a
  if u = 15 then powerReset blk off
  else if 8 ≤ u then 0
  else if blk = 0x10 ∧ off < 0x8000 ∧ off % 64 = 4 then word (512 * u + off / 64)
  else if u = 0 ∧ (blk = 0x08 ∨ blk = 0x09) ∧ off = 0 then 0x10000
  else kernelReset blk off

end Sys2Proof.Machine
end

