-- ==== Sys2Proof/Machine/State.lean ====
section
/-! DEFINITION. The state of the part as plain data, what it holds after power-on reset, and the reasons a command can stop. -/

namespace Sys2Proof.Machine

/-- The three variants (R1): the number of kernels in the package. -/
inductive Variant where
  | eln2 | eln4 | eln8
  deriving DecidableEq, Repr

/-- One entry of the event log (Table 10.8). -/
structure LogEntry where
  time : Nat
  frac : Nat
  code : Nat
  source : Nat
  severity : Nat
  seq : Nat
  p0 : Word
  p1 : Word
  p2 : Word
  p3 : Word
  deriving DecidableEq, Repr

/-- An event waiting on a transport: its entry, the tag of its job or 0, and the unit that raised it (Table 2.1). -/
structure EventItem where
  entry : LogEntry
  tag : Nat
  unit : Nat
  deriving DecidableEq, Repr

/-- One transport: what is up, subscribed, waiting and kept (R42, R64, R65, R515). -/
structure Endpoint where
  up : Bool := false
  minSev : Nat := 0
  none : Bool := true
  mask : Word := 0
  /-- Event packets sent since the transport last came up. -/
  evSeq : Nat := 0
  /-- Replies waiting, oldest first. -/
  replies : List Packet := []
  /-- Events waiting, oldest first. -/
  events : List EventItem := []
  /-- Events dropped since EV_EVENTS_LOST was last sent. -/
  dropped : Nat := 0
  /-- Kept replies, newest first. -/
  kept : List Packet := []
  /-- The packet that the host has begun to read. -/
  reading : Option Packet := .none
  deriving DecidableEq, Repr

/-- The SPI target: STAT_FRAME_ERR, the bytes of the last transaction on MG_MISO, and when MG_CS_N last fell. -/
structure SpiPins where
  frameErr : Bool := false
  miso : List Byte := []
  lastFall : Nat := 0
  deriving DecidableEq, Repr

/-- One PCIe management window (Table 2.6): command slots, reply slots, SLOT_BUSY and RSP_READY as slot masks, the event ring, and the
MSI-X vectors signalled. -/
structure PcieFn where
  slots : List (Nat × List Byte) := []
  rsp : List (Nat × Packet) := []
  busy : Nat := 0
  ready : Nat := 0
  evHead : Nat := 0
  evTail : Nat := 0
  evLost : Nat := 0
  ring : List (Nat × Packet) := []
  msix : List Nat := []
  deriving DecidableEq, Repr

/-- The states of a job (Table 2.15). -/
inductive JobState where
  | running | done | failed | partly | aborted
  deriving DecidableEq, Repr

/-- One port of the path of one source of a re-gauge (R155): the source (KIND, kernel, context or route), the label it sends there,
the port, whether it is the partner's, the hop, and the gauges. -/
structure GaugeItem where
  kind : Nat
  kernel : Nat
  index : Nat
  label : Nat
  k : Nat
  p : Nat
  far : Bool
  hop : Nat
  old : Nat
  new : Nat
  deriving DecidableEq, Repr

/-- A port of a re-gauge as its report gives it (R157): kernel, port, partner flag, unreached, last step applied, epoch in force. -/
structure GaugePort where
  k : Nat
  p : Nat
  far : Bool
  unreached : Bool := false
  step : Nat := 0
  epoch : Nat := 0
  deriving DecidableEq, Repr

/-- What a re-gauge job holds (R154 to R158): its items, its steps, the link to its partner, its ports, and where its present step
is: 0 waiting for the local EPOCH_ACK; 1 reading the partner's table, 2 writing its shadow, 3 swapping, 4 waiting for its epoch. -/
structure Gauge where
  items : List GaugeItem
  plan : List (List GaugeItem)
  linkK : Nat := 0
  linkP : Nat := 0
  ports : List GaugePort
  phase : Nat := 0
  buf : List Nat := []
  pos : Nat := 0
  epoch : Nat := 0
  deriving DecidableEq, Repr

/-- A job (R61 to R63): who started it, for which command, how far it has run, how it ended, and what its command named. -/
structure Job where
  num : Nat
  opcode : Nat
  tag : Nat
  via : Option Via
  kernel : Nat
  target : Nat
  state : JobState := .running
  step : Nat := 1
  steps : Nat
  status : Nat := 0
  detail : Nat := 0
  endedAt : Nat := 0
  /-- JOB_ABORT has been accepted and takes effect at the next step boundary (R63). -/
  abort : Bool := false
  /-- Parameter words of the command that the later steps still need. -/
  args : List Word := []
  /-- Port words of a REGAUGE (R157). -/
  words : List Word := []
  gauge : Option Gauge := none
  deriving DecidableEq, Repr

/-- A cell (Table 4.3): its header fields and its valid payload bytes, with the stamp it carries inside the part (R202): the key
of the stamping port, that port's stitch count and the count of its rate changes. -/
structure Cell where
  label : Nat
  cls : Nat
  first : Bool
  last : Bool
  cm : Bool := false
  sealed : Bool := false
  seq : Nat
  payload : List Byte
  stampPort : Nat := 0
  stamp : Nat := 0
  stampRate : Nat := 0
  /-- The port's engine encrypts the packet of the cell when it sends it (R436). -/
  enc : Bool := false
  /-- The hash bucket of the cell's flow (R190). -/
  bucket : Nat := 0
  /-- The legs that still have to take the cell, as mask (R188); bit 0 is the context's own path. -/
  legs : Nat := 1
  /-- The tile row of a display packet, which a leg that drops it has refreshed (R188). -/
  tileRow : Option Nat := none
  deriving DecidableEq, Repr

/-- A source of cells of a port (R129, R174): leg `leg` of context (n, t) in its queue of part m; or, when `raw`, route key `n` in transit
queue `t`. -/
structure Src where
  n : Nat
  t : Nat
  m : Nat
  leg : Nat
  raw : Bool := false
  deriving DecidableEq, Repr

/-- A source that the scheduler has chosen for the stitch of number `due` (R175): its service and subscriber nodes, and its queue. -/
structure Plan where
  due : Nat
  src : Src
  svc : Nat
  sub : Option Nat
  qk : Nat
  q : Nat
  deriving DecidableEq, Repr

/-- Where a cell goes that crosses seams: to part m of context (n, t) from port (k, p), to the egress of raw route r of kernel n from that port, or to
the egress buffer of port (k, p). -/
inductive FlightEnd where
  | rx (k p n t m count : Nat) (enc : Bool) (plain : Option (List Byte)) (busy : Bool)
  | route (k p n r : Nat)
  | egress (k p : Nat) (src : Src)
  deriving DecidableEq, Repr

/-- A cell on its way over seams (R20 to R22): the kernel that holds it, its destination, the hash bucket of its flow, the seams crossed so far
with the kernel and interface that sent it over the last one, whose credit it holds. -/
structure Flight where
  cell : Cell
  here : Nat
  dst : Nat
  bucket : Nat
  hops : Nat := 0
  prevK : Nat := 0
  prevI : Nat := 0
  fin : FlightEnd
  deriving DecidableEq, Repr

/-- A fence (R192, R193): the hash set (0 the loose ply, 1 + d the seam paths toward kernel d), the bucket, the member it moved to, and
a further move that waits for the fence to lift. `left` is the row of the old member's port in which the last cell of the bucket left it. -/
structure Fence where
  set : Nat
  bucket : Nat
  member : Nat
  left : Nat := 0
  next : Option Nat := none
  deriving DecidableEq, Repr

/-- One kernel's Needle and its stores that no register shows. -/
structure Kern where
  /-- The log ring, newest entry first. -/
  log : List LogEntry := []
  /-- The black box, oldest entry first; none is an entry that a power loss cut. -/
  box : List (Option LogEntry) := []
  /-- Mailboxes whose broken owner is still refused: mailbox and owner (R77). -/
  broken : List (Nat × Nat) := []
  /-- Tokens of each shaper node in 1/256,000,000 byte (R198). -/
  tokens : List (Nat × Int) := []
  /-- Queues whose MIN software has set; true where K still follows the class (R181, R183). -/
  thresh : List (Nat × Bool) := []
  fences : List Fence := []
  /-- The DRBG has stopped, and health-test failures since the kernel's reset (R419). -/
  drbgStop : Bool := false
  entropyFails : Nat := 0
  /-- Cells of each transit queue, oldest first, each with the key of its raw route (R174). -/
  transit : List (Nat × List (Nat × Cell)) := []
  deriving DecidableEq, Repr

/-- What a tunnel context holds beside its registers. -/
structure Ctx where
  /-- Cells handed over and not yet sent, oldest first. -/
  txq : List Cell := []
  /-- Cells sent and not yet acknowledged, oldest first (R144). -/
  unacked : List Cell := []
  /-- Payload of the packet being received; none while no packet is open. -/
  rxOpen : Option (List Byte) := none
  /-- Some cell of the open packet carried CM (R186). -/
  rxCm : Bool := false
  /-- Whole packets received and waiting for the adapter, oldest first, each with its congestion mark. -/
  rxq : List (Bool × List Byte) := []
  /-- Credit the far end has granted beyond the last acknowledged cell; none before its first CREDIT entry (R184). -/
  credit : Option Nat := none
  /-- Credit granted to the far end for cells that have not yet arrived (R181). -/
  granted : Nat := 0
  /-- The state told in CREDIT entries has changed since the last one (R144); cells are missing after a gap, and the NACK is due. -/
  changed : Bool := false
  nack : Bool := false
  nackDue : Bool := false
  /-- SEQ of the LAST cell of the last whole packet received, which CREDIT acknowledges on an encrypted tunnel (R144). -/
  wholeSeq : Nat := 255
  /-- The rest of the packet arriving is dropped (R145, R182). -/
  dropping : Bool := false
  /-- A CREDIT entry has been sent since the tunnel opened or resumed (R184). -/
  creditSent : Bool := false
  /-- SEQ of the next cell of each leg beyond leg 0 (R134, R188). -/
  legSeq : List (Nat × Nat) := []
  /-- When EV_SEAL_FAIL was last logged, and the failures since (R372). -/
  sealLog : Option Nat := none
  sealFails : Nat := 0
  /-- Cells of packets that the adapter still holds, until the threshold admits them (R181). -/
  waitq : List Cell := []
  /-- Cells of a packet that crosses seams once it is whole: COUNT and cell (R190, R436). -/
  rxWait : List (Nat × Cell) := []
  /-- The rest of a packet of a route is dropped after a gap, before it crosses a seam (R145). -/
  gapDrop : Bool := false
  /-- CM of the cells of an ENCRYPT route's packet so far; class of a route's cells; cells of the packet being sent that are charged (R199). -/
  cms : List Bool := []
  cls : Nat := 0
  paid : Nat := 0
  /-- The loose ply that has split and whose two ports its flows keep: P3 and P2 member (R121). -/
  split : Option ((Nat × Nat) × (Nat × Nat)) := none
  /-- OUT_LABEL is not known: a direct open waits for OPEN_ACK (R138). -/
  unknown : Bool := false
  /-- Tag of the OPEN_REQ or CLOSE_REQ this end sent; tag of the CLOSE_REQ received, which CLOSE_DONE answers (R143). -/
  reqTag : Nat := 0
  doneTag : Option Nat := none
  /-- CLOSE_DONE sent, CLOSE_DONE received. -/
  doneSent : Bool := false
  doneRcvd : Bool := false
  /-- GAUGE_TX not yet entered in the row table, because OUT_LABEL is not known (R138). -/
  pendGauge : Nat := 0
  /-- The open's parameters: both gauges and the type parameters. -/
  gaugeTx : Nat := 0
  gaugeRx : Nat := 0
  typePar : List Byte := []
  /-- Consecutive AES-GCM failures (Table 4.13, class 7). -/
  authFails : Nat := 0
  /-- Highest packet number accepted, by phase (R437). -/
  pn : List (Nat × Nat) := []
  /-- SEQ of the next cell to send, and the SEQ expected next (R134). -/
  txSeq : Nat := 0
  rxSeq : Nat := 0
  deriving DecidableEq, Repr

/-- A remote request that this part has sent on a port (R50): its link tag and what its reply must be given back. `job` is the
part's own job that sent it, `wait` the REGAUGE request whose checks it serves (R154). -/
structure RemoteReq where
  linkTag : Nat
  via : Via
  slot : Nat
  opcode : Nat
  tag : Nat
  flags : Nat
  target : Nat
  job : Option Nat
  wait : Option Nat := none
  deriving DecidableEq, Repr

/-- A REGAUGE request whose partner routes are still being read (R154): its number, the request, its items so far, and the entry
indexes still to read with the remote route each names. -/
structure GaugeWait where
  id : Nat
  req : Req
  /-- REGAUGE or REGAUGE_ROLLBACK. -/
  opcode : Nat
  items : List GaugeItem
  reads : List (Nat × Nat × Nat)
  /-- Partner ports whose active tables are still to be read, the entries of the first so far, and the tables read, by 4 × kernel + port. -/
  ports : List Nat := []
  buf : List Nat := []
  tables : List (Nat × List Nat) := []
  lost : List GaugePort := []
  linkK : Nat
  linkP : Nat
  deriving DecidableEq, Repr

/-- A role swap on a port (R159 to R161). -/
structure RoleSwap where
  priority : Nat
  token : Nat
  attempt : Nat
  /-- The job of the requesting end; none at the far end. -/
  job : Option Nat
  /-- The swap is acknowledged, and which end asked: this one or the far one. -/
  acked : Bool := false
  farAsked : Bool := false
  /-- Both requests were dropped on equal W, and the random wait runs (R160). -/
  waiting : Bool := false
  /-- LNK_STATE.ROLE has flipped. -/
  flipped : Bool := false
  /-- Row number from which the role flips. -/
  flipRow : Nat := 0
  deriving DecidableEq, Repr

/-- The body of a TRAIN block (Table 3.3). -/
structure TrainInfo where
  lane : Nat
  lanes : Nat
  rxlock : Bool
  rate : Nat
  lbn : Nat
  row : Nat
  epoch : Nat
  /-- SCRAMBLER_NEXT. -/
  scr : Nat
  deriving DecidableEq, Repr

/-- The control blocks of Table 3.3, with the fields of their bodies; those of ROW_INFO are Table 10.5's. -/
inductive Control where
  | train (t : TrainInfo)
  | rowMark (lane lanes row epoch : Nat) (valid : Bool)
  | rowInfo (txTime echoRow echoRx state : Nat) (you : Bool) (hops : Nat)
  | idle
  | linkMsg (msg frag : Nat) (last : Bool) (data : List Byte)
  | shellEnter
  | huskEnter
  | bindEnd (reason : Nat)
  deriving DecidableEq, Repr

/-- What a link port holds beside its registers. -/
structure Port where
  /-- Remote requests outstanding on the port, oldest first. -/
  remote : List RemoteReq := []
  /-- Requests of the part's own jobs that wait for a free place on the port (R51), oldest first. -/
  jobWait : List (RemoteReq × List Word) := []
  /-- The link tag to try next. -/
  nextLink : Nat := 0
  /-- Link tags whose last request ended PARTNER_TIMEOUT, with its opcode and the requester's tag (R52). -/
  late : List (Nat × Nat × Nat) := []
  /-- The tag of the next link message that this end chooses a tag for (R143). -/
  msgTag : Nat := 0
  /-- The attach is present; the module has reported ready, or the Type-C partner is in the Alavin mode (R103, R104). -/
  attached : Bool := false
  ready : Bool := false
  /-- The matched board-table entry marks the module without fast idle (R104). -/
  slowIdle : Bool := false
  /-- The equalisation row that the board table's match list gives the module (R102). -/
  media : Nat := 0
  /-- Module power is on, and the highest rate code that the module supports (R104, R106). -/
  modulePower : Bool := false
  modRate : Nat := 3
  /-- MAX_RATE and ROLE_PREF of the cast-on that runs. -/
  castRate : Nat := 3
  castRole : Nat := 0
  /-- Session tokens of the last session, and those of the cast-on that runs (R167); none before one is drawn. -/
  myTok : Option Nat := none
  farTok : Option Nat := none
  newTok : Option Nat := none
  newFarTok : Option Nat := none
  /-- The partner's IDENT body of this cast-on, and the partner identity of the last session. -/
  ident : List Byte := []
  sessId : Option Nat := none
  /-- The role this end takes, once computed (step 6): 0 host end, 1 dock end. -/
  role : Option Nat := none
  /-- The rate being checked, the last rate that passed, and this end's error counts on L0 and L1 (R106). -/
  rateTry : Nat := 0
  rateOk : Nat := 0
  myErr : Option (Nat × Nat) := none
  /-- A RATE_RESULT that came before this end's own window ended. -/
  farRes : Option (List Byte) := none
  /-- EV_NO_ALAVIN_MODE has been logged for this attach (R103). -/
  noMode : Bool := false
  /-- LINK_MSG blocks of this cast-on that wait for a stitch, oldest first. -/
  lineOut : List Control := []
  /-- CRYPT_POLICY, CRYPT_ANCHORS and CRYPT_PHASE_S as the cast-on that runs, or last ran, took them (R432). -/
  policy : List Word := []
  /-- Step 5 waits for the SEC domain to power up (Table 15.1). -/
  helloDue : Bool := false
  /-- Authentication messages accepted so far in step 5: 0 none, 1 HELLO, 2 CERT, 3 SIG (R433). -/
  authGot : Nat := 0
  /-- The last reset of bit l hunts: lanes of an Open port without lock (R99). -/
  hunting : Nat := 0
  /-- The receive direction is in Shell (R109). -/
  rxShell : Bool := false
  /-- HUSK_REQ sent and not answered. -/
  huskAsked : Bool := false
  /-- The far end's violation bind-off or this end's: cause of EV_PORT_DOWN (Table 10.18), and DRAIN_MS, while Binding. -/
  bindCause : Nat := 0
  drainMs : Nat := 0
  /-- When the Backoff wait and the resume window end. -/
  backoffEnd : Nat := 0
  heldEnd : Nat := 0
  /-- Row number being transmitted, and stitches sent since the rate was set. -/
  row : Nat := 0
  stitch : Nat := 0
  /-- PRBS test running, lanes as mask, and units of 2^20 bits compared on each lane (Table 3.12). -/
  prbs : Nat := 0
  prbsBits : Nat × Nat := (0, 0)
  /-- The role swap that runs (R159). -/
  swap : Option RoleSwap := none
  /-- RESUME_LIST parts received: PART and its entries (label, far label, TYPE, gauge); and the PART of the LAST one (R166). -/
  lists : List (Nat × List (Nat × Nat × Nat × Nat)) := []
  lastPart : Option Nat := none
  pairing : Bool := false
  /-- Violations in this row period, classes notified in it, and per class the row of the last log entry and the count since (R162). -/
  violRow : Nat := 0
  noticed : List Nat := []
  violLog : List (Nat × Nat × Nat) := []
  noticeLog : List (Nat × Nat) := []
  /-- The partner's PLY_REQ, held until this end asks (R119). -/
  plyAsked : Option (Nat × Nat) := none
  /-- The pip tunnel is quarantined on this port (R365). -/
  pipFault : Bool := false
  /-- The time tunnel is quarantined on this port. -/
  timeFault : Bool := false
  /-- Pip frames on the port (R364): ALIVE of the next frame sent, ALIVE accepted last, when EV_PIP_GAP was last logged and the gaps since. -/
  pipTx : Nat := 0
  pipRx : Option Nat := none
  pipGapAt : Option Nat := none
  pipGaps : Nat := 0
  /-- Time transfer (R334 to R336): TX_TIME of the rows sent last by the low 8 bits of ROW, in 1/256 ns; the row marker received last and
  when; STATE, SRC_IS_YOU and HOPS of the last TIME_INFO; full TAI that TIME_INFO resolved; SRC_IS_YOU of the last ROW_INFO. -/
  txTimes : List (Nat × Nat) := []
  markRx : Option (Nat × Nat) := none
  farTime : Option (Nat × Bool × Nat) := none
  farFull : Nat := 0
  farYou : Bool := false
  /-- Key phases (R437): the phase of this direction and when it began; the newest phase received, and the old keys not yet discarded. -/
  phase : Nat := 0
  phaseAt : Nat := 0
  rxPhase : Nat := 0
  oldKeys : Bool := false
  /-- The stitch of the row to be sent next, 0 while no row runs; and the stitch count at which a swap was armed (R147). -/
  pos : Nat := 0
  armedAt : Nat := 0
  /-- The port over which the partner reaches this one while a job of the partner holds it (R156, log entry 103). -/
  farHold : Option (Nat × Nat) := none
  /-- Scrambler state of each transmit lane (R91). -/
  scr : List (BitVec 31) := []
  /-- The egress buffer (R174, R175): how many cells at the head of each source's queue it holds; the sources chosen for stitches ahead; and a
  raw-route cell that cuts through, with its route (R176). -/
  fetched : List (Src × Nat) := []
  plan : List Plan := []
  cut : Option (Nat × Cell) := none
  /-- Changes of the lane rate (R202). -/
  rateChanges : Nat := 0
  /-- The other port of a ply that this one was a member of when the ply lost a member (R164, R166); and a survivor of a tight ply that trains
  its lanes anew (R120, log entry 120). -/
  mate : Option (Nat × Nat) := none
  retrain : Bool := false
  /-- The cell sent in the last stitch; none is an idle cell. -/
  line : Option Cell := none
  /-- The blocks that were sent last, each with its lane index, in port block order (R85, R86). -/
  sent : List (Nat × Block) := []
  /-- Shell (R109, R110): the consecutive idle stitches sent, the lane block from which Shell may end, and an exit that waits for it. -/
  idleRun : Nat := 0
  shellUntil : Nat := 0
  exitDue : Bool := false
  /-- The far end woke this one from Husk: rows resume at the row of its TRAIN blocks (R112). -/
  rowFromTrain : Bool := false
  /-- The receive side (R90, R91, R96, R97): row and port block to be received next, scrambler state of each lane index, the lane index that
  each received lane carries, and the last 32 headers of each received lane, a bit for each valid one, the latest in bit 0. -/
  rxRow : Nat := 0
  rxBlk : Nat := 0
  rxScr : List (BitVec 31) := []
  laneIx : List Nat := [0, 1]
  heads : List Nat := [0, 0]
  /-- What is left of each child's round in the scheduler tree of the port (R196), and the LEVELs of its service nodes in the present round
  (R197). -/
  dwrr : List (Nat × Nat) := []
  levels : List Nat := []
  deriving DecidableEq, Repr

/-- What a display input holds beside its registers (R209 to R232). -/
structure Din where
  /-- The EDID that EDID_PROXY_SET loaded; none while the board table's stands (R211). -/
  fixedEdid : Option (List Byte) := none
  /-- The far EDID taken; and the blocks of one arriving: their count and each block's bytes. -/
  farEdid : Option (List Byte) := none
  farCount : Nat := 0
  farBlocks : List (Nat × List Byte) := []
  /-- The HPD pulse of R212 runs. -/
  pulse : Bool := false
  /-- Frame number of the next coded frame, and whether it is FULL (R229). -/
  nextFrame : Nat := 0
  full : Bool := true
  /-- Timing, format and coded form at the last frame start (R210). -/
  lastForm : List Nat := []
  /-- Hash and KIND of each tile as last sent in a completed frame, and of the frame in transmission (R218). -/
  committed : List (Nat × Word × Nat) := []
  sent : List (Nat × Word × Nat) := []
  /-- A frame is in transmission, and the report words of Table 6.16 it will leave: the five words from 0x100 and the histogram. -/
  sending : Bool := false
  report : List Nat := []
  hist : List Nat := []
  /-- Tile rows that REFRESH requests have named since the last coded frame began: first row and count; and ALL (R232). -/
  refresh : List (Nat × Nat) := []
  refreshAll : Bool := false
  deriving DecidableEq, Repr

/-- A record of a display skein (Table 7.2): its tile row and group, KIND, bound and data of each column, and whether its check word has
been written (R373). -/
structure SinkRec where
  row : Nat
  group : Nat
  tiles : List (Nat × Nat × List Byte)
  checked : Bool := false
  deriving DecidableEq, Repr

/-- A frame set (R238): its number, the frame and its FRAME_START words, the index words that are VALID (3 × row + group, and the record
offset of the word), the rows received in it with every tile, and the tiles received. -/
structure FrameSet where
  set : Nat
  frame : Nat
  size : Word
  form : Word
  index : List (Nat × Nat) := []
  rows : List Nat := []
  whole : List Nat := []
  tiles : Nat := 0
  deriving DecidableEq, Repr

/-- What a display output holds beside its registers (R237 to R268). -/
structure Dout where
  front : Option FrameSet := none
  ready : Option FrameSet := none
  build : Option FrameSet := none
  /-- FRAME_END has arrived for BUILD: its tile count; and it waits for rows named in REFRESH (R232), or for its record scan (R373). -/
  ended : Bool := false
  scanning : Bool := false
  /-- Base of BUILD (R240). -/
  base : Option FrameSet := none
  /-- The records by their place: the offset from the skein base in units of 64 bytes, as index words hold it (Table 7.1, R239). -/
  recs : List (Nat × SinkRec) := []
  /-- Frame number of the last FRAME_START. -/
  lastStart : Option Nat := none
  /-- Rows named in REFRESH that have not arrived, and ALL. -/
  need : List Nat := []
  needAll : Bool := false
  /-- EV_FSTORE_FULL last logged, and records refused since. -/
  fullLog : Option Nat := none
  refused : Nat := 0
  /-- Output frames since the generator started (R247, R253). -/
  frames : Nat := 0
  /-- Frames flipped and repeated since the tunnel opened (R253). -/
  flips : Nat := 0
  repeats : Nat := 0
  /-- Consecutive frames with no flip of a frame that sent a tile; entry into self-refresh is signalled; the panel has to be trained on
  exit; the exit is under way; a new rate is trained behind self-refresh (R256, R266). -/
  idle : Nat := 0
  psrArmed : Bool := false
  trainOnExit : Bool := false
  psrLeaving : Bool := false
  behind : Bool := false
  /-- Training has passed, and the output waits for the next frame boundary (R258). -/
  up : Bool := false
  /-- A change of lane count or rate is being trained (R265, R266). -/
  changing : Bool := false
  /-- EDID of the panel (R255). -/
  edid : List Byte := []
  /-- A staged change of P and PHASE: PERIOD_NS, PERIOD_FRAC, PHASE_NS (R265); a staged DOUT_PAIR (R260). -/
  lockStaged : Option (Word × Word × Word) := none
  pairStaged : Option Word := none
  /-- The first correction may lengthen a VFP (R262); frames in a row within 100 ns. -/
  jump : Bool := false
  lockRun : Nat := 0
  /-- The pattern shown and its colour (R268). -/
  pattern : Nat := 0
  color : Word := 0
  /-- The tunnel has closed (R249). -/
  blanked : Bool := false
  deriving DecidableEq, Repr

/-- A non-posted request that a bridge has forwarded into its tunnel (R280): requester, tag, address, bytes still to come, what it
reserves in the CPL buffer, and its header. -/
structure NpOut where
  reqId : Nat
  tag : Nat
  addr : Nat
  left : Nat
  resvH : Nat
  resvD : Nat
  hdr : List Byte
  deriving DecidableEq, Repr

/-- A read-ahead request in flight (R286): its number, tag, address, length, the data so far, the completer, the window, and the cause
for which it is to be discarded on arrival, 0 for none. -/
structure RaReq where
  num : Nat
  tag : Nat
  addr : Nat
  len : Nat
  got : List Byte := []
  win : Nat
  cut : Nat := 0
  deriving DecidableEq, Repr

/-- Held read-ahead data: the request it came with, its address, bytes, completer ID and window. -/
structure RaPiece where
  num : Nat
  addr : Nat
  data : List Byte
  completer : Nat
  win : Nat
  deriving DecidableEq, Repr

/-- What a PCIe bridge holds beside its registers (R272 to R292). -/
structure Bridge where
  /-- Form in force: 0 Off, 1 host end, 2 dock end. -/
  form : Nat := 0
  /-- PX_PERST_N is low at the host end; PX_WAKE_N is driven low. -/
  perst : Bool := false
  wakeOut : Bool := false
  /-- TLPs from the X link that wait for the tunnel, oldest first (R278, R281), and TLPs put on the X link since it last came up. -/
  toTunnel : List (List Byte) := []
  xOut : List (List Byte) := []
  np : List NpOut := []
  /-- Credit that the far bridge may still use, and credit freed and not yet returned, as headers and data: P, NP, and CPL discards. -/
  leftP : Nat × Nat := (64, 2048)
  leftNp : Nat × Nat := (64, 128)
  freedP : Nat × Nat := (0, 0)
  freedNp : Nat × Nat := (0, 0)
  freedCpl : Nat × Nat := (0, 0)
  /-- Windows in force: base, size and DEPTH by number (R285). -/
  windows : List (Nat × Nat × Nat × Nat) := []
  raReqs : List RaReq := []
  raHeld : List RaPiece := []
  raNum : Nat := 0
  /-- Host reads that wait for data in flight (R286). -/
  raWait : List (List Byte) := []
  /-- Entries in the discard log; EV_PCIE_RA_DISCARD last logged; discards and bytes since. -/
  logCount : Nat := 0
  raLogged : Option Nat := none
  raSince : Nat × Nat := (0, 0)
  /-- Bus number of the upstream port, and words of configuration space that differ from their reset value: 1,024 × function + word
  (function 0 upstream port, 1 management function, 2 virtual downstream port). -/
  busN : Nat := 0
  cfg : List (Nat × Word) := []
  /-- Slot of the virtual downstream port (R290): Presence Detect State and its change, DL Link Active and its change, Surprise Down
  status, Unsupported Request status of the upstream port, and hot-plug interrupts signalled. -/
  pds : Bool := false
  pdc : Bool := false
  dll : Bool := false
  dllsc : Bool := false
  surprise : Bool := false
  unsupported : Bool := false
  hotPlug : Nat := 0
  /-- Far link width and speed, PME and PRESENT at the dock end; a Secondary Bus Reset came during the hold (R291). -/
  farWidth : Nat := 0
  farSpeed : Nat := 0
  farPme : Bool := false
  present : Bool := false
  heldReset : Bool := false
  /-- Target speed that LINK_CTRL last gave. -/
  target : Nat := 0
  deriving DecidableEq, Repr

/-- What an end of the hub answers on a bus. -/
inductive UsbAnswer where
  | silent | ack | nak | nyet | stall
  | data (toggle : Bool) (bytes : List Byte)
  deriving DecidableEq, Repr

/-- An endpoint context of a USB hub (R303). -/
structure UsbEp where
  /-- Bits [19:12] of the token word: TT port, SPLIT, LS and type (R316). -/
  attr : Nat := 0
  /-- When the context was last used. -/
  used : Nat := 0
  /-- The data toggle of this end's own side (R305). -/
  tog : Bool := false
  /-- Fetched IN data at the host end; OUT data awaiting delivery at the dock end. -/
  held : List (List Byte) := []
  /-- OUT credit in packets: what the host end holds, what the dock end has granted and not seen used (R300). -/
  credit : Nat := 0
  /-- IN packets asked for and not yet there (R299). -/
  want : Nat := 0
  /-- Tokens are answered STALL; the next token gets no handshake (R301). -/
  stall : Bool := false
  err : Bool := false
  /-- Handshake that has come back for a split or a status-OUT stage: 0 ACK, 1 NAK. -/
  res : Option Nat := none
  /-- A status-OUT stage has been sent on (R299). -/
  outSent : Bool := false
  /-- SETUP of the control transfer, its data stage so far, and at the dock end a newer SETUP that waits while one is on the bus (R298). -/
  ctl : List Byte := []
  got : List Byte := []
  next : Option (List Byte) := none
  onBus : Bool := false
  deriving DecidableEq, Repr

/-- An endpoint as a configuration descriptor gives it (R304): interface, alternate setting, endpoint address, type, maximum packet,
interval in micro-frames. -/
structure UsbDesc where
  iface : Nat
  alt : Nat
  epAddr : Nat
  ty : Nat
  maxPkt : Nat
  interval : Nat
  deriving DecidableEq, Repr

/-- A device behind ports 1 to 4: its port, and the endpoints of the configuration descriptor that the hub has forwarded. -/
structure UsbDev where
  port : Nat := 0
  descs : List UsbDesc := []
  deriving DecidableEq, Repr

/-- An active isochronous endpoint (R304): its key, interval, and the micro-frames in which the host first and last addressed it. -/
structure UsbIso where
  key : Nat
  interval : Nat
  first : Option Nat := none
  last : Nat
  deriving DecidableEq, Repr

/-- What a USB hub and its management function hold beside their registers (R295 to R316). -/
structure Hub where
  /-- Form in force (0 Off, 1 host end, 2 dock end), and the upstream port connected. -/
  form : Nat := 0
  conn : Bool := false
  /-- Address and configuration of the hub device; status and changes of port 5. -/
  hubAddr : Nat := 0
  hubConf : Nat := 0
  port5 : Word := 0
  /-- What the host end last answered on the upstream bus. -/
  answer : UsbAnswer := .silent
  eps : List (Nat × UsbEp) := []
  devs : List (Nat × UsbDev) := []
  /-- Port whose device was reset last and answers at address 0. -/
  zeroPort : Nat := 0
  /-- Isochronous endpoints that requests have selected, those active, and isochronous data held: key, micro-frame, bytes. -/
  isoSel : List UsbIso := []
  isoAct : List UsbIso := []
  isoData : List (Nat × Nat × List Byte) := []
  /-- Isochronous data sent to devices in the present micro-frame. -/
  isoSent : List (Nat × List Byte) := []
  /-- Micro-frame number. -/
  uf : Nat := 0
  /-- When the host end entered Suspended; a host resume is in progress; the wake whose upstream K waits: port and start. -/
  suspendAt : Nat := 0
  resuming : Bool := false
  wake : Option (Nat × Nat) := none
  /-- Dock end: 0 SOF runs, 1 suspended, 2 K is driven. Ports that signal remote wake, as mask. -/
  bus : Nat := 0
  waking : Nat := 0
  /-- The port request whose status stage waits for the dock end: port and command (R297). -/
  waitReq : Option (Nat × Nat) := none
  /-- EV_USB_EP_OVERFLOW and EV_USB_DISCARD last logged, and the counts since. -/
  overLog : Option Nat := none
  overSince : Nat := 0
  discLog : Option Nat := none
  discSince : Nat × Nat := (0, 0)
  /-- The reply and the event being read on EP1 IN and EP2 IN, with the bytes taken so far. -/
  repTx : Option (Packet × Nat) := none
  evtTx : Option (EventItem × Packet × Nat) := none
  deriving DecidableEq, Repr

/-- What an Ethernet port holds beside its registers (R319 to R340). -/
structure EthPort where
  /-- Frames put on the medium since the link last came up. -/
  out : List (List Byte) := []
  /-- A received PAUSE holds transmission until then. -/
  pauseEnd : Nat := 0
  /-- The Pdelay_Req sent last: its sequence number and instant; the answer to it while the follow-up is awaited: T2, T4 and the
  correction. Instants count in 2^-16 ns of TAI. -/
  pdSeq : Nat := 0
  pdT1 : Option Int := none
  pdResp : Option (Int × Int × Int) := none
  /-- meanLinkDelay in 2^-16 ns. -/
  delay : Option Int := none
  deriving DecidableEq, Repr

/-- What the Ethernet adapters of a kernel hold together: the PRP pair (R323 to R326) and the PTP clocks (R338 to R340). -/
structure Net where
  e0 : EthPort := {}
  e1 : EthPort := {}
  /-- RCT sequence counter of the pair itself, and of each VDAN with its MAC address and when it last sent; the supervision count. -/
  ownSeq : Nat := 0
  proxy : List (Nat × Nat × Nat) := []
  supSeq : Nat := 0
  /-- Discard entries, newest first: source MAC, sequence number, LAN; and those forgotten whose other copy may still come (R325). -/
  seen : List (Nat × Nat × Nat) := []
  gone : List (Nat × Nat × Nat) := []
  /-- Corrections owed to the Follow_Up of a two-step Sync: port identity with sequence number, and 2^-16 ns (R338). -/
  owed : List (List Byte × Int) := []
  /-- The ordinary clock: portState, the data set of its best master with the port it came by, the two-step Sync that waits for its
  Follow_Up, Sync intervals in a row within 1 µs, and the sequence numbers of its own Announce and Sync messages. -/
  ocState : Nat := 4
  master : Option (List Nat × Nat) := none
  sync : Option (List Byte × Int × Int) := none
  good : Nat := 0
  annSeq : Nat := 0
  syncSeq : Nat := 0
  deriving DecidableEq, Repr

/-- The timebase and its inputs beside TIME_STATE (R327 to R333): REFCLK present; the last PPS edge and the good edges in a row; the TAI
second that the last IRIG frame named, when it ended, the good frames in a row and the wrong ones; when Holdover began; and when the
last correction was made. -/
structure Timebase where
  refclk : Bool := false
  ppsAt : Option Nat := none
  ppsRun : Nat := 0
  irigSec : Option Int := none
  irigAt : Nat := 0
  irigRun : Nat := 0
  irigBad : Nat := 0
  lostAt : Nat := 0
  fixAt : Nat := 0
  deriving DecidableEq, Repr

/-- What a mapped signal holds beside its registers (R349 to R366): the Q32.16 result, quality and time published last, none before the first;
when an entry for its channel last arrived; and when its channel was last sent. -/
structure Sig where
  pub : Option Int := none
  qPub : Nat := 0
  tPub : Nat := 0
  rxAt : Option Nat := none
  sentAt : Option Nat := none
  deriving DecidableEq, Repr

/-- A GOOSE subscription beside its registers (R356, R357): member types, gocbRef, confRev; a frame has been accepted; when its
timeAllowedToLive ends; and the mismatching confRev reported last. -/
structure GooseSub where
  types : List Nat := []
  gocbRef : List Byte := []
  confRev : Nat := 0
  got : Bool := false
  talEnd : Option Nat := none
  badRev : Option Nat := none
  deriving DecidableEq, Repr

/-- A GOOSE publication beside its registers (R358, R359): its VLAN tag, destination, APPID, confRev, T_MIN and T0 in ms, members (signal and
kind) and strings; when the last new state began; the time of changes that are being gathered; the interval to the next transmission in ms;
and t of the state. -/
structure GoosePub where
  tag : List Byte := []
  mac : Nat := 0
  appid : Nat := 0
  confRev : Nat := 0
  tMin : Nat := 2
  t0 : Nat := 1000
  members : List (Nat × Nat) := []
  gocbRef : List Byte := []
  datSet : List Byte := []
  goId : List Byte := []
  newAt : Option Nat := none
  gather : Option Nat := none
  interval : Nat := 0
  t : Nat := 0
  deriving DecidableEq, Repr

/-- A kernel's signal mapper; `due` lists the signals whose channels are to be sent, in the order of their changes. -/
structure Mapper where
  sigs : List (Nat × Sig) := []
  subs : List (Nat × GooseSub) := []
  pubs : List (Nat × GoosePub) := []
  due : List Nat := []
  deriving DecidableEq, Repr

/-- What the power path holds beside its registers (R377 to R394): PANEL and the feeds in mV; the feeds that have risen above UV + 0.5 V and
not since fallen below UV, as mask; when EV_FEED_CHANGE was last logged, and a change since; LOAD_INRUSH as the present ramp uses it. -/
structure PowerPath where
  panel : Nat := 0
  feedMv : List Nat := [0, 0, 0, 0]
  feedOk : Nat := 0
  feedLog : Option Nat := none
  feedDue : Bool := false
  inrush : Word := 0
  /-- The warning that stands: when PANEL fell below WARN, its lowest value in mV, the duration of the dip in µs once PANEL has risen and
  HOLD runs; whether it reached DROP; and whether it stands from the rise of PANEL alone. -/
  warnAt : Nat := 0
  dipLow : Nat := 0
  dipDur : Option Nat := none
  dropped : Bool := false
  rising : Bool := false
  /-- Energy of channels 0 to 4 in 156.25 pJ, the converter codes of the last samples, newest first, and the lowest voltage and highest
  current of each channel since they were read. -/
  energy : List Int := [0, 0, 0, 0, 0]
  samples : List (List (Nat × Int)) := []
  vmin : List (Option Nat) := []
  imax : List (Option Int) := []
  /-- Events that wait for the lead Needle to run. -/
  owed : List (EvDef × Nat × List Nat) := []
  deriving DecidableEq, Repr

/-- USB PD messages and signals that a Hook sends. -/
inductive PdMsg where
  | sourceCaps (pdos : List Word)
  /-- PDO index less 1, voltage in 20 mV, current in 10 mA, Capability Mismatch. -/
  | request (index volts amps : Nat) (mismatch : Bool)
  | accept | reject | psRdy | softReset | hardReset | notSupported
  | prSwap | drSwap | vconnSwap | frSwap | frsSignal | eprKeepAlive
  /-- Discover Identity on SOP′. -/
  | cableIdentity
  /-- Discover Identity, SVIDs and Modes, 0 to 2. -/
  | discover (kind : Nat)
  /-- Enter Mode with an SVID and a mode index. -/
  | enterMode (svid mode : Nat)
  /-- The ACK or NAK of one of them; 3 is Enter Mode. -/
  | vdmAck (kind : Nat)
  | vdmNak (kind : Nat)
  deriving DecidableEq, Repr

/-- What a Hook holds beside its registers (R398 to R415): messages sent since the attach; the contract asked for or in transition
(PDC_CONTRACT and PDC_CONTRACT_VI words); the request that MODE 1 names; PD_SINK_REQUEST waiting for its outcome. -/
structure Hook where
  out : List PdMsg := []
  pend : Option (Word × Word) := none
  named : Option (Nat × Nat × Nat) := none
  ask : Option Req := none
  /-- The lead whose Needle executes that request (R56). -/
  askKernel : Nat := 0
  /-- The capabilities it offers, and those that it was last sent with; the partner takes part in fast role swaps. -/
  offer : List Word := []
  partnerFrs : Bool := false
  /-- A UFP that waits for Enter Mode; a DR_Swap or VCONN_Swap asked and not answered; a keep-alive that fell due in a transition. -/
  modeWait : Bool := false
  drAsked : Bool := false
  vconnAsked : Bool := false
  keepDue : Bool := false
  /-- Discover Identity on SOP′ waits for its answer; discovery of the modes has begun; Hard_Reset arrived while the Hook was stopped. -/
  cableAsked : Bool := false
  modesBegun : Bool := false
  hardDue : Bool := false
  /-- The image that runs (0 ROM, 1 A, 2 B), and a new one that waits. -/
  image : Nat := 0
  newImage : Bool := false
  /-- The running sink block: voltages in 20 mV, current in 10 mA, power in 0.25 W, EPR; and the DR_Swap of R403. -/
  vmin : Nat := 0
  vmax : Nat := 0
  imax : Nat := 0
  pmin : Nat := 0
  epr : Bool := false
  ufpSwap : Bool := false
  deriving DecidableEq, Repr

/-- A key slot beside KEY_ATTR and KEY_INFO (R421): the recipe and the value of a secret slot, and the public key as 97 bytes. -/
structure KeySlot where
  label : List Byte := []
  context : List Byte := []
  secret : List Byte := []
  pub : List Byte := []
  deriving DecidableEq, Repr

/-- Images (R414, R439 to R448): the Hook policy image and the board table that are being received, and APPLY; the firmware image that is
being written, its stated length, and when its session last had a packet; the header of each firmware slot once written, and the kernels whose
copy of a slot is valid, as masks for A and B. -/
structure Images where
  hook : List Byte := []
  apply : Bool := false
  table : List Byte := []
  fw : List Byte := []
  fwLen : Nat := 0
  fwLast : Nat := 0
  headers : List (List Byte) := [[], []]
  copies : List Nat := [255, 0]
  /-- The board table in force as an image, none when empty; the staged one and whether it is pending; the power-path section in force
  with the version of its table, and the one pending; and what the table in force gives beyond registers: EDIDs by 2 × kernel + input,
  certificate chains by slot, USB strings by kernel, module matches by kernel. -/
  board : List Byte := []
  staged : List Byte := []
  stagedDue : Bool := false
  powerPath : List Word := []
  powerVersion : Word := 0
  powerStaged : Option (List Word × Word) := none
  edids : List (Nat × List Byte) := []
  chains : List (Nat × List Byte) := []
  strings : List (Nat × List Byte) := []
  modules : List (Nat × List Byte) := []
  deriving DecidableEq, Repr

/-- The part as a whole (R453 to R472): the kept ports of Quiet entry as mask by 4 × kernel + port, and a wake that came during it; the
SEED_DELAY that runs, and Seed; when recoveries of kernels began, newest first; resets that wait for their replies (scope, kernel, unit, and
the time at which each no longer waits); the cause of the reset that holds the kernels. -/
structure PartState where
  kept : Nat := 0
  wake : Bool := false
  seedDue : Bool := false
  seed : Bool := false
  recoveries : List (Nat × Nat) := []
  resetWait : List (Nat × Nat × Nat × Nat) := []
  cause : Nat := 1
  /-- Entries that wait in CTRL while the log ring cannot be written (R454), by kernel: how many, and how many were dropped. -/
  quietLog : List (Nat × Nat × Nat) := []
  /-- VAON is present (R459); the Hooks that have not yet started from their ROM since it rose, as mask (R400). -/
  vaon : Bool := true
  romDue : Nat := 3
  /-- When EV_KEY_DENIED was last logged. -/
  deniedAt : Option Nat := none
  /-- ROM recovery (R441, R461). -/
  rom : Bool := false
  /-- The part has reached step 7 of its start sequence since its reset: WRITE_PACKET is taken, or refused with STAT_FRAME_ERR (R45). -/
  spiSeen : Bool := false
  /-- The life-cycle state that the fuses give, and the master that advanced it (R430, R431). -/
  fuses : Nat := 0
  fuseMaster : Nat := 0
  deriving DecidableEq, Repr

/-- Why a step stops with a fault. The spec names no condition in which the block stops, so there is none. -/
inductive Fault where
  deriving DecidableEq, Repr

/-- Why a command has no outcome in this model. -/
inductive Refusal where
  /-- The command's meaning is not written yet; raised by the dispatcher only; safe. -/
  | notModelled (mnemonic : String)
  deriving DecidableEq, Repr

/-- The controller states of the test access port (IEEE 1149.1). -/
inductive TapState where
  | logicReset | runIdle
  | selectDr | captureDr | shiftDr | exit1Dr | pauseDr | exit2Dr | updateDr
  | selectIr | captureIr | shiftIr | exit1Ir | pauseIr | exit2Ir | updateIr
  deriving DecidableEq, Repr

/-- What the 8-bit instruction register of a die selects (R502); `debug` stands for every other instruction. -/
inductive TapInstr where
  | bypass | idcode | sample | extest | extestPulse | debug
  deriving DecidableEq, Repr

/-- The test access port: its controller, the instruction in force in each die from TDI to TDO (IDCODE where none has been loaded), the bits of the
selected registers between TDI and TDO with the one next to TDO first, and TDO. -/
structure Tap where
  ctrl : TapState := .logicReset
  instrs : List TapInstr := []
  shift : List Bool := []
  tdo : Bool := false
  deriving DecidableEq, Repr

/-- The state of one part. -/
structure State where
  variant : Variant
  /-- Nanoseconds since power-on. -/
  now : Nat
  /-- TAI minus `now`: the timebase (R327). -/
  taiOff : Int
  /-- Fraction of a nanosecond of the timebase, in 2^-16 ns. -/
  taiFrac : Nat
  /-- The model's own counter of open values drawn (log entry 5). -/
  free : Nat
  /-- What the last register read returned. -/
  readOut : Word
  /-- The kernel that holds the lead (R25, R471). -/
  lead : Nat
  /-- Every register that does not hold its reset word (R475). -/
  regs : List (Nat × Word)
  ends : List (Nat × Endpoint)
  spi : SpiPins
  pcieFns : List (Nat × PcieFn)
  jobs : List Job
  /-- The job number given last. -/
  lastJob : Nat
  kerns : List (Nat × Kern)
  /-- Wake interrupts raised to Needles and Hooks, counted by owner number (Table 2.13). -/
  irqs : List (Nat × Nat)
  /-- Hooks that have stopped and not yet run again (R468). -/
  hooksDown : List Nat
  ports : List (Nat × Port)
  /-- REGAUGE requests whose checks wait for the partner (R154). -/
  gaugeWaits : List GaugeWait
  ctxs : List (Nat × Ctx)
  /-- SEQ, replay and credit state of each raw route, by 2 × (1,024 × kernel + route) + member of a loose ply. -/
  routeCtxs : List (Nat × Ctx)
  /-- Cells on their way over seams, oldest first. -/
  flights : List Flight
  /-- Packets of local-output legs and of tunnels that end at a display output, oldest first, by 2 × kernel + output (R187). -/
  localRx : List (Nat × List (List Byte))
  /-- Packets that an adapter has made and not yet handed over, oldest first, by 16 × kernel + adapter (R132, R181). -/
  outbox : List (Nat × List (List Byte))
  /-- Display inputs and outputs, by 2 × kernel + index. -/
  dins : List (Nat × Din)
  douts : List (Nat × Dout)
  /-- PCIe bridges by kernel. -/
  bridges : List (Nat × Bridge)
  /-- USB hubs by kernel. -/
  hubs : List (Nat × Hub)
  /-- Ethernet by kernel, and the timebase. -/
  nets : List (Nat × Net)
  /-- Signal mappers by kernel. -/
  maps : List (Nat × Mapper)
  tb : Timebase
  path : PowerPath
  /-- Hooks 0 and 1. -/
  hooks : List (Nat × Hook)
  /-- Key slots. -/
  keys : List (Nat × KeySlot)
  images : Images
  part : PartState
  tap : Tap
  pending : List Instr
  deriving DecidableEq, Repr

/-- The part after power-on reset (R459): the power die released, every kernel held, nothing waiting. -/
def State.reset : State where
  variant := .eln8
  now := 0
  taiOff := 0
  taiFrac := 0
  free := 0
  readOut := 0
  lead := 0
  regs := []
  ends := []
  spi := {}
  pcieFns := []
  jobs := []
  lastJob := 0
  kerns := []
  irqs := []
  hooksDown := []
  ports := []
  gaugeWaits := []
  ctxs := []
  routeCtxs := []
  flights := []
  localRx := []
  outbox := []
  dins := []
  douts := []
  bridges := []
  hubs := []
  nets := []
  maps := []
  tb := {}
  path := {}
  hooks := []
  keys := []
  images := {}
  part := {}
  tap := {}
  pending := []

end Sys2Proof.Machine
end

