-- ==== Sys2Proof/Machine/Ops.lean ====
section
/-! DEFINITION. The named operations over the state that every meaning uses: registers and their fields, counters, open values, sparse
maps of transports, kernels, ports and contexts, which units exist, and the two forms a meaning ends in. -/

namespace Sys2Proof.Machine

abbrev Result := Host.Outcome State Fault Refusal

/-! ### Which units exist (R1, R6) -/

/-- The number of kernels of a variant (R1). -/
def Variant.kernels : Variant → Nat
  | .eln2 => 2
  | .eln4 => 4
  | .eln8 => 8

def State.hasKernel (s : State) (k : Nat) : Bool := decide (k < s.variant.kernels)

def State.hasPort (s : State) (k p : Nat) : Bool := s.hasKernel k && decide (p < 4)

/-- An event of the environment that names a unit takes effect, state f, only where the variant has the unit; a unit that the part does not
have brings none about (log entry 37). -/
def onUnit (s : State) (present : Bool) (f : State) : Result := .next (if present then f else s)

/-! ### Registers (R475) -/

/-- The word a register holds. -/
def State.reg (s : State) (a : Nat) : Word := smapGet resetWord s.regs a

/-- The state with a register set to a word. -/
def State.setReg (s : State) (a : Nat) (w : Word) : State := { s with regs := smapPut resetWord s.regs a w }

/-- A field of a register. -/
def State.rf (s : State) (a lo n : Nat) : Nat := fld (s.reg a) lo n

/-- A one-bit field of a register. -/
def State.rb (s : State) (a i : Nat) : Bool := bitAt (s.reg a) i

def State.setRf (s : State) (a lo n v : Nat) : State := s.setReg a (setFld (s.reg a) lo n v)

def State.setRb (s : State) (a i : Nat) (b : Bool) : State := s.setReg a (setBit (s.reg a) i b)

/-- Several registers set, in order. -/
def State.setRegs (s : State) (l : List (Nat × Word)) : State := l.foldl (fun s e => s.setReg e.1 e.2) s

/-- Every register of an address range back at its reset word (R464). -/
def State.resetRange (s : State) (lo hi : Nat) : State :=
  { s with regs := s.regs.filter fun e => !(decide (lo ≤ e.1) && decide (e.1 < hi)) }

/-- Registers of one block back at their reset words. -/
def State.resetBlock (s : State) (u blk : Nat) : State := s.resetRange (regAddr u blk 0) (regAddr u (blk + 1) 0)

/-- An open value (log entry 5) and the state with the counter advanced. -/
def State.fresh (s : State) : Word × State := (Config.freeWord s.free, { s with free := s.free + 1 })

/-- A counter raised by n. The spec does not say what a count beyond 32 bits reads as: an open value (log entry 6). -/
def State.bump (s : State) (a n : Nat) : State :=
  if (s.reg a).toNat + n < 4294967296 then s.setReg a (word ((s.reg a).toNat + n))
  else s.fresh.2.setReg a s.fresh.1

/-- A counter the spec calls saturating, in a field. -/
def State.bumpSat (s : State) (a lo n inc : Nat) : State := s.setRf a lo n (min (s.rf a lo n + inc) (2 ^ n - 1))

/-! ### Transports, kernels, ports and contexts -/

/-- The key of a transport. -/
def viaKey : Via → Nat
  | .spi => 0
  | .pcie k => 16 + k
  | .usb k => 32 + k
  | .link k p => 64 + 4 * k + p
  | .needle n => 128 + n
  | .hook h => 192 + h

/-- The master number of a transport (Table 2.4), which is also its owner number (Table 2.12). -/
def master : Via → Nat
  | .spi => 1
  | .pcie _ => 2
  | .usb _ => 3
  | .link _ _ => 4
  | .needle n => 8 + n
  | .hook h => 16 + h

/-- The kernel that UNIT 0xE means on a transport (Table 2.4). A Hook has none; its accesses name their unit. -/
def localKernel : Via → Nat
  | .spi => 0
  | .pcie k => k
  | .usb k => k
  | .link k _ => k
  | .needle n => n
  | .hook _ => 0

def State.ep (s : State) (v : Via) : Endpoint := smapGet (fun _ => {}) s.ends (viaKey v)

def State.setEp (s : State) (v : Via) (e : Endpoint) : State :=
  { s with ends := smapPut (fun _ => {}) s.ends (viaKey v) e }

def State.pcieFn (s : State) (k : Nat) : PcieFn := smapGet (fun _ => {}) s.pcieFns k

def State.setPcieFn (s : State) (k : Nat) (f : PcieFn) : State :=
  { s with pcieFns := smapPut (fun _ => {}) s.pcieFns k f }

def State.kern (s : State) (k : Nat) : Kern := smapGet (fun _ => {}) s.kerns k

def State.setKern (s : State) (k : Nat) (x : Kern) : State := { s with kerns := smapPut (fun _ => {}) s.kerns k x }

def State.hub (s : State) (k : Nat) : Hub := smapGet (fun _ => {}) s.hubs k

def State.setHub (s : State) (k : Nat) (x : Hub) : State := { s with hubs := smapPut (fun _ => {}) s.hubs k x }

def State.net (s : State) (k : Nat) : Net := smapGet (fun _ => {}) s.nets k

def State.setNet (s : State) (k : Nat) (x : Net) : State := { s with nets := smapPut (fun _ => {}) s.nets k x }

def State.mapper (s : State) (k : Nat) : Mapper := smapGet (fun _ => {}) s.maps k

def State.setMapper (s : State) (k : Nat) (x : Mapper) : State := { s with maps := smapPut (fun _ => {}) s.maps k x }

/-- Key of port p of kernel k. -/
def portKey (k p : Nat) : Nat := 4 * k + p

def State.port (s : State) (k p : Nat) : Port := smapGet (fun _ => {}) s.ports (portKey k p)

def State.setPort (s : State) (k p : Nat) (x : Port) : State :=
  { s with ports := smapPut (fun _ => {}) s.ports (portKey k p) x }

/-- Key of context t of kernel k. The shared contexts T4 and T5 keep one queue for each port p they serve (R126, R134); a tunnel on a
loose ply keeps one for each member, p counting the members from 0. -/
def ctxKey (k t p : Nat) : Nat := (512 * k + t) * 32 + (if t < 4 then 0 else p % 32)

def State.ctxAt (s : State) (k t p : Nat) : Ctx := smapGet (fun _ => {}) s.ctxs (ctxKey k t p)

def State.setCtxAt (s : State) (k t p : Nat) (x : Ctx) : State :=
  { s with ctxs := smapPut (fun _ => {}) s.ctxs (ctxKey k t p) x }

def State.ctx (s : State) (k t : Nat) : Ctx := s.ctxAt k t 0

/-- Cells that a byte string of a packet takes. -/
def cellCount (n : Nat) : Nat := max 1 (ceilDiv n 64)

/-- The depth of a receive queue: cells of whole packets waiting and of the open packet. -/
def Ctx.rxDepth (c : Ctx) : Nat :=
  (c.rxq.map fun b => cellCount b.2.length).foldl (· + ·) 0 + (match c.rxOpen with | some b => ceilDiv b.length 64 | none => 0)

/-- Key of raw route r of kernel k for member m of a loose ply, 0 where there is none (R134). -/
def routeKey (k r m : Nat) : Nat := 2 * (1024 * k + r) + m

def State.routeCtx (s : State) (key : Nat) : Ctx := smapGet (fun _ => {}) s.routeCtxs key

def State.setRouteCtx (s : State) (key : Nat) (x : Ctx) : State :=
  { s with routeCtxs := smapPut (fun _ => {}) s.routeCtxs key x }

def State.setCtx (s : State) (k t : Nat) (x : Ctx) : State := s.setCtxAt k t 0 x

/-! ### Kernel and domain states -/

/-- KERNEL_STATE.STATE of kernel k (Table 16.10): Held while the power die holds the kernels in reset (R460). -/
def State.kernelState (s : State) (k : Nat) : Nat :=
  if s.rb Reg.AON_STATE 7 then 0 else s.rf (Reg.KERNEL_STATE k) 0 4

/-- A kernel that takes commands: Run or Quiet (R481). -/
def State.kernelRuns (s : State) (k : Nat) : Bool :=
  s.hasKernel k && (s.kernelState k == 2 || s.kernelState k == 3)

/-- The state of power domain d of kernel k, 1 to 12: 0 off, 1 on, 2 retention, 3 changing. -/
def State.domainState (s : State) (k d : Nat) : Nat := s.rf (Reg.PWR_DOM_STATE k) (2 * (d - 1)) 2

def State.domainOn (s : State) (k d : Nat) : Bool := s.domainState k d == 1

/-- The time of the timebase in TAI nanoseconds (R327). -/
def State.tai (s : State) : Nat := (s.taiOff + (s.now : Int)).toNat

end Sys2Proof.Machine
end

