-- ==== Sys2Proof/Machine/Line.lean ====
section
/-! DEFINITION. The lane (R85 to R98, R123): scrambler, data blocks and their stuffing, control blocks and their CHECK, what a receiver makes of
a block, how a lane locks, and the fragments of cast-on messages. -/

namespace Sys2Proof.Machine

/-! ### Scrambler (R91) -/

/-- One step of a lane's scrambler: its output and its next state. State bit i is s[i + 1]. -/
def scrBit (st : BitVec 31) : Bool × BitVec 31 :=
  let o := st.getLsbD 30 != st.getLsbD 27
  (o, (st <<< 1) ||| (if o then 1 else 0))

/-- The next n outputs as a number, the first one most significant, and the state after them. -/
def keyStream (n : Nat) (st : BitVec 31) : Nat × BitVec 31 :=
  (List.range n).foldl (fun a _ => let x := scrBit a.2; (2 * a.1 + x.1.toNat, x.2)) (0, st)

/-- The outputs for one block, and the states past n blocks. -/
def blockKey (st : BitVec 31) : BitVec 192 := BitVec.ofNat 192 (keyStream 192 st).1
def scrSkip (st : BitVec 31) (n : Nat) : BitVec 31 := (keyStream (192 * n) st).2

/-- The state a lane loads at the start of a row, and its state at lane block `lbn` of a row. -/
def scrSeed (lane : Nat) : BitVec 31 := BitVec.ofNat 31 (0x2AC35F10 + lane)
def scrAt (lane lbn : Nat) : BitVec 31 := scrSkip (scrSeed lane) lbn

/-! ### Data blocks (R85, R86, R92, R93) -/

def headerData : BitVec 3 := 0b010
def headerStuffed : BitVec 3 := 0b011
def headerControl : BitVec 3 := 0b101

/-- A header of Table 3.1; any other is invalid. -/
def validHeader (h : BitVec 3) : Bool := h == headerData || h == headerStuffed || h == headerControl

/-- Payload bits 47, 95, 143 and 191. -/
def stuffMask : BitVec 192 := BitVec.ofNat 192 (2 ^ 47 + 2 ^ 95 + 2 ^ 143 + 2 ^ 191)

/-- The longest run of equal bits in a payload. -/
def longestRun (p : BitVec 192) : Nat :=
  ((List.range 192).foldl (fun (a : Option Bool × Nat × Nat) i =>
    let b := p.getLsbD i
    let n := if a.1 = some b then a.2.1 + 1 else 1
    (some b, n, max a.2.2 n)) (none, 0, 0)).2.2

/-- The block that carries a scrambled payload; none where the cell is deferred (R92). -/
def dataBlock (p : BitVec 192) : Option Block :=
  if longestRun p ≤ 39 then some ⟨headerData, p⟩
  else if longestRun (p ^^^ stuffMask) ≤ 47 then some ⟨headerStuffed, p ^^^ stuffMask⟩
  else none

/-! ### CRC-16 (R88) -/

/-- The register of the CRC-16 with polynomial 0x1021 after one more bit. -/
def crc16Next (c : BitVec 16) (d : Bool) : BitVec 16 := if c.getLsbD 15 != d then (c <<< 1) ^^^ 0x1021 else c <<< 1

/-- The CRC-16 of the n low bits of a number, most significant first: initial value 0xFFFF, no reflection, no final XOR. -/
def crc16Bits (n x : Nat) : Nat :=
  ((List.range n).foldl (fun c i => crc16Next c (x.testBit (n - 1 - i))) (0xFFFF : BitVec 16)).toNat

/-! ### Control blocks (R88, R89) -/

/-- TYPE (Table 3.3). -/
def Control.type : Control → Nat
  | .train _ => 0x1E
  | .rowMark _ _ _ _ _ => 0x4B
  | .rowInfo _ _ _ _ _ _ => 0x4C
  | .idle => 0x33
  | .linkMsg _ _ _ _ => 0x5A
  | .shellEnter => 0x66
  | .huskEnter => 0x69
  | .bindEnd _ => 0x71

/-- A byte string as a number, its first byte most significant, padded with zeros to n bytes. -/
def bytesNum (n : Nat) (bs : List Byte) : Nat := (List.range n).foldl (fun a i => a * 256 + (bs.getD i 0).toNat) 0

/-- The fields of a body in order, each with its width (Tables 3.3, 10.5). -/
def Control.fields : Control → List (Nat × Nat)
  | .train t => [(2, t.lane), (2, t.lanes), (1, t.rxlock.toNat), (2, t.rate), (11, t.lbn), (32, t.row), (16, t.epoch), (31, t.scr)]
  | .rowMark lane lanes row epoch valid => [(2, lane), (2, lanes), (32, row), (16, epoch), (1, valid.toNat)]
  | .rowInfo tx er ex st you hops => [(56, tx), (8, er), (56, ex), (2, st), (1, you.toNat), (4, hops)]
  | .linkMsg msg frag last data => [(8, msg), (8, frag), (1, last.toNat), (128, bytesNum 16 data)]
  | .bindEnd reason => [(8, reason)]
  | _ => []

/-- Fields packed most significant first into n bits, the rest zero. -/
def packMsb (n : Nat) : List (Nat × Nat) → Nat
  | [] => 0
  | f :: fs => f.2 % 2 ^ f.1 * 2 ^ (n - f.1) + packMsb (n - f.1) fs

/-- The 180 content bits: TYPE, body and CHECK. -/
def Control.content (c : Control) : Nat :=
  let x := c.type * 2 ^ 156 + packMsb 156 c.fields
  x * 2 ^ 16 + crc16Bits 164 x

/-- The pad bits of the six words as they are on the line, 10 in each, and where they lie. -/
def padBits : BitVec 192 := BitVec.ofNat 192 ((List.range 6).map fun i => 2 ^ (32 * i + 31)).sum
def padMask : BitVec 192 := BitVec.ofNat 192 ((List.range 6).map fun i => 3 * 2 ^ (32 * i + 30)).sum

/-- Content bits laid into the six words, past the pad bits, and back. -/
def spreadContent (x : Nat) : BitVec 192 := BitVec.ofNat 192 ((List.range 6).map fun i => x / 2 ^ (30 * i) % 2 ^ 30 * 2 ^ (32 * i)).sum
def gatherContent (p : BitVec 192) : Nat := ((List.range 6).map fun i => p.toNat / 2 ^ (32 * i) % 2 ^ 30 * 2 ^ (30 * i)).sum

/-- A control block as it goes out on a lane whose scrambler is in a state: scrambled but for TRAIN, with the pad bits as R88 fixes them. -/
def controlBlock (st : BitVec 31) (c : Control) : Block :=
  let p := spreadContent c.content
  let p := match c with | .train _ => p | _ => p ^^^ blockKey st
  ⟨headerControl, (p &&& ~~~ padMask) ||| padBits⟩

/-- The control block of 180 content bits: none for a bad CHECK or an unlisted TYPE (R90). -/
def controlOf (content : Nat) : Option Control :=
  let x := content / 2 ^ 16
  let f (at_ w : Nat) : Nat := x / 2 ^ (156 - at_ - w) % 2 ^ w
  let c : Option Control :=
    match x / 2 ^ 156 with
    | 0x1E => some (.train { lane := f 0 2, lanes := f 2 2, rxlock := f 4 1 == 1, rate := f 5 2, lbn := f 7 11, row := f 18 32,
                             epoch := f 50 16, scr := f 66 31 })
    | 0x4B => some (.rowMark (f 0 2) (f 2 2) (f 4 32) (f 36 16) (f 52 1 == 1))
    | 0x4C => some (.rowInfo (f 0 56) (f 56 8) (f 64 56) (f 120 2) (f 122 1 == 1) (f 123 4))
    | 0x33 => some .idle
    | 0x5A => some (.linkMsg (f 0 8) (f 8 8) (f 16 1 == 1) ((List.range 16).map fun i => BitVec.ofNat 8 (f (17 + 8 * i) 8)))
    | 0x66 => some .shellEnter
    | 0x69 => some .huskEnter
    | 0x71 => some (.bindEnd (f 0 8))
    | _ => none
  c.bind fun c => if crc16Bits 164 x = content % 2 ^ 16 then some c else none

/-- The TRAIN block that a control block payload is, as it stands on the line. -/
def trainOf (p : BitVec 192) : Option TrainInfo :=
  match controlOf (gatherContent p) with
  | some (.train t) => some t
  | _ => none

/-! ### What a receiver makes of a block (R85, R90, R93) -/

/-- A received block: the cell bits of a data block, a control block, one that is discarded, or one with an invalid header. -/
inductive RxBlock where
  | data (bits : BitVec 192)
  | control (c : Control)
  | discarded
  | invalid
  deriving DecidableEq, Repr

/-- A block read on a lane whose receive scrambler is in a state. -/
def readBlock (st : BitVec 31) (b : Block) : RxBlock :=
  if b.header = headerData then .data (b.payload ^^^ blockKey st)
  else if b.header = headerStuffed then .data ((b.payload ^^^ stuffMask) ^^^ blockKey st)
  else if b.header = headerControl then
    match trainOf b.payload with
    | some t => .control (.train t)
    | none =>
      match controlOf (gatherContent (b.payload ^^^ blockKey st)) with
      | some c => .control c
      | none => .discarded
  else .invalid

/-- Blocks from port block b on, on their lanes, each after one step of what `f` does with its lane's state; and the states after them (R86). -/
def onLanes {α β : Type} (lanes b : Nat) (f : Nat → BitVec 31 → α → β) (scr : List (BitVec 31)) (xs : List α) :
    List (Nat × β) × List (BitVec 31) :=
  let r := xs.foldl (fun (a : List (Nat × β) × List (BitVec 31)) x =>
    let l := (b + a.1.length) % lanes
    let st := a.2.getD l 0
    (a.1 ++ [(l, f l st x)], a.2.set l (scrSkip st 1))) ([], scr)
  r

/-- The lanes' states past n port blocks from port block b on. -/
def skipBlocks (lanes b n : Nat) (scr : List (BitVec 31)) : List (BitVec 31) :=
  (onLanes lanes b (fun _ _ _ => ()) scr (List.replicate n ())).2

/-- The blocks of lane l among the first n port blocks, and the lanes' states at port block b of a row. -/
def laneBlocks (lanes l n : Nat) : Nat := (n + lanes - 1 - l) / lanes
def scrOf (lanes b : Nat) : List (BitVec 31) := (List.range lanes).map fun l => scrAt l (laneBlocks lanes l b)

/-- The cell bits of the three data blocks of a stitch; none where a block is of another kind. -/
def cellOfBlocks : List RxBlock → Option (BitVec 576)
  | [.data a, .data b, .data c] => some (a ++ b ++ c)
  | _ => none

/-- The control blocks among received blocks. -/
def controlsOf (l : List RxBlock) : List Control := l.filterMap fun x => match x with | .control c => some c | _ => none

/-! ### Hunt (R96, R97) -/

/-- What a hunting lane shows: the bits of 33 blocks, the first one received most significant. -/
def huntBits : Nat := 195 * 33

def bitsAt (x i n : Nat) : Nat := x / 2 ^ (huntBits - i - n) % 2 ^ n

/-- Block i of a lane's bits from bit offset o on. -/
def streamBlock (x o i : Nat) : Block :=
  { header := BitVec.ofNat 3 (bitsAt x (o + 195 * i) 3), payload := BitVec.ofNat 192 (bitsAt x (o + 195 * i + 3) 192) }

/-- An offset that shows 32 consecutive valid headers. -/
def offsetValid (x o : Nat) : Bool := (List.range 32).all fun i => validHeader (BitVec.ofNat 3 (bitsAt x (o + 195 * i) 3))

/-- The lane's bits complemented. -/
def flipBits (x : Nat) : Nat := 2 ^ huntBits - 1 - x % 2 ^ huntBits

/-- The last whole block that an offset shows. -/
def lastBlock (x o : Nat) : Block := streamBlock x o (if o = 0 then 32 else 31)

/-- The TRAIN block at an offset: the last one that the lane shows there. -/
def trainAt (x o : Nat) : Option TrainInfo :=
  if offsetValid x o && (lastBlock x o).header == headerControl then trainOf (lastBlock x o).payload else none

/-- A lane locks on a training burst: the first offset at which TRAIN blocks decode, as they are or complemented (R96, R97). -/
def trainLock (x : Nat) : Option (Nat × Bool × TrainInfo) :=
  (List.range 195).findSome? fun o =>
    match trainAt x o with
    | some t => some (o, false, t)
    | none => (trainAt (flipBits x) o).map fun t => (o, true, t)

/-- A control block passes its CHECK at an offset, the lane's scrambler being in a state at its first block. -/
def checkAt (st : BitVec 31) (x o : Nat) : Bool :=
  (List.range 32).any fun i =>
    let b := streamBlock x o i
    b.header == headerControl && (match readBlock (scrSkip st i) b with | .control _ => true | _ => false)

/-- A lane locks outside a training burst: the first offset with 32 valid headers, among several the one whose control blocks pass (R96). -/
def headerLock (st : BitVec 31) (x : Nat) : Option Nat :=
  match (List.range 195).filter (offsetValid x) with
  | [] => none
  | [o] => some o
  | o :: os => some (((o :: os).find? (checkAt st x)).getD o)

/-! ### Fragments of cast-on messages (R123) -/

/-- The LINK_MSG blocks of a message: fragments of 16 bytes, FRAG from 0, LAST in the final one, which is padded with zeros. -/
def fragments (msg : Nat) (body : List Byte) : List Control :=
  let n := ceilDiv body.length 16
  (List.range n).map fun i =>
    let d := (body.drop (16 * i)).take 16
    .linkMsg msg i (i + 1 == n) (d ++ List.replicate (16 - d.length) 0)

/-- The LINK_MSG blocks among control blocks are the fragments of one message of `len` bytes, in order: its body; none where R123 calls it
malformed. A nonzero byte in the padding makes the body longer than `len`. -/
def assemble (msg len : Nat) (cs : List Control) : Option (List Byte) :=
  let fs := cs.filterMap fun c => match c with | .linkMsg m f l d => some (m, f, l, d) | _ => none
  let n := ceilDiv len 16
  let bytes := fs.flatMap fun f => f.2.2.2
  if (fs.map fun f => (f.1, f.2.1, f.2.2.1)) = ((List.range n).map fun i => (msg, i, i + 1 == n)) ∧ (bytes.drop len).all (· == 0)
  then some (bytes.take len) else none

end Sys2Proof.Machine
end

