-- ==== Sys2Proof/Machine/Packets.lean ====
section
/-! DEFINITION. Packets as bytes (R37, R38), cells of a packet (R131, R132), and what is sent on a control tunnel. -/

namespace Sys2Proof.Machine

/-- One bit of the reflected CRC-32C register (R38). -/
def crc32cBit (c : Word) : Word := if c.getLsbD 0 then (c >>> 1) ^^^ 0x82F63B78 else c >>> 1

def crc32cByte (c : Word) (b : Byte) : Word := (List.range 8).foldl (fun c _ => crc32cBit c) (c ^^^ b.setWidth 32)

/-- CRC-32C: polynomial 0x1EDC6F41, initial value and final XOR all ones, reflected input and output (R38). -/
def crc32c (bs : List Byte) : Word := ~~~ (bs.foldl crc32cByte 0xFFFFFFFF)

/-- The two little-endian bytes of a 16-bit number. -/
def half (n : Nat) : List Byte := [BitVec.ofNat 8 n, BitVec.ofNat 8 (n / 256)]

/-- The bytes of a packet before its CRC (Table 2.1). -/
def packetBody (pk : Packet) : List Byte :=
  half pk.opcode ++ [BitVec.ofNat 8 pk.tag, BitVec.ofNat 8 pk.flags] ++ half pk.target ++ half (4 * pk.data.length)
    ++ half pk.status ++ half pk.detail ++ wordsBytes pk.data

/-- The bytes of a packet, CRC included. -/
def packetBytes (pk : Packet) : List Byte := packetBody pk ++ wordBytes (crc32c (packetBody pk))

/-- Byte i of a byte string, as a number; 0 beyond its end. -/
def byteAt (bs : List Byte) (i : Nat) : Nat := (bs.getD i 0).toNat

/-- Bytes i to i + n - 1. -/
def slice (bs : List Byte) (i n : Nat) : List Byte := (bs.drop i).take n

/-- The 16-bit little-endian number at byte i. -/
def halfAt (bs : List Byte) (i : Nat) : Nat := byteAt bs i + 256 * byteAt bs (i + 1)

/-- True when the last four bytes hold the CRC-32C of those before them. -/
def crcGood (bs : List Byte) : Bool :=
  decide (4 ≤ bs.length) && decide (wordBytes (crc32c (bs.take (bs.length - 4))) = bs.drop (bs.length - 4))

/-- The parameter words of a received packet. -/
def paramWords (bs : List Byte) : List Word := bytesWords ((bs.take (bs.length - 4)).drop 12)

/-- A received byte string read as a request of transport `v` (R37): its opcode and its request record. -/
def parseRequest (v : Via) (slot : Nat) (bs : List Byte) : Nat × Req :=
  (halfAt bs 0,
   { via := v, tag := byteAt bs 2, flags := byteAt bs 3, target := halfAt bs 4, plen := halfAt bs 6,
     received := bs.length, crcOk := crcGood bs, slot := slot, params := paramWords bs })

/-- The payloads of the cells of a packet: 64 bytes each but the last (R132). -/
def chunks (fuel : Nat) (bs : List Byte) : List (List Byte) :=
  match fuel with
  | 0 => []
  | fuel + 1 => if bs.length ≤ 64 then [bs] else bs.take 64 :: chunks fuel (bs.drop 64)

/-- The cells of a packet under a label and class, SEQ rising from `seq` modulo 256 (R132, R134). `sealed` marks the last cell. -/
def cellsOf (label cls seq : Nat) (sealed : Bool) (bs : List Byte) : List Cell :=
  let parts := chunks (bs.length + 1) bs
  (List.range parts.length).map fun i =>
    { label := label, cls := cls, first := i == 0, last := i + 1 == parts.length,
      sealed := sealed && i + 1 == parts.length, seq := (seq + i) % 256, payload := parts.getD i [] }

/-- The egress port of context t of kernel k, as seen from port p: T0 to T3 are their port's, T4 and T5 serve port p (R126), and the
others leave by the port of TUN_PATH. -/
def State.egress (s : State) (k t p : Nat) : Nat × Nat :=
  if t < 4 then (k, t) else if t < 6 then (k, p) else (s.rf (Reg.TUN_PATH k t) 4 3, s.rf (Reg.TUN_PATH k t) 8 2)

/-- The label that cells of context t carry (R127): OUT_LABEL, or for T4 and T5 the partner kernel's shared context on port p. -/
def State.cellLabel (s : State) (k t p : Nat) : Nat :=
  if t = 4 ∨ t = 5 then s.rf (Reg.TUN_LABELS k p) 16 12 / 512 * 512 + t else s.rf (Reg.TUN_LABELS k t) 16 12

/-- Cells stamped with the stitch count of a port and the count of its rate changes (R202). -/
def State.stampCells (s : State) (k p : Nat) (cs : List Cell) : List Cell :=
  cs.map fun c => { c with stampPort := portKey k p, stamp := (s.port k p).stitch, stampRate := (s.port k p).rateChanges }

/-- Whether the engine of a port encrypts the packets of context (k, t) (R436): the port is authenticated, and the context is one of T0
to T5 or has ENCRYPT set. -/
def State.ctxEnc (s : State) (k t : Nat) (e : Nat × Nat) : Bool :=
  s.rb (Reg.LNK_STATE e.1 e.2) 7 && (decide (t < 6) || s.rb (Reg.TUN_OPTS k t) 5)

/-- The bytes of a packet as its cells count them: an encrypted packet takes 8 bytes of PN before and 16 bytes of tag after (R436). -/
def lineBytes (enc : Bool) (bs : List Byte) : List Byte := if enc then List.replicate 8 0 ++ bs ++ List.replicate 16 0 else bs

/-- The cells of a context's own class, which SEQ, credit and replay hold to their order; an in-band message on a prearranged tunnel is not one
of them (R134, R140, R144, log entry 20). -/
def State.ownClass (s : State) (k t cls : Nat) : Bool := cls == s.rf (Reg.TUN_CTRL k t) 8 3

/-- A packet handed over to context (k, t) as cells, SEQ moving past them (R132, R134); they wait until the threshold of the queue admits them
(R181). `leg` is the leg that sends them. -/
def State.queueCells (s : State) (k t p cls leg : Nat) (sealed : Bool) (bs : List Byte) : State :=
  let c := s.ctxAt k t p
  let e := s.egress k t p
  let enc := s.ctxEnc k t e
  let cs := (s.stampCells e.1 e.2 (cellsOf (s.cellLabel k t p) cls c.txSeq sealed (lineBytes enc bs))).map fun x =>
    { x with enc := enc, legs := 2 ^ leg }
  s.setCtxAt k t p { c with waitq := c.waitq ++ cs, txSeq := if s.ownClass k t cls then (c.txSeq + cs.length) % 256 else c.txSeq }

/-- The same on the context's own path. -/
def State.queueBytes (s : State) (k t p cls : Nat) (sealed : Bool) (bs : List Byte) : State := s.queueCells k t p cls 0 sealed bs

/-- A packet handed over to the control tunnel of port p of kernel k (R126, R143). -/
def State.ctrlSend (s : State) (k p : Nat) (pk : Packet) : State := s.queueBytes k p 0 0 false (packetBytes pk)

/-- A link message with a tag of this end's choosing (R143): tags count up from 0 modulo 256 (DESIGN CHOICE, log entry 7).
TARGET.UNIT is the receiving kernel, taken from the label of the far control tunnel (R127). -/
def State.linkMsg (s : State) (k p opcode : Nat) (data : List Word) : State :=
  let x := s.port k p
  let far := s.rf (Reg.TUN_LABELS k p) 16 12 / 512
  (s.setPort k p { x with msgTag := (x.msgTag + 1) % 256 }).ctrlSend k p
    { opcode := opcode, tag := x.msgTag, flags := 0, target := far, status := 0, detail := 0, data := data }

/-- The answer to a link message: it carries that message's tag, with REPLY set (R143). -/
def State.linkAnswer (s : State) (k p opcode tag : Nat) (data : List Word) : State :=
  let far := s.rf (Reg.TUN_LABELS k p) 16 12 / 512
  s.ctrlSend k p { opcode := opcode, tag := tag, flags := 1, target := far, status := 0, detail := 0, data := data }

end Sys2Proof.Machine
end

