-- ==== Sys2Proof/Machine/Log.lean ====
section
/-! DEFINITION. The event log: how an entry is written to a kernel's ring and black box (R344, R345) and reaches the transports whose
subscription selects it (R65), and how a job ends (R62). -/

namespace Sys2Proof.Machine

/-- The eight words of an entry, as an event packet carries it (Table 10.8). -/
def entryWords (e : LogEntry) : List Word :=
  [word e.time, word (e.time / 2 ^ 32), packWord [(0, 16, e.frac), (16, 16, e.code)],
   packWord [(0, 16, e.source), (16, 8, e.severity), (24, 8, e.seq)], e.p0, e.p1, e.p2, e.p3]

/-- SOURCE of an event: kernel, kind and index (Table 10.8). -/
def sourceOf (k kind idx : Nat) : Nat := k * 8192 + kind * 512 + idx

/-- The event packet of an item: n counts the event packets of the transport (R42). -/
def eventPacket (remote : Bool) (n : Nat) (i : EventItem) : Packet :=
  { opcode := i.entry.code, tag := i.tag, flags := if remote then 6 else 4, target := i.unit,
    status := n % 65536, detail := n / 65536 % 65536, data := entryWords i.entry }

/-- The transport's own notice of dropped events (R65, R342). -/
def lostNotice (s : State) (v : Via) (n : Nat) : EventItem :=
  { entry := { time := s.tai, frac := s.taiFrac, code := Ev.eventsLost.code,
               source := sourceOf (localKernel v) 13 (master v), severity := 3, seq := 0,
               p0 := word n, p1 := 0, p2 := 0, p3 := 0 },
    tag := 0, unit := localKernel v }

/-- An event on its way out of one transport: an SPI or USB transport holds up to 64 waiting events and counts the rest as dropped (R65), and
so does that of a Needle's firmware, of which R65 says no number (DESIGN CHOICE, log entry 106); a PCIe function writes its ring, or counts EVT_LOST when it is full, and signals MSI-X vector 1 (R49); a remote
link sends the packet on its control tunnel. -/
def State.queueEvent (s : State) (v : Via) (i : EventItem) : State :=
  let e := s.ep v
  if !e.up then s
  else match v with
    | .pcie k =>
      let f := s.pcieFn k
      if (f.evHead + 1) % 256 = f.evTail then s.setPcieFn k { f with evLost := f.evLost + 1 }
      else
        let n := e.evSeq + 1
        (s.setEp v { e with evSeq := n }).setPcieFn k
          { f with ring := smapInsert f.ring f.evHead (eventPacket false n i), evHead := (f.evHead + 1) % 256,
                   msix := f.msix ++ [1] }
    | .link k p =>
      let n := e.evSeq + 1
      (s.setEp v { e with evSeq := n }).ctrlSend k p (eventPacket true n i)
    | _ =>
      if e.events.length < 64 then s.setEp v { e with events := e.events ++ [i] }
      else s.setEp v { e with dropped := e.dropped + 1 }

/-- Every transport the part can have, in key order. -/
def State.allVias (s : State) : List Via :=
  let ks := List.range s.variant.kernels
  .spi :: ks.map .pcie ++ ks.map .usb ++ ks.flatMap (fun k => (List.range 4).map (.link k)) ++ ks.map .needle

/-- Whether a transport's subscription selects an event (R65, R343). -/
def Endpoint.selects (e : Endpoint) (sev cls : Nat) : Bool :=
  e.up && !e.none && decide (e.minSev ≤ sev) && e.mask.getLsbD cls

/-- An entry delivered to every transport in `forced`, and to every other transport whose subscription selects it. -/
def State.deliverEvent (s : State) (forced : List Via) (sev : Nat) (i : EventItem) : State :=
  s.allVias.foldl (fun s v =>
    if forced.contains v || (s.ep v).selects sev (i.entry.code / 2048) then s.queueEvent v i else s) s

/-- The kernel whose ring takes an entry about kernel k: k itself while it runs or starts, else the lead (R62). -/
def State.ringOf (s : State) (k : Nat) : Nat :=
  if s.kernelState k = 1 ∨ s.kernelState k = 2 ∨ s.kernelState k = 3 then k else s.lead

/-- The black box with one more entry: MODE 0 overwrites the oldest of 256, MODE 1 keeps the first 256 (R345). -/
def boxAdd (mode : Bool) (box : List (Option LogEntry)) (e : LogEntry) : List (Option LogEntry) :=
  if box.length < 256 then box ++ [some e] else if mode then box else box.drop 1 ++ [some e]

/-- Entries of a kernel that wait in CTRL while the part is in Quiet: how many of at most 16, and how many were dropped (R454). -/
def State.quietOf (s : State) (k : Nat) : Nat × Nat := smapGet (fun _ => (0, 0)) s.part.quietLog k

def State.setQuiet (s : State) (k : Nat) (v : Nat × Nat) : State :=
  { s with part := { s.part with quietLog := smapPut (fun _ => (0, 0)) s.part.quietLog k v } }

/-- An event logged in the ring of `ring`: written there with its SEQ, to the black box when its severity reaches
BB_CTRL.SEVERITY, and delivered (R344, R345, R65). `src` is the SOURCE kernel field. -/
def State.logTo (s : State) (ring src : Nat) (d : EvDef) (idx : Nat) (forced : List Via) (tag : Nat) (ps : List Nat) : State :=
  let x := s.kern ring
  let head := (s.reg (Reg.LOG_HEAD ring)).toNat
  let e : LogEntry :=
    { time := s.tai, frac := s.taiFrac, code := d.code, source := sourceOf src d.kind idx,
      severity := d.severity + (if Config.hwStamped d.code then 128 else 0), seq := head % 256,
      p0 := word (ps.getD 0 0), p1 := word (ps.getD 1 0), p2 := word (ps.getD 2 0), p3 := word (ps.getD 3 0) }
  let toBox := decide (s.rf (Reg.BB_CTRL ring) 0 3 ≤ d.severity)
  let mode := s.rb (Reg.BB_CTRL ring) 8
  let q := s.quietOf ring
  let held := s.kernelState ring == 3
  let drop := held && decide (16 ≤ q.1)
  let s := s.setKern ring { x with log := if drop then x.log else (e :: x.log).take 4096, box := if toBox then boxAdd mode x.box e else x.box }
  let s := if held then s.setQuiet ring (if drop then (q.1, q.2 + 1) else (q.1 + 1, q.2)) else s
  let s := if drop then s else s.bump (Reg.LOG_HEAD ring) 1
  let s := if toBox && mode && decide (256 ≤ x.box.length) then s.bump (Reg.BB_LOST ring) 1 else s
  s.deliverEvent forced d.severity { entry := e, tag := tag, unit := if d.kind = 15 then 15 else src }

/-- An event of kernel k, logged in its ring. -/
def State.log (s : State) (k : Nat) (d : EvDef) (idx : Nat) (ps : List Nat) : State :=
  s.logTo (s.ringOf k) k d idx [] 0 ps

/-- The lead Needle can take events of the power die: its kernel starts or runs. -/
def State.leadUp (s : State) : Bool := [1, 2, 3].contains (s.kernelState s.lead)

/-- A power-die event: logged in the ring of the lead, SOURCE kernel 0 (Table 10.9), once it reaches that Needle (R396). -/
def State.logPower (s : State) (d : EvDef) (idx : Nat) (ps : List Nat) : State :=
  if s.leadUp then s.logTo s.lead 0 d idx [] 0 ps
  else { s with path := { s.path with owed := s.path.owed ++ [(d, idx, ps)] } }

/-! ### Jobs (R61 to R63) -/

/-- The jobs that still run. -/
def State.running (s : State) : List Job := s.jobs.filter fun j => j.state = .running

/-- The number a new job takes: the next one upward, from 0xFFFF back to 1, that no job still Running or queryable has (R61). -/
def nextJobNum (used : List Nat) (fuel last : Nat) : Nat :=
  let n := if last ≥ 0xFFFF then 1 else last + 1
  match fuel with
  | 0 => n
  | fuel + 1 => if used.contains n then nextJobNum used fuel n else n

def State.newJobNum (s : State) : Nat := nextJobNum (s.jobs.map (·.num)) s.jobs.length s.lastJob

/-- A job found by number. -/
def State.job? (s : State) (n : Nat) : Option Job := s.jobs.find? fun j => j.num == n

/-- A job added, with the next number. -/
def State.addJob (s : State) (j : Job) : State := { s with jobs := s.jobs ++ [j], lastJob := j.num }

/-- The job of number n replaced by f of it. -/
def State.mapJob (s : State) (n : Nat) (f : Job → Job) : State :=
  { s with jobs := s.jobs.map fun j => if j.num = n then f j else j }

/-- The running job that answers a test, oldest first. -/
def State.findRunning (s : State) (p : Job → Bool) : Option Job := s.jobs.find? fun j => decide (j.state = .running) && p j

/-- The status and detail that EV_JOB_DONE reports for an ending (R62). -/
def endReport (st : JobState) (status detail : Nat) : Nat × Nat :=
  match st with
  | .aborted => (0x0201, 0x0104)
  | _ => (status, detail)

/-- The kernel whose ring takes EV_JOB_DONE of a job: the kernel that ran it while it runs, else the lead (R62). -/
def State.jobRing (s : State) (k : Nat) : Nat := if s.kernelState k = 2 ∨ s.kernelState k = 3 then k else s.lead

/-- The master that started a job: the Needle of the lead of that time for the recovery job that the lead starts itself (R469). -/
def jobMaster (j : Job) : Nat := match j.via with | some v => master v | none => 8 + j.kernel

/-- A job ends: its state, status and step are kept, and EV_JOB_DONE goes to the transport that started it whatever its
subscription, and to others as they select it (R62). The recovery job that the lead starts has no transport (R469). -/
def State.endJob (s : State) (n : Nat) (st : JobState) (status detail : Nat) : State :=
  match s.job? n with
  | none => s
  | some j =>
    if j.state = .running then
      let r := endReport st status detail
      let s := s.mapJob n fun j => { j with state := st, status := r.1, detail := r.2, endedAt := s.now }
      s.logTo (s.jobRing j.kernel) (s.jobRing j.kernel) Ev.jobDone (jobMaster j) j.via.toList j.tag
        [j.opcode + 65536 * j.tag, r.1 + 65536 * r.2, j.num, j.step]
    else s

/-- The job moves to step k. -/
def State.jobStep (s : State) (n k : Nat) : State := s.mapJob n fun j => { j with step := k }

/-- A job's present step is over (R63): it ends DONE after the last, stops where an abort has been accepted, and goes on otherwise. -/
def State.nextStep (s : State) (n : Nat) : State :=
  match s.job? n with
  | none => s
  | some j =>
    if j.steps ≤ j.step then s.endJob n .done 0 0
    else if j.abort then s.endJob n .aborted 0 0
    else s.jobStep n (j.step + 1)

end Sys2Proof.Machine
end

