-- ==== Sys2Proof/Machine/Seams.lean ====
section
/-! DEFINITION. The seams between kernels (R4, R20 to R23): which join which, shortest paths over the seams that are Up, credit pools, and
the hash sets that pin flows (R190, R191). -/

namespace Sys2Proof.Machine

/-- The kernel that seam interface i of kernel k faces (R4); none where the interface is unused. -/
def seamPeer (v : Variant) (k i : Nat) : Option Nat :=
  match v with
  | .eln2 => if i < 2 then some (1 - k) else none
  | .eln4 => if i = 0 then some ((k + 1) % 4) else if i = 1 then some ((k + 3) % 4) else none
  | .eln8 =>
    if i = 0 then some ((k + 1) % 8) else if i = 1 then some ((k + 7) % 8) else if i = 2 then some ((k + 4) % 8) else none

/-- The interface of the neighbour that interface i joins (R4). -/
def seamFarIface (v : Variant) (i : Nat) : Nat :=
  match v with
  | .eln2 => i
  | _ => if i = 0 then 1 else if i = 1 then 0 else 2

/-- KID_SEAMS of a kernel, in the layout of SEAM_STATE's neighbour fields: 4 bits an interface, [2:0] kernel and [3] in use. -/
def seamsWord (v : Variant) (k : Nat) : Word :=
  packWord ((List.range 3).map fun i => (4 * i, 4, match seamPeer v k i with | some n => n + 8 | none => 0))

/-- SEAM_STATE.STATE: 0 Off, 1 Training, 2 Up, 3 Failed. -/
def State.seamState (s : State) (k i : Nat) : Nat := s.rf (Reg.SEAM_STATE k i) 0 2

/-- A seam under DIAG_SEAM_TEST (R83): a running test past its first step names the interface or the far one. -/
def State.seamTested (s : State) (k i : Nat) : Bool :=
  s.jobs.any fun j => decide (j.state = .running) && j.opcode == 0x1104 && decide (2 ≤ j.step) &&
    (let x := (j.args.getD 0 0).toNat
     (j.kernel == k && x == i) || (seamPeer s.variant j.kernel x == some k && seamFarIface s.variant x == i))

/-- A seam that carries traffic. -/
def State.seamUsable (s : State) (k i : Nat) : Bool := s.seamState k i == 2 && !s.seamTested k i

/-- The neighbours a kernel reaches in one hop over seams that are Up, by interface number. -/
def State.seamNext (s : State) (k : Nat) : List Nat :=
  (List.range 3).filterMap fun i => if s.seamUsable k i then seamPeer s.variant k i else none

/-- The kernels at most h seam hops from k. -/
def State.seamWithin (s : State) (k : Nat) : Nat → List Nat
  | 0 => [k]
  | h + 1 => (s.seamWithin k h ++ (s.seamWithin k h).flatMap s.seamNext).dedup

/-- The length in hops of the shortest path, at most 3 (R23). -/
def State.seamDist? (s : State) (a b : Nat) : Option Nat := (List.range 4).find? fun h => (s.seamWithin a h).contains b

/-- Reach: a path of at most three hops exists (R23). -/
def State.reaches (s : State) (a b : Nat) : Bool := (s.seamDist? a b).isSome

/-- The interfaces in the order in which Table 1.3 names the paths from a to b: on the ELN-8 the path via K(n+4) comes before the one via
K(n+7) where d is 3. -/
def seamOrder (v : Variant) (a b : Nat) : List Nat := if v = .eln8 ∧ (b + 8 - a) % 8 = 3 then [2, 1, 0] else [0, 1, 2]

/-- The first hops of the shortest paths from a to b, as interface numbers in the order of Table 1.3. -/
def State.firstHops (s : State) (a b : Nat) : List Nat :=
  match s.seamDist? a b with
  | some (h + 1) => (seamOrder s.variant a b).filter fun i =>
      s.seamUsable a i && (match seamPeer s.variant a i with | some n => s.seamDist? n b == some h | none => false)
  | _ => []

/-- The paths of Table 1.3 with every seam Up, as first interfaces in its order. -/
def nominalHops (v : Variant) (a b : Nat) : List Nat :=
  let d := (b + v.kernels - a) % v.kernels
  match v with
  | .eln2 => if d = 1 then [0, 1] else []
  | .eln4 => if d = 1 then [0] else if d = 2 then [0, 1] else if d = 3 then [1] else []
  | .eln8 =>
    if d = 1 ∨ d = 2 then [0] else if d = 4 then [2] else if d = 6 ∨ d = 7 then [1] else if d = 3 then [2, 1]
    else if d = 5 then [0, 2] else []

/-- The full credit pool of a seam (R174): 256 cells for each of three hop classes. -/
def State.seamCredits (s : State) (k i n : Nat) : State :=
  (List.range 3).foldl (fun s h => s.setRf (Reg.SEAM_CREDIT k i h) 0 9 n) s

/-- A seam interface moved to a state, with the credit that state shows (Table 16.17). -/
def State.setSeam (s : State) (k i st : Nat) : State :=
  (s.setRf (Reg.SEAM_STATE k i) 0 2 st).seamCredits k i (if st = 2 then 256 else 0)

/-! ### Hash pinning (R190, R191) -/

def crc16Byte (c : BitVec 16) (b : Byte) : BitVec 16 := (List.range 8).foldl (fun c i => crc16Next c (b.getLsbD (7 - i))) c

/-- The CRC-16 of R88: initial value 0xFFFF, no reflection, no final XOR. -/
def crc16 (bs : List Byte) : BitVec 16 := bs.foldl crc16Byte 0xFFFF

/-- The bucket of a cell: its label in two bytes, most significant first, then the flow key (R190). -/
def bucketOf (label : Nat) (key : List Byte) : Nat :=
  (crc16 ([BitVec.ofNat 8 (label % 4096 / 256), BitVec.ofNat 8 label] ++ key)).toNat % 256

/-- The member a bucket names in a bucket table of eight words at `a`. -/
def State.bucketMember (s : State) (a b : Nat) : Nat := (s.rb (a + 4 * (b / 32)) (b % 32)).toNat

/-- The cells of a bucket that entered its new member wait (R192). -/
def State.fenced (s : State) (k set b m : Nat) : Bool :=
  (s.kern k).fences.any fun f => f.set == set && f.bucket == b && f.member == m

/-! ### Cells on their way over seams (R20 to R23, R174) -/

/-- The interface by which a bucket's cells for kernel b leave kernel a, and the member of Table 1.3's hash set that it is. -/
def State.hopIface (s : State) (a b bucket : Nat) : Option Nat :=
  let l := s.firstHops a b
  if l.length = 2 then l[s.bucketMember (Reg.HASH_SEAM a b 0) bucket]? else l.head?

def State.seamMember (s : State) (a b bucket : Nat) : Nat := (nominalHops s.variant a b).idxOf ((s.hopIface a b bucket).getD 3)

/-- A cell leaves the ingress buffer in which a hop put it, and the credit of that hop class returns to the sender (R22, R174). -/
def State.releaseHop (s : State) (f : Flight) : State :=
  let a := Reg.SEAM_CREDIT f.prevK f.prevI (f.hops - 1)
  if f.hops = 0 ∨ s.seamState f.prevK f.prevI ≠ 2 then s else s.setRf a 0 9 (min 256 (s.rf a 0 9 + 1))

/-- A cell takes one seam hop: it uses credit of the class of that hop, and waits where there is none or a fence holds its bucket (R22, R192). None
where it waits. -/
def State.hop? (s : State) (f : Flight) : Option (Flight × State) :=
  match s.hopIface f.here f.dst f.bucket with
  | none => none
  | some i =>
    match seamPeer s.variant f.here i with
    | none => none
    | some n =>
      let a := Reg.SEAM_CREDIT f.here i f.hops
      if 3 ≤ f.hops ∨ s.rf a 0 9 = 0 ∨ s.fenced f.here (1 + f.dst) f.bucket (s.seamMember f.here f.dst f.bucket) then none
      else
        let s := (s.setRf a 0 9 (s.rf a 0 9 - 1)).releaseHop f
        some ({ f with here := n, hops := f.hops + 1, prevK := f.here, prevI := i },
          (s.bump (Reg.SEAM_TX_CELLS f.here i) 1).bump (Reg.SEAM_RX_CELLS n (seamFarIface s.variant i)) 1)

/-- A cell on its way that a reset of kernel k loses: it is there, goes there, or belongs to a context or route of the kernel. -/
def Flight.touches (f : Flight) (k : Nat) : Bool :=
  f.here == k || f.dst == k || (match f.fin with
    | .rx _ _ n _ _ _ _ _ _ => n == k
    | .route _ _ n _ => n == k
    | .egress _ _ x => (if x.raw then x.n / 2048 else x.n) == k)

/-- Cells on their way that go no further: they leave their buffers. -/
def State.dropFlights (s : State) (mine : Flight → Bool) : State :=
  let gone := s.flights.filter mine
  gone.foldl (fun s f => s.releaseHop f) { s with flights := s.flights.filter fun f => !mine f }

end Sys2Proof.Machine
end

