-- ==== Sys2Proof/Machine/Rows.lean ====
section
/-! DEFINITION. Row tables (R146 to R152): entries, gauges, reserved totals and ceilings, the placement of a gauge, and the arming of
swaps; and raw routes (R129, R130). -/

namespace Sys2Proof.Machine

/-! ### Ports and plies -/

/-- Every port of the part. -/
def State.allPorts (s : State) : List (Nat × Nat) :=
  (List.range s.variant.kernels).flatMap fun k => (List.range 4).map fun p => (k, p)

/-- LNK_STATE.STATE (Table 3.13): 0 Off, 1 Detached, 2 Casting, 3 Open, 4 Binding, 5 Backoff, 6 Test. -/
def State.portState (s : State) (k p : Nat) : Nat := s.rf (Reg.LNK_STATE k p) 0 4

def State.portOpen (s : State) (k p : Nat) : Bool := s.portState k p == 3

/-- The partner was authenticated at step 5. -/
def State.portAuth (s : State) (k p : Nat) : Bool := s.rb (Reg.LNK_STATE k p) 7

/-- LNK_STATE.PLY: 0 none, 1 tight, 2 loose. -/
def State.portPly (s : State) (k p : Nat) : Nat := s.rf (Reg.LNK_STATE k p) 10 2

def State.isTight (s : State) (k p : Nat) : Bool := s.portPly k p == 1

/-- The port whose tables serve port p: the first member of a tight ply (R146). -/
def State.rowPort (s : State) (k p : Nat) : Nat := if s.isTight k p then p / 2 * 2 else p

/-- Stitches of a row, and the first tunnel stitch (R87). -/
def State.rowLen (s : State) (k p : Nat) : Nat := if s.isTight k p then 2048 else 1024
def State.rowFirst (s : State) (k p : Nat) : Nat := if s.isTight k p then 2 else 1

/-- The lane rate of a port changes (R106, R202). -/
def State.setRate (s : State) (k p v : Nat) : State :=
  if s.rf (Reg.LNK_STATE k p) 8 2 = v then s
  else (s.setRf (Reg.LNK_STATE k p) 8 2 v).setPort k p { s.port k p with rateChanges := (s.port k p).rateChanges + 1 }

/-- The other member of the loose ply of a port, if it is in one: K*n*.P3 with K*m*.P2 (R118). -/
def State.loosePeer (s : State) (k p : Nat) : Option (Nat × Nat) :=
  if s.portPly k p ≠ 2 then none
  else if p = 3 then some (s.rf (Reg.PLY_LOOSE k) 4 3, 2)
  else ((List.range s.variant.kernels).find? fun n => s.portPly n 3 == 2 && s.rf (Reg.PLY_LOOSE n) 4 3 == k
    && s.rf (Reg.PLY_LOOSE n) 0 2 != 0).map fun n => (n, 3)

/-- The member of a ply that contexts name in TUN_PATH: the first of a tight ply, the P3 member of a loose one (Table 4.6). -/
def State.plyHead (s : State) (k p : Nat) : Nat × Nat :=
  if s.isTight k p then (k, p / 2 * 2)
  else match s.loosePeer k p with
    | some (n, 3) => (n, 3)
    | _ => (k, p)

/-- The ports of the ply that holds a port: the port itself where there is none. -/
def State.plyPorts (s : State) (k p : Nat) : List (Nat × Nat) :=
  if s.isTight k p then [(k, p / 2 * 2), (k, p / 2 * 2 + 1)]
  else (k, p) :: (match s.loosePeer k p with | some o => [o] | none => [])

/-- Two ports are one, or members of one ply. -/
def State.samePly (s : State) (a b : Nat × Nat) : Bool := s.plyHead a.1 a.2 == s.plyHead b.1 b.2

/-- The port of a loose ply whose row table holds the gauge of a label, that of its bucket (Table 4.7, R190); elsewhere the port itself. -/
def State.labelPort (s : State) (k p label : Nat) : Nat × Nat :=
  if s.portPly k p ≠ 2 then (k, p)
  else
    let h := s.plyHead k p
    if s.bucketMember (Reg.HASH_PLY h.1 0) (bucketOf label []) = 1 then (s.loosePeer h.1 h.2).getD h else h

/-- The port whose row table carries a context's gauge: on a loose ply the member that MEMBER names (Table 4.6). -/
def State.gaugePort (s : State) (k t : Nat) : Nat × Nat :=
  let e := s.egress k t 0
  if s.rb (Reg.TUN_PATH k t) 10 then (s.loosePeer e.1 e.2).getD e else e

/-! ### Entries -/

/-- The address of the word that holds entry e of a table. -/
def rowWord (shadow : Bool) (k p e : Nat) : Nat := if shadow then Reg.ROW_SHADOW k p (e / 2) else Reg.ROW_ACTIVE k p (e / 2)

/-- Entry e of the active or shadow table of a port, as R146 lays it out; the marker's entries read as zero. -/
def State.rowEntry (s : State) (shadow : Bool) (k p e : Nat) : Nat :=
  if e < s.rowFirst k p then 0 else s.rf (rowWord shadow k (s.rowPort k p) e) (16 * (e % 2)) 16

/-- An entry written: [11:0] and [15]; the marker's entries ignore writes (R146). -/
def State.setRowEntry (s : State) (shadow : Bool) (k p e v : Nat) : State :=
  if e < s.rowFirst k p then s
  else s.setRf (rowWord shadow k (s.rowPort k p) e) (16 * (e % 2)) 16 (v % 4096 + 32768 * (v / 32768 % 2))

def entryValid (v : Nat) : Bool := v / 32768 % 2 == 1
def entryLabel (v : Nat) : Nat := v % 4096

/-- A table as a list of entries. -/
def State.rowTable (s : State) (shadow : Bool) (k p : Nat) : List Nat :=
  (List.range (s.rowLen k p)).map (s.rowEntry shadow k p)

def State.writeTable (s : State) (shadow : Bool) (k p : Nat) (t : List Nat) : State :=
  (List.range t.length).foldl (fun s e => s.setRowEntry shadow k p e (t.getD e 0)) s

/-- The number of VALID entries of a table, and of those that name a label (R146). -/
def tableTotal (t : List Nat) : Nat := (t.filter entryValid).length
def tableGauge (t : List Nat) (label : Nat) : Nat := (t.filter fun v => entryValid v && entryLabel v == label).length

/-- The gauge of a label on a port, from the active table. -/
def State.gauge (s : State) (k p label : Nat) : Nat := tableGauge (s.rowTable false k p) label

/-- The port's reserved total. -/
def State.reserved (s : State) (shadow : Bool) (k p : Nat) : Nat := tableTotal (s.rowTable shadow k p)

/-- The port's ceiling (R150). -/
def State.ceiling (s : State) (k p : Nat) : Nat := s.rf (Reg.ROW_CEIL k (s.rowPort k p)) 0 11

/-- Gauge of Opening contexts that no entry holds yet, because OUT_LABEL is not known; on a loose ply it is reserved on both members, since the
label decides which one it will be (DESIGN CHOICE, log entry 11). -/
def State.pendingGauge (s : State) (k p : Nat) : Nat :=
  (s.ctxs.filter fun c =>
      let n := c.1 / 32 / 512
      let t := c.1 / 32 % 512
      (s.rf (Reg.TUN_PATH n t) 4 3, s.rf (Reg.TUN_PATH n t) 8 2) == s.plyHead k p).foldl (fun a c => a + c.2.pendGauge) 0

/-- A swap is armed on a port (R147). -/
def State.swapArmed (s : State) (k p : Nat) : Bool := s.rb (Reg.ROW_SWAP_STAT k (s.rowPort k p)) 0

/-- The reserved total that no operation may take above the ceiling: that of an armed shadow too, since its swap must not (R150). -/
def State.reservedMost (s : State) (k p : Nat) : Nat :=
  max (s.reserved false k p) (if s.swapArmed k p then s.reserved true k p else 0)

/-- All that is reserved on a port (R150). -/
def State.reservedAll (s : State) (k p : Nat) : Nat := s.reservedMost k p + s.pendingGauge k p

/-- The free reservation of a port (Table 4.16). -/
def State.freeReservation (s : State) (k p : Nat) : Nat := s.ceiling k p - s.reservedAll k p

/-- The free reservation for a source of a port or ply: on the port that its label names, or while that is not known on every one. -/
def State.freeFor (s : State) (k p : Nat) (label : Option Nat) : Nat :=
  match label with
  | some l => let e := s.labelPort k p l; s.freeReservation e.1 e.2
  | none => ((s.plyPorts k p).map fun e => s.freeReservation e.1 e.2).foldl min (s.freeReservation k p)

/-! ### Placement (R151) -/

/-- The ideal positions of g stitches over S tunnel stitches from f. -/
def idealPos (f S g : Nat) : List Nat := (List.range g).map fun i => f + (2 * i + 1) * S / (2 * g)

def absDiff (a b : Nat) : Nat := (a - b) + (b - a)

/-- The stitch of a list nearest to a position, the later one on a tie. -/
def nearest (x : Nat) (l : List Nat) : Option Nat :=
  l.foldl (fun best v =>
    match best with
    | none => some v
    | some b => if absDiff v x < absDiff b x ∨ (absDiff v x = absDiff b x ∧ b < v) then some v else best) none

/-- Each position of the first list takes away the nearest entry of the second. -/
def claimNearest (xs l : List Nat) : List Nat :=
  xs.foldl (fun l x => match nearest x l with | some b => l.erase b | none => l) l

/-- A table in which a label holds g stitches, or as many as fit (R151): an increase keeps the label's stitches and each new one takes the free
stitch nearest its ideal position; a decrease keeps those nearest the new ideal positions. Each present stitch stands for the ideal position
nearest to it (DEDUCED, log entry 12). -/
def fillTable (f : Nat) (t : List Nat) (label g : Nat) : List Nat :=
  let S := t.length - f
  let idx := (List.range t.length).filter fun e => decide (f ≤ e)
  let mine := idx.filter fun e => entryValid (t.getD e 0) && entryLabel (t.getD e 0) == label
  let ideal := idealPos f S g
  if g ≤ mine.length then (claimNearest ideal mine).foldl (fun t e => t.set e 0) t
  else
    (claimNearest mine ideal).foldl (fun t x =>
      match nearest x (idx.filter fun e => !entryValid (t.getD e 0)) with
      | some e => t.set e (32768 + label)
      | none => t) t

/-- The same where it has to hold all g; none where the free stitches run out. -/
def placeTable (f : Nat) (t : List Nat) (label g : Nat) : Option (List Nat) :=
  let u := fillTable f t label g
  if tableGauge u label = g then some u else none

/-- A label placed with g stitches on a port (log entry 11): in the active table, where a ceiling leaves room for all of them, and in the shadow,
which software may have filled, as far as they fit. -/
def State.place (s : State) (k p label g : Nat) : State :=
  (s.writeTable false k p (fillTable (s.rowFirst k p) (s.rowTable false k p) label g)).writeTable true k p
    (fillTable (s.rowFirst k p) (s.rowTable true k p) label g)

/-- A label's entries released from both tables (R137). -/
def State.releaseRows (s : State) (k p label : Nat) : State :=
  let drop (sh : Bool) (s : State) : State :=
    s.writeTable sh k p ((s.rowTable sh k p).map fun v => if entryValid v && entryLabel v == label then 0 else v)
  drop true (drop false s)

/-! ### Swaps (R147) -/

def State.rowHeld (s : State) (k p : Nat) : Bool := s.rb (Reg.ROW_SWAP_STAT k (s.rowPort k p)) 1
def State.rowJob (s : State) (k p : Nat) : Nat := s.rf (Reg.ROW_SWAP_STAT k (s.rowPort k p)) 16 16
/-- A port held by a job, or released by it (Table 4.18). -/
def State.holdRows (s : State) (k p : Nat) (job : Option Nat) : State :=
  let a := Reg.ROW_SWAP_STAT k (s.rowPort k p)
  (s.setRb a 1 job.isSome).setRf a 16 16 (job.getD 0)

/-- A partner's job holds a port that it reaches over link (k', p'), or holds it no longer (R156, Table 4.18, log entry 103). -/
def State.holdFar (s : State) (k p : Nat) (link : Option (Nat × Nat)) : State :=
  let r := s.rowPort k p
  (s.setPort k r { s.port k r with farHold := link }).holdRows k p (link.map fun _ => 0xFFFE)

/-- The swap itself: the shadow becomes active, the epoch advances, and the shadow keeps a copy of the new active table (R147). -/
def State.doSwap (s : State) (k p : Nat) : State :=
  let r := s.rowPort k p
  let e := s.rf (Reg.ROW_EPOCH k r) 0 16
  let s := s.writeTable false k p (s.rowTable true k p)
  let s := (s.setRb (Reg.ROW_SWAP_STAT k r) 0 false).setRf (Reg.ROW_EPOCH k r) 0 16 (e + 1)
  let s := s.bump (Reg.ROW_SWAPS k r) 1
  if (s.port k r).farHold.isSome then s.holdFar k p none else s

/-! ### Raw routes (R129, R130) -/

def State.routeValid (s : State) (k r : Nat) : Bool := s.rb (Reg.RAW_ROUTE_A k r) 31
def State.routeInPort (s : State) (k r : Nat) : Nat := s.rf (Reg.RAW_ROUTE_A k r) 0 2
def State.routeInLabel (s : State) (k r : Nat) : Nat := s.rf (Reg.RAW_ROUTE_A k r) 16 12
def State.routeOutK (s : State) (k r : Nat) : Nat := s.rf (Reg.RAW_ROUTE_B k r) 0 3
def State.routeOutP (s : State) (k r : Nat) : Nat := s.rf (Reg.RAW_ROUTE_B k r) 4 2
def State.routeOutLabel (s : State) (k r : Nat) : Nat := s.rf (Reg.RAW_ROUTE_B k r) 16 12
def State.routeEnc (s : State) (k r : Nat) : Bool := s.rb (Reg.RAW_ROUTE_B k r) 30

/-- The valid raw routes of the part, found in the register file: kernel and route. -/
def State.routes (s : State) : List (Nat × Nat) :=
  s.regs.filterMap fun e =>
    if addrBlock e.1 = 0x10 ∧ 0xA000 ≤ addrOff e.1 ∧ addrOff e.1 % 8 = 0 ∧ addrUnit e.1 < 8 ∧ bitAt e.2 31 then
      some (addrUnit e.1, (addrOff e.1 - 0xA000) / 8)
    else none

/-- The valid route of an ingress port and label; an ingress that is a member of a ply matches on either member (R128, R130). -/
def State.routeIn? (s : State) (k p label : Nat) : Option (Nat × Nat) :=
  s.routes.find? fun r => s.routeInLabel r.1 r.2 == label && s.samePly (r.1, s.routeInPort r.1 r.2) (k, p)

/-- The valid route that sends a label on an egress port, or on the ply that holds it. -/
def State.routeOut? (s : State) (k p label : Nat) : Option (Nat × Nat) :=
  s.routes.find? fun r => s.routeOutLabel r.1 r.2 == label && s.samePly (s.routeOutK r.1 r.2, s.routeOutP r.1 r.2) (k, p)

/-- The port by which a route's cells leave: on a loose ply the member that the label's bucket names (R190). -/
def State.routeEgress (s : State) (n r : Nat) : Nat × Nat := s.labelPort (s.routeOutK n r) (s.routeOutP n r) (s.routeOutLabel n r)

/-- The member of a loose ply that a port is: 1 for P2, 0 for P3 and elsewhere. -/
def State.memberOf (s : State) (k p : Nat) : Nat := if s.portPly k p = 2 ∧ p = 2 then 1 else 0

/-- What a route holds for cells that arrive, taken from another record; and what it holds for cells that it sends. -/
def Ctx.withRx (x a : Ctx) : Ctx :=
  { x with rxOpen := a.rxOpen, granted := a.granted, changed := a.changed, nack := a.nack, nackDue := a.nackDue, wholeSeq := a.wholeSeq,
           dropping := a.dropping, creditSent := a.creditSent, pn := a.pn, rxSeq := a.rxSeq, cms := a.cms, cls := a.cls }
def Ctx.withTx (x a : Ctx) : Ctx := { x with unacked := a.unacked, credit := a.credit, txSeq := a.txSeq, paid := a.paid }

/-- The records of a route start anew: SEQ at 0, nothing kept for replay, and no cell of the route waits (R134; DESIGN CHOICE for the cells that
wait when a route is deleted, log entry 121). -/
def State.clearRoute (s : State) (k r : Nat) : State :=
  let mine (key : Nat) : Bool := key / 2 == 1024 * k + r
  let s := (s.setRouteCtx (routeKey k r 0) {}).setRouteCtx (routeKey k r 1) {}
  let s := s.dropFlights fun f => match f.fin with | .route _ _ n i => n == k && i == r | .egress _ _ x => x.raw && mine x.n | _ => false
  s.allPorts.foldl (fun s e =>
    let x := s.kern e.1
    let y := s.port e.1 e.2
    (s.setKern e.1 { x with transit := (x.transit.map fun q => (q.1, q.2.filter fun c => !mine c.1)).filter fun q => !q.2.isEmpty }).setPort e.1 e.2
      { y with fetched := y.fetched.filter fun f => !(f.1.raw && mine f.1.n), plan := y.plan.filter fun f => !(f.src.raw && mine f.src.n),
               cut := y.cut.filter fun c => !mine c.1 }) s

/-- A route made invalid, its row-table entries on its egress port or ply released. -/
def State.dropRoute (s : State) (k r : Nat) : State :=
  let s := (s.plyPorts (s.routeOutK k r) (s.routeOutP k r)).foldl (fun s e => s.releaseRows e.1 e.2 (s.routeOutLabel k r)) s
  (s.clearRoute k r).setRb (Reg.RAW_ROUTE_A k r) 31 false

end Sys2Proof.Machine
end

