-- ==== Sys2Proof/Machine/Adapters.lean ====
section
/-! DEFINITION. The adapters of a kernel as tunnels see them (Table 4.2): the fields of a context, the context of an adapter, and the packets
that an adapter has made. -/

namespace Sys2Proof.Machine

/-- The state of a tunnel context (Table 4.5): 0 Closed, 1 Opening, 2 Open, 3 Draining, 4 Held, 5 Fault. -/
def State.tunState (s : State) (k t : Nat) : Nat := s.rf (Reg.TUN_CTRL k t) 0 3
def State.tunType (s : State) (k t : Nat) : Nat := s.rf (Reg.TUN_CTRL k t) 4 4
def State.tunClass (s : State) (k t : Nat) : Nat := s.rf (Reg.TUN_CTRL k t) 8 3
def State.tunAdapter (s : State) (k t : Nat) : Nat := s.rf (Reg.TUN_PATH k t) 0 4
def State.outLabel (s : State) (k t : Nat) : Nat := s.rf (Reg.TUN_LABELS k t) 16 12

/-- Contexts outside Closed, found in the register file: kernel and context. -/
def State.liveCtxs (s : State) : List (Nat × Nat) :=
  s.regs.filterMap fun e =>
    if addrBlock e.1 = 0x10 ∧ addrOff e.1 < 0x8000 ∧ addrOff e.1 % 64 = 0 ∧ addrUnit e.1 < 8 ∧ fld e.2 0 3 ≠ 0 then
      some (addrUnit e.1, addrOff e.1 / 64)
    else none

/-- The context outside Closed that an adapter of a kernel serves. -/
def State.adapterCtx? (s : State) (k a : Nat) : Option Nat :=
  (s.liveCtxs.find? fun c => c.1 == k && decide (8 ≤ c.2) && s.tunAdapter c.1 c.2 == a).map (·.2)

/-- The context that serves an adapter, in state Open. -/
def State.adapterOpen? (s : State) (k a : Nat) : Option Nat := (s.adapterCtx? k a).filter fun t => s.tunState k t == 2

/-- The packets that an adapter has made and not yet handed over. -/
def State.outboxOf (s : State) (k a : Nat) : List (List Byte) := smapGet (fun _ => []) s.outbox (16 * k + a)

def State.setOutbox (s : State) (k a : Nat) (l : List (List Byte)) : State :=
  { s with outbox := smapPut (fun _ => []) s.outbox (16 * k + a) l }

/-- A transport goes down: waiting events, subscription and event sequence are lost (R515). -/
def State.viaDown (s : State) (v : Via) : State := let e := s.ep v; s.setEp v { kept := e.kept }

def State.viaUpNow (s : State) (v : Via) : State := let e := s.ep v; s.setEp v { kept := e.kept, up := true }

/-- The oldest whole packet received for a context, with its congestion mark, taken by its adapter; the freed cells change the credit of a
lossless tunnel (R184). -/
def State.takeAdapter (s : State) (k t : Nat) : Option ((Bool × List Byte) × State) :=
  (List.range 17).findSome? fun m =>
    let c := s.ctxAt k t m
    match c.rxq with
    | [] => none
    | b :: l => some (b, s.setCtxAt k t m { c with rxq := l, changed := c.changed || [0, 3, 4].contains (s.tunClass k t) })

/-- A packet made by an adapter; it waits until its tunnel takes it. -/
def State.emit (s : State) (k a : Nat) (bs : List Byte) : State := s.setOutbox k a (s.outboxOf k a ++ [bs])

end Sys2Proof.Machine
end

