-- ==== Sys2Proof/Machine/Time.lean ====
section
/-! DEFINITION. The timebase (R327 to R336): its state, steering, sources, time transfer over links and TIME_INFO. -/

namespace Sys2Proof.Machine

/-- TAI in units of 2^-16 ns. -/
def State.taiX (s : State) : Int := (s.taiOff + (s.now : Int)) * 65536 + s.taiFrac

def State.setTaiX (s : State) (x : Int) : State := { s with taiOff := x / 65536 - s.now, taiFrac := (x % 65536).toNat }

/-! ### The registers of the one timebase (R328): every kernel of the part holds a copy -/

def State.setTime (s : State) (off : Nat) (w : Word) : State :=
  s.setRegs ((List.range s.variant.kernels).map fun k => (regAddr k 0x03 off, w))

/-- A register of the TIME block as the lead holds it. -/
def State.timeReg (s : State) (off : Nat) : Word := s.reg (regAddr s.lead 0x03 off)

def timeStateOff : Nat := 0x000
def timeUtcOff : Nat := 0x008
def timeSrcOff (i : Nat) : Nat := 0x030 + 4 * i

/-- STATE: 0 Free-run, 1 Acquiring, 2 Locked, 3 Holdover; and the index of the selected source, 7 for none. -/
def State.timeState (s : State) : Nat := fld (s.timeReg timeStateOff) 0 2
def State.timeSource (s : State) : Nat := fld (s.timeReg timeStateOff) 4 3
def State.timeKind (s : State) : Nat := fld (s.timeReg timeStateOff) 12 3
def State.everLocked (s : State) : Bool := bitAt (s.timeReg timeStateOff) 8

/-- TAI minus UTC in seconds. -/
def State.utcOffset (s : State) : Int := sfld (s.timeReg timeUtcOff) 0 16

def State.putTimeState (s : State) (st src kind : Nat) : State :=
  s.setTime timeStateOff (packWord [(0, 2, st), (4, 3, src), (8, 1, (s.everLocked || st == 2).toNat), (12, 3, kind)])

/-! ### TIME_INFO (R336) -/

/-- Hops from a source of kind 1 or 2, 15 when there is none. -/
def State.timeHops (s : State) : Nat :=
  match s.timeKind with
  | 1 => 0
  | 2 => 0
  | 3 =>
    let w := s.timeReg (timeSrcOff s.timeSource)
    match (s.port (fld w 4 3) (fld w 8 2)).farTime with
    | some (_, _, h) => min 15 (h + 1)
    | none => 15
  | _ => 15

/-- The selected source is the link of a port. -/
def State.sourceIsPort (s : State) (k p : Nat) : Bool :=
  let w := s.timeReg (timeSrcOff s.timeSource)
  s.timeKind == 3 && fld w 4 3 == k && fld w 8 2 == p

/-- The clockClass that a PTP clock of this part announces (R340). -/
def State.clockClass (s : State) (k : Nat) : Nat :=
  match s.timeState with
  | 2 => if s.timeKind = 2 ∨ (s.timeKind = 3 ∧ s.timeHops < 15) then 6 else 248
  | 3 => if s.now < s.tb.lostAt + s.rf (Reg.PTP_HOLDOVER_SPEC k) 0 16 * 1000000000 then 7 else 187
  | _ => 248

/-- The TIME_INFO packet of a port. -/
def State.timeInfoPacket (s : State) (k p : Nat) : List Byte :=
  let x := s.port k p
  let tx := smapGet (fun _ => 0) x.txTimes (x.row % 256) / 256
  let utc := s.timeReg timeUtcOff
  wordsBytes [packWord [(0, 8, 1), (8, 8, 1)], word tx, word (tx / 2 ^ 32), word x.row,
    packWord [(0, 16, fld utc 0 16), (16, 2, fld utc 16 2), (24, 2, s.timeState), (26, 1, (s.sourceIsPort k p).toNat), (27, 4, s.timeHops)],
    packWord [(0, 8, s.clockClass k)]]

/-- TIME_INFO sent on a port that is Open and not in Husk. -/
def State.sendTimeInfo (s : State) (k p : Nat) : State :=
  if s.rf (Reg.LNK_STATE k p) 0 4 = 3 ∧ s.rf (Reg.LNK_STATE k p) 4 2 ≠ 2 ∧ !(s.port k p).timeFault ∧ s.tunState k 4 = 2 then
    s.queueBytes k 4 p 2 false (s.timeInfoPacket k p)
  else s

def State.sendTimeInfos (s : State) : State :=
  ((List.range s.variant.kernels).flatMap fun k => (List.range 4).map fun p => (k, p)).foldl (fun s x => s.sendTimeInfo x.1 x.2) s

/-! ### Sources (R330, Table 10.3) -/

/-- PPS_IN has been valid for three seconds in a row and still is (R333). -/
def State.ppsGood (s : State) : Bool :=
  decide (4 ≤ s.tb.ppsRun) && (match s.tb.ppsAt with | some t => decide (s.now ≤ t + 1001000000) | none => false)

/-- IRIGB_IN has been valid for three seconds in a row (R332). -/
def State.irigGood (s : State) : Bool := decide (6 ≤ s.tb.irigRun) && decide (s.now ≤ s.tb.irigAt + 2000000000)

/-- The condition of Table 10.3 for a word of the source list. -/
def State.sourceValid (s : State) (w : Word) : Bool :=
  let k := fld w 4 3
  let p := fld w 8 2
  match fld w 0 3 with
  | 1 =>
    let x := s.net k
    x.ocState == 9 && decide (16 ≤ x.good) && decide (2 ≤ s.rf (Reg.PTP_CTRL k) 0 2) && s.rf (Reg.PTP_CTRL k) 16 2 == p
  | 2 => s.irigGood && (s.ppsGood || (s.rb (Reg.TIME_CTRL 0) 2 && s.tb.ppsRun == 0))
  | 3 =>
    let x := s.port k p
    decide (p < 4) && s.rf (Reg.LNK_STATE k p) 0 4 == 3 && s.rf (Reg.LNK_STATE k p) 4 2 != 2
      && (s.rb (Reg.LNK_STATE k p) 7 || s.rb (Reg.TIME_CTRL k) 3)
      && (match x.farTime with | some (st, you, _) => decide (2 ≤ st) && !you && !x.farYou | none => false)
  | 4 => s.tb.refclk
  | _ => false

/-- The valid source of highest priority, 7 for none. -/
def State.bestSource (s : State) : Nat := ((List.range 6).find? fun i => s.sourceValid (s.timeReg (timeSrcOff i))).getD 7

/-- The timebase moves to a source, or to none (R330, R331). REFCLK gives frequency only. -/
def State.moveSource (s : State) (i : Nat) : State :=
  let old := s.timeSource
  let kind := if i < 6 then fld (s.timeReg (timeSrcOff i)) 0 3 else 0
  let was := s.timeState
  let lost := kind = 0 ∨ kind = 4
  let st := if lost then (if was = 2 ∨ was = 3 ∨ (was = 1 ∧ s.everLocked) then 3 else 0) else 1
  let s : State := if st = 3 ∧ was ≠ 3 then { s with tb := { s.tb with lostAt := s.now } } else s
  let s : State := { s with tb := { s.tb with fixAt := s.now } }
  ((s.putTimeState st i kind).log s.lead Ev.timeSource 0 [old, i, 0xA0 + st]).sendTimeInfos

/-- One correction toward the selected source (R329): `o` is this timebase's time minus the source's, in 2^-16 ns. A first offset beyond
TIME_STEP_LIMIT steps; else phase is slewed, within TIME_SLEW since the last correction. How much of the offset a correction takes out is
open, as is the frequency correction within ±200 ppm. -/
def State.steer (s : State) (o : Int) : State :=
  let lim := fld (s.timeReg 0x00C) 0 30
  let st := s.timeState
  if st = 1 ∧ lim ≠ 0 ∧ lim * 65536 < o.natAbs then
    let ns := -(o / 65536)
    let s := (s.setTaiX (s.taiX - o)).putTimeState 2 s.timeSource s.timeKind
    let s : State := { s with tb := { s.tb with fixAt := s.now } }
    (s.log s.lead Ev.timeStep 0 [(BitVec.ofInt 32 ns).toNat, (BitVec.ofInt 32 (ns / 4294967296)).toNat]).sendTimeInfos
  else
    let most := min o.natAbs ((s.now - s.tb.fixAt) * fld (s.timeReg 0x010) 0 10 * 65536 / 1000000)
    let c := s.fresh.1.toNat % (most + 1)
    let s := s.fresh.2
    let f : Int := (s.fresh.1.toNat % 400001 : Nat) - (200000 : Int)
    let s := s.fresh.2.setTime 0x01C (BitVec.ofInt 32 f)
    let s := s.setTaiX (if 0 < o then s.taiX - c else s.taiX + c)
    let s : State := { s with tb := { s.tb with fixAt := s.now } }
    if st = 1 ∧ c = o.natAbs then (s.putTimeState 2 s.timeSource s.timeKind).sendTimeInfos else s

/-! ### Time transfer over links (R334, R335) -/

/-- The time in 1/256 ns that a 56-bit field means: the value nearest to a reference. -/
def nearTime (ref f : Nat) : Int :=
  let m : Nat := 2 ^ 56
  let base := ref / m * m + f % m
  if ref + m / 2 < base then (base : Int) - m else if base + m / 2 < ref then (base : Int) + m else base

/-- The fields of the ROW_INFO body that a port sends (Table 10.5): TX_TIME, ECHO_ROW, ECHO_RX, STATE, SRC_IS_YOU, HOPS. -/
def State.rowInfo (s : State) (k p : Nat) : Nat × Nat × Nat × Nat × Bool × Nat :=
  let x := s.port k p
  let e := x.markRx.getD (0, 0)
  (smapGet (fun _ => 0) x.txTimes (x.row % 256) % 2 ^ 56, e.1, e.2 % 2 ^ 56, s.timeState, s.sourceIsPort k p, s.timeHops)

/-- A ROW_INFO received: d and o from its four instants (R335); T4 is when its row's marker arrived. -/
def State.rowInfoRx (s : State) (k p tx echoRow echoRx : Nat) (you : Bool) : State :=
  let x := s.port k p
  let t4 := (x.markRx.map (·.2)).getD (s.tai * 256 + s.taiFrac / 256)
  let s := s.setPort k p { x with farYou := you }
  match x.txTimes.find? fun e => e.1 == echoRow % 256 with
  | none => s
  | some (_, t1) =>
    let t3 := nearTime (if x.farFull = 0 then t4 else x.farFull * 256) tx
    let t2 := nearTime (if x.farFull = 0 then t1 else x.farFull * 256) echoRx
    let a := (t4 : Int) - t3
    let b := t2 - (t1 : Int)
    let d := (a + b) * 1000 / 512
    let o := (a - b) * 1000 / 512 - (s.reg (Reg.LTT_ASYM k p)).toInt
    let s := if 0 ≤ d ∧ d < 4294967296 then s.setReg (Reg.LTT_DELAY k p) (word d.toNat) else s.fresh.2.setReg (Reg.LTT_DELAY k p) s.fresh.1
    let s := s.setReg (Reg.LTT_OFFSET k p) (satSigned o)
    if s.sourceIsPort k p ∧ s.sourceValid (s.timeReg (timeSrcOff s.timeSource)) then s.steer (o * 65536 / 1000) else s

/-! ### Calendar (R332) -/

/-- Days from 1970-01-01 to the first day of a year. -/
def daysBefore (y : Nat) : Nat := 365 * (y - 1970) + ((y - 1) / 4 - (y - 1) / 100 + (y - 1) / 400 - 477)

/-- The year of a UTC second. -/
def yearOf (sec : Nat) : Nat :=
  let d := sec / 86400
  ((List.range 600).find? fun i => decide (d < daysBefore (1971 + i))).getD 599 + 1970

/-- The TAI second that a decoded IRIG frame names: its day and second of the day, less the local offset, plus TAI − UTC. -/
def irigSecond (year day sod : Nat) (zone utc : Int) : Int :=
  (daysBefore year + (day - 1)) * 86400 + sod - zone + utc

end Sys2Proof.Machine
end

