-- ==== Sys2Proof/Machine/Ether.lean ====
section
/-! DEFINITION. Ethernet frames and the PRP pair (R319 to R326): frames are bytes from the destination address to the end of the payload,
without FCS. Places of IEEE 802.3, IEEE 802.1Q and IEC 62439-3 fields are theirs (PRESUMED, log entry 29). -/

namespace Sys2Proof.Machine

/-- The adapter of Ethernet port e (Table 4.2). -/
def ethAdapter (e : Nat) : Nat := 9 + e

/-- A big-endian number of n bytes as bytes. -/
def beBytes (n v : Nat) : List Byte := (List.range n).map fun i => BitVec.ofNat 8 (v / 256 ^ (n - 1 - i))

/-- A big-endian number of n bytes at byte i. -/
def beNat (b : List Byte) (i n : Nat) : Nat := (List.range n).foldl (fun v j => v * 256 + byteAt b (i + j)) 0

/-- Where the EtherType stands: after up to two VLAN tags. -/
def typeAt (b : List Byte) : Nat :=
  let tag (i : Nat) : Bool := beNat b i 2 == 0x8100 || beNat b i 2 == 0x88A8
  if tag 12 then (if tag 16 then 20 else 16) else 12

def etherType (b : List Byte) : Nat := beNat b (typeAt b) 2

/-- The payload after the EtherType. -/
def etherLoad (b : List Byte) : List Byte := b.drop (typeAt b + 2)

def srcMac (b : List Byte) : Nat := beNat b 6 6

/-- The MAC address of Ethernet port e, whose first octet stands in the low byte of ETH_MAC_LO (R347). -/
def State.macOf (s : State) (k e : Nat) : Nat := beNat (wordBytes (s.reg (Reg.ETH_MAC_LO k e)) ++ wordBytes (s.reg (Reg.ETH_MAC_HI k e))) 0 6

/-- A frame of the part's own, padded to the least length. -/
def ownFrame (dst src : Nat) (tag : List Byte) (ty : Nat) (body : List Byte) : List Byte :=
  let b := beBytes 6 dst ++ beBytes 6 src ++ tag ++ beBytes 2 ty ++ body
  b ++ List.replicate (60 - b.length) 0

/-! ### Ports -/

def Net.eth (x : Net) (e : Nat) : EthPort := if e = 0 then x.e0 else x.e1

def State.setEth (s : State) (k e : Nat) (p : EthPort) : State :=
  let x := s.net k
  s.setNet k (if e = 0 then { x with e0 := p } else { x with e1 := p })

/-- MEDIUM 5 to 7 act as 0 (Table 10.14). -/
def actsMedium (m : Nat) : Nat := if 4 < m then 0 else m

/-- MEDIUM: 5 to 7 act as 0, Off (Table 10.14). -/
def State.medium (s : State) (k e : Nat) : Nat := actsMedium (s.rf (Reg.ETH_CTRL k e) 0 3)

def State.ethLink (s : State) (k e : Nat) : Bool := s.rb (Reg.ETH_STATUS k e) 0

/-- MAX_FRAME, held to its range. -/
def State.maxFrame (s : State) (k e : Nat) : Nat := max 1518 (min (s.rf (Reg.ETH_CTRL k e) 16 14) 9216)

/-- The kernel's ports form a PRP pair. -/
def State.paired (s : State) (k : Nat) : Bool := s.rb (Reg.PRP_CTRL k) 0

/-- A frame put on the medium. -/
def State.ethSend (s : State) (k e : Nat) (b : List Byte) : State :=
  if s.ethLink k e then
    let p := (s.net k).eth e
    (s.setEth k e { p with out := p.out ++ [b] }).bump (Reg.ETH_TX_FRAMES k e) 1
  else s

/-! ### PRP (R323 to R325) -/

/-- PRP_STATUS: proxy and discard entries. -/
def State.prpCount (s : State) (k : Nat) : State :=
  let x := s.net k
  (s.setRf (Reg.PRP_STATUS k) 8 7 x.proxy.length).setRf (Reg.PRP_STATUS k) 16 11 x.seen.length

/-- The redundancy control trailer of a frame on a LAN (R324). -/
def rctBytes (b : List Byte) (seq lan : Nat) : List Byte :=
  beBytes 2 seq ++ beBytes 2 ((0xA + lan) * 4096 + (etherLoad b).length + 6) ++ beBytes 2 0x88FB

/-- A frame carries a valid RCT. -/
def hasRct (b : List Byte) : Bool :=
  let n := b.length
  decide (20 ≤ n) && beNat b (n - 2) 2 == 0x88FB && beNat b (n - 4) 2 % 4096 == (etherLoad b).length

/-- A frame sent by the pair on both LANs with its RCT: `own` for one that the part originates, else for the VDAN it comes from. -/
def State.pairSend (s : State) (k : Nat) (own : Bool) (b : List Byte) : State :=
  let x := s.net k
  let mac := srcMac b
  let both (s : State) (f : Nat → List Byte) : State := (s.ethSend k 0 (f 0)).ethSend k 1 (f 1)
  let long := decide (min (s.maxFrame k 0) (s.maxFrame k 1) < b.length + 10)
  let withRct (s : State) (seq : Nat) : State :=
    if long then (both s fun _ => b).bump (Reg.PRP_TOO_LONG k) 1 else both s fun e => b ++ rctBytes b seq e
  if own then withRct (s.setNet k { x with ownSeq := (x.ownSeq + 1) % 65536 }) x.ownSeq
  else
    match x.proxy.find? fun v => v.1 == mac with
    | some (_, _, seq) =>
      withRct (s.setNet k { x with proxy := x.proxy.map fun v => if v.1 = mac then (mac, s.now, (seq + 1) % 65536) else v }) seq
    | none =>
      if x.proxy.length < 64 then withRct ((s.setNet k { x with proxy := x.proxy ++ [(mac, s.now, 1)] }).prpCount k) 0
      else (both s fun _ => b).bump (Reg.PRP_PROXY_FULL k) 1

/-- A discard entry for the first copy of a frame; the oldest gives way when 1,024 are held. -/
def Net.remember (x : Net) (v : Nat × Nat × Nat) : Net :=
  let l := v :: x.seen
  { x with seen := l.take 1024, gone := l.drop 1024 ++ x.gone.filter fun g => !(g.1 == v.1 && g.2.1 == v.2.1) }

/-- A frame received by the pair on LAN e: the first copy without its RCT, or nothing for a second copy (R325). -/
def State.pairReceive (s : State) (k e : Nat) (b : List Byte) : Option (List Byte) × State :=
  let n := b.length
  if !hasRct b then (some b, s)
  else
    let x := s.net k
    let v := (srcMac b, beNat b (n - 6) 2, e)
    let bare := b.take (n - 6)
    if byteAt b (n - 4) / 16 ≠ 0xA + e then (some bare, s.bump (Reg.PRP_WRONG_LAN k) 1)
    else if x.seen.any fun g => g.1 == v.1 && g.2.1 == v.2.1 then (none, s.bump (Reg.PRP_DUP_DISCARD k) 1)
    else
      let late := x.gone.any fun g => g.1 == v.1 && g.2.1 == v.2.1 && g.2.2 != e
      let s := if late then s.bump (Reg.PRP_DUP_LATE k) 1 else s
      (some bare, (s.setNet k (x.remember v)).prpCount k)

/-- A frame that the part originates on port 0, 1 or the pair (2). -/
def State.ownSend (s : State) (k port : Nat) (b : List Byte) : State :=
  if port = 2 ∨ s.paired k then s.pairSend k true b else s.ethSend k port b

/-! ### Congestion (R186) -/

/-- The ones' complement sum of the 16-bit words of a header. -/
def onesSum (b : List Byte) : Nat :=
  let t := ((List.range (b.length / 2)).map fun i => beNat b (2 * i) 2).sum
  let t := t % 65536 + t / 65536
  t % 65536 + t / 65536

/-- An IPv4 or IPv6 frame that is ECN-capable, with CE set and its header checksum made good; none for any other frame. -/
def markCe (b : List Byte) : Option (List Byte) :=
  let i := typeAt b + 2
  if etherType b = 0x0800 then
    let tos := byteAt b (i + 1)
    if tos % 4 = 1 ∨ tos % 4 = 2 then
      let n := byteAt b i % 16 * 4
      let h := slice b i n
      let h := h.take 1 ++ [BitVec.ofNat 8 (tos ||| 3)] ++ (h.drop 2).take 8 ++ [0, 0] ++ h.drop 12
      let c := 65535 - onesSum h
      some (b.take i ++ h.take 10 ++ beBytes 2 c ++ h.drop 12 ++ b.drop (i + n))
    else none
  else if etherType b = 0x86DD then
    let e := byteAt b (i + 1) / 16 % 4
    if e = 1 ∨ e = 2 then some (b.take (i + 1) ++ [BitVec.ofNat 8 (byteAt b (i + 1) ||| 0x30)] ++ b.drop (i + 2)) else none
  else none

/-! ### Tunnel packets (Table 10.2) -/

def etherPacket (ptype lan : Nat) (prp : Bool) (body : List Byte) : List Byte :=
  wordBytes (packWord [(0, 8, ptype), (8, 8, 1), (16, 1, lan), (17, 1, prp.toNat)]) ++ body

/-! ### Adapter of a tunnel -/

/-- The tunnel of an Ethernet port is Open, or no longer. -/
def State.ethTunnel (s : State) (k e : Nat) (on : Bool) : State := s.setRb (Reg.ETH_STATUS k e) 7 on

end Sys2Proof.Machine
end

