-- ==== Sys2Proof/Machine/Mapper.lean ====
section
/-! DEFINITION. The signal mapper (R349 to R366): rescaling, quality, the deadband, and what a published change does: pip channels, GPIO
pins and GOOSE publications. GOOSE frames are encoded as IEC 61850-8-1 (PRESUMED, log entry 31). -/

namespace Sys2Proof.Machine

/-! ### Rescaling (R353, R354) -/

/-- The greatest Q32.16 value. -/
def q3216Max : Int := 2 ^ 47 - 1

def clampInt (lo hi v : Int) : Int := max lo (min hi v)

/-- n / 2^sh rounded to the nearest integer, ties to even. -/
def halfEven (n sh : Nat) : Nat :=
  let q := n / 2 ^ sh
  let r := n % 2 ^ sh * 2
  if 2 ^ sh < r ∨ (r = 2 ^ sh ∧ q % 2 = 1) then q + 1 else q

/-- A binary32 value in Q32.16, rounded half to even; none for a NaN. -/
def floatIn (w : Word) : Option Int :=
  let e := fld w 23 8
  let m := fld w 0 23
  let neg := bitAt w 31
  let mag : Option Nat :=
    if e = 255 then (if m = 0 then some (2 ^ 48) else none)
    else
      let man := if e = 0 then m else m + 2 ^ 23
      let x := if e = 0 then 1 else e
      if 134 ≤ x then some (man * 2 ^ (x - 134)) else some (halfEven man (134 - x))
  mag.map fun v => clampInt (-q3216Max) q3216Max (if neg then -(v : Int) else v)

/-- y / 2^16 as the nearest binary32 value, ties to even. -/
def floatOut (y : Int) : Word :=
  let m := y.natAbs
  if m = 0 then 0
  else
    let e := m.log2
    let man := if e ≤ 23 then m * 2 ^ (23 - e) else halfEven m (e - 23)
    let r := if man = 2 ^ 24 then (2 ^ 23, e + 1) else (man, e)
    packWord [(0, 23, r.1), (23, 8, r.2 + 111), (31, 1, (decide (y < 0)).toNat)]

/-- An input of type 0 BOOL, 1 INT32 or 2 FLOAT32 in Q32.16. -/
def inputQ (ty : Nat) (w : Word) : Option Int :=
  match ty with
  | 0 => some (if bitAt w 0 then 65536 else 0)
  | 1 => some (clampInt (-q3216Max) q3216Max (w.toInt * 65536))
  | _ => floatIn w

/-- a·x + b in Q32.16, before the clamp. -/
def scaleQ (a b : Word) (x : Int) : Int := (a.toInt * x + 32768) / 65536 + b.toInt

/-- The limits of an output type. -/
def outLimits (ty : Nat) : Int × Int :=
  if ty = 1 then (-(2 ^ 31) * 65536, (2 ^ 31 - 1) * 65536) else (-q3216Max, q3216Max)

/-- The output word of a clamped result. -/
def outputWord (ty : Nat) (y : Int) : Word :=
  match ty with
  | 0 => if 32768 ≤ y then 1 else 0
  | 1 => BitVec.ofInt 32 ((y + 32768) / 65536)
  | _ => floatOut y

/-! ### Signals -/

def Mapper.sig (x : Mapper) (g : Nat) : Sig := smapGet (fun _ => {}) x.sigs g

def State.setSig (s : State) (k g : Nat) (v : Sig) : State :=
  let x := s.mapper k
  s.setMapper k { x with sigs := smapPut (fun _ => {}) x.sigs g v }

def Mapper.sub (x : Mapper) (i : Nat) : GooseSub := smapGet (fun _ => {}) x.subs i

def State.setSub (s : State) (k i : Nat) (v : GooseSub) : State :=
  let x := s.mapper k
  s.setMapper k { x with subs := smapPut (fun _ => {}) x.subs i v }

def Mapper.pub (x : Mapper) (i : Nat) : GoosePub := smapGet (fun _ => {}) x.pubs i

def State.setPub (s : State) (k i : Nat) (v : GoosePub) : State :=
  let x := s.mapper k
  s.setMapper k { x with pubs := smapPut (fun _ => {}) x.pubs i v }

/-- A signal that is defined. -/
def State.sigOn (s : State) (k g : Nat) : Bool := s.rb (Reg.SMAP_CTRL k g) 31

/-- The defined signals whose source answers a test on SRC_KIND and SMAP_SRC. -/
def State.sigsFrom (s : State) (k : Nat) (p : Nat → Word → Bool) : List Nat :=
  (List.range 256).filter fun g => s.sigOn k g && p (s.rf (Reg.SMAP_CTRL k g) 0 3) (s.reg (Reg.SMAP_SRC k g))

/-! ### GOOSE encoding (R358) -/

/-- A BER element. -/
def ber (tag : Nat) (b : List Byte) : List Byte :=
  let n := b.length
  BitVec.ofNat 8 tag ::
    (if n < 128 then [BitVec.ofNat 8 n] else if n < 256 then [0x81, BitVec.ofNat 8 n] else 0x82 :: beBytes 2 n) ++ b

/-- An unsigned number of up to 32 bits as a BER integer. -/
def berNat (tag v : Nat) : List Byte := ber tag (if v < 128 then beBytes 1 v else if v < 2 ^ 15 then beBytes 2 v else beBytes 5 v)

/-- A TAI time as UtcTime: the leap-second flag and ClockNotSynchronized come from the timebase; the accuracy is not specified. -/
def State.utcTime (s : State) (t : Nat) : List Byte :=
  let u := ((t : Int) - s.utcOffset * 1000000000).toNat
  let leap := decide (fld (s.timeReg timeUtcOff) 16 2 ≠ 0)
  beBytes 4 (u / 1000000000) ++ beBytes 3 (u % 1000000000 * 2 ^ 24 / 1000000000)
    ++ [BitVec.ofNat 8 (128 * leap.toNat + 32 * (decide (s.timeState ≠ 2)).toNat + 31)]

/-- A quality as a bit string: validity first, then bits 2 to 12 in order. -/
def qualityBits (q : Nat) : List Byte :=
  let bit (i : Nat) : Nat := (q / 2 ^ (if i < 2 then 1 - i else i)) % 2
  let v := (List.range 13).foldl (fun v i => v * 2 + bit i) 0
  3 :: beBytes 2 (v * 8)

/-- A member of a data set: the published value, quality or time of a signal. -/
def State.gooseMember (s : State) (k : Nat) (m : Nat × Nat) : List Byte :=
  let v := s.reg (Reg.SMAP_OUT k m.1)
  let x := (s.mapper k).sig m.1
  match m.2 with
  | 0 =>
    match s.rf (Reg.SMAP_CTRL k m.1) 8 2 with
    | 0 => ber 0x83 [if bitAt v 0 then 1 else 0]
    | 1 => ber 0x85 (beBytes 4 v.toNat)
    | _ => ber 0x87 (8 :: beBytes 4 v.toNat)
  | 1 => ber 0x84 (qualityBits x.qPub)
  | _ => ber 0x91 (s.utcTime x.tPub)

/-- The frame that a publication sends now, with a timeAllowedToLive of twice the interval to its next one (R359). -/
def State.gooseFrame (s : State) (k i : Nat) : List Byte :=
  let x := (s.mapper k).pub i
  let data := x.members.flatMap (s.gooseMember k)
  let pdu := ber 0x61 (ber 0x80 x.gocbRef ++ berNat 0x81 (2 * x.interval) ++ ber 0x82 x.datSet ++ ber 0x83 x.goId ++ ber 0x84 (s.utcTime x.t)
    ++ berNat 0x85 (s.reg (Reg.GPUB_STNUM k i)).toNat ++ berNat 0x86 (s.reg (Reg.GPUB_SQNUM k i)).toNat ++ ber 0x87 [0]
    ++ berNat 0x88 x.confRev ++ ber 0x89 [0] ++ berNat 0x8A x.members.length ++ ber 0xAB data)
  let port := s.rf (Reg.GPUB_CTRL k i) 1 2
  ownFrame x.mac (s.macOf k (if port = 1 then 1 else 0)) x.tag 0x88B8 (beBytes 2 x.appid ++ beBytes 2 (8 + pdu.length) ++ [0, 0, 0, 0] ++ pdu)

/-- The frame sent and counted. -/
def State.gooseSend (s : State) (k i : Nat) : State :=
  (s.ownSend k (s.rf (Reg.GPUB_CTRL k i) 1 2) (s.gooseFrame k i)).bump (Reg.GPUB_SENT k i) 1

/-- A new state of a publication (R358): stNum up, sqNum 0, t the signal's time, and the ladder starts again (R359). -/
def State.gooseNew (s : State) (k i time : Nat) : State :=
  let x := (s.mapper k).pub i
  let s := s.setRegs [(Reg.GPUB_STNUM k i, s.reg (Reg.GPUB_STNUM k i) + 1), (Reg.GPUB_SQNUM k i, 0)]
  (s.setPub k i { x with newAt := some s.now, gather := none, interval := min x.tMin x.t0, t := time }).gooseSend k i

/-- A member's signal has changed: a new state, or one gathered while 250 µs have not passed since the last. -/
def State.gooseChange (s : State) (k i time : Nat) : State :=
  let x := (s.mapper k).pub i
  let soon := match x.newAt with | some a => decide (s.now < a + 250000) | none => false
  if soon then s.setPub k i { x with gather := some time } else s.gooseNew k i time

/-! ### GPIO (R360) -/

/-- The pin that a signal drives: its value, or FAILSAFE while it is invalid. -/
def State.driveGpio (s : State) (k g : Nat) : State :=
  let pin := s.rf (Reg.SMAP_DST k g) 0 4
  let c := s.reg (Reg.GPIO_CFG k pin)
  let v := if s.rf (Reg.SMAP_QUAL k g) 0 2 = 1 ∧ bitAt c 4 then bitAt c 3 else decide (s.reg (Reg.SMAP_OUT k g) ≠ 0) != bitAt c 2
  s.setRb (Reg.GPIO_OUT k) pin v

/-! ### Publishing (R355) -/

/-- A change published: it reaches every destination. -/
def State.publish (s : State) (k g : Nat) (y : Int) (out : Word) (q time : Nat) : State :=
  let x := (s.mapper k).sig g
  let s := (s.setReg (Reg.SMAP_OUT k g) out).bump (Reg.SMAP_PUBLISHED k g) 1
  let s := s.setSig k g { x with pub := some y, qPub := q, tPub := time }
  let s := match s.rf (Reg.SMAP_CTRL k g) 12 2 with
    | 1 => let m := s.mapper k; s.setMapper k { m with due := (m.due.filter fun h => h != g) ++ [g] }
    | 2 => s.driveGpio k g
    | _ => s
  ((List.range 4).filter fun i => s.rb (Reg.GPUB_CTRL k i) 0 && ((s.mapper k).pub i).members.any fun m => m.1 == g).foldl
    (fun s i => s.gooseChange k i time) s

/-- The quality of a signal changes and its value stays (R350). -/
def State.requality (s : State) (k g q : Nat) : State :=
  let x := (s.mapper k).sig g
  let s := s.setRf (Reg.SMAP_QUAL k g) 0 13 q
  if x.pub.isSome ∧ q = x.qPub then s
  else s.publish k g (x.pub.getD 0) (s.reg (Reg.SMAP_OUT k g)) q (s.reg (Reg.SMAP_TIME_LO k g)).toNat

/-- Validity invalid and oldData: the source timed out or its path went down. -/
def State.sigInvalid (s : State) (k g : Nat) : State :=
  let q := s.rf (Reg.SMAP_QUAL k g) 0 13
  s.requality k g (q / 4 * 4 + 1 + (if q / 128 % 2 = 1 then 0 else 128))

/-- One update of a signal (R352 to R355): an input word of a type, with its quality and time. -/
def State.sigUpdate (s : State) (k g ty : Nat) (w : Word) (q time : Nat) : State :=
  let s := (s.setReg (Reg.SMAP_IN k g) w).bump (Reg.SMAP_UPDATES k g) 1
  match inputQ ty w with
  | none => s.requality k g (q / 4 * 4 + 1)
  | some x =>
    let out := s.rf (Reg.SMAP_CTRL k g) 8 2
    let raw := scaleQ (s.reg (Reg.SMAP_A k g)) (s.reg (Reg.SMAP_B k g)) x
    let l := outLimits out
    let y := clampInt l.1 l.2 raw
    let sat := decide (y ≠ raw) || (ty == 2 && fld w 23 8 == 255)
    let v := outputWord out y
    let q := if sat then (q / 8 * 8 + 8 * (1 - q / 8 % 2)) / 4 * 4 + (q / 4 % 2) * 4 + 3 else q
    let s := s.setReg (Reg.SMAP_QUAL k g) (packWord [(0, 13, q), (16, 1, sat.toNat)])
    let s := s.setRegs [(Reg.SMAP_TIME_LO k g, word time), (Reg.SMAP_TIME_HI k g, word (time / 2 ^ 32))]
    let s := if sat then (s.bump (Reg.SMAP_SATS k g) 1).log k Ev.smapSat g [g, v.toNat] else s
    let p := (s.mapper k).sig g
    let moved := match p.pub with
      | none => true
      | some y0 => decide (q ≠ p.qPub)
          || (if out = 0 then decide (v ≠ s.reg (Reg.SMAP_OUT k g)) else decide ((s.reg (Reg.SMAP_DEADBAND k g)).toNat < (y - y0).natAbs))
    if moved then s.publish k g y v q time else s

/-! ### Pip frames (R363, R364) -/

/-- An entry of a pip frame: the last published value of a signal. -/
def State.pipEntry (s : State) (k g : Nat) : List Byte :=
  let x := (s.mapper k).sig g
  wordsBytes [packWord [(0, 10, s.rf (Reg.SMAP_DST k g) 2 10), (10, 2, s.rf (Reg.SMAP_CTRL k g) 8 2), (16, 13, x.qPub)],
    s.reg (Reg.SMAP_OUT k g), word x.tPub, word (x.tPub / 2 ^ 32)]

/-- A port on which T5 carries pip frames: Open, and not in Husk or quarantined. -/
def State.pipPort (s : State) (k p : Nat) : Bool :=
  s.rf (Reg.LNK_STATE k p) 0 4 == 3 && s.rf (Reg.LNK_STATE k p) 4 2 != 2 && !(s.port k p).pipFault && s.tunState k 5 == 2

/-- One frame of up to 8 entries sent on a port. -/
def State.pipSend (s : State) (k p : Nat) (gs : List Nat) : State :=
  let x := s.port k p
  let b := wordsBytes [packWord [(0, 8, 1), (8, 8, 1), (16, 8, x.pipTx), (24, 4, gs.length)]] ++ gs.flatMap (s.pipEntry k)
  let s := s.setPort k p { x with pipTx := (x.pipTx + 1) % 256 }
  let s := s.queueBytes k 5 p 2 false (b ++ wordBytes (crc32c b))
  gs.foldl (fun s g => s.setSig k g { (s.mapper k).sig g with sentAt := some s.now }) s

/-- Frames for a list of signals, eight at a time. -/
def State.pipSendAll (s : State) (fuel k p : Nat) (gs : List Nat) : State :=
  match fuel with
  | 0 => s
  | fuel + 1 => if gs.isEmpty then s else (s.pipSend k p (gs.take 8)).pipSendAll fuel k p (gs.drop 8)

/-- The channels that changed are sent on their ports. -/
def State.pipFlush (s : State) (k : Nat) : State :=
  let gs := (s.mapper k).due
  let s := s.setMapper k { s.mapper k with due := [] }
  (List.range 4).foldl (fun s p =>
    let mine := gs.filter fun g => s.rf (Reg.SMAP_DST k g) 0 2 == p
    if s.pipPort k p then s.pipSendAll 32 k p mine else s) s

/-- Signals that lose their source, and what that sends. -/
def State.sigsInvalid (s : State) (k : Nat) (gs : List Nat) : State :=
  if gs.isEmpty then s else (gs.foldl (fun s g => s.sigInvalid k g) s).pipFlush k

/-- A port leaves Open: the signals of its channels go invalid (R366). -/
def State.pipPortLost (s : State) (k p : Nat) : State := s.sigsInvalid k (s.sigsFrom k fun kind w => kind == 2 && fld w 0 2 == p)

/-- A downstream port has no device, or the tunnel is not Open: its snooped fields are invalid (R362). -/
def State.hidLost (s : State) (k : Nat) (ports : Nat → Bool) : State :=
  s.sigsInvalid k (s.sigsFrom k fun kind w =>
    kind == 4 && s.rb (Reg.HID_FIELD_A k (fld w 0 3)) 0 && ports (s.rf (Reg.HID_FIELD_A k (fld w 0 3)) 1 2))

end Sys2Proof.Machine
end

