-- ==== Sys2Proof/Machine/Operands.lean ====
section
/-! DEFINITION. The operand forms of a request: its header fields, the fields of its parameter words by byte offset, and the unit it
names (R37, R39, R40, R43). Byte offsets count from byte 0 of the packet. -/

namespace Sys2Proof.Machine

/-- FLAGS.REMOTE, and the route it names (Table 2.2). -/
def reqRemote (r : Req) : Bool := r.flags / 2 % 2 == 1
def reqRouteP (r : Req) : Nat := r.flags / 8 % 4
def reqRouteK (r : Req) : Nat := r.flags / 32 % 8

/-- TARGET.UNIT and TARGET.SUB (Table 2.3). -/
def reqUnit (r : Req) : Nat := r.target % 16
def reqSub (r : Req) : Nat := r.target / 16 % 4096

/-- The parameter word at a byte offset of the packet; a word the packet does not hold reads 0. -/
def reqWord (r : Req) (off : Nat) : Word := r.params.getD ((off - 12) / 4) 0

/-- A field of the parameter word at a byte offset. -/
def reqField (r : Req) (off lo n : Nat) : Nat := fld (reqWord r off) lo n

def reqBit (r : Req) (off i : Nat) : Bool := bitAt (reqWord r off) i

/-- `c` parameter words from a byte offset. -/
def reqWords (r : Req) (off c : Nat) : List Word := (List.range c).map fun i => reqWord r (off + 4 * i)

/-- The parameter bytes from a byte offset. -/
def reqBytes (r : Req) (off : Nat) : List Byte := wordsBytes (r.params.drop ((off - 12) / 4))

/-- The unit a request acts on: 0xE is the local kernel of its transport (R43). -/
def reqTarget (r : Req) : Nat := if reqUnit r = 14 then localKernel r.via else reqUnit r

/-- The domain of the link port that TARGET.SUB names: LINKA or LINKB (Table 15.1). -/
def portDomain (r : Req) : Nat := 4 + reqSub r / 2

/-- The kernel whose Needle executes a request: the lead's for the power die (R25, R56). -/
def execKernel (s : State) (unit : Nat) : Nat := if unit = 15 then s.lead else unit

end Sys2Proof.Machine
end

