-- ==== Sys2Proof/Machine/Flags.lean ====
section
/-! DEFINITION. Status codes (Table 2.7), the checks that every request meets before its own (R58), the SPI status byte (Table 2.5), and
the status words computed from the state. -/

namespace Sys2Proof.Machine

/-- The status codes of Table 2.7. -/
inductive Status where
  | done | accepted | badLength | badCheck | busy | unknownOpcode | badParam | denied | wrongState | lockedByOther
  | noResource | partnerRefused | partnerTimeout | hwFault
  deriving DecidableEq, Repr

def statusCode : Status → Nat
  | .done => 0x0000
  | .accepted => 0x0001
  | .unknownOpcode => 0x0101
  | .badParam => 0x0102
  | .badLength => 0x0103
  | .badCheck => 0x0104
  | .wrongState => 0x0201
  | .noResource => 0x0202
  | .busy => 0x0203
  | .denied => 0x0301
  | .lockedByOther => 0x0302
  | .partnerRefused => 0x0401
  | .partnerTimeout => 0x0402
  | .hwFault => 0x0501

/-- A refusal: the condition that raises it, its status and its detail. -/
abbrev Check := Bool × Status × Nat

/-- The place of a status in the check order of Table 2.7; those without one come last. -/
def checkOrder : Status → Nat
  | .badLength => 1
  | .badCheck => 2
  | .unknownOpcode => 4
  | .badParam => 5
  | .denied => 6
  | .wrongState => 7
  | .lockedByOther => 8
  | .noResource => 9
  | .busy => 10
  | _ => 11

/-- The check that fails first in the order of Table 2.7, and among those of one status the first listed (R58). -/
def firstFail : List Check → Option (Status × Nat)
  | [] => none
  | c :: t =>
    if c.1 then
      match firstFail t with
      | some d => if checkOrder d.1 < checkOrder c.2.1 then some d else some c.2
      | none => some c.2
    else firstFail t

/-- Tags outstanding on a transport (R54): those of its waiting replies, of its re-gauge requests that wait for a partner,
and of its remote requests. -/
def State.outstanding (s : State) (v : Via) : List Nat :=
  let e := s.ep v
  e.replies.map (·.tag) ++ ((s.gaugeWaits.filter fun w => decide (w.req.via = v)).map (·.req.tag))
    ++ ((s.hooks.filterMap (·.2.ask)).filter fun q => decide (q.via = v)).map (·.tag)
    ++ (s.ports.flatMap fun x => (x.2.remote.filter fun q => q.job.isNone && decide (q.via = v)).map (·.tag))

/-- Checks 1 to 3 of Table 2.7, made before anything else of the request is read. -/
def earlyChecks (r : Req) (s : State) : List Check :=
  [(decide (r.plen > 1024) || decide (r.plen % 4 ≠ 0) || decide (r.received ≠ r.plen + 16), .badLength, min r.received 0xFFFF),
   (!r.crcOk, .badCheck, 0),
   (decide (8 ≤ (s.outstanding r.via).length), .busy, 0),
   (reqRemote r && s.hasKernel (reqRouteK r) && decide (master r.via ≠ 4)
      && decide (8 ≤ (s.port (reqRouteK r) (reqRouteP r)).remote.length), .busy, 1)]

/-- The header checks of R39 and R54, in the order of the bytes they name (log entry 8). -/
def flagChecks (r : Req) (s : State) : List Check :=
  [((s.outstanding r.via).contains r.tag, .badParam, 2),
   (decide (r.flags % 2 = 1) || decide (r.flags / 4 % 2 = 1)
      || (!reqRemote r && decide (r.flags / 8 ≠ 0)), .badParam, 3)]

/-- R39 and R50 for a request to be sent on: the route exists, its port is Open and its partner authenticated. The opcode, the
unit and the parameters are the far part's to check (log entry 8). -/
def routeChecks (r : Req) (s : State) : List Check :=
  let k := reqRouteK r
  let p := reqRouteP r
  [(!s.hasKernel k, .badParam, 3),
   (decide (s.rf (Reg.LNK_STATE k p) 0 4 ≠ 3), .wrongState, s.rf (Reg.LNK_STATE k p) 0 4),
   (!s.rb (Reg.LNK_STATE k p) 7, .wrongState, 0x14)]

/-- STAT_CMD_SPACE: 1 once K0 has reached step 7 of its start sequence (R45, R462) and the transport is up. -/
def State.spiSpace (s : State) : Bool := (s.ep .spi).up

/-- STAT_OUT_READY: a reply or event waits (Table 2.5). -/
def State.spiReady (s : State) : Bool :=
  let e := s.ep .spi
  e.reading.isSome || !e.replies.isEmpty || !e.events.isEmpty

/-- MG_IRQ_N: low exactly while STAT_OUT_READY is 1 (Table 2.5). -/
def State.mgIrqN (s : State) : Bool := !s.spiReady

/-- The SPI status byte (Table 2.5). -/
def State.spiStatus (s : State) : Byte :=
  BitVec.ofNat 8 (s.spiSpace.toNat + 2 * s.spiReady.toNat + 4 * s.spi.frameErr.toNat)

/-- What executing a request comes to: a status, its detail, the reply data and the state left behind. -/
structure Res where
  status : Status
  detail : Nat
  data : List Word
  state : State
  /-- The reply waits for the partner's answers (R154) and is given later. -/
  later : Bool := false

def Res.ok (s : State) (data : List Word) : Res := { status := .done, detail := 0, data := data, state := s }

/-- A refusal leaves the state as it was (R59). -/
def Res.fail (st : Status) (detail : Nat) (s : State) : Res := { status := st, detail := detail, data := [], state := s }

/-- Refusals in order, then the effect. -/
def Res.checked (cs : List Check) (s : State) (ok : Res) : Res :=
  match firstFail cs with
  | some f => .fail f.1 f.2 s
  | none => ok

end Sys2Proof.Machine
end

