-- ==== Sys2Proof/Machine/Transport.lean ====
section
/-! DEFINITION. How a request is checked, executed or sent on, and answered (R50 to R60, R64), whatever the transport. -/

namespace Sys2Proof.Machine

/-- The reply to a request (R41): a status other than DONE or ACCEPTED carries no data. -/
def replyPacket (opcode : Nat) (r : Req) (st : Status) (detail : Nat) (data : List Word) : Packet :=
  { opcode := opcode, tag := r.tag, flags := r.flags / 8 * 8 + r.flags / 2 % 2 * 2 + 1, target := r.target,
    status := statusCode st, detail := detail % 65536,
    data := if st = .done ∨ st = .accepted then data else [] }

/-- The reply to a request with a bad CRC: bytes 0 to 5 as received, but for REPLY (R58). -/
def badCheckReply (opcode : Nat) (r : Req) : Packet :=
  { opcode := opcode, tag := r.tag, flags := r.flags / 2 * 2 + 1, target := r.target,
    status := statusCode .badCheck, detail := 0, data := [] }

/-- A delivered reply kept for GET_REPLY (R64): the last 16, a newer one replacing an older of the same tag. A GET_REPLY reply is
not kept itself (R81). -/
def keepReply (kept : List Packet) (pk : Packet) : List Packet :=
  if pk.opcode = 0x0004 then kept else (pk :: kept.filter fun q => q.tag ≠ pk.tag).take 16

def State.keep (s : State) (v : Via) (pk : Packet) : State :=
  let e := s.ep v
  s.setEp v { e with kept := keepReply e.kept pk }

/-- A reply on its way out (Table 2.4): SPI and USB replies wait for their host; a PCIe reply is written to the reply slot of its
command slot, RSP_READY is set and vector 0 signalled (R49); a remote link sends it on its control tunnel; a Needle has it at once. -/
def State.deliver (s : State) (v : Via) (slot : Nat) (pk : Packet) : State :=
  match v with
  | .spi | .usb _ =>
    let e := s.ep v
    s.setEp v { e with replies := e.replies ++ [pk] }
  | .pcie k =>
    let f := s.pcieFn k
    (s.setPcieFn k { f with rsp := smapInsert f.rsp slot pk, ready := f.ready ||| 2 ^ slot, msix := f.msix ++ [0] }).keep v pk
  | .link k p => (s.ctrlSend k p pk).keep v pk
  | _ => s.keep v pk

/-- A command: its opcode, the units it may name, the shortest parameter field it needs, its BAD_PARAM and DENIED conditions, the
power domain of its unit, and what it does from its WRONG_STATE conditions on (R58). -/
structure Cmd where
  opcode : Nat
  kernelUnit : Bool := true
  powerUnit : Bool := false
  unitInTarget : Bool := true
  minLen : Nat := 0
  bad : Req → Nat → State → List Check := fun _ _ _ => []
  denied : Req → Nat → State → List Check := fun _ _ _ => []
  /-- The power domain of the unit that the request names (R80). -/
  domain : Req → Nat := fun _ => 1
  /-- False for the commands that are not refused while their kernel is down. -/
  needsKernel : Bool := true
  /-- The command executes in K0, whatever kernel its target names (R444). -/
  inK0 : Bool := false
  act : Req → Nat → State → Res

/-- Check 6 for master 4: its opcode group must be allowed in REMOTE_GROUPS of the kernel whose port it arrived on (R53). -/
def groupCheck (c : Cmd) (r : Req) (s : State) : List Check :=
  match r.via with
  | .link k _ => [(!bitAt (s.reg (Reg.REMOTE_GROUPS k)) (c.opcode / 256), .denied, 4)]
  | _ => []

/-- Check 7 on the executing kernel and on the domain of the unit (R80, R481). In ROM recovery the part takes commands of group 0x0F
alone (R441). -/
def runsChecks (c : Cmd) (r : Req) (u : Nat) (s : State) : List Check :=
  if s.part.rom then [(decide (c.opcode / 256 ≠ 0x0F), .wrongState, 0xFFFF)]
  else if c.needsKernel then
    [(!s.kernelRuns (if c.inK0 then 0 else execKernel s u), .wrongState, 0xFFFF),
     (decide (u ≠ 15) && decide (1 < c.domain r) && !s.domainOn (if c.inK0 then 0 else u) (c.domain r), .wrongState, c.domain r)]
  else []

/-- R40, and a parameter field too short for the command's fields (log entry 9). -/
def unitChecks (c : Cmd) (r : Req) (s : State) : List Check :=
  let u := reqTarget r
  [(c.unitInTarget && !((s.hasKernel u && c.kernelUnit) || (decide (u = 15) && c.powerUnit)), .badParam, 4),
   (decide (r.plen < c.minLen), .badParam, 6)]

/-- Executing a request on this part: checks 4 to 7 of Table 2.7, then the command's own effect. -/
def runLocal (c : Cmd) (r : Req) (s : State) : Res :=
  let u := reqTarget r
  .checked (unitChecks c r s ++ c.bad r u s ++ groupCheck c r s ++ c.denied r u s ++ runsChecks c r u s) s (c.act r u s)

/-- A rejected request counts in DIAG_REJECT of the kernel that executes it (R59, R490). -/
def countReject (ek m : Nat) (st : Status) (s : State) : State :=
  if st = .done ∨ st = .accepted then s else s.bump (Reg.DIAG_REJECT ek m) 1

/-- A DENIED counts in KEY_DENIED of the kernel that executes the request, and is logged at most once per second (R429). -/
def State.noteDenied (s : State) (ek m opcode : Nat) (st : Status) (detail : Nat) : State :=
  if st = .denied then
    let s := s.bump (Reg.KEY_DENIED ek) 1
    let quiet := match s.part.deniedAt with | some a => decide (s.now < a + 1000000000) | none => false
    if quiet then s else ({ s with part := { s.part with deniedAt := some s.now } } : State).log 0 Ev.keyDenied m [opcode, m, detail]
  else s

/-- The next link tag, from `t` upward modulo 256, that no request outstanding on the port holds (R50). -/
def freeLinkTag (used : List Nat) (fuel t : Nat) : Nat :=
  match fuel with
  | 0 => t % 256
  | fuel + 1 => if used.contains (t % 256) then freeLinkTag used fuel (t + 1) else t % 256

/-- A remote request recorded as outstanding on port (k, p) and sent on its control tunnel under a link tag (R50). -/
def State.sendRemote (s : State) (k p : Nat) (q : RemoteReq) (data : List Word) : State :=
  let x := s.port k p
  let lt := freeLinkTag (x.remote.map (·.linkTag)) 256 x.nextLink
  (s.setPort k p { x with remote := x.remote ++ [{ q with linkTag := lt }], nextLink := (lt + 1) % 256,
                          late := x.late.filter fun l => l.1 ≠ lt }).ctrlSend k p
    { opcode := q.opcode, tag := lt, flags := q.flags, target := q.target, status := 0, detail := 0, data := data }

/-- A request with REMOTE set sent to the far end of its route (R50). -/
def State.forward (s : State) (opcode : Nat) (r : Req) : State :=
  s.sendRemote (reqRouteK r) (reqRouteP r)
    { linkTag := 0, via := r.via, slot := r.slot, opcode := opcode, tag := r.tag, flags := r.flags, target := r.target,
      job := none } r.params

/-- Whether a request is to be sent on: REMOTE set, and not itself arrived from a far part (R50). -/
def isForward (r : Req) : Bool := reqRemote r && decide (master r.via ≠ 4)

/-- The kernel that counts a request refused before it reaches its unit: the local kernel of the transport (log entry 8). -/
def rejectKernel (c : Cmd) (r : Req) (s : State) : Nat :=
  let u := reqTarget r
  if c.inK0 then 0
  else if c.unitInTarget && (s.hasKernel u || decide (u = 15)) then execKernel s u else localKernel r.via

/-- A request answered with a status, counted when it is a refusal. -/
def refuse (opcode ek : Nat) (r : Req) (st : Status) (detail : Nat) (s : State) : State :=
  (countReject ek (master r.via) st s).deliver r.via r.slot (replyPacket opcode r st detail [])

/-- A request with a command the part knows: checked, sent on or executed, and answered (R58). -/
def runCmd (c : Cmd) (r : Req) (s : State) : State :=
  match firstFail (earlyChecks r s) with
  | some (.badCheck, _) =>
    (countReject (localKernel r.via) (master r.via) .badCheck s).deliver r.via r.slot (badCheckReply c.opcode r)
  | some f => refuse c.opcode (localKernel r.via) r f.1 f.2 s
  | none =>
    match firstFail (flagChecks r s) with
    | some f => refuse c.opcode (localKernel r.via) r f.1 f.2 s
    | none =>
      if isForward r then
        match firstFail (routeChecks r s) with
        | some f => refuse c.opcode (localKernel r.via) r f.1 f.2 s
        | none => s.forward c.opcode r
      else
        let res := runLocal c r s
        if res.later then res.state
        else
          let ek := rejectKernel c r s
          let t := (countReject ek (master r.via) res.status res.state).noteDenied ek (master r.via) c.opcode res.status res.detail
          t.deliver r.via r.slot (replyPacket c.opcode r res.status res.detail res.data)

/-- Whether a transport exists and is up, so that a request can arrive on it (R43, R515). Needle firmware reaches its own kernel
directly; a Hook sends no command packets. -/
def State.viaUp (s : State) (v : Via) : Bool :=
  match v with
  | .needle n => s.kernelRuns n
  | .hook _ => false
  | _ => (s.ep v).up

/-- A command packet that reached the part on its transport; nothing happens on a transport that is down (R80, R515). -/
def onCommand (c : Cmd) (r : Req) (s : State) : Result := if s.viaUp r.via then .next (runCmd c r s) else .next s

/-- A job started for a request (R61): ACCEPTED carries its number. -/
def State.startJob (s : State) (opcode : Nat) (r : Req) (k steps : Nat) (args : List Word) : State :=
  s.addJob { num := s.newJobNum, opcode := opcode, tag := r.tag, via := some r.via, kernel := k, target := r.target,
             steps := steps, args := args }

/-- R61: at most 16 jobs run at once. -/
def jobLimit (s : State) : Check := (decide (16 ≤ s.running.length), .noResource, 0xFFFF)

/-- The reply to a request whose job started. -/
def Res.accepted (num : Nat) (s : State) (data : List Word) : Res := { status := .accepted, detail := num, data := data, state := s }

/-- R57: an object that job n holds. -/
def heldBy (j : Option Job) : Check := (j.isSome, .busy, (j.map (·.num)).getD 0)

end Sys2Proof.Machine
end

