-- ==== Sys2Proof/Machine/System.lean ====
section
/-! DEFINITION. The system commands of group 0x00 that R81 gives: SYS_INFO, GET_REPLY, EVENT_SUBSCRIBE, JOB_STATUS and NOP, with the
expiry of kept replies and ended jobs (R63, R64). -/

namespace Sys2Proof.Machine

/-- R81, R82: TARGET.SUB out of range fails at byte 4. -/
def badSub (r : Req) (n : Nat) : Check := (decide (n ≤ reqSub r), .badParam, 4)

/-- KID_PART of kernel k (Table 16.6): stepping B1. -/
def kidPart (s : State) (k : Nat) : Word := packWord [(0, 4, s.variant.kernels), (4, 3, k), (8, 8, 0xB1)]

/-- The die serial number words of a unit (R485, R491). -/
def dieLo (u : Nat) : Word := (Config.dieSerial u).setWidth 32
def dieHi (u : Nat) : Word := (Config.dieSerial u).extractLsb' 32 32

/-- The version of the running Hook policy image, 0 for the ROM policy (Table 2.15). -/
def hookPolicyVersion (s : State) : Word :=
  match s.rf Reg.HOOK_STATUS 0 2 with
  | 1 => s.reg Reg.HOOK_VER_A
  | 2 => s.reg Reg.HOOK_VER_B
  | _ => 0

/-- SYS_INFO's reply about kernel k (Table 2.15). -/
def sysInfoWords (s : State) (k : Nat) : List Word :=
  let ks := s.variant.kernels
  [kidPart s k,
   packWord [(0, 8, maskOf ks fun n => s.kernelState n == 2 || s.kernelState n == 3),
             (8, 8, maskOf ks fun n => s.kernelState n == 4 || s.kernelState n == 5 || s.kernelState n == 6),
             (16, 3, s.lead), (20, 2, s.rf (Reg.LC_STATE 0) 0 2), (24, 2, s.rf Reg.AON_STATE 0 2)],
   s.reg (Reg.KID_FW_VER k), s.reg (Reg.KID_BT_VER k), Config.romPolicyVersion, hookPolicyVersion s,
   dieLo k, dieHi k, packWord [(0, 16, 1024), (16, 8, 8), (24, 8, 16)]]

def cmdSysInfo : Cmd :=
  { opcode := 0x0001, bad := fun r _ _ => [badSub r 1], act := fun _ u s => .ok s (sysInfoWords s u) }

def execSysInfo (r : Req) (s : State) : Result := onCommand cmdSysInfo r s

def cmdNop : Cmd := { opcode := 0x0008, bad := fun r _ _ => [badSub r 1], act := fun r _ s => .ok s r.params }

def execNop (r : Req) (s : State) : Result := onCommand cmdNop r s

/-- The kept reply of a transport with a tag (R64). -/
def State.keptReply (s : State) (v : Via) (tag : Nat) : Option Packet := (s.ep v).kept.find? fun q => q.tag == tag

/-- GET_REPLY's reply: the kept header fields, then up to 1,012 bytes from OFFSET (Table 2.15). -/
def keptWords (q : Packet) (off : Nat) : List Word :=
  let part := (q.data.drop (off / 4)).take 253
  [packWord [(0, 16, q.opcode), (16, 16, q.target)], packWord [(0, 16, q.status), (16, 16, q.detail)],
   packWord [(0, 16, 4 * q.data.length), (16, 16, 4 * part.length)]] ++ part

def cmdGetReply : Cmd where
  opcode := 0x0004
  minLen := 4
  bad r _ s :=
    let off := reqField r 12 16 16
    let q := s.keptReply r.via (reqField r 12 0 8)
    [badSub r 1, (q.isNone, .badParam, 12),
     (decide (off % 4 ≠ 0) || (decide (off ≠ 0) && decide (4 * ((q.map (·.data.length)).getD 0) ≤ off)), .badParam, 14)]
  act r _ s :=
    match s.keptReply r.via (reqField r 12 0 8) with
    | some q => .ok s (keptWords q (reqField r 12 16 16))
    | none => .fail .badParam 12 s

def execGetReply (r : Req) (s : State) : Result := onCommand cmdGetReply r s

def cmdEventSubscribe : Cmd where
  opcode := 0x0005
  minLen := 8
  bad r _ _ :=
    [badSub r 1, (decide (5 < reqField r 12 0 3), .badParam, 12), (decide (reqField r 16 20 12 ≠ 0), .badParam, 16)]
  act r _ s :=
    let e := s.ep r.via
    .ok (s.setEp r.via { e with minSev := reqField r 12 0 3, none := reqBit r 12 8, mask := reqWord r 16 })
      [packWord [(0, 3, e.minSev), (8, 1, e.none.toNat)], e.mask]

def execEventSubscribe (r : Req) (s : State) : Result := onCommand cmdEventSubscribe r s

def jobStateCode : JobState → Nat
  | .running => 0
  | .done => 1
  | .failed => 2
  | .partly => 3
  | .aborted => 4

/-- JOB_STATUS's reply (Table 2.15). -/
def jobStatusWords (s : State) (j : Job) : List Word :=
  let ended := decide (j.state ≠ .running)
  [packWord [(0, 3, jobStateCode j.state), (8, 8, j.step), (16, 8, j.steps)],
   packWord [(0, 16, j.opcode), (16, 8, j.tag), (24, 5, jobMaster j)],
   if ended then packWord [(0, 16, j.status), (16, 16, j.detail)] else 0,
   if ended then word (min ((s.now - j.endedAt) / 1000000) 0xFFFFFFFF) else 0,
   word j.words.length] ++ j.words

def cmdJobStatus : Cmd where
  opcode := 0x0006
  minLen := 4
  bad r _ s := [badSub r 1, ((s.job? (reqField r 12 0 16)).isNone, .badParam, 12)]
  act r _ s :=
    match s.job? (reqField r 12 0 16) with
    | some j => .ok s (jobStatusWords s j)
    | none => .fail .badParam 12 s

def execJobStatus (r : Req) (s : State) : Result := onCommand cmdJobStatus r s

/-- 60 s after its end a job stops being queryable (R63); a job that still runs keeps its number. -/
def execJobExpiry (job : Nat) (s : State) : Result :=
  .next { s with jobs := s.jobs.filter fun j => !(decide (j.num = job) && decide (j.state ≠ .running)) }

/-- A kept reply is dropped 5 s after its delivery (R64). -/
def execReplyKeepExpiry (via : Via) (tag : Nat) (s : State) : Result :=
  let e := s.ep via
  .next (s.setEp via { e with kept := e.kept.filter fun q => q.tag ≠ tag })

end Sys2Proof.Machine
end

