-- ==== Sys2Proof/Machine/Mbox.lean ====
section
/-! DEFINITION. Mailboxes, doorbells and hardware locks (R69 to R79, R82, R516): the operations that register accesses and the group 0x10
commands share, and the commands themselves. -/

namespace Sys2Proof.Machine

/-! ### Wake notices (R71, R516) -/

/-- A wake interrupt to a Needle or Hook (Table 2.13). -/
def State.wakeIrq (s : State) (owner : Nat) : State :=
  { s with irqs := smapPut (fun _ => 0) s.irqs owner (smapGet (fun _ => 0) s.irqs owner + 1) }

/-- The function of its kind that stands for owner 2 or 3: the one of the kernel that holds the mailbox if it is up, else the one on
the lowest-numbered kernel that is up (R516). -/
def hostFunction (s : State) (mk : Nat → Via) (k : Nat) : Option Via :=
  if (s.ep (mk k)).up then some (mk k)
  else ((List.range s.variant.kernels).find? fun n => (s.ep (mk n)).up).map mk

/-- The transport that takes a wake notice for a receiver, if any. For the remote link it is the lowest-numbered Open port of the
kernel that holds the mailbox, else of the part: the spec does not say which port (DESIGN CHOICE, log entry 10). -/
def receiverVia (s : State) (k recv : Nat) : Option Via :=
  match recv with
  | 1 => some .spi
  | 2 => hostFunction s .pcie k
  | 3 => hostFunction s .usb k
  | 4 =>
    let ports := (List.range 4).map (Via.link k) ++ (List.range s.variant.kernels).flatMap fun n => (List.range 4).map (Via.link n)
    ports.find? fun v => (s.ep v).up
  | _ => none

/-- A domain brought up for a notice (R71): its enable bit is set, and it changes unless it is on already. -/
def State.wakeDomain (s : State) (k d : Nat) : State :=
  if s.domainOn k d then s
  else (s.setRb (Reg.PWR_DOM_EN k) (d - 1) true).setRf (Reg.PWR_DOM_STATE k) (2 * (d - 1)) 2 3

/-- The domain that carries a notice on a transport (Table 2.13). -/
def noticeDomain : Via → Option (Nat × Nat)
  | .pcie k => some (k, 9)
  | .usb k => some (k, 11)
  | .link k p => some (k, 4 + p / 2)
  | _ => none

/-- A notice for a suspended management function raises remote wake if the host has enabled it on the function and on the hub: K upstream
from 5 ms after the host end entered Suspended (R309, R315). -/
def State.usbNoticeWake (s : State) (k : Nat) : State :=
  let x := s.hub k
  if s.rb (Reg.USBD_STATUS k) 2 ∧ s.rb (Reg.USBD_STATUS k) 3 ∧ s.rb (Reg.USBH_STATUS k) 5 ∧ x.wake = none ∧ !x.resuming then
    s.setHub k { x with wake := some (5, max s.now (x.suspendAt + 5000000)) }
  else s

/-- A wake event of a mailbox or doorbell of kernel k: logged, its receivers interrupted, and its host receivers given the event
whatever their subscription; a PCIe host also gets MSI-X vector 2 (R71, Table 2.13). -/
def State.wakeEvent (s : State) (k : Nat) (d : EvDef) (idx : Nat) (p0 : Nat) (recvs : List Nat) : State :=
  let vias := (recvs.filterMap (receiverVia s k)).dedup
  let s := (vias.filterMap noticeDomain).foldl (fun s kd => s.wakeDomain kd.1 kd.2) s
  let s := (recvs.filter fun o => decide (8 ≤ o)).dedup.foldl (fun s o => s.wakeIrq o) s
  let s := vias.foldl (fun s v =>
    match v with
    | .pcie n => let f := s.pcieFn n; s.setPcieFn n { f with msix := f.msix ++ [2] }
    | .usb n => s.usbNoticeWake n
    | _ => s) s
  s.logTo (s.ringOf k) k d idx vias 0 [p0]

/-! ### Mailbox words and locks -/

def State.mboxFull (s : State) (k m : Nat) : Bool := s.rb (Reg.MBOX_STAT k m) 0
def State.lockOwner (s : State) (k m : Nat) : Nat := s.rf (Reg.MBOX_LOCK k m) 0 5
def State.lockGen (s : State) (k m : Nat) : Nat := s.rf (Reg.MBOX_LOCK k m) 16 16

/-- True while writes of master `o` to mailbox m are refused because its lock was broken (R77). -/
def State.isStale (s : State) (k m o : Nat) : Bool :=
  s.rb (Reg.MBOX_STAT k m) 2 && (s.kern k).broken.contains (m, o)

/-- The end of the refusal of owner o: STALE_OWNER is cleared once no broken owner of the mailbox is refused any more (R77). -/
def State.endStale (s : State) (k m o : Nat) : State :=
  let x := s.kern k
  let left := x.broken.filter fun b => b != (m, o)
  (s.setKern k { x with broken := left }).setRb (Reg.MBOX_STAT k m) 2 (left.any fun b => b.1 == m)

/-- A mailbox word written (R69): word 63 sets FULL and wakes the receiver; the others only change. -/
def State.mboxPut (s : State) (via : Via) (k m i : Nat) (w : Word) : State :=
  let s := s.setReg (Reg.MBOX_DATA k m i) w
  if i = 63 then
    (s.setRb (Reg.MBOX_STAT k m) 0 true).wakeEvent k Ev.mboxFull m (master via) [s.rf (Reg.MBOX_RECV k m) 0 5]
  else s

/-- An ignored register write: counted, and its address kept (R479). -/
def State.ignoreWrite (s : State) (k a : Nat) : State := (s.bump (Reg.DIAG_WR_IGNORED k) 1).setReg (Reg.DIAG_WR_LAST k) (word a)

/-- A data or lock write that the mailbox ignores (R69, R74, R77): counted in MBOX_CNT and as an ignored write. -/
def State.mboxReject (s : State) (k m a : Nat) : State := (s.bumpSat (Reg.MBOX_CNT k m) 16 16 1).ignoreWrite k a

/-- A register write to word i of a mailbox (R69, R74, R77). -/
def State.mboxDataWrite (s : State) (via : Via) (k m i : Nat) (w : Word) : State :=
  let a := Reg.MBOX_DATA k m i
  if s.mboxFull k m then (s.setRb (Reg.MBOX_STAT k m) 1 true).mboxReject k m a
  else if s.isStale k m (master via) then s.mboxReject k m a
  else if s.lockOwner k m ≠ 0 ∧ s.lockOwner k m ≠ master via then s.mboxReject k m a
  else s.mboxPut via k m i w

/-- A read of word 63 clears FULL and counts the message delivered (R70, Table 16.13). -/
def State.mboxConsume (s : State) (k m : Nat) : State :=
  if s.mboxFull k m then (s.setRb (Reg.MBOX_STAT k m) 0 false).bumpSat (Reg.MBOX_CNT k m) 0 16 1 else s

/-- A register read of MBOX_LOCK (R73, R77): the word returned, and the state after it. -/
def State.lockRead (s : State) (via : Via) (k m : Nat) : Word × State :=
  let o := s.lockOwner k m
  let g := s.lockGen k m
  let s := if s.isStale k m (master via) then s.endStale k m (master via) else s
  if o = 0 then (packWord [(16, 16, g)], s.setRf (Reg.MBOX_LOCK k m) 0 5 (master via))
  else if o = master via then (packWord [(16, 16, g)], s)
  else (packWord [(0, 5, o), (16, 16, g)], s)

/-- A register write to MBOX_LOCK: 0 from the owner releases; any other is ignored and counted (R74, Table 16.12). -/
def State.lockWrite (s : State) (via : Via) (k m : Nat) (w : Word) : State :=
  if s.isStale k m (master via) || (s.lockOwner k m != 0 && s.lockOwner k m != master via) then s.mboxReject k m (Reg.MBOX_LOCK k m)
  else if fld w 0 5 = 0 then s.setRf (Reg.MBOX_LOCK k m) 0 5 0
  else s.ignoreWrite k (Reg.MBOX_LOCK k m)

/-- The 64 data words of a mailbox zeroed (R76). -/
def State.mboxZero (s : State) (k m : Nat) : State :=
  s.setRegs ((List.range 64).map fun i => (Reg.MBOX_DATA k m i, 0))

/-- A lock broken (R76, R77): owner 0, GEN up by 1, STALE_OWNER set, EV_LOCK_BROKEN logged; FLUSH also empties the mailbox. -/
def State.breakLock (s : State) (k m breaker : Nat) (flush : Bool) : State :=
  let old := s.lockOwner k m
  let g := (s.lockGen k m + 1) % 65536
  let x := s.kern k
  let s := s.setKern k { x with broken := (m, old) :: x.broken.filter fun b => b != (m, old) }
  let s := (s.setReg (Reg.MBOX_LOCK k m) (packWord [(16, 16, g)])).setRb (Reg.MBOX_STAT k m) 2 true
  let s := if flush then (s.setRb (Reg.MBOX_STAT k m) 0 false).mboxZero k m else s
  s.log k Ev.lockBroken m [old, g, breaker]

/-- Every lock of the part that answers a test on kernel, mailbox and owner, broken without FLUSH. -/
def State.breakLocks (s : State) (breaker : Nat) (p : Nat → Nat → Nat → Bool) : State :=
  ((List.range s.variant.kernels).flatMap fun k => (List.range 16).map fun m => (k, m)).foldl
    (fun s km => if s.lockOwner km.1 km.2 ≠ 0 ∧ p km.1 km.2 (s.lockOwner km.1 km.2) then s.breakLock km.1 km.2 breaker false else s) s

/-- Doorbells rung (R72): only those not already pending raise an event. -/
def State.ringDoorbells (s : State) (k : Nat) (mask : Word) : State :=
  let pend := s.reg (Reg.DB_PEND k)
  let fresh := mask &&& ~~~ pend
  let s := s.setReg (Reg.DB_PEND k) (pend ||| mask)
  if fresh = 0 then s
  else s.wakeEvent k Ev.doorbell 0 fresh.toNat
    (((List.range 32).filter fun d => bitAt fresh d).map fun d => s.rf (Reg.DB_RECV k d) 0 5)

/-- MBOX_LOCK_IDLE of kernel k has passed since MG_CS_N last fell (R78, R79). -/
def State.spiIdle (s : State) (k : Nat) : Bool := decide (s.spi.lastFall + s.rf (Reg.MBOX_LOCK_IDLE k) 0 6 * 1000000000 ≤ s.now)

/-- R78, R516: whether an owner is in Fault for the locks of kernel k. Owners 2 and 3 are down when every function of their kind is; R516 does
not speak of owner 4, which is down here when no link port of the part is up (DESIGN CHOICE, log entry 107). -/
def State.ownerInFault (s : State) (k owner : Nat) : Bool :=
  match owner with
  | 1 => !(s.ep .spi).up || s.spiIdle k
  | 2 => (List.range s.variant.kernels).all fun n => !(s.ep (.pcie n)).up
  | 3 => (List.range s.variant.kernels).all fun n => !(s.ep (.usb n)).up
  | 4 => (List.range s.variant.kernels).all fun n => (List.range 4).all fun p => !(s.ep (.link n p)).up
  | _ =>
    if 8 ≤ owner ∧ owner < 16 then
      s.kernelState (owner - 8) == 4 || s.kernelState (owner - 8) == 5 || s.kernelState (owner - 8) == 6
    else s.hooksDown.contains (owner - 16)

/-! ### Register accesses with effects of their own -/

/-- An access to a register of mailbox m of kernel k takes effect only where the kernel runs (R481). -/
def onMbox (k m : Nat) (s f : State) : Result := onUnit s (s.hasKernel k && decide (m < 16)) (if s.kernelRuns k then f else s)

/-- A read of MBOX_LOCK acquires a free lock, or reports the owner (R73). -/
def execMboxLockRead (via : Via) (k m : Nat) (s : State) : Result :=
  onMbox k m s (let r := s.lockRead via k m; { r.2 with readOut := r.1 })

/-- A write of 0 by the owner to MBOX_LOCK releases the lock (R74). -/
def execMboxLockWrite (via : Via) (k m : Nat) (w : Word) (s : State) : Result := onMbox k m s (s.lockWrite via k m w)

/-- A write to word 63 of a mailbox (R69). -/
def execMboxWord63Write (via : Via) (k m : Nat) (w : Word) (s : State) : Result := onMbox k m s (s.mboxDataWrite via k m 63 w)

/-- A read of word 63 of a mailbox (R70). -/
def execMboxWord63Read (_via : Via) (k m : Nat) (s : State) : Result :=
  onMbox k m s { s.mboxConsume k m with readOut := s.reg (Reg.MBOX_DATA k m 63) }

/-- Writing 1s to DB_RING rings doorbells (R72). -/
def execDbRingWrite (_via : Via) (k : Nat) (w : Word) (s : State) : Result := onMbox k 0 s (s.ringDoorbells k w)

/-- Writing 1s to DB_PEND clears pending doorbells (R72). -/
def execDbPendWrite (_via : Via) (k : Nat) (w : Word) (s : State) : Result :=
  onMbox k 0 s (s.setReg (Reg.DB_PEND k) (s.reg (Reg.DB_PEND k) &&& ~~~ w))

/-- A host that has been without a working transport for MBOX_LOCK_IDLE has the lock of mailbox m of kernel k broken by the lead
(R79): the SPI host from the last fall of MG_CS_N, the others from the loss of their transport. A host that came up again keeps its lock. -/
def execLockIdleBreak (k m : Nat) (s : State) : Result :=
  onUnit s (s.hasKernel k && decide (m < 16))
    (let o := s.lockOwner k m
     if 1 ≤ o ∧ o ≤ 4 ∧ (if o = 1 then s.spiIdle k else s.ownerInFault k o) then s.breakLock k m (8 + s.lead) false else s)

/-! ### Commands of group 0x10 (Table 2.16) -/

def cmdMboxWrite : Cmd where
  opcode := 0x1001
  minLen := 8
  bad r _ _ :=
    let c := reqField r 16 0 7
    [badSub r 16, (decide (c = 0) || decide (64 < reqField r 12 16 6 + c) || decide (r.plen ≠ 8 + 4 * c), .badParam, 16)]
  act r u s :=
    let m := reqSub r
    let gen := reqField r 12 0 16
    let first := reqField r 12 16 6
    let c := reqField r 16 0 7
    let o := s.lockOwner u m
    .checked
      [(s.isStale u m (master r.via) || (decide (o = master r.via) && decide (gen ≠ s.lockGen u m)), .wrongState, s.lockGen u m),
       (s.mboxFull u m, .wrongState, gen),
       (decide (o ≠ 0) && decide (o ≠ master r.via), .lockedByOther, o)] s
      (let s := (List.range c).foldl (fun s i => s.mboxPut r.via u m (first + i) (reqWord r (20 + 4 * i))) s
       .ok (if reqBit r 12 24 && decide (first + c ≤ 63) then s.mboxPut r.via u m 63 (s.reg (Reg.MBOX_DATA u m 63)) else s) [])

def execMboxWrite (r : Req) (s : State) : Result := onCommand cmdMboxWrite r s

def cmdMboxRead : Cmd where
  opcode := 0x1002
  minLen := 4
  bad r _ _ :=
    let c := reqField r 12 8 7
    [badSub r 16, (decide (c = 0) || decide (64 < reqField r 12 0 6 + c), .badParam, 13)]
  act r u s :=
    let m := reqSub r
    .ok (if reqBit r 12 16 then s.mboxConsume u m else s)
      (s.reg (Reg.MBOX_STAT u m) :: (List.range (reqField r 12 8 7)).map fun i => s.reg (Reg.MBOX_DATA u m (reqField r 12 0 6 + i)))

def execMboxRead (r : Req) (s : State) : Result := onCommand cmdMboxRead r s

def cmdDoorbellRing : Cmd where
  opcode := 0x1003
  minLen := 4
  bad r _ _ := [badSub r 1]
  act r u s := .ok (s.ringDoorbells u (reqWord r 12)) []

def execDoorbellRing (r : Req) (s : State) : Result := onCommand cmdDoorbellRing r s

def cmdLockAcquire : Cmd where
  opcode := 0x1004
  bad r _ _ := [badSub r 16]
  act r u s :=
    let m := reqSub r
    let o := s.lockOwner u m
    .checked [(decide (o ≠ 0) && decide (o ≠ master r.via), .lockedByOther, o)] s
      (.ok (s.lockRead r.via u m).2 [word (s.lockGen u m)])

def execLockAcquire (r : Req) (s : State) : Result := onCommand cmdLockAcquire r s

def cmdLockRelease : Cmd where
  opcode := 0x1005
  minLen := 4
  bad r _ _ := [badSub r 16]
  act r u s :=
    let m := reqSub r
    let o := s.lockOwner u m
    .checked
      [(decide (reqField r 12 0 16 ≠ s.lockGen u m) || s.isStale u m (master r.via), .wrongState, s.lockGen u m),
       (decide (o ≠ 0) && decide (o ≠ master r.via), .lockedByOther, o)] s
      (.ok (if o = 0 then s else s.setRf (Reg.MBOX_LOCK u m) 0 5 0) [])

def execLockRelease (r : Req) (s : State) : Result := onCommand cmdLockRelease r s

def cmdLockStatus : Cmd where
  opcode := 0x1007
  bad r _ _ := [badSub r 16]
  act r u s :=
    let m := reqSub r
    .ok s [s.reg (Reg.MBOX_LOCK u m), s.reg (Reg.MBOX_STAT u m), s.reg (Reg.MBOX_CNT u m), s.reg (Reg.MBOX_RECV u m)]

def execLockStatus (r : Req) (s : State) : Result := onCommand cmdLockStatus r s

end Sys2Proof.Machine
end

