-- ==== Sys2Proof/Machine/Purl.lean ====
section
/-! DEFINITION. The arithmetic of the display path: accepted formats (R208), the coded form (R213 to R215), tiles and their hash (R216,
R217), the Purl coder and decoder (R221, R222), and the packets of a display tunnel (R233). -/

namespace Sys2Proof.Machine

/-- A plane of samples in raster order. -/
structure Plane where
  w : Nat
  h : Nat
  v : List Nat
  deriving DecidableEq, Repr

/-- The sample at (x, y), the nearest one inside the plane beyond its edge. -/
def Plane.sample (p : Plane) (x y : Nat) : Nat := p.v.getD (min y (p.h - 1) * p.w + min x (p.w - 1)) 0

/-- A plane made of a value for each place. -/
def Plane.build (w h : Nat) (f : Nat → Nat → Nat) : Plane := { w := w, h := h, v := (List.range (w * h)).map fun i => f (i % w) (i / w) }

/-! ### Formats (R208) -/

/-- A timing and format within Table 6.2. -/
def frameAccepted (f : InFrame) : Bool :=
  let t := f.hTotal * f.vTotal
  f.standard && !f.interlaced && decide (f.pixelRate ≤ 1100000) && decide (320 ≤ f.width ∧ f.width ≤ 7680 ∧ f.width % 2 = 0)
    && decide (200 ≤ f.height ∧ f.height ≤ 4320) && (f.sampling != 2 || f.height % 2 == 0)
    && decide (f.width * f.height ≤ 33177600) && decide (f.hTotal ≤ 8192)
    && decide (23 * t ≤ f.pixelRate * 1000 ∧ f.pixelRate * 1000 ≤ 240 * t)
    && decide (f.sampling ≤ 2) && (!f.rgb || f.sampling == 0) && (f.rgb || f.limited)

/-- Bits of a component. -/
def depthOf (ten : Bool) : Nat := if ten then 10 else 8

/-- The divisors of the width and the height of component c at a sampling. -/
def chromaDiv (sampling c : Nat) : Nat × Nat :=
  if c = 0 ∨ sampling = 0 then (1, 1) else if sampling = 1 then (2, 1) else (2, 2)

/-- The planes of a frame as received. -/
def inputPlanes (f : InFrame) : List Plane :=
  (List.range 3).map fun c =>
    let d := chromaDiv f.sampling c
    { w := ceilDiv f.width d.1, h := ceilDiv f.height d.2, v := f.planes.getD c [] }

/-! ### The coded form (R213 to R215) -/

/-- Sampling and form that a frame is coded in, the form true for RGB (Table 6.4). -/
def codedForm (f : InFrame) (codeSampling : Nat) (codeRgb : Bool) : Nat × Bool :=
  if f.rgb then (if f.limited || codeRgb then (0, true) else (codeSampling, false))
  else if f.sampling = 0 then (codeSampling, false)
  else if f.sampling = 1 then (if codeSampling = 2 then 2 else 1, false)
  else (2, false)

/-- The rows Y, Cb and Cr of Table 6.5. -/
def convRows (matrix : Nat) : List (Int × Int × Int) :=
  if matrix = 0 then [(11966, 40254, 4064), (-6596, -22188, 28784), (28784, -26145, -2639)]
  else [(14786, 38160, 3338), (-8038, -20746, 28784), (28784, -26469, -2315)]

/-- An integer held within 0 and 2^n - 1. -/
def clampTo (n : Nat) (v : Int) : Nat := (min (max v 0) (2 ^ n - 1)).toNat

/-- One component of R214. -/
def convComp (n : Nat) (off : Int) (c : Int × Int × Int) (r g b : Nat) : Nat :=
  clampTo n (off + (c.1 * r + c.2.1 * g + c.2.2 * b + 32768) / 65536)

/-- Full-range RGB converted (R214). -/
def rgbToYcc (n matrix : Nat) (ps : List Plane) : List Plane :=
  let s : Int := 2 ^ (n - 8)
  let p (i : Nat) : Plane := ps.getD i ⟨0, 0, []⟩
  (List.range 3).map fun c =>
    let row := (convRows matrix).getD c (0, 0, 0)
    Plane.build (p 0).w (p 0).h fun x y =>
      convComp n (if c = 0 then 16 * s else 128 * s) row ((p 0).sample x y) ((p 1).sample x y) ((p 2).sample x y)

/-- 4:4:4 to 4:2:2 of a chroma plane (R215). -/
def subH (p : Plane) : Plane :=
  Plane.build (ceilDiv p.w 2) p.h fun x y => (p.sample (2 * x - 1) y + 2 * p.sample (2 * x) y + p.sample (2 * x + 1) y + 2) / 4

/-- 4:2:2 to 4:2:0 of a chroma plane (R215). -/
def subV (p : Plane) : Plane := Plane.build p.w (ceilDiv p.h 2) fun x y => (p.sample x (2 * y) + p.sample x (2 * y + 1) + 1) / 2

/-- Chroma planes brought from one sampling to another, horizontally first. -/
def subsample (src dst : Nat) (ps : List Plane) : List Plane :=
  match ps with
  | [] => []
  | y :: cs => y :: cs.map fun c =>
      let c := if src = 0 ∧ dst ≠ 0 then subH c else c
      if src < 2 ∧ dst = 2 then subV c else c

/-- The planes that the stream codes. -/
def codedPlanes (f : InFrame) (codeSampling : Nat) (codeRgb : Bool) (matrix : Nat) : List Plane :=
  let form := codedForm f codeSampling codeRgb
  let ps := inputPlanes f
  if f.rgb && !form.2 then subsample 0 form.1 (rgbToYcc (depthOf f.ten) matrix ps)
  else subsample f.sampling form.1 ps

/-! ### Tiles (R216, R217) -/

def tilesAcross (width : Nat) : Nat := ceilDiv width 32
def tileRows (height : Nat) : Nat := ceilDiv height 8

/-- The part of a plane that a tile covers: its width and its samples in raster order. -/
def tileBlock (p : Plane) (div : Nat × Nat) (row col : Nat) : Nat × List Nat :=
  let x0 := 32 / div.1 * col
  let y0 := 8 / div.2 * row
  let w := min (32 / div.1) (p.w - x0)
  let h := min (8 / div.2) (p.h - y0)
  (w, (List.range (w * h)).map fun i => p.sample (x0 + i % w) (y0 + i / w))

def tileBlocks (ps : List Plane) (sampling row col : Nat) : List (Nat × List Nat) :=
  (List.range ps.length).map fun c => tileBlock (ps.getD c ⟨0, 0, []⟩) (chromaDiv sampling c) row col

/-- The hash of a tile over the samples as received (R217). -/
def tileHash (ps : List Plane) (sampling row col : Nat) : Word :=
  let bs := (tileBlocks ps sampling row col).map (·.2)
  let words := if sampling = 0 then
      (List.range (bs.getD 0 []).length).flatMap fun i => (List.range 3).map fun c => (bs.getD c []).getD i 0
    else bs.flatten
  crc32c (words.flatMap half)

/-! ### The coder (R222) -/

/-- The n low bits of a number, most significant first. -/
def msbBits (n v : Nat) : List Bool := (List.range n).map fun i => v.testBit (n - 1 - i)

/-- Bits filled into bytes from bit 7 down, zero-padded to a whole byte. -/
def packBits (fuel : Nat) (bs : List Bool) : List Byte :=
  match fuel with
  | 0 => []
  | fuel + 1 =>
    if bs.isEmpty then []
    else BitVec.ofNat 8 ((List.range 8).foldl (fun n i => 2 * n + (bs.getD i false).toNat) 0) :: packBits fuel (bs.drop 8)

def bitsBytes (bs : List Bool) : List Byte := packBits (bs.length + 1) bs

/-- The bits of a byte string in the same order. -/
def bytesBits (bs : List Byte) : List Bool := bs.flatMap fun b => (List.range 8).map fun i => b.getLsbD (7 - i)

/-- The adaptation state A, Nn of a plane. -/
structure Adapt where
  a : Nat := 4
  n : Nat := 1
  deriving DecidableEq, Repr

/-- The smallest k with Nn << k at least A. -/
def Adapt.k (c : Adapt) : Nat := ((List.range 32).find? fun k => decide (c.a ≤ c.n * 2 ^ k)).getD 32

def Adapt.next (c : Adapt) (q : Nat) : Adapt :=
  if c.n + 1 = 32 then { a := (c.a + q) / 2, n := 16 } else { a := c.a + q, n := c.n + 1 }

/-- The prediction of sample i of a plane of width w; `rs` holds the reconstructed samples before it, newest first. -/
def predict (depth w i : Nat) (rs : List Nat) : Int :=
  let a := rs.getD 0 0
  let b := rs.getD (w - 1) 0
  let c := rs.getD w 0
  if i = 0 then 2 ^ (depth - 1)
  else if i < w then a
  else if i % w = 0 then b
  else if max a b ≤ c then (min a b : Nat)
  else if c ≤ min a b then (max a b : Nat)
  else (a : Int) + b - c

/-- The quantised prediction error with bound b. -/
def quantise (b : Nat) (e : Int) : Int := e.sign * ((e.natAbs + b) / (2 * b + 1) : Nat)

/-- The decoder's sample. -/
def recon (depth b : Nat) (p q : Int) : Nat := clampTo depth (p + q * (2 * b + 1))

def foldSign (q : Int) : Nat := if 0 ≤ q then 2 * q.natAbs else 2 * q.natAbs - 1
def unfoldSign (m : Nat) : Int := if m % 2 = 0 then (m / 2 : Nat) else -((m / 2 + 1 : Nat) : Int)

/-- The code of m with parameter k. -/
def codeWord (depth k m : Nat) : List Bool :=
  let u := m / 2 ^ k
  if u < 24 then List.replicate u false ++ true :: msbBits k m else List.replicate 24 false ++ msbBits (depth + 1) m

/-- The coded bits of the samples from index i on. -/
def codeFrom (depth b w : Nat) (c : Adapt) (rs : List Nat) : Nat → List Nat → List Bool
  | _, [] => []
  | i, x :: xs =>
    let p := predict depth w i rs
    let q := quantise b ((x : Int) - p)
    codeWord depth c.k (foldSign q) ++ codeFrom depth b w (c.next q.natAbs) (recon depth b p q :: rs) (i + 1) xs

/-- A plane of a tile coded (R222). -/
def codePlane (depth b : Nat) (blk : Nat × List Nat) : List Bool := codeFrom depth b blk.1 {} [] 0 blk.2

/-- Leading zeros of a bit string, at most n, and what follows them. -/
def zeroRun : Nat → List Bool → Nat × List Bool
  | n + 1, false :: t => let r := zeroRun n t; (r.1 + 1, r.2)
  | _, l => (0, l)

/-- One code read; none where the bits run out. -/
def readCode (depth k : Nat) (bs : List Bool) : Option (Nat × List Bool) :=
  let z := zeroRun 24 bs
  let take (n : Nat) (l : List Bool) : Option (Nat × List Bool) :=
    if l.length < n then none else some ((l.take n).foldl (fun v b => 2 * v + b.toNat) 0, l.drop n)
  if z.1 = 24 then take (depth + 1) z.2
  else match z.2 with
    | true :: t => (take k t).map fun r => (z.1 * 2 ^ k + r.1, r.2)
    | _ => none

/-- Samples decoded from index i on: the samples newest first, and the bits left. -/
def decodeFrom (depth b w : Nat) : Nat → Nat → Adapt → List Nat → List Bool → Option (List Nat × List Bool)
  | 0, _, _, rs, bs => some (rs, bs)
  | n + 1, i, c, rs, bs =>
    match readCode depth c.k bs with
    | none => none
    | some (m, bs) =>
      let q := unfoldSign m
      decodeFrom depth b w n (i + 1) (c.next q.natAbs) (recon depth b (predict depth w i rs) q :: rs) bs

/-- The inverse of `codePlane` for a block of w columns and n samples. -/
def decodePlane (depth b w n : Nat) (bs : List Bool) : Option (List Nat × List Bool) :=
  (decodeFrom depth b w n 0 {} [] bs).map fun r => (r.1.reverse, r.2)

/-- Samples all equal. -/
def uniform (l : List Nat) : Bool := l.all fun x => x == l.getD 0 0

/-- KIND of a tile (Table 6.6). -/
def tileKind (exact : Bool) (blks : List (Nat × List Nat)) : Nat :=
  (if blks.all fun b => uniform b.2 then 2 else 0) + exact.toNat

/-- The coded data of a tile: its planes follow one another without padding (R222). -/
def tileData (depth kind bound : Nat) (blks : List (Nat × List Nat)) : List Byte :=
  bitsBytes (blks.flatMap fun b => if 2 ≤ kind then msbBits depth (b.2.getD 0 0) else codePlane depth (if kind = 0 then bound else 0) b)

/-! ### Packets (R233) -/

/-- Zero bytes up to a multiple of four. -/
def pad4 (bs : List Byte) : List Byte := bs ++ List.replicate ((4 - bs.length % 4) % 4) 0

/-- The common header (Table 6.9). -/
def displayHeader (ptype frame : Nat) : Word := packWord [(0, 8, ptype), (8, 8, 1), (16, 16, frame)]

def displayPacket (ptype frame : Nat) (body : List Word) : List Byte := wordsBytes (displayHeader ptype frame :: body)

/-- A tile entry of TILE_ROW (Table 6.10). -/
def tileEntry (kind bound : Nat) (data : List Byte) : List Byte :=
  wordBytes (packWord [(0, 2, kind), (2, 5, if kind = 0 then bound else 0), (16, 16, data.length)]) ++ pad4 data

/-- A TILE_ROW packet: the columns sent, with their entries. -/
def tileRowPacket (frame row across : Nat) (cols : List Nat) (entries : List Byte) : List Byte :=
  wordsBytes [displayHeader 2 frame, packWord [(0, 10, row), (16, 10, across)]]
    ++ pad4 ((List.range (ceilDiv across 8)).map fun j => BitVec.ofNat 8 (maskOf 8 fun b => cols.contains (8 * j + b))) ++ entries

/-- PTYPE, VERSION and FRAME of a received packet. -/
def ptypeOf (bs : List Byte) : Nat := byteAt bs 0
def frameOf (bs : List Byte) : Nat := halfAt bs 2

/-- A packet with a header of Table 6.9 and a body of at least n bytes. -/
def displayOk (bs : List Byte) (n : Nat) : Bool := byteAt bs 1 == 1 && decide (4 + n ≤ bs.length)

/-- A forward packet that keeps Tables 6.9 and 6.10; the entries of a TILE_ROW are checked against their frame. -/
def forwardOk (bs : List Byte) : Bool :=
  match ptypeOf bs with
  | 1 => displayOk bs 12 && byteAt bs 8 % 4 != 3 && byteAt bs 8 / 64 != 3 && byteAt bs 9 / 4 % 4 != 3
  | 2 => displayOk bs 4
  | 3 => displayOk bs 8
  | 4 => displayOk bs 4
  | _ => false

/-- A reverse packet that keeps Tables 6.9 and 6.11. -/
def reverseOk (bs : List Byte) : Bool :=
  match ptypeOf bs with
  | 0x11 => displayOk bs 8
  | 0x12 => displayOk bs 132 && (byteAt bs 4 / 16 % 2 == 1 || decide (byteAt bs 4 % 4 ≤ byteAt bs 4 / 4 % 4))
  | 0x13 => displayOk bs 12
  | _ => false

end Sys2Proof.Machine
end

