-- ==== Sys2Proof/Machine/Display.lean ====
section
/-! DEFINITION. What a display input and a display output do when their tunnel opens, is held or closes: HPD and the presented EDID (R211,
R212), the abort of a coded frame (R231), and the packets of the reverse direction (R232, R253, R255). -/

namespace Sys2Proof.Machine

/-! ### Inputs -/

def State.din (s : State) (k i : Nat) : Din := smapGet (fun _ => {}) s.dins (2 * k + i)

def State.setDin (s : State) (k i : Nat) (d : Din) : State := { s with dins := smapPut (fun _ => {}) s.dins (2 * k + i) d }

/-- The adapter of input i (Table 4.2). -/
def dinAdapter (i : Nat) : Nat := 3 + i

/-- DIN_STATUS.STATE (Table 6.3): 0 Off, 1 NoSignal, 2 Training, 3 Active, 4 Unsupported. -/
def State.dinState (s : State) (k i : Nat) : Nat := s.rf (Reg.DIN_STATUS k i) 0 4

/-- The EDID that the proxy presents, and whether it is the far one (R211). -/
def State.presented (s : State) (k i : Nat) : Bool × List Byte :=
  let d := s.din k i
  let fixed := d.fixedEdid.getD (smapGet (fun _ => []) s.images.edids (2 * k + i))
  if s.rb (Reg.DIN_CTRL k i) 24 then (false, fixed)
  else match d.farEdid with
    | some e => (true, e)
    | none => (false, if s.rb (Reg.DIN_CTRL k i) 25 then fixed else [])

/-- HPD and EDID_FAR as R211 and R212 set them, with the stream's tunnel Open or not. -/
def State.dinHpd (s : State) (k i : Nat) (opened : Bool) : State :=
  let c := s.reg (Reg.DIN_CTRL k i)
  let d := s.din k i
  let held := !bitAt c 24 && !bitAt c 25 && d.farEdid.isNone
  (s.setRb (Reg.DIN_STATUS k i) 19 (bitAt c 0 && (!bitAt c 1 || opened) && !held && !d.pulse)).setRb (Reg.DIN_STATUS k i) 20
    (s.presented k i).1

/-- HPD after a change from state `old`: a change of the presented EDID or of a DPCD limit while HPD is high, or during a pulse, starts
the pulse of R212 anew. -/
def State.presentChange (old s : State) (k i : Nat) : State :=
  let high := old.rb (Reg.DIN_STATUS k i) 19 || (s.din k i).pulse
  let limits (x : State) : Nat := x.rf (Reg.DIN_CTRL k i) 4 8
  let changed := decide ((old.presented k i).2 ≠ (s.presented k i).2) || limits old != limits s
  let s := if changed && high && s.rb (Reg.DIN_CTRL k i) 0 then s.setDin k i { s.din k i with pulse := true } else s
  s.dinHpd k i (s.adapterOpen? k (dinAdapter i)).isSome

/-- The coded frame in transmission aborted (R231), with FRAME_ABORT where the tunnel is still Open. -/
def State.encAbort (s : State) (k i cause : Nat) (opened : Bool) : State :=
  let d := s.din k i
  let a := dinAdapter i
  if !d.sending then s
  else
    let n := s.rf (Reg.PURL_STATUS k i) 0 16
    let s := s.setDin k i { d with sending := false, sent := [], report := [], hist := [] }
    let s := s.setOutbox k a (if opened then [displayPacket 4 n [word cause]] else [])
    (s.setRb (Reg.PURL_STATUS k i) 16 false).bump (Reg.PURL_ABORTED k i) 1

/-- The input's tunnel enters Open: the first frame is FULL (R229). -/
def State.dinStart (s : State) (k i : Nat) : State :=
  ((s.setDin k i { s.din k i with full := true }).setOutbox k (dinAdapter i) []).dinHpd k i true

/-- The input's tunnel leaves Open. -/
def State.dinStop (s : State) (k i : Nat) : State :=
  ((s.encAbort k i 3 false).setOutbox k (dinAdapter i) []).dinHpd k i false

/-! ### Outputs -/

def State.dout (s : State) (k o : Nat) : Dout := smapGet (fun _ => {}) s.douts (2 * k + o)

def State.setDout (s : State) (k o : Nat) (d : Dout) : State := { s with douts := smapPut (fun _ => {}) s.douts (2 * k + o) d }

/-- The adapter of output o (Table 4.2). -/
def doutAdapter (o : Nat) : Nat := 5 + o

/-- DOUT_STATUS.STATE (Table 7.6): 0 Off, 1 NoPanel, 2 Training, 3 Blank, 4 Showing, 5 SelfRefresh, 6 LinkFail. -/
def State.doutState (s : State) (k o : Nat) : Nat := s.rf (Reg.DOUT_STATUS k o) 0 4
def State.setDoutState (s : State) (k o v : Nat) : State := s.setRf (Reg.DOUT_STATUS k o) 0 4 v

/-- DOUT_PAIR.MODE: 0 SPLIT, 1 MIRROR, 2 DUAL, 3 INDEPENDENT (Table 7.7). -/
def State.pairMode (s : State) (k : Nat) : Nat := s.rf (Reg.DOUT_PAIR k 0) 0 2

/-- The output whose skein and display tunnel feed output o (R237). -/
def State.sourceOf (s : State) (k o : Nat) : Nat := if s.pairMode k < 2 then 0 else o

/-- The context whose replication list has a local-output leg for an output (R187). -/
def State.localOwner? (s : State) (k o : Nat) : Option (Nat × Nat) :=
  s.liveCtxs.find? fun c =>
    let l := s.rf (Reg.TUN_TYPEREF c.1 c.2) 0 10
    decide (8 ≤ c.2) && l != 0x3FF && (List.range 15).any fun i =>
      let w := s.reg (Reg.MC_LEG c.1 l i)
      bitAt w 31 && bitAt w 0 && fld w 1 3 == k && fld w 4 1 == o

/-- A packet in the reverse direction: on the tunnel that feeds the output, or for a local-output leg straight to the source's context (R232). -/
def State.sinkSend (s : State) (k o : Nat) (bs : List Byte) : State :=
  let o := s.sourceOf k o
  match s.adapterOpen? k (doutAdapter o) with
  | some _ => s.emit k (doutAdapter o) bs
  | none =>
    match s.localOwner? k o with
    | some c => let x := s.ctx c.1 c.2; s.setCtx c.1 c.2 { x with rxq := x.rxq ++ [(false, bs)] }
    | none => s

/-- FRAME of a reverse packet: the frame in FRONT (DESIGN CHOICE, log entry 23). -/
def State.frontFrame (s : State) (k o : Nat) : Nat := match (s.dout k (s.sourceOf k o)).front with | some f => f.frame | none => 0

/-- SINK_EDID: the panel's EDID block by block, or NO_PANEL (R255). -/
def State.sendEdid (s : State) (k o : Nat) : State :=
  let e := (s.dout k o).edid
  let n := ceilDiv e.length 128
  if s.rb (Reg.DOUT_STATUS k o) 4 && decide (0 < n) then
    (List.range n).foldl (fun s b =>
      s.sinkSend k o (displayPacket 0x12 (s.frontFrame k o) [packWord [(0, 2, b), (2, 2, n - 1)]]
        ++ ((e.drop (128 * b)).take 128 ++ List.replicate (128 - (e.length - 128 * b)) 0))) s
  else
    s.sinkSend k o (displayPacket 0x12 (s.frontFrame k o) [packWord [(4, 1, 1)]] ++ List.replicate 128 0)

/-- SINK_STATUS (R253): the counts of the tunnel, and the panel of output o. -/
def State.sendSinkStatus (s : State) (k o : Nat) : State :=
  let d := s.dout k (s.sourceOf k o)
  s.sinkSend k o (displayPacket 0x13 (s.frontFrame k o)
    [word d.flips, word d.repeats, packWord [(0, 1, (s.rb (Reg.DOUT_STATUS k o) 4).toNat)]])

/-- REFRESH for rows, or for ALL (R232), counted. -/
def State.sendRefresh (s : State) (k o frame : Nat) (rows : Option (Nat × Nat)) : State :=
  let body := match rows with
    | some (r, n) => [packWord [(16, 10, r)], packWord [(0, 10, n)]]
    | none => [packWord [(0, 1, 1)], 0]
  (s.sinkSend k o (displayPacket 0x11 frame body)).bump (Reg.PURLD_REFRESH_TX k o) 1

/-- The tunnel of an output, or the leg that counts as one (R270), enters Open: the counts of R253 start, and the panel's EDID is sent (R211). -/
def State.doutOpened (s : State) (k o : Nat) : State :=
  (s.setDout k o { s.dout k o with flips := 0, repeats := 0, blanked := false, lastStart := none }).sendEdid k o

/-- The output's tunnel enters Open: its origin too (R270). -/
def State.doutStart (s : State) (k o t : Nat) : State :=
  let p := (s.ctx k t).typePar
  (if p.length = 4 then s.setReg (Reg.DOUT_ORIGIN k o) (((bytesWords p).getD 0 0) &&& 0x1FFF1FFF) else s).doutOpened k o

/-- The output's tunnel goes Closed: a frame that was arriving will not end, and CLOSE_ACTION says what is shown (R249). -/
def State.doutClosed (s : State) (k o : Nat) : State :=
  (s.setDout k o { s.dout k o with blanked := true }).setOutbox k (doutAdapter o) []

/-! ### Local-output legs (R187, R270) -/

/-- The replication list of a context. -/
def State.ctxList? (s : State) (k t : Nat) : Option Nat :=
  let l := s.rf (Reg.TUN_TYPEREF k t) 0 10
  if t < 8 ∨ l = 0x3FF then none else some l

/-- The outputs of a list's local-output legs. -/
def State.localLegs (s : State) (k t : Nat) : List Nat :=
  match s.ctxList? k t with
  | none => []
  | some l => (List.range 15).filterMap fun i =>
      let w := s.reg (Reg.MC_LEG k l i)
      if bitAt w 31 && bitAt w 0 then some (2 * fld w 1 3 + fld w 4 1) else none

/-- The outputs of a context's local-output legs start, or lose their tunnel, with it. -/
def State.legsOpened (s : State) (k t : Nat) : State := (s.localLegs k t).foldl (fun s o => s.doutOpened (o / 2) (o % 2)) s
def State.legsClosed (s : State) (k t : Nat) : State := (s.localLegs k t).foldl (fun s o => s.doutClosed (o / 2) (o % 2)) s

end Sys2Proof.Machine
end

