-- ==== Sys2Proof/Machine/Pcie.lean ====
section
/-! DEFINITION. The PCIe bridge (R272 to R292): TLPs as bytes (PRESUMED, PCI Express 5.0, log entry 27), its form, credit and reservations,
read-ahead data, the slot of the virtual downstream port, and the loss of the path. -/

namespace Sys2Proof.Machine

def State.bridge (s : State) (k : Nat) : Bridge := smapGet (fun _ => {}) s.bridges k

def State.setBridge (s : State) (k : Nat) (b : Bridge) : State := { s with bridges := smapPut (fun _ => {}) s.bridges k b }

/-! ### TLPs -/

/-- Queue of a TLP (R278). -/
inductive TlpKind where
  | posted | nonPosted | completion
  deriving DecidableEq, Repr

/-- A big-endian number of n bytes at byte i. -/
def beAt (bs : List Byte) (i n : Nat) : Nat := (List.range n).foldl (fun v j => v * 256 + byteAt bs (i + j)) 0

def tlpFmt (b : List Byte) : Nat := byteAt b 0 / 32
def tlpType (b : List Byte) : Nat := byteAt b 0 % 32
def tlpHasData (b : List Byte) : Bool := (tlpFmt b).testBit 1
def tlpHdr (b : List Byte) : Nat := if (tlpFmt b).testBit 0 then 16 else 12

/-- LENGTH in double words, 0 standing for 1,024. -/
def tlpLength (b : List Byte) : Nat :=
  let n := byteAt b 2 % 4 * 256 + byteAt b 3
  if n = 0 then 1024 else n

/-- Data bytes carried. -/
def tlpData (b : List Byte) : Nat := if tlpHasData b then 4 * tlpLength b else 0

def tlpIsCpl (b : List Byte) : Bool := tlpType b == 10 || tlpType b == 11
def tlpIsMem (b : List Byte) : Bool := tlpType b == 0
def tlpIsMRd (b : List Byte) : Bool := tlpIsMem b && !tlpHasData b
def tlpIsLocked (b : List Byte) : Bool := tlpType b == 1
def tlpIsIo (b : List Byte) : Bool := tlpType b == 2
def tlpIsCfg (b : List Byte) : Bool := tlpType b == 4 || tlpType b == 5
def tlpIsAtomic (b : List Byte) : Bool := decide (12 ≤ tlpType b ∧ tlpType b ≤ 14)
def tlpIsMsg (b : List Byte) : Bool := decide (16 ≤ tlpType b ∧ tlpType b ≤ 23)

/-- A TLP of a known type whose bytes are its header, data and digest. -/
def tlpOk (b : List Byte) : Bool :=
  decide (tlpFmt b < 4) && (tlpIsCpl b || tlpIsMem b || tlpIsLocked b || tlpIsIo b || tlpIsCfg b || tlpIsAtomic b || tlpIsMsg b)
    && decide (b.length = tlpHdr b + tlpData b + (if byteAt b 2 / 128 = 1 then 4 else 0))

def tlpKind (b : List Byte) : TlpKind :=
  if tlpIsCpl b then .completion else if (tlpIsMem b && tlpHasData b) || tlpIsMsg b then .posted else .nonPosted

/-- Requester ID and 10-bit tag; a completion names its requester in its last words. -/
def tlpReq (b : List Byte) : Nat := if tlpIsCpl b then beAt b 8 2 else beAt b 4 2
def tlpTag (b : List Byte) : Nat :=
  byteAt b (if tlpIsCpl b then 10 else 6) + 256 * (byteAt b 1 / 8 % 2) + 512 * (byteAt b 1 / 128)

/-- The address of a memory, I/O or AtomicOp request. -/
def tlpAddr (b : List Byte) : Nat := (if (tlpFmt b).testBit 0 then beAt b 8 8 else beAt b 8 4) / 4 * 4

/-- Bus, device and function that a configuration request names, and its word number. -/
def tlpCfgId (b : List Byte) : Nat := beAt b 8 2
def tlpCfgWord (b : List Byte) : Nat := byteAt b 10 % 16 * 64 + byteAt b 11 / 4

def cplStatus (b : List Byte) : Nat := byteAt b 6 / 32
def cplCount (b : List Byte) : Nat :=
  let n := byteAt b 6 % 16 * 256 + byteAt b 7
  if n = 0 then 4096 else n

/-- The data bytes of a TLP. -/
def tlpBytes (b : List Byte) : List Byte := slice b (tlpHdr b) (tlpData b)

/-- Data credits of a TLP (R279). -/
def tlpCredits (b : List Byte) : Nat := ceilDiv (tlpData b) 16

/-- Headers and data credits that a non-posted request reserves in the CPL buffer (R280). -/
def tlpReserve (b : List Byte) : Nat × Nat :=
  if tlpIsMRd b then
    ((tlpAddr b + 4 * tlpLength b - 1) / 64 - tlpAddr b / 64 + 1, ceilDiv (4 * tlpLength b) 16)
  else (1, 1)

/-- A completion for the request whose header is given: without data, or with `data` (a successful one). -/
def cplFor (hdr : List Byte) (status completer count lower : Nat) (data : Option (List Byte)) : List Byte :=
  let n := (data.getD []).length / 4
  [BitVec.ofNat 8 (if data.isSome then 0x4A else 0x0A), BitVec.ofNat 8 (byteAt hdr 1),
   BitVec.ofNat 8 (byteAt hdr 2 / 16 % 4 * 16 + n % 1024 / 256), BitVec.ofNat 8 n,
   BitVec.ofNat 8 (completer / 256), BitVec.ofNat 8 completer, BitVec.ofNat 8 (status * 32 + count % 4096 / 256), BitVec.ofNat 8 count,
   hdr.getD 4 0, hdr.getD 5 0, hdr.getD 6 0, BitVec.ofNat 8 lower] ++ data.getD []

/-- A memory read of `len` bytes (a multiple of 4) at an address, by a requester with a tag below 256. -/
def memRead (req tag addr len : Nat) : List Byte :=
  let wide := decide (2 ^ 32 ≤ addr)
  let n := len / 4 % 1024
  let a (m : Nat) : List Byte := (List.range m).map fun i => BitVec.ofNat 8 (addr / 256 ^ (m - 1 - i))
  [if wide then 0x20 else 0x00, 0, BitVec.ofNat 8 (n / 256), BitVec.ofNat 8 n, BitVec.ofNat 8 (req / 256), BitVec.ofNat 8 req,
   BitVec.ofNat 8 tag, if len = 4 then 0x0F else 0xFF] ++ a (if wide then 8 else 4)

/-! ### Configuration space (R274, R276) -/

/-- The writable bits of a word of the type 1 or type 0 header (PRESUMED, PCI Express 5.0). -/
def cfgMask (fn w : Nat) : Word :=
  if fn = 1 then
    (match w with | 1 => 0x00000546 | 3 => 0xFF | 4 => 0xFFFF0000 | 15 => 0xFF | _ => 0)
  else
    (match w with
     | 1 => 0x00000547 | 3 => 0xFF | 6 => 0xFFFFFFFF | 7 => 0x0000F0F0 | 8 => 0xFFF0FFF0 | 9 => 0xFFF0FFF0
     | 10 => 0xFFFFFFFF | 11 => 0xFFFFFFFF | 12 => 0xFFFFFFFF | 15 => 0x004300FF | _ => 0)

/-- Reset words of the three functions (Table 8.2, R274). -/
def cfgReset (key : Nat) : Word :=
  let fn := key / 1024
  match key % 1024 with
  | 0 => word (0x1F9E + 65536 * (if fn = 0 then 0x0E20 else if fn = 1 then 0x0E22 else 0x0E21))
  | 1 => 0x00100000
  | 2 => if fn = 1 then 0x088000B1 else 0x060400B1
  | 3 => if fn = 1 then 0x00800000 else if fn = 0 then 0x00810000 else 0x00010000
  | 7 => if fn = 1 then 0 else 0x00000101
  | 9 => if fn = 1 then 0 else 0x00010001
  | w => if w = Config.aerCap fn + 3 then 0x00462030 else 0

def Bridge.cfgWord (b : Bridge) (fn w : Nat) : Word := smapGet cfgReset b.cfg (1024 * fn + w)

/-- Bus numbers of a type 1 function: secondary and subordinate. -/
def Bridge.secBus (b : Bridge) (fn : Nat) : Nat := fld (b.cfgWord fn 6) 8 8
def Bridge.subBus (b : Bridge) (fn : Nat) : Nat := fld (b.cfgWord fn 6) 16 8

/-- Requester and completer IDs of the upstream port and of the virtual downstream port. -/
def Bridge.upId (b : Bridge) : Nat := 256 * b.busN
def Bridge.downId (b : Bridge) : Nat := 256 * b.secBus 0

/-- An address inside the memory or I/O windows of a type 1 function. -/
def Bridge.inWindow (b : Bridge) (fn : Nat) (io : Bool) (a : Nat) : Bool :=
  let c := b.cfgWord fn
  if io then
    let base := fld (c 7) 4 4 * 4096 + fld (c 12) 0 16 * 65536
    let lim := fld (c 7) 12 4 * 4096 + 4095 + fld (c 12) 16 16 * 65536
    bitAt (c 1) 0 && decide (base ≤ a) && decide (a ≤ lim)
  else
    let base := fld (c 8) 4 12 * 1048576
    let lim := fld (c 8) 20 12 * 1048576 + 1048575
    let pbase := fld (c 9) 4 12 * 1048576 + (c 10).toNat * 4294967296
    let plim := fld (c 9) 20 12 * 1048576 + 1048575 + (c 11).toNat * 4294967296
    bitAt (c 1) 1 && ((decide (base ≤ a) && decide (a ≤ lim)) || (decide (pbase ≤ a) && decide (a ≤ plim)))

/-! ### Output on the X link, and synthesised completions (R284) -/

/-- A TLP put on the X link. -/
def State.xSend (s : State) (k : Nat) (b : List Byte) : State :=
  let x := s.bridge k
  s.setBridge k { x with xOut := x.xOut ++ [b] }

/-- The completer ID of completions that the bridge builds. -/
def Bridge.ownId (b : Bridge) : Nat := if b.form = 1 then b.upId else 0

/-- A Completer Abort or an Unsupported Request for a request that came by the X link. -/
def State.synth (s : State) (k : Nat) (hdr : List Byte) (ca : Bool) : State :=
  let x := s.bridge k
  let n := if tlpIsMRd hdr || tlpIsLocked hdr then 4 * tlpLength hdr else 4
  let s := s.xSend k (cplFor hdr (if ca then 4 else 1) x.ownId n (if tlpIsMRd hdr then tlpAddr hdr % 128 else 0) none)
  s.bump (if ca then Reg.PCIE_SYNTH_CA k else Reg.PCIE_SYNTH_UR k) 1

/-! ### Reservations -/

/-- The outstanding requests set, with NP_OUT and PCIE_CPL_RESV. -/
def State.setNp (s : State) (k : Nat) (l : List NpOut) : State :=
  let x := s.bridge k
  let s := s.setBridge k { x with np := l }
  let s := s.setRf (Reg.PCIE_STATUS k) 16 7 (l.length + x.raReqs.length)
  s.setReg (Reg.PCIE_CPL_RESV k) (packWord [(0, 11, (l.map (·.resvH)).sum), (16, 12, (l.map (·.resvD)).sum)])

/-! ### Read-ahead data (R285 to R287) -/

/-- An entry of the discard log, the counts, and EV_PCIE_RA_DISCARD at most once per second (R287). -/
def State.raNote (s : State) (k addr len cause : Nat) : State :=
  let x := s.bridge k
  let h := s.rf (Reg.PCIW_LOG_HEAD k) 0 5
  let s := s.bump (Reg.PCIW_RA_DISCARD k) len
  let s := s.setRegs [(Reg.PCIW_LOG k h 0, word addr), (Reg.PCIW_LOG k h 1, word (addr / 2 ^ 32)),
    (Reg.PCIW_LOG k h 2, packWord [(0, 16, len), (16, 3, cause)]), (Reg.PCIW_LOG k h 3, word s.tai)]
  let s := s.setRf (Reg.PCIW_LOG_HEAD k) 0 5 (h + 1)
  let s := if 32 ≤ x.logCount then s.bump (Reg.PCIW_LOG_LOST k) 1 else s
  let n := (x.raSince.1 + 1, x.raSince.2 + len)
  let quiet := match x.raLogged with | some w => decide (s.now < w + 1000000000) | none => false
  let s := s.setBridge k { s.bridge k with logCount := min 32 (x.logCount + 1), raSince := if quiet then n else (0, 0),
                                           raLogged := if quiet then x.raLogged else some s.now }
  if quiet then s else s.log k Ev.pcieRaDiscard 0 [n.1, n.2]

/-- The held pieces that answer a test discarded. -/
def State.raDrop (s : State) (k cause : Nat) (p : RaPiece → Bool) : State :=
  let x := s.bridge k
  let gone := x.raHeld.filter p
  let s := s.setBridge k { x with raHeld := x.raHeld.filter fun c => !p c }
  gone.foldl (fun s c => s.raNote k c.addr c.data.length cause) s

/-- Every held piece discarded, and every request in flight forgotten: its completion finds no requester. -/
def State.raClear (s : State) (k cause : Nat) : State :=
  let s := s.raDrop k cause fun _ => true
  let s := s.setBridge k { s.bridge k with raReqs := [], raWait := [] }
  s.setNp k (s.bridge k).np

/-! ### The slot (R290) -/

/-- Presence Detect State and DL Link Active set, with their changed bits and the hot-plug interrupt where the host has enabled it
(Slot Control bits 3, 5 and 12, PRESUMED). -/
def State.setSlot (s : State) (k : Nat) (pds dll : Bool) : State :=
  let x := s.bridge k
  let c := x.cfgWord 2 (Config.pcieCap 2 + 6)
  let fire := bitAt c 5 && ((pds != x.pds && bitAt c 3) || (dll != x.dll && bitAt c 12))
  s.setBridge k { x with pds := pds, dll := dll, pdc := x.pdc || pds != x.pds, dllsc := x.dllsc || dll != x.dll,
                         hotPlug := x.hotPlug + (if fire then 1 else 0) }

/-- Surprise Down recorded in AER and counted (Table 8.7), and reported by an error message to the host as AER's mask and severity and the
port's enables direct (R290; PRESUMED, PCI Express 5.0). -/
def State.surpriseDown (s : State) (k : Nat) : State :=
  let x := s.bridge k
  let s := (s.setBridge k { x with surprise := true }).bump (Reg.PCIE_SURPRISE_DOWN k) 1
  let fatal := bitAt (x.cfgWord 2 (Config.aerCap 2 + 3)) 5
  let ctl := x.cfgWord 2 (Config.pcieCap 2 + 2)
  if !bitAt (x.cfgWord 2 (Config.aerCap 2 + 2)) 5 && (bitAt (x.cfgWord 2 1) 8 || bitAt ctl (if fatal then 2 else 1)) then
    s.xSend k ([0x30, 0, 0, 0, BitVec.ofNat 8 (x.downId / 256), BitVec.ofNat 8 x.downId, 0, if fatal then 0x33 else 0x31]
      ++ List.replicate 8 0)
  else s

/-! ### Bridge packets (Table 8.5) -/

def bridgePacket (ptype : Nat) (body : List Byte) : List Byte := wordBytes (packWord [(0, 8, ptype), (8, 8, 1)]) ++ body

/-- The adapter of the bridge (Table 4.2). -/
def pcieAdapter : Nat := 7

/-- LINK_STATE from the dock end. -/
def State.linkStatePacket (s : State) (k : Nat) : List Byte :=
  let st := s.reg (Reg.PCIE_STATUS k)
  let x := s.bridge k
  bridgePacket 0x11 (wordBytes (packWord [(0, 1, if fld st 0 4 = 3 then 1 else 0), (1, 1, x.present.toNat), (2, 3, fld st 4 3), (5, 3, fld st 7 3)]))

/-- LINK_CTRL from the host end. -/
def linkCtrlPacket (retrain : Bool) (speed : Nat) (hot perst release : Bool) : List Byte :=
  bridgePacket 0x12 (wordBytes (packWord [(0, 1, retrain.toNat), (1, 3, speed), (4, 1, hot.toNat), (5, 1, perst.toNat), (6, 1, release.toNat)]))

/-! ### Loss of the path (R289) -/

/-- Posted requests among the packets and cells that a context still holds. -/
def State.postedQueued (s : State) (k t : Nat) : Nat :=
  let cells := [0, 1].flatMap fun m => (s.ctxAt k t m).txq ++ (s.ctxAt k t m).unacked
  (cells.filter fun c => c.first && byteAt c.payload (if c.enc then 8 else 0) == 1).length + ((s.outboxOf k pcieAdapter).filter fun b => byteAt b 0 == 1).length

/-- The path below the virtual downstream port is lost: outstanding requests are completed Completer Abort, posted requests queued here
are lost and counted, and read-ahead data is discarded (R289). `lost` counts posted requests in the tunnel. -/
def State.pathLost (s : State) (k lost : Nat) : State :=
  let x := s.bridge k
  let posted := (x.toTunnel.filter fun b => tlpKind b = .posted).length + lost
  let s := x.np.foldl (fun s q => s.synth k q.hdr true) s
  let s := (x.toTunnel ++ x.raWait).foldl (fun s b => if tlpKind b = .nonPosted ∧ tlpReq b ≠ x.downId then s.synth k b false else s) s
  let s := s.setBridge k { s.bridge k with toTunnel := [] }
  let s := if posted = 0 then s else s.bump (Reg.PCIE_POSTED_LOST k) posted
  let s := (s.raClear k 6).setNp k []
  s.setRb (Reg.PCIE_STATUS k) 12 false

/-! ### Form (R272, R275) -/

/-- The form that the roles and PCIE_CTRL give the X port: 0 Off, 1 host end, 2 dock end. -/
def State.pcieForm (s : State) (k : Nat) : Nat :=
  match s.adapterCtx? k pcieAdapter with
  | some t => if s.rb (Reg.LNK_STATE (s.rf (Reg.TUN_PATH k t) 4 3) (s.rf (Reg.TUN_PATH k t) 8 2)) 6 then 2 else 1
  | none => let f := s.rf (Reg.PCIE_CTRL k) 0 2; if f = 3 then 0 else f

/-- The X link dropped, to train in the form given; in the dock-end form PX_PERST_N is low until 100 ms after the tunnel opens (R275). -/
def State.dropX (s : State) (k f : Nat) : State :=
  let s := s.viaDown (.pcie k)
  let s := (s.setRf (Reg.PCIE_STATUS k) 0 4 (if f = 0 then 0 else 1)).setRf (Reg.PCIE_STATUS k) 4 6 0
  s.setRb (Reg.PCIE_STATUS k) 13 (f == 2)

/-- The form follows the roles (R272): a change drops the X link. In the dock-end form a tunnel that is Closed or Opening holds
PX_PERST_N low. -/
def State.pcieSync (s : State) (k : Nat) : State :=
  let f := s.pcieForm k
  if f ≠ (s.bridge k).form then
    (s.pathLost k 0).setBridge k { form := f, present := (s.bridge k).present } |>.dropX k f
  else if f == 2 && (match s.adapterCtx? k pcieAdapter with | some t => s.tunState k t == 1 | none => true) then s.dropX k f
  else s

/-- Credit at the start of a tunnel (Table 8.4). -/
def State.bridgeStart (s : State) (k : Nat) : State :=
  let x := s.bridge k
  let s := s.setBridge k { x with leftP := (64, 2048), leftNp := (64, 128), freedP := (0, 0), freedNp := (0, 0), freedCpl := (0, 0) }
  s.setRegs [(Reg.PCIE_FAR_CRED_P k, packWord [(0, 8, 64), (16, 12, 2048)]), (Reg.PCIE_FAR_CRED_NP k, packWord [(0, 8, 64), (16, 12, 128)])]

/-- The tunnel leaves Open for Held or Fault (Tables 4.14, 8.7). -/
def State.bridgeHeld (s : State) (k t : Nat) : State :=
  let s := s.pathLost k (s.postedQueued k t)
  if (s.bridge k).form = 1 then ((s.setSlot k false false).surpriseDown k).setRf (Reg.PCIE_STATUS k) 10 2 0 else s

/-- The tunnel resumes (R291): the dock end reports its link first; a Secondary Bus Reset of the hold goes over. -/
def State.bridgeResume (s : State) (k : Nat) : State :=
  let x := s.bridge k
  if x.form = 2 then s.emit k pcieAdapter (s.linkStatePacket k)
  else if x.heldReset then
    (s.setBridge k { x with heldReset := false }).emit k pcieAdapter (linkCtrlPacket false 0 true false false)
  else s

/-- Every window invalid (R285, Table 8.8). -/
def State.clearWindows (s : State) (k : Nat) : State :=
  (List.range 8).foldl (fun s w => s.setRb (Reg.PCIW_CTRL k w) 0 false) (s.setBridge k { s.bridge k with windows := [] })

/-- The tunnel enters Draining: nothing more enters it; what it still holds goes over. -/
def State.bridgeDrain (s : State) (k : Nat) : State :=
  let s := s.pathLost k 0
  if (s.bridge k).form = 1 then (s.setSlot k false false).setRf (Reg.PCIE_STATUS k) 10 2 0 else s

/-- The tunnel goes Closed: path lost, windows cleared, the slot empty (R285, R291). -/
def State.bridgeClosed (s : State) (k t : Nat) : State :=
  let s := s.pathLost k (s.postedQueued k t)
  let s := (s.clearWindows k).setOutbox k pcieAdapter []
  if (s.bridge k).form = 1 then (s.setSlot k false false).setRf (Reg.PCIE_STATUS k) 10 2 0 else s

end Sys2Proof.Machine
end

