-- ==== Sys2Proof/Machine/Usb.lean ====
section
/-! DEFINITION. The split USB hub (R295 to R316): its packets, endpoint contexts and what they hold, control transfers and toggles, the
downstream ports, and the form. Bits of wPortStatus and wPortChange, request codes and descriptors follow USB 2.0 (PRESUMED, log entry 28). -/

namespace Sys2Proof.Machine

/-- The adapter of the hub (Table 4.2). -/
def usbAdapter : Nat := 8

/-! ### Packets (Table 9.7) -/

def hubPacket (ptype : Nat) (body : List Byte) : List Byte := wordBytes (packWord [(0, 8, ptype), (8, 8, 1)]) ++ body

/-- The key of an endpoint context: 32 × address, plus endpoint and direction. Endpoint 0 has one context for both directions. -/
def epKey (addr ep : Nat) (dirIn : Bool) : Nat := if ep = 0 then 32 * addr else 32 * addr + 2 * ep + dirIn.toNat

/-- The token word of a context. -/
def tokenWord (key attr : Nat) (dirIn : Bool) (len : Nat) : Word :=
  packWord [(0, 7, key / 32), (7, 4, key % 32 / 2), (11, 1, dirIn.toNat), (12, 8, attr), (20, 12, len)]

def tokenPacket (ptype key attr : Nat) (dirIn : Bool) (len : Nat) (body : List Byte) : List Byte :=
  hubPacket ptype (wordBytes (tokenWord key attr dirIn len) ++ body)

def tokKey (w : Word) : Nat := epKey (fld w 0 7) (fld w 7 4) (bitAt w 11)
def tokAttr (w : Word) : Nat := fld w 12 8
def attrPort (a : Nat) : Nat := a % 16
def attrSplit (a : Nat) : Bool := a / 16 % 2 == 1
def attrType (a : Nat) : Nat := a / 64 % 4

/-- Bits [19:12] of the token word of a token of the upstream bus. -/
def upAttr (t : UsbTok) : Nat := t.port % 16 + (if t.port = 0 then 0 else 16) + 32 * t.low.toNat + 64 * (t.ty % 4)

/-! ### Contexts (R303) -/

/-- FETCH_DEPTH and OUT_DEPTH as they act (Table 9.12). -/
def usbDepth (n : Nat) : Nat := max 1 (min n 4)
def State.fetchDepth (s : State) (k : Nat) : Nat := usbDepth (s.rf (Reg.USBH_CTRL k) 4 3)
def State.outDepth (s : State) (k : Nat) : Nat := usbDepth (s.rf (Reg.USBH_CTRL k) 8 3)

def Hub.ep? (x : Hub) (key : Nat) : Option UsbEp := (x.eps.find? fun e => e.1 == key).map (·.2)

/-- The contexts replaced, with USBH_EP_CTX. -/
def State.setEps (s : State) (k : Nat) (l : List (Nat × UsbEp)) : State :=
  let s := s.setHub k { s.hub k with eps := l }
  let s := s.setRf (Reg.USBH_EP_CTX k) 0 9 l.length
  s.setRf (Reg.USBH_EP_CTX k) 16 9 (max (s.rf (Reg.USBH_EP_CTX k) 16 9) l.length)

/-- A context set, and taken if it was free. -/
def State.putEp (s : State) (k key : Nat) (e : UsbEp) : State := s.setEps k (smapInsert (s.hub k).eps key { e with used := s.now })

/-- The context of an endpoint at its next token or packet; none where all 256 are in use. -/
def State.takeEp (s : State) (k key attr : Nat) : Option UsbEp :=
  match (s.hub k).ep? key with
  | some e => some { e with attr := attr }
  | none => if 256 ≤ (s.hub k).eps.length then none else some { attr := attr }

/-- The maximum packet of an endpoint: from its descriptor, else the greatest of its type (R316, PRESUMED USB 2.0). -/
def Hub.maxPkt (x : Hub) (key ty : Nat) : Nat :=
  let dev := ((x.devs.find? fun d => d.1 == key / 32).map (·.2)).getD {}
  let hits := dev.descs.filter fun d => decide (key % 32 ≠ 0) && epKey (key / 32) (d.epAddr % 16) (decide (128 ≤ d.epAddr)) == key
  match hits with
  | [] => if ty = 0 then 64 else if ty = 2 then 512 else 3072
  | _ => hits.foldl (fun m d => max m d.maxPkt) 0

/-- The port that an endpoint lies behind: its TT port, else the port of its device, 0 when not known. -/
def Hub.portOf (x : Hub) (e : Nat × UsbEp) : Nat :=
  if attrSplit e.2.attr then attrPort e.2.attr
  else if e.1 / 32 = 0 then x.zeroPort else ((x.devs.find? fun d => d.1 == e.1 / 32).map (·.2.port)).getD 0

/-- EV_USB_DISCARD, at most once per second (Table 9.3). -/
def State.discardNote (s : State) (k bytes count : Nat) : State :=
  let x := s.hub k
  let n := (x.discSince.1 + bytes, x.discSince.2 + count)
  if (match x.discLog with | some w => decide (s.now < w + 1000000000) | none => false) then s.setHub k { x with discSince := n }
  else (s.setHub k { x with discSince := (0, 0), discLog := some s.now }).log k Ev.usbDiscard 0 [n.1, n.2]

/-- Bytes that fetched IN data or accepted OUT data loses (Table 9.3). -/
def State.countDrop (s : State) (k bytes count : Nat) : State :=
  if count = 0 then s
  else if (s.hub k).form = 1 then (s.bump (Reg.USBH_FETCH_DISCARD k) bytes).discardNote k bytes count
  else s.bump (Reg.USBH_OUT_DISCARD k) bytes

/-- The data of every context that answers a test discarded and counted, its fetch ended; `f` changes the context besides. -/
def State.dropData (s : State) (k : Nat) (p : Nat × UsbEp → Bool) (f : UsbEp → UsbEp) : State :=
  let x := s.hub k
  let hit := x.eps.filter fun e => p e && !e.2.held.isEmpty
  let s := s.setHub k { x with eps := x.eps.map fun e => if p e then (e.1, f { e.2 with held := [], want := 0 }) else e }
  s.countDrop k ((hit.flatMap fun e => e.2.held).map List.length).sum hit.length

/-- Contexts freed, their data discarded. -/
def State.freeEps (s : State) (k : Nat) (p : Nat × UsbEp → Bool) : State :=
  let s := s.dropData k p id
  s.setEps k ((s.hub k).eps.filter fun e => !p e)

/-- Toggles of the endpoints named go to DATA0, their data is discarded, and a STALL answer ends (R305). -/
def State.resyncEps (s : State) (k : Nat) (p : Nat → Bool) : State :=
  (s.dropData k (fun e => p e.1) fun e => { e with tog := false, stall := false, err := false, res := none }).bump (Reg.USBH_TOGGLE_RESYNC k) 1

/-- Active isochronous endpoints, with USBH_ISO_EP. -/
def State.setIso (s : State) (k : Nat) (l : List UsbIso) : State :=
  (s.setHub k { s.hub k with isoAct := l }).setRf (Reg.USBH_ISO_EP k) 0 4 l.length

/-! ### Control transfers (R304, R305) -/

def setupReq (b : List Byte) : Nat × Nat := (byteAt b 0, byteAt b 1)
def setupValue (b : List Byte) : Nat := halfAt b 2
def setupIndex (b : List Byte) : Nat := halfAt b 4
def setupLength (b : List Byte) : Nat := halfAt b 6

/-- A transfer with a data stage toward the host; its status stage is OUT. -/
def ctlIn (b : List Byte) : Bool := decide (128 ≤ byteAt b 0) && decide (setupLength b ≠ 0)

/-- The endpoints that a configuration descriptor lists. -/
def parseConfig (fuel : Nat) (b : List Byte) (iface alt : Nat) : List UsbDesc :=
  match fuel with
  | 0 => []
  | fuel + 1 =>
    let n := byteAt b 0
    if n < 2 ∨ b.length < n then []
    else if byteAt b 1 = 4 then parseConfig fuel (b.drop n) (byteAt b 2) (byteAt b 3)
    else if byteAt b 1 = 5 ∧ 7 ≤ n then
      { iface := iface, alt := alt, epAddr := byteAt b 2, ty := byteAt b 3 % 4, maxPkt := halfAt b 4 % 2048 * (1 + halfAt b 4 / 2048 % 4),
        interval := 2 ^ (min 16 (max 1 (byteAt b 6)) - 1) } :: parseConfig fuel (b.drop n) iface alt
    else parseConfig fuel (b.drop n) iface alt

/-- The isochronous endpoints that a request selects become active, at most 8 (R304). -/
def State.selectIso (s : State) (k addr : Nat) (p : UsbDesc → Bool) (sel : UsbDesc → Bool) : State :=
  let x := s.hub k
  let dev := ((x.devs.find? fun d => d.1 == addr).map (·.2)).getD {}
  let key (d : UsbDesc) := epKey addr (d.epAddr % 16) (decide (128 ≤ d.epAddr))
  let out := (dev.descs.filter p).map key
  let new := (dev.descs.filter fun d => p d && sel d && d.ty == 1).map fun d => ({ key := key d, interval := d.interval, last := x.uf } : UsbIso)
  let s := s.setHub k { x with isoSel := (x.isoSel.filter fun i => !out.contains i.key) ++ new,
                               isoData := x.isoData.filter fun d => !out.contains d.1 }
  s.setIso k (((x.isoAct.filter fun i => !out.contains i.key) ++ new).take 8)

/-- A control transfer completes its status stage at the device. -/
def State.ctlDone (s : State) (k key : Nat) (e : UsbEp) : State :=
  let addr := key / 32
  let x := s.hub k
  let dev := ((x.devs.find? fun d => d.1 == addr).map (·.2)).getD {}
  let b := e.ctl
  match setupReq b with
  | (0x00, 5) =>
    s.setHub k { x with devs := smapInsert x.devs (setupValue b % 128) { port := if addr = 0 then x.zeroPort else dev.port } }
  | (0x00, 9) =>
    (s.resyncEps k fun q => q / 32 == addr && q % 32 != 0).selectIso k addr (fun _ => true) fun d => d.alt == 0
  | (0x01, 11) =>
    let mine := dev.descs.filter fun d => d.iface == setupIndex b % 256
    let keys := mine.map fun d => epKey addr (d.epAddr % 16) (decide (128 ≤ d.epAddr))
    (s.resyncEps k fun q => keys.contains q).selectIso k addr (fun d => d.iface == setupIndex b % 256) fun d => d.alt == setupValue b
  | (0x02, 1) =>
    if setupValue b = 0 then s.resyncEps k fun q => q == epKey addr (setupIndex b % 16) (decide (128 ≤ setupIndex b % 256)) else s
  | (0x80, 6) =>
    let l := parseConfig 512 e.got 0 0
    if setupValue b / 256 = 2 ∧ l ≠ [] then s.setHub k { x with devs := smapInsert x.devs addr { dev with descs := l } } else s
  | (0x23, 3) => if setupValue b = 4 then s.setHub k { x with zeroPort := dev.port } else s
  | _ => s

/-! ### Downstream ports -/

/-- USBH_PORT of port index p, with the masks of USBH_STATUS. -/
def State.setUsbPort (s : State) (k p : Nat) (w : Word) : State :=
  let s := s.setReg (Reg.USBH_PORT k p) w
  let a := Reg.USBH_STATUS k
  (((s.setRb a (8 + p) (bitAt w 0)).setRb a (12 + p) (bitAt w 1)).setRb a (16 + p) (bitAt w 2)).setRb a (20 + p) (bitAt w 3)

/-- The dock end reports a port: the status bits given, and the changes of this report. -/
def State.reportPort (s : State) (k p status change : Nat) : State :=
  let w := packWord [(0, 16, status), (16, 16, change)]
  let s := (s.setUsbPort k p w).emit k usbAdapter (hubPacket 0x12 (wordBytes (word (p + 1)) ++ wordBytes w))
  if status.testBit 0 then s else s.hidLost k fun q => q == p

def State.portStatus (s : State) (k p : Nat) : Nat := s.rf (Reg.USBH_PORT k p) 0 16

/-- Bits of a status word cleared. -/
def without (w mask : Nat) : Nat := (List.range 16).foldl (fun v i => if w.testBit i && !mask.testBit i then v + 2 ^ i else v) 0

/-! ### Form and tunnel (R295, R311) -/

/-- The form that the roles and USBH_CTRL give the hub. -/
def State.usbForm (s : State) (k : Nat) : Nat :=
  match s.adapterCtx? k usbAdapter with
  | some t => if s.rb (Reg.LNK_STATE (s.rf (Reg.TUN_PATH k t) 4 3) (s.rf (Reg.TUN_PATH k t) 8 2)) 6 then 2 else 1
  | none => let f := s.rf (Reg.USBH_CTRL k) 0 2; if f = 3 then 0 else f

/-- The management function detached: its transport goes down (R515). -/
def State.usbDetach (s : State) (k : Nat) : State :=
  ((s.viaDown (.usb k)).setReg (Reg.USBD_STATUS k) 0).setHub k { s.hub k with repTx := none, evtTx := none }

/-- The form follows the roles: a change disconnects the upstream port and starts anew. -/
def State.usbSync (s : State) (k : Nat) : State :=
  let f := s.usbForm k
  if f = (s.hub k).form then s
  else
    let s := (s.freeEps k fun _ => true).usbDetach k
    let s := (s.setHub k { form := f, overLog := (s.hub k).overLog, discLog := (s.hub k).discLog }).setIso k []
    let s := (List.range 4).foldl (fun s p => s.setUsbPort k p 0) s
    (s.setRf (Reg.USBH_STATUS k) 0 4 f).setRf (Reg.USBH_STATUS k) 4 2 0

/-- The tunnel is Open: the dock end reports every port. -/
def State.usbStart (s : State) (k : Nat) : State :=
  let s := (s.setRb (Reg.USBH_STATUS k) 6 true).setRb (Reg.USBH_STATUS k) 7 false
  if (s.hub k).form = 2 then (List.range 4).foldl (fun s p => s.reportPort k p (s.portStatus k p) 0) s else s

/-- The tunnel is no longer Open: what the contexts hold is discarded, and credit ends with the queues that backed it. -/
def State.usbHeld (s : State) (k st : Nat) : State :=
  let s := (s.setRb (Reg.USBH_STATUS k) 6 false).setRb (Reg.USBH_STATUS k) 7 (st == 4)
  let s := (s.hidLost k fun _ => true).dropData k (fun _ => true) fun e => { e with credit := 0, outSent := false, onBus := false, next := none }
  let s := s.setHub k { s.hub k with isoData := [], isoSent := [] }
  if (s.hub k).form = 2 then s.setHub k { s.hub k with bus := 1 } else s

/-- The tunnel resumes: each port with a device is disabled and reports disconnect, then connect (Tables 4.14, 9.5). -/
def State.usbResume (s : State) (k : Nat) : State :=
  if (s.hub k).form = 2 then
    let s := s.setHub k { s.hub k with bus := 0 }
    (List.range 4).foldl (fun s p =>
      let w := s.portStatus k p
      if w.testBit 0 then (s.reportPort k p (without w 0x0003) 1).reportPort k p (without w 0x0002) 1 else s) s
  else s

/-- A port word without connection, enable and suspend, with C_PORT_CONNECTION where a device was there. -/
def goneWord (w : Word) : Word := setFld (if bitAt w 0 then setBit w 16 true else w) 0 3 0

/-- Ports 1 to 4 report disconnect at the host end; at the dock end they are disabled, power kept. -/
def State.usbPortsGone (s : State) (k : Nat) : State :=
  (List.range 4).foldl (fun s p =>
    let w := s.reg (Reg.USBH_PORT k p)
    s.setUsbPort k p (if (s.hub k).form = 1 then goneWord w else setBit w 1 false)) s

/-- The tunnel goes Closed (Table 9.5). -/
def State.usbClosed (s : State) (k : Nat) : State :=
  let s := ((s.setRb (Reg.USBH_STATUS k) 6 false).setRb (Reg.USBH_STATUS k) 7 false).freeEps k fun _ => true
  let s := (s.setHub k { s.hub k with isoData := [], isoSel := [], devs := [], waitReq := none }).setIso k []
  (s.usbPortsGone k).hidLost k fun _ => true

end Sys2Proof.Machine
end

