-- ==== Sys2Proof/Machine/Hooks.lean ====
section
/-! DEFINITION. What the adapter of a context does when the context opens, drains, is held, resumes or closes (R137, R138, Table 4.14), and
what its chapter asks of an open. -/

namespace Sys2Proof.Machine

/-- The adapter enters service: the tunnel is Open. -/
def State.adapterStart (s : State) (k t : Nat) : State :=
  match s.tunAdapter k t with
  | 3 | 4 => (s.dinStart k (s.tunAdapter k t - 3)).legsOpened k t
  | 5 | 6 => s.doutStart k (s.tunAdapter k t - 5) t
  | 7 => s.bridgeStart k
  | 8 => s.usbStart k
  | 9 => s.ethTunnel k 0 true
  | 10 => s.ethTunnel k 1 true
  | _ => s

/-- The tunnel enters Draining: its adapter hands over nothing more. -/
def State.adapterDrain (s : State) (k t : Nat) : State :=
  match s.tunAdapter k t with
  | 3 | 4 => s.dinStop k (s.tunAdapter k t - 3)
  | 7 => (s.bridgeDrain k).setOutbox k pcieAdapter []
  | 8 => (s.usbHeld k 3).setOutbox k usbAdapter []
  | 9 => (s.ethTunnel k 0 false).setOutbox k 9 []
  | 10 => (s.ethTunnel k 1 false).setOutbox k 10 []
  | a => s.setOutbox k a []

/-- The conditions that an adapter's own chapter sets for an open (R138, R139). `near` is the end that issues TUN_OPEN; the type parameters
and the link port are given. -/
def State.adapterChecks (s : State) (near : Bool) (k a _ek _ep : Nat) (par : List Byte) : List (Bool × Nat × Nat) :=
  [(near && ((a == 3 || a == 4 || decide (7 ≤ a)) && par.length != 0 || (a == 5 || a == 6) && !([0, 4].contains par.length)), 0x0102, 26),
   (a == 10 && s.paired k, 0x0201, 0x93),
   (a == 6 && decide (s.pairMode k < 2), 0x0201, 0x68),
   ((a == 5 || a == 6) && (s.localOwner? k (a - 5)).isSome, 0x0202, 2)]

/-- The tunnel enters Held or Fault (Table 4.14). -/
def State.adapterHeld (s : State) (k t : Nat) : State :=
  match s.tunAdapter k t with
  | 3 | 4 => s.dinStop k (s.tunAdapter k t - 3)
  | 7 => (s.bridgeHeld k t).setOutbox k pcieAdapter []
  | 8 => (s.usbHeld k 4).setOutbox k usbAdapter []
  | 9 => (s.ethTunnel k 0 false).setOutbox k 9 []
  | 10 => (s.ethTunnel k 1 false).setOutbox k 10 []
  | a => s.setOutbox k a []

/-- The tunnel resumes (Table 4.14). -/
def State.adapterResume (s : State) (k t : Nat) : State :=
  match s.tunAdapter k t with
  | 7 => s.bridgeResume k
  | 8 => s.usbResume k
  | _ => s

/-- A context has left Closed, or gone Closed: the form of a PCIe port or a USB hub may change (R30, R272, R295). -/
def State.adapterMoved (s : State) (k t : Nat) : State :=
  match s.tunAdapter k t with
  | 7 => s.pcieSync k
  | 8 => s.usbSync k
  | _ => s

/-- The tunnel goes Closed. -/
def State.adapterClosed (s : State) (k t : Nat) : State :=
  match s.tunAdapter k t with
  | 3 | 4 => (s.dinStop k (s.tunAdapter k t - 3)).legsClosed k t
  | 5 | 6 => s.doutClosed k (s.tunAdapter k t - 5)
  | 7 => s.bridgeClosed k t
  | 8 => (s.usbClosed k).setOutbox k usbAdapter []
  | 9 => (s.ethTunnel k 0 false).setOutbox k 9 []
  | 10 => (s.ethTunnel k 1 false).setOutbox k 10 []
  | _ => s

end Sys2Proof.Machine
end

