-- ==== Sys2Proof/Machine/Contexts.lean ====
section
/-! DEFINITION. Tunnel contexts (R125 to R142): their moves between states, the labels they own, what they discard and release, and the
contexts of a port. -/

namespace Sys2Proof.Machine

/-- The opcode that EV_TUN_STATE names for a port event (R126). -/
def portEvent : Nat := 0xFFFF

/-- A move of a context between states, logged (R136). -/
def State.moveCtx (s : State) (k t st cause : Nat) : State :=
  let old := s.tunState k t
  let s := (s.setRf (Reg.TUN_CTRL k t) 0 3 st).log k Ev.tunState t [old, st, cause]
  if 8 ≤ t ∧ (st = 0 ∨ old = 0) then s.adapterMoved k t else s

/-- Nothing of some sources stands in egress buffers or crosses seams toward one any more: their queues have changed at the front. -/
def State.dropFetched (s : State) (mine : Src → Bool) : State :=
  let s := s.dropFlights fun f => match f.fin with | .egress _ _ x => mine x | _ => false
  s.allPorts.foldl (fun s e =>
    let y := s.port e.1 e.2
    s.setPort e.1 e.2 { y with fetched := y.fetched.filter fun f => !mine f.1, plan := y.plan.filter fun f => !mine f.src }) s

/-- Everything a context holds queued in either direction is discarded and counted (R137). -/
def State.discardQueued (s : State) (k t p : Nat) : State :=
  let c := s.ctxAt k t p
  let n := c.txq.length + c.rxDepth + c.rxWait.length
  let s := s.setCtxAt k t p { c with txq := [], waitq := [], unacked := [], rxOpen := none, rxq := [], rxWait := [] }
  let s := s.dropFetched fun x => !x.raw && x.n == k && x.t == t && x.m == p
  if n = 0 then s else s.bump (Reg.TUN_DISCARD k t) n

/-- Cells of a context that are on their way to it over seams are discarded and counted. -/
def State.discardFlights (s : State) (k t : Nat) : State :=
  let mine (f : Flight) : Bool := match f.fin with | .rx _ _ n i _ _ _ _ _ => n == k && i == t | _ => false
  let n := s.flights.countP mine
  if n = 0 then s else (s.dropFlights mine).bump (Reg.TUN_DISCARD k t) n

/-- The same for both members of a loose ply and every leg. -/
def State.discardAll (s : State) (k t : Nat) : State := (List.range 17).foldl (fun s m => s.discardQueued k t m) (s.discardFlights k t)

/-- The records of a context beside its first: the second member of a loose ply, and what the far ends of its legs send. -/
def State.clearParts (s : State) (k t : Nat) : State := (List.range 16).foldl (fun s m => s.setCtxAt k t (m + 1) {}) s

/-- A job that holds a tunnel, shown in TUN_CTRL (Table 4.5), or no longer. -/
def State.holdCtx (s : State) (k t : Nat) (job : Option Nat) : State :=
  (s.setRb (Reg.TUN_CTRL k t) 13 job.isSome).setRf (Reg.TUN_CTRL k t) 16 16 (job.getD 0)

/-- The job that holds a tunnel. -/
def State.ctxJob (s : State) (k t : Nat) : Option Nat :=
  if s.rb (Reg.TUN_CTRL k t) 13 then some (s.rf (Reg.TUN_CTRL k t) 16 16) else none

/-- In-band link messages of a context that wait for a stitch (R140); they go out even when the context has left Open. -/
def State.inBandCells (s : State) (k t : Nat) : List Cell :=
  ((s.ctx k t).txq ++ (s.ctx k t).waitq).filter fun c => decide (8 ≤ t) && !s.ownClass k t c.cls

/-- On entry to Closed a tunnel gives up its row-table entries, its adapter and its context (R137). -/
def State.closeCtx (s : State) (k t cause : Nat) : State :=
  let words := s.inBandCells k t
  let s := s.adapterClosed k t
  let e := s.gaugePort k t
  let s := if (s.ctx k t).unknown then s else s.releaseRows e.1 e.2 (s.outLabel k t)
  let s := ((s.discardAll k t).moveCtx k t 0 cause).holdCtx k t none
  (s.setCtx k t { txq := words }).clearParts k t

/-- Contexts in Closed or Fault whose last in-band messages still wait for the port. -/
def State.lastWords (s : State) (k p : Nat) : List (Nat × Nat) :=
  let h := s.plyHead k p
  (s.ctxs.filterMap fun e =>
    let n := e.1 / 32 / 512
    let t := e.1 / 32 % 512
    if e.1 % 32 = 0 ∧ 8 ≤ t ∧ !e.2.txq.isEmpty ∧ [0, 5].contains (s.tunState n t) then some (n, t) else none).filter fun c =>
      s.rf (Reg.TUN_PATH c.1 c.2) 4 3 == h.1 && s.rf (Reg.TUN_PATH c.1 c.2) 8 2 == h.2

/-- Entry to Held (Table 4.14) and to Fault: queued cells are discarded; the row-table entries stay. -/
def State.holdOff (s : State) (k t cause : Nat) : State := ((s.adapterHeld k t).discardAll k t).moveCtx k t 4 cause

def State.faultCtx (s : State) (k t cause : Nat) : State := ((s.adapterHeld k t).discardAll k t).moveCtx k t 5 cause

/-- A tunnel enters Open: SEQ starts at 0 and no credit is known (R134, R184). -/
def State.openCtx (s : State) (k t cause : Nat) : State :=
  let c := s.ctx k t
  let c := { c with txSeq := 0, rxSeq := 0, legSeq := [], credit := none, granted := 0, creditSent := false, changed := false, nack := false,
                    nackDue := false, wholeSeq := 255, rxOpen := none, rxCm := false, dropping := false, authFails := 0, unacked := [], pn := [], rxWait := [],
                    paid := 0, split := none, doneTag := none, doneSent := false, doneRcvd := false }
  (((s.clearParts k t).setCtx k t c).moveCtx k t 2 cause).adapterStart k t

/-- A Held tunnel resumes (R166). -/
def State.resumeCtx (s : State) (k t cause : Nat) : State := (s.openCtx k t cause).adapterResume k t

/-- The running job that opened or holds a tunnel ends. -/
def State.endCtxJob (s : State) (k t : Nat) (st : JobState) (status : Status) (detail : Nat) : State :=
  match s.ctxJob k t with
  | some j => s.endJob j st (statusCode status) detail
  | none => s

/-! ### Contexts of a port -/

/-- Contexts T8 to T511 outside Closed whose egress is the port, or the ply that holds it, or a split ply one of whose ports it was (R121, R128). -/
def State.portCtxs (s : State) (k p : Nat) : List (Nat × Nat) :=
  let h := s.plyHead k p
  s.liveCtxs.filter fun c =>
    decide (8 ≤ c.2) && ((s.rf (Reg.TUN_PATH c.1 c.2) 4 3 == h.1 && s.rf (Reg.TUN_PATH c.1 c.2) 8 2 == h.2)
      || (s.ctx c.1 c.2).split.any fun x => x.2 == (k, p))

def State.portCtxsIn (s : State) (k p : Nat) (sts : List Nat) : List (Nat × Nat) :=
  (s.portCtxs k p).filter fun c => sts.contains (s.tunState c.1 c.2)

/-- Every context of a list acted on in turn. -/
def State.forCtxs (s : State) (l : List (Nat × Nat)) (f : State → Nat → Nat → State) : State := l.foldl (fun s c => f s c.1 c.2) s

/-- TYPE of a tunnel on a port other than control: some tunnel of the port has it. -/
def State.portHasType (s : State) (k p ty : Nat) : Bool := (s.portCtxs k p).any fun c => s.tunType c.1 c.2 == ty

/-- The member of a loose ply that carries a context's gauge, by the hash of its label alone (Table 4.7). -/
def State.setMember (s : State) (k t : Nat) : State :=
  let e := s.egress k t 0
  s.setRf (Reg.TUN_PATH k t) 10 1
    (if (s.ctx k t).unknown ∨ s.labelPort e.1 e.2 (s.outLabel k t) = s.plyHead e.1 e.2 then 0 else 1)

/-- The role of a port has changed: the functions whose tunnels use it take their new form (R30, R272, R295). -/
def State.roleSync (s : State) (k p : Nat) : State := s.forCtxs (s.portCtxs k p) fun s n t => s.adapterMoved n t

/-! ### Labels (R129) -/

/-- The control context of a port, on a tight ply that of the first member (R117, R126). -/
def State.ctrlCtx (s : State) (k p : Nat) : Nat := s.rowPort k p

/-- The legs of replication lists, found in the register file: kernel, list and leg index (Table 5.12). -/
def State.mcLegs (s : State) : List (Nat × Nat × Nat) :=
  s.regs.filterMap fun e =>
    let off := addrOff e.1
    if addrBlock e.1 = 0x15 ∧ 0x8000 ≤ off ∧ 4 ≤ off % 128 ∧ off % 128 < 64 ∧ addrUnit e.1 < 8 ∧ bitAt e.2 31 then
      some (addrUnit e.1, (off - 0x8000) / 128, (off % 128 - 4) / 4)
    else none

/-- The leg of a context that leaves by a port, where its own path does not: what its far end sends arrives there (R140, R187, R232). -/
def State.legOn? (s : State) (n t k p : Nat) : Option Nat :=
  if s.samePly (k, p) (s.egress n t 0) || (s.ctx n t).split.any (fun x => x.2 == (k, p)) then none
  else (s.ctxList? n t).bind fun l =>
    ((List.range 15).find? fun i =>
      let w := s.reg (Reg.MC_LEG n l i)
      bitAt w 31 && !bitAt w 0 && s.samePly (fld w 1 3, fld w 4 2) (k, p)).map (· + 1)

/-- Whether a link leg of some list sends a label on a port or its ply. -/
def State.legOut (s : State) (k p label : Nat) : Bool :=
  s.mcLegs.any fun l =>
    let w := s.reg (Reg.MC_LEG l.1 l.2.1 l.2.2)
    !bitAt w 0 && s.samePly (fld w 1 3, fld w 4 2) (k, p) && fld w 16 12 == label

/-- The sources of outgoing labels on a port or its ply: the contexts that know their label, and on every member its control context and the shared
ones. -/
def State.ctxOut (s : State) (k p label : Nat) : Bool :=
  ((s.portCtxs k p).any fun c => !(s.ctx c.1 c.2).unknown && s.outLabel c.1 c.2 == label)
    || (s.plyPorts k p).any fun e => s.tunState e.1 (s.ctrlCtx e.1 e.2) == 2
        && (s.outLabel e.1 (s.ctrlCtx e.1 e.2) == label || s.cellLabel e.1 4 e.2 == label || s.cellLabel e.1 5 e.2 == label)

/-- Whether some source on the port sends a label. -/
def State.labelHasSource (s : State) (k p label : Nat) : Bool :=
  s.ctxOut k p label || (s.routeOut? k p label).isSome || s.legOut k p label

/-- The lowest Closed context from T8 whose label no raw route of the port uses as ingress (R129, R139). -/
def State.freeCtx? (s : State) (n k p : Nat) : Option Nat :=
  (List.range 512).find? fun t => decide (8 ≤ t) && s.tunState n t == 0 && (s.routeIn? k p (512 * n + t)).isNone

/-! ### Link messages (R143) -/

/-- A link message on the control tunnel of a port. -/
def State.sendMsg (s : State) (k p opcode : Nat) (data : List Word) : State := s.linkMsg k (s.rowPort k p) opcode data

def State.sendAnswer (s : State) (k p opcode tag : Nat) (data : List Word) : State := s.linkAnswer k (s.rowPort k p) opcode tag data

/-- The port a context's link messages leave by. -/
def State.ctxPort (s : State) (k t : Nat) : Nat × Nat := s.egress k t 0

/-- A link message about a context: in-band for a prearranged tunnel, as a CLASS 0 cell on its OUT_LABEL (R140), else on the control
tunnel of its egress port. -/
def State.ctxMsg (s : State) (k t opcode tag flags : Nat) (data : List Word) : State :=
  let e := s.ctxPort k t
  let far := s.outLabel k t / 512
  let pk : Packet := { opcode := opcode, tag := tag, flags := flags, target := far, status := 0, detail := 0, data := data }
  if s.rb (Reg.TUN_CTRL k t) 12 then s.queueBytes k t 0 0 false (packetBytes pk)
  else s.ctrlSend e.1 (s.rowPort e.1 e.2) { pk with target := s.outLabel e.1 (s.rowPort e.1 e.2) / 512 }

/-- An answer to the in-band exchange of a leg's far end, on the leg's label (R187). -/
def State.legMsg (s : State) (n t leg opcode tag : Nat) (data : List Word) : State :=
  let far := s.rf (Reg.MC_LEG n ((s.ctxList? n t).getD 0) (leg - 1)) 16 12 / 512
  s.queueCells n t 0 0 leg false
    (packetBytes { opcode := opcode, tag := tag, flags := 1, target := far, status := 0, detail := 0, data := data })

/-- A link message about a context with a tag of this end's choosing, which the context keeps to match the answer (R143). -/
def State.ctxRequest (s : State) (k t opcode : Nat) (data : List Word) : State :=
  let e := s.ctxPort k t
  let x := s.port e.1 e.2
  let c := s.ctx k t
  ((s.setPort e.1 e.2 { x with msgTag := (x.msgTag + 1) % 256 }).setCtx k t { c with reqTag := x.msgTag }).ctxMsg k t opcode x.msgTag 0
    data

/-! ### Opening a context (R138, R139, R195) -/

/-- The class of each tunnel type (Table 4.1). -/
def typeClass (ty : Nat) : Nat := [0, 2, 2, 1, 3, 4, 5].getD ty 5

/-- Whether an adapter carries a type, as Table 4.1 pairs them. -/
def adapterCarries (ty a : Nat) : Bool :=
  match ty with
  | 3 => decide (3 ≤ a ∧ a ≤ 6)
  | 4 => a == 7
  | 5 => a == 8
  | 6 => a == 9 || a == 10
  | _ => false

/-- Whether two adapters pair for a type: a display tunnel joins a DIN and a DOUT (Table 4.1). -/
def adaptersPair (ty a b : Nat) : Bool :=
  adapterCarries ty a && adapterCarries ty b && (ty != 3 || (decide (a < 5) != decide (b < 5)))

/-- The service node of a class (SVC_CLASS_MAP). -/
def State.classNode (s : State) (k c : Nat) : Nat := s.rf (Reg.SVC_CLASS_MAP k) (4 * c) 4

/-- A context made ready in Opening: every word of Tables 4.4 to 4.7 that an open sets. `sub` is the subscriber node. -/
def State.setupCtx (s : State) (k t ty adapter ek ep farA farK out : Nat) (fixed : Bool) (sub : Option Nat) (svc : Nat) : State :=
  let h := s.plyHead ek ep
  let s := s.setReg (Reg.TUN_CTRL k t)
    (packWord [(0, 3, s.tunState k t), (4, 4, ty), (8, 3, typeClass ty), (12, 1, fixed.toNat)])
  let s := s.setReg (Reg.TUN_LABELS k t) (packWord [(0, 12, 512 * k + t), (16, 12, out), (31, 1, fixed.toNat)])
  let s := s.setReg (Reg.TUN_PATH k t)
    (packWord [(0, 4, adapter), (4, 3, h.1), (8, 2, h.2), (16, 4, farA), (20, 3, farK)])
  let s := s.setReg (Reg.TUN_SCHED k t) (packWord [(0, 7, sub.getD 0), (7, 1, sub.isNone.toNat), (8, 4, svc)])
  (s.setReg (Reg.TUN_FAR_ID k t) (s.reg (Reg.LNK_PARTNER_ID_LO ek ep))).setMember k t

end Sys2Proof.Machine
end

