-- ==== Sys2Proof/Machine/Remote.lean ====
section
/-! DEFINITION. Remote requests of this part: those of its own jobs, how an outstanding one ends (R50 to R52), and the answering of the
requester. -/

namespace Sys2Proof.Machine

/-- A remote request of one of the part's own jobs: it waits for a free place, and never gets BUSY (R51). -/
def State.sendJobRemote (s : State) (k p : Nat) (q : RemoteReq) (data : List Word) : State :=
  let x := s.port k p
  if x.remote.length < 8 then s.sendRemote k p q data
  else s.setPort k p { x with jobWait := x.jobWait ++ [(q, data)] }

/-- The header of a job's remote request: REMOTE with the route of the port, and the far unit and SUB. -/
def jobRemote (k p opcode target : Nat) (job wait : Option Nat) : RemoteReq :=
  { linkTag := 0, via := .needle k, slot := 0, opcode := opcode, tag := 0, flags := 2 + 8 * p + 32 * k, target := target,
    job := job, wait := wait }

/-- An outstanding request taken off the port's list; a waiting one takes its place. -/
def State.freeRemote (s : State) (k p lt : Nat) : State :=
  let x := s.port k p
  let s := s.setPort k p { x with remote := x.remote.filter fun q => q.linkTag ≠ lt }
  match x.jobWait with
  | [] => s
  | w :: rest => (s.setPort k p { s.port k p with jobWait := rest }).sendRemote k p w.1 w.2

/-- The requester of a remote request is answered (R50): the far reply with the requester's own tag. -/
def State.answerRemote (s : State) (q : RemoteReq) (status detail : Nat) (data : List Word) : State :=
  s.deliver q.via q.slot
    { opcode := q.opcode, tag := q.tag, flags := q.flags / 2 * 2 + 1, target := q.target, status := status, detail := detail,
      data := data }

/-- Answers PARTNER_TIMEOUT to a request of a transport, and keeps its link tag as one whose reply would be late (R51, R52). -/
def State.timeoutRemote (s : State) (k p detail : Nat) (q : RemoteReq) : State :=
  let s := s.freeRemote k p q.linkTag
  let x := s.port k p
  let s := s.setPort k p { x with late := (q.linkTag, q.opcode, q.tag) :: x.late.filter fun l => l.1 ≠ q.linkTag }
  if q.job.isNone ∧ q.wait.isNone then s.answerRemote q (statusCode .partnerTimeout) detail [] else s

end Sys2Proof.Machine
end

