-- ==== Sys2Proof/Machine/Lanes.lean ====
section
/-! DEFINITION. The lanes of a port as it sends and receives on them (R85 to R98, R109 to R112): control blocks and bursts that go out, the
receive position, header counts and lock. -/

namespace Sys2Proof.Machine

/-! ### Lanes of a port -/

def plyTightReg (k p : Nat) : Nat := if p < 2 then Reg.PLY_TIGHT01 k else Reg.PLY_TIGHT23 k

/-- The pair of a port is forming a tight ply (R117 steps 2 to 4). -/
def State.plyForming (s : State) (k p : Nat) : Bool := s.rf (plyTightReg k p) 0 2 == 1

/-- Lanes of a port, or of a tight ply that is formed or forming. -/
def State.laneCount (s : State) (k p : Nat) : Nat := if s.isTight k p || s.plyForming k p then 4 else 2

/-- The port whose record holds what is on the lanes: the first member where four lanes go together. -/
def State.linePort (s : State) (k p : Nat) : Nat := if s.laneCount k p = 4 then p / 2 * 2 else p

/-- The LANES code of control blocks (Table 3.3). -/
def State.lanesCode (s : State) (k p : Nat) : Nat := if s.laneCount k p = 4 then 1 else 0

/-! ### Sending -/

/-- The next lane block at which all lanes stand, counted from row 0: a row holds 1,536 (R86). -/
def Port.laneBlock (x : Port) (lanes : Nat) : Nat := 1536 * x.row + ceilDiv (3 * x.pos) lanes

/-- Control blocks sent from the present stitch on; the stitch that their end cuts goes with them. -/
def State.sendControls (s : State) (k p : Nat) (cs : List Control) : State :=
  let q := s.linePort k p
  let lanes := s.laneCount k p
  let x := s.port k q
  let r := onLanes lanes (3 * x.pos) (fun _ st c => controlBlock st c) x.scr cs
  let n := ceilDiv cs.length 3
  s.setPort k q { x with sent := r.1, scr := skipBlocks lanes (3 * x.pos + cs.length) (3 * n - cs.length) r.2,
                         pos := x.pos + n, stitch := x.stitch + n, line := none }

/-- The same control block n times on each lane. -/
def State.sendOnLanes (s : State) (k p n : Nat) (c : Control) : State := s.sendControls k p (List.replicate (n * s.laneCount k p) c)

/-- A training burst of n blocks on each lane from the next lane block on (Table 3.3): TRAIN is not scrambled, and the scrambler runs on. -/
def State.sendTrain (s : State) (k p : Nat) (rxlock : Bool) (n : Nat) : State :=
  let q := s.linePort k p
  let lanes := s.laneCount k p
  let x := s.port k q
  let b := x.laneBlock lanes
  let block (j : Nat) : Nat × Block :=
    (j % lanes, controlBlock 0 (.train
      { lane := j % lanes, lanes := s.lanesCode k p, rxlock := rxlock, rate := max 1 (s.rf (Reg.LNK_STATE k p) 8 2), lbn := (b + j / lanes) % 1536,
        row := (b + j / lanes) / 1536, epoch := s.rf (Reg.ROW_EPOCH k q) 0 16, scr := (scrAt (j % lanes) ((b + n) % 1536)).toNat }))
  s.setPort k q { x with sent := (List.range (n * lanes)).map block, line := none }

/-- The row marker of a port (R87): ROW_MARK on every lane, and ROW_INFO in the marker's other blocks. TUNNEL_VALID is 0 until row sync. -/
def State.markerBlocks (s : State) (k p : Nat) : List Control :=
  let q := s.linePort k p
  let lanes := s.laneCount k p
  let valid := s.portState k p != 2 || s.rf (Reg.LNK_CAST_STEP k p) 0 4 == 8
  let i := s.rowInfo k q
  (List.range lanes).map (fun l => Control.rowMark l (s.lanesCode k p) (s.port k q).row (s.rf (Reg.ROW_EPOCH k q) 0 16) valid)
    ++ List.replicate (3 * s.rowFirst k p - lanes) (.rowInfo i.1 i.2.1 i.2.2.1 i.2.2.2.1 i.2.2.2.2.1 i.2.2.2.2.2)

/-- The row marker goes out (R87, R91): the scramblers are loaded, and the row stands at its first tunnel stitch. -/
def State.sendMarker (s : State) (k p : Nat) : State :=
  let q := s.linePort k p
  let lanes := s.laneCount k p
  let x := s.port k q
  let r := onLanes lanes 0 (fun _ st c => controlBlock st c) ((List.range lanes).map scrSeed) (s.markerBlocks k p)
  s.setPort k q { x with sent := r.1, scr := r.2, pos := s.rowFirst k p }

/-! ### Receiving -/

/-- Valid headers in a window of 32. -/
def validIn (h : Nat) : Nat := (List.range 32).countP fun i => h.testBit i

/-- A locked lane with 8 invalid headers in 32 loses lock and hunts (R96); the port of an Open lane then relocks or is lost (R99). -/
def State.loseLock (s : State) (k p l : Nat) : State :=
  let s := (s.setRb (Reg.LANE_ALIGN k p l) 8 false).bump (Reg.LANE_LOCK_LOSS k p l) 1
  if [3, 4].contains (s.portState k p) then
    let s := if s.isTight k p ∧ (s.port k p).hunting = 0 then s.log k Ev.plyDegraded p [1, 4 * k + p, 1] else s
    s.setPort k p { s.port k p with hunting := (s.port k p).hunting ||| 2 ^ l }
  else s

/-- Headers of a received lane (R85, R96): counted, and the window of the last 32 moves on. A port in Test holds its offset (R100). -/
def State.rxHeaders (s : State) (k p l : Nat) (hs : List (BitVec 3)) : State :=
  let x := s.port k p
  let h := hs.foldl (fun h b => (2 * h + (validHeader b).toNat) % 2 ^ 32) (x.heads.getD l 0)
  let s := s.setPort k p { x with heads := x.heads.set l h }
  let s := (s.setRf (Reg.LANE_ALIGN k p l) 16 6 (validIn h)).bump (Reg.LANE_HDR_ERR k p l) (hs.countP fun b => !validHeader b)
  if s.rb (Reg.LANE_ALIGN k p l) 8 && decide (s.portState k p ≠ 6) && decide (validIn h ≤ 24) then s.loseLock k p l else s

/-- The received lane that carries a lane index (R97): its port and its number. -/
def State.rxLane (s : State) (k p i : Nat) : Nat × Nat :=
  let q := s.linePort k p
  match (List.range (s.laneCount k p)).find? fun j => (s.port k (q + j / 2)).laneIx.getD (j % 2) (j % 2) == i with
  | some j => (q + j / 2, j % 2)
  | none => (q + i / 2, i % 2)

/-- Blocks arrive from the receive position on, in port block order (R86, R90, R93): headers, stuffed blocks and discarded control blocks are counted,
and the receive scramblers run on. -/
def State.receive (s : State) (k p : Nat) (bs : List Block) : List RxBlock × State :=
  let q := s.linePort k p
  let x := s.port k q
  let r := onLanes (s.laneCount k p) x.rxBlk (fun i st b => (i, b, readBlock st b)) x.rxScr bs
  let s := s.setPort k q { x with rxBlk := x.rxBlk + bs.length, rxScr := r.2 }
  let s := r.1.foldl (fun s y =>
    let l := s.rxLane k p y.1
    let s := s.rxHeaders k l.1 l.2 [y.2.2.1.header]
    if y.2.2.1.header = headerStuffed then s.bump (Reg.LANE_STUFFED k l.1 l.2) 1 else s) s
  (r.1.map (·.2.2.2), s.bump (Reg.LNK_CTRL_BAD k q) (r.1.countP fun y => y.2.2.2 == .discarded))

/-- What every received lane shows is a training burst of this port or ply: each lane's offset, polarity and TRAIN block, the lane indexes being
those of the lanes. -/
def State.trainLocks (s : State) (k p : Nat) (streams : List Nat) : Option (List (Nat × Bool × TrainInfo)) :=
  match streams.mapM trainLock with
  | none => none
  | some ls =>
    let lanes := s.laneCount k p
    if ls.length = lanes ∧ ((List.range lanes).all fun i => ls.any fun a => a.2.2.lane == i) ∧ (ls.all fun a => a.2.2.lanes == s.lanesCode k p)
    then some ls else none

/-- The skew between lanes in lane blocks: how far apart the LBN are that they show at one time (R98). -/
def skewOf (ls : List (Nat × Bool × TrainInfo)) : Nat :=
  (ls.flatMap fun a => ls.map fun b => min ((a.2.2.lbn + 1536 - b.2.2.lbn) % 1536) ((b.2.2.lbn + 1536 - a.2.2.lbn) % 1536)).foldl max 0

/-- The lanes lock on a training burst (R96, R97, R110): offsets, polarity and order are kept, and the receive position and the scramblers follow from
LBN, ROW and SCRAMBLER_NEXT of the last block. -/
def State.lockTrain (s : State) (k p : Nat) (ls : List (Nat × Bool × TrainInfo)) : State :=
  let q := s.linePort k p
  let lanes := s.laneCount k p
  let s := (List.range ls.length).foldl (fun s j =>
    match ls[j]? with
    | none => s
    | some a =>
      let m := q + j / 2
      let l := j % 2
      let s := s.setReg (Reg.LANE_ALIGN k m l)
        (packWord [(0, 8, a.1), (8, 1, 1), (9, 1, a.2.1.toNat), (10, 1, (a.2.2.lane % 2 != l).toNat), (16, 6, 32)])
      let x := s.port k m
      s.setPort k m { x with laneIx := x.laneIx.set l a.2.2.lane, heads := x.heads.set l (2 ^ 32 - 1), hunting := 0, rxShell := false }) s
  let t (i : Nat) : TrainInfo := ((ls.find? fun a => a.2.2.lane == i).map (·.2.2)).getD
    { lane := i, lanes := 0, rxlock := false, rate := 0, lbn := 0, row := 0, epoch := 0, scr := 0 }
  let last := (ls.map fun a => 1536 * a.2.2.row + a.2.2.lbn).foldl max 0 + 1
  let b := 3 * ceilDiv (lanes * (last % 1536)) 3
  let scr := (List.range lanes).map fun i => scrSkip (BitVec.ofNat 31 (t i).scr) (laneBlocks lanes i b - last % 1536)
  s.setPort k q { s.port k q with rxRow := last / 1536, rxBlk := b, rxScr := scr }

/-- Hunting lanes of a port that see no training burst lock on 32 valid headers (R96). -/
def State.relock (s : State) (k p : Nat) (streams : List Nat) : State :=
  (List.range 2).foldl (fun s l =>
    if !(s.port k p).hunting.testBit l then s
    else
      let inv := s.rb (Reg.LANE_ALIGN k p l) 9
      let y := s.port k (s.linePort k p)
      let x := streams.getD l 0
      match headerLock (y.rxScr.getD ((s.port k p).laneIx.getD l l) 0) (if inv then flipBits x else x) with
      | none => s
      | some o =>
        let s := ((s.setRf (Reg.LANE_ALIGN k p l) 0 8 o).setRb (Reg.LANE_ALIGN k p l) 8 true).setRf (Reg.LANE_ALIGN k p l) 16 6 32
        let z := s.port k p
        s.setPort k p { z with heads := z.heads.set l (2 ^ 32 - 1), hunting := z.hunting - 2 ^ l }) s

end Sys2Proof.Machine
end

