-- ==== Sys2Proof/Machine/Shapers.lean ====
section
/-! DEFINITION. Token shapers (R198 to R201): their ports, how tokens accrue, and what a packet is charged. -/

namespace Sys2Proof.Machine

/-- Token units in one byte. -/
def tokenUnit : Nat := 256000000

/-- The stitch period of a port in units of 117/32 ns: 1 for a tight ply at 40 Gb/s, doubled for two lanes and for each lower rate. -/
def State.stitchUnits (s : State) (k p : Nat) : Nat :=
  (if s.isTight k p then 1 else 2) * 2 ^ (3 - min 3 (max 1 (s.rf (Reg.LNK_STATE k p) 8 2)))

def State.tokens (s : State) (k n : Nat) : Int := smapGet (fun _ => 0) (s.kern k).tokens n

def State.setTokens (s : State) (k n : Nat) (v : Int) : State :=
  let x := s.kern k
  s.setKern k { x with tokens := smapPut (fun _ => 0) x.tokens n v }

/-- BURST: a value below 64 acts as 64. -/
def State.burst (s : State) (k n : Nat) : Nat := max 64 (s.rf (Reg.SHP_BURST k n) 0 24)

def State.shpRate (s : State) (k n : Nat) : Nat := s.rf (Reg.SHP_RATE k n) 0 28

/-- A node is permitted while its shaper is off or its tokens are 0 or more (R198, R200). -/
def State.permitted (s : State) (k n : Nat) : Bool := s.shpRate k n == 0 || decide (0 ≤ s.tokens k n)

/-- The port a shaper node of kernel k belongs to (Table 5.8). T4 and T5 serve several ports; theirs is the lowest Open one (log entry
22). -/
def State.nodePort (s : State) (k n : Nat) : Nat × Nat :=
  if n < 4 then (k, n)
  else if n < 6 then (k, ((List.range 4).find? fun p => s.portOpen k p).getD 0)
  else if n < 512 then s.egress k n 0
  else if n < 576 then (k, (n - 512) / 16)
  else if n < 704 then (k, s.rf (Reg.SUB_NODE k (n - 576)) 0 2)
  else if n < 768 then (k, (n - 704) / 16)
  else (k, n - 768)

/-- The nodes of the part whose shaper is on. -/
def State.shapedNodes (s : State) : List (Nat × Nat) :=
  s.regs.filterMap fun e =>
    if addrBlock e.1 = 0x13 ∧ addrOff e.1 % 16 = 0 ∧ fld e.2 0 28 ≠ 0 then some (addrUnit e.1, addrOff e.1 / 16) else none

/-- Tokens accrue at the n stitch boundaries of their port that pass, up to BURST (R198). RATE in kb/s is 125 bytes/s, and a unit of stitch time is
117/32 ns. -/
def State.accrue (s : State) (k p n : Nat) : State :=
  s.shapedNodes.foldl (fun s x =>
    if s.nodePort x.1 x.2 = (k, p) then
      let cap := s.burst x.1 x.2 * tokenUnit
      let v := s.tokens x.1 x.2
      s.setTokens x.1 x.2 (if (cap : Int) ≤ v then v else min (cap : Int) (v + (n * s.shpRate x.1 x.2 * 117 * s.stitchUnits k p : Nat)))
    else s) s

/-- The charge L of a packet (R199): the COUNTs of its cells and the queue's OVERHEAD, at least 1. -/
def packetCharge (cells : List Cell) (overhead : Int) : Nat :=
  let n := (cells.takeWhile fun c => !c.last).length + 1
  (max 1 (((cells.take n).map (·.payload.length)).sum + overhead)).toNat

def State.charge (s : State) (k n l : Nat) : State :=
  if s.shpRate k n = 0 then s else s.setTokens k n (s.tokens k n - (l * tokenUnit : Nat))

def State.overhead (s : State) (k q : Nat) : Int := sfld (s.reg (Reg.SHP_OVERHEAD k q)) 0 8

end Sys2Proof.Machine
end

