-- ==== Sys2Proof/Machine/Wake.lean ====
section
/-! DEFINITION. Rows, Shell and Husk as the transmitter runs them (R87, R91, R109 to R113, R147), and the arming of row swaps. -/

namespace Sys2Proof.Machine

/-- LNK_CAST_STEP: the last step reached (Table 3.14). -/
def State.castStep (s : State) (k p : Nat) : Nat := s.rf (Reg.LNK_CAST_STEP k p) 0 4

/-- The power state of a port, or of every member of its tight ply (R109, R111). -/
def State.setPwr (s : State) (k p v : Nat) : State :=
  if s.isTight k p then (s.setRf (Reg.LNK_STATE k (p / 2 * 2)) 4 2 v).setRf (Reg.LNK_STATE k (p / 2 * 2 + 1)) 4 2 v
  else s.setRf (Reg.LNK_STATE k p) 4 2 v

/-- A port sends rows of stitches while it is Open or Binding, but in Husk, while a tight ply forms (R117 step 2) and while a survivor of one trains anew (R120), and from step 4 of cast-on on;
a tight ply's are those of its first member. -/
def State.sendsRows (s : State) (k p : Nat) : Bool :=
  s.rowPort k p == p && !s.plyForming k p && !(s.port k p).retrain
    && (([3, 4].contains (s.portState k p) && s.rf (Reg.LNK_STATE k p) 4 2 != 2) || (s.portState k p == 2 && decide (4 ≤ s.castStep k p)))

/-- What a new row brings whether its marker is sent or not: the row and stitch counts move past the marker, tokens accrue over the stitches that
had none of their own, an armed swap that lies at least 16 stitches back takes effect, and the counts of a row period start again. -/
def State.rowBegins (s : State) (k p : Nat) : State :=
  let x := s.port k p
  let first := s.rowFirst k p
  let rest := if x.pos = 0 then 0 else s.rowLen k p - x.pos
  let s := s.accrue k p (rest + first)
  let s := s.setPort k p { x with row := x.row + 1, pos := first, stitch := x.stitch + rest + first, violRow := 0, noticed := [] }
  if s.swapArmed k p && decide (x.armedAt + 16 ≤ x.stitch + rest) then s.doSwap k p else s

/-- A row begins (R87, R91): an active transmitter sends its marker, one in Shell only counts on. TX_TIME is kept for the echo (R335). -/
def State.rowStart (s : State) (k p : Nat) : State :=
  let s := s.rowBegins k p
  let x := s.port k p
  if s.rf (Reg.LNK_STATE k p) 4 2 = 1 then
    s.setPort k p { x with sent := [], line := none, scr := scrOf (s.laneCount k p) (3 * s.rowFirst k p) }
  else
    (s.setPort k p { x with txTimes := smapInsert x.txTimes (x.row % 256) (s.tai * 256 + s.taiFrac / 256) }).sendMarker k p

/-- Shell entered (R109): four SHELL_ENTER blocks on each lane, then electrical idle for at least 32 lane blocks. -/
def State.enterShell (s : State) (k p : Nat) : State :=
  let s := s.sendOnLanes k p 4 .shellEnter
  let s := (s.setPwr k p 1).bump (Reg.LNK_SHELL_ENTRIES k (s.linePort k p)) 1
  let x := s.port k (s.linePort k p)
  s.setPort k (s.linePort k p) { x with shellUntil := x.laneBlock (s.laneCount k p) + 32, exitDue := false }

/-- Shell left (R110): 64 TRAIN blocks on each lane from a lane block boundary on replace the stitches in their place, a row marker among them too. -/
def State.leaveShell (s : State) (k p : Nat) : State :=
  let q := s.linePort k p
  let lanes := s.laneCount k p
  let s := s.sendTrain k p false 64
  let sent := (s.port k q).sent
  let e := (s.port k q).laneBlock lanes + 64
  let s := if (s.port k q).row < e / 1536 then s.rowBegins k q else s
  let x := s.port k q
  let pos := ceilDiv (lanes * (e % 1536)) 3
  (s.setPort k q { x with sent := sent, pos := pos, scr := scrOf lanes (3 * pos), stitch := x.stitch + (pos - x.pos), idleRun := 0,
                          exitDue := false }).setPwr k p 0

/-- A transmitter in Shell is to leave it: at once, or after the 32-block minimum (R110, R113). -/
def State.wakeShell (s : State) (k p : Nat) : State :=
  let x := s.port k (s.linePort k p)
  if x.shellUntil ≤ x.laneBlock (s.laneCount k p) then s.leaveShell k p
  else s.setPort k (s.linePort k p) { x with exitDue := true }

/-- An end leaves Husk (R112, R336): TRAIN is sent, rows resume, and T4 sends TIME_INFO at once. Where the far end woke this one, the row number is that
of its TRAIN blocks. -/
def State.leaveHusk (s : State) (k p : Nat) (far : Bool) : State :=
  let q := s.linePort k p
  let s := s.setPort k q { s.port k q with rowFromTrain := far }
  ((s.setPwr k p 0).sendTrain k p false 1).sendTimeInfo k (s.rowPort k p)

/-- A port wakes from Shell or Husk (R113). -/
def State.wakePort (s : State) (k p : Nat) : State :=
  match s.rf (Reg.LNK_STATE k p) 4 2 with
  | 1 => s.wakeShell k p
  | 2 => s.leaveHusk k p false
  | _ => s

/-- A port in Husk wakes before a tunnel opens on it or a swap is armed (R113, R147). -/
def State.wakeHusk (s : State) (k p : Nat) : State := if s.rf (Reg.LNK_STATE k p) 4 2 = 2 then s.leaveHusk k p false else s

/-- A swap armed (R147): a port in Husk wakes first; the stitch count of the arming is kept. -/
def State.armSwap (s : State) (k p : Nat) : State :=
  let s := s.wakeHusk k p
  let r := s.rowPort k p
  (s.setPort k r { s.port k r with armedAt := (s.port k r).stitch }).setRb (Reg.ROW_SWAP_STAT k r) 0 true

end Sys2Proof.Machine
end

