-- ==== Sys2Proof/Machine/Regauge.lean ====
section
/-! DEFINITION. The re-gauge job (R153 to R158): its steps in order, the running of a step on a port of this part or of its partner, and
how it stops. -/

namespace Sys2Proof.Machine

/-- The port code of R155: 4 × kernel + port, plus 0x20 for a partner port. -/
def gaugePortCode (far : Bool) (k p : Nat) : Nat := 4 * k + p + (if far then 32 else 0)

/-- The ports of a list of items, this part's first, then the partner's, each by kernel and port (R155). -/
def gaugePorts (items : List GaugeItem) : List Nat :=
  (List.range 64).filter fun c => items.any fun i => gaugePortCode i.far i.k i.p == c

/-- The steps of R155: decreases upstream first, then increases downstream first. -/
def gaugePlan (items : List GaugeItem) : List (List GaugeItem) :=
  let at' (h : Nat) (up : Bool) : List (List GaugeItem) :=
    (gaugePorts items).filterMap fun c =>
      let l := items.filter fun i =>
        i.hop == h && gaugePortCode i.far i.k i.p == c && (if up then decide (i.old < i.new) else decide (i.new < i.old))
      if l.isEmpty then none else some l
  at' 0 false ++ at' 1 false ++ at' 1 true ++ at' 0 true

/-- final(p) of R155: the reserved total of a port after every item that changes there. -/
def gaugeFinal (items : List GaugeItem) (far : Bool) (k p reserved : Nat) : Int :=
  (reserved : Int) + ((items.filter fun i => i.far == far && i.k == k && i.p == p).map fun i => (i.new : Int) - (i.old : Int)).foldl (· + ·) 0

/-- The first port whose final total would exceed its ceiling, as its port code (R155). Of a partner's port the job knows the active table; its
ceiling is taken as the highest that R150 allows, since no row command reads it (DESIGN CHOICE, log entry 122). -/
def State.gaugeOver? (s : State) (items : List GaugeItem) (tables : List (Nat × List Nat)) : Option Nat :=
  (gaugePorts items).find? fun c =>
    let k := c / 4 % 8
    let p := c % 4
    if c < 32 then decide ((s.ceiling k p : Int) < gaugeFinal items false k p (s.reservedAll k p))
    else
      let t := smapGet (fun _ => []) tables (4 * k + p)
      decide (((if t.length = 2048 then 1840 else 920 : Nat) : Int) < gaugeFinal items true k p (tableTotal t))

/-- The placement of a step's items in a table. -/
def placeItems (f : Nat) (t : List Nat) (items : List GaugeItem) : Option (List Nat) :=
  items.foldl (fun acc i => match acc with | none => none | some t => placeTable f t i.label i.new) (some t)

/-- The report words of R157. -/
def gaugeWords (g : Gauge) : List Word :=
  g.ports.map fun x => packWord [(0, 5, 4 * x.k + x.p), (5, 1, x.far.toNat), (6, 1, x.unreached.toNat), (8, 8, x.step), (16, 16, x.epoch)]

/-- The tunnels a re-gauge names. -/
def gaugeCtxs (g : Gauge) : List (Nat × Nat) :=
  ((g.items.filter fun i => i.kind == 0).map fun i => (i.kernel, i.index)).dedup

/-- The ports of this part that a re-gauge holds. -/
def gaugeNear (g : Gauge) : List (Nat × Nat) := (g.ports.filter fun x => !x.far).map fun x => (x.k, x.p)

/-- A re-gauge ends: its tunnels and ports are released and its report kept (R157). -/
def State.endGauge (s : State) (n : Nat) (st : JobState) (status detail : Nat) : State :=
  match (s.job? n).bind (·.gauge) with
  | none => s
  | some g =>
    let s := (gaugeCtxs g).foldl (fun s c => s.holdCtx c.1 c.2 none) s
    let s := (gaugeNear g).foldl (fun s x => s.holdRows x.1 x.2 none) s
    let s := s.mapJob n fun j => { j with words := if st = .done then [] else gaugeWords g }
    s.endJob n st status detail

/-- The item at the head of the present step of a job. -/
def Job.stepItem (j : Job) (g : Gauge) : Option GaugeItem := (g.plan.getD (j.step - 1) []).head?

/-- A step that has not ended is taken back where its swap is still armed, the shadow being the active table again; a swap that took effect counts
as applied (R157). Every port of this part shows the epoch in force. -/
def State.settleGauge (s : State) (n : Nat) : State :=
  match s.job? n with
  | none => s
  | some j =>
    match j.gauge with
    | none => s
    | some g =>
      let here := (j.stepItem g).filter fun i => !i.far
      let s := match here with
        | some i => if s.swapArmed i.k i.p then
            (s.setRb (Reg.ROW_SWAP_STAT i.k (s.rowPort i.k i.p)) 0 false).writeTable true i.k i.p (s.rowTable false i.k i.p) else s
        | none => s
      let ports := g.ports.map fun x =>
        if x.far then x
        else
          let e := s.rf (Reg.ROW_EPOCH x.k (s.rowPort x.k x.p)) 0 16
          let done := match here with | some i => i.k == x.k && i.p == x.p && e == g.epoch | none => false
          { x with epoch := e, step := if done then j.step else x.step }
      s.mapJob n fun j => { j with gauge := some { g with ports := ports } }

/-- A re-gauge stops in Partial (R155, R157). -/
def State.stopGauge (s : State) (n : Nat) : State := (s.settleGauge n).endGauge n .partly (statusCode .wrongState) 0x30

/-- The partner's ports of a re-gauge can no longer be reached (R157). -/
def State.farUnreached (s : State) (n : Nat) : State :=
  s.mapJob n fun j => { j with gauge := j.gauge.map fun g =>
    { g with ports := g.ports.map fun x => if x.far then { x with unreached := true } else x } }

/-- Count of the entries that a remote row command carries at once. -/
def farChunk : Nat := 254

/-- The parameters of the ROW_TABLE_READ that reads on in a partner's active table: 1,024 entries, and on a tight ply 1,024 more, which a port that
is none refuses. -/
def tableRead (buf : List Nat) : List Word :=
  [0, word buf.length, word (min 255 ((if buf.length < 1024 then 1024 else 2048) - buf.length))]

/-- The entries of a partner's table after a reply to such a read, and whether the table is whole; none where the read failed. -/
def tableGot (buf : List Nat) (status : Nat) (data : List Word) : Option (List Nat × Bool) :=
  if status ≠ 0 then (if buf.length = 1024 ∧ status = statusCode .badParam then some (buf, true) else none)
  else
    let buf := buf ++ (data.drop 1).map fun w => fld w 0 16
    some (buf, decide (2048 ≤ buf.length))

/-- The next remote command of a partner step, by phase (R154): read the table in parts, write the shadow in parts, swap, read the
epoch. -/
def State.farGauge (s : State) (n : Nat) (g : Gauge) (i : GaugeItem) : State :=
  let send (opcode : Nat) (data : List Word) : State :=
    s.sendJobRemote g.linkK g.linkP (jobRemote g.linkK g.linkP opcode (i.k + 16 * i.p) (some n) none) data
  match g.phase with
  | 1 => send 0x0301 (tableRead g.buf)
  | 2 =>
    let part := (g.buf.drop g.pos).take farChunk
    send 0x0302 ([word g.pos, word part.length] ++ part.map word)
  | 3 => send 0x0303 []
  | _ => send 0x0301 [0, 0, 1]

/-- Step k of the job begins (R155): on a port of this part the active table with the step's changes goes to the shadow, so that nothing else changes
(R153; DEDUCED, log entry 123), and a swap is armed; on a partner port its table is read first. -/
def State.startGaugeStep (s : State) (n k : Nat) : State :=
  match (s.job? n).bind (·.gauge) with
  | none => s
  | some g =>
    match g.plan[k - 1]? with
    | none => s.endGauge n .done 0 0
    | some items =>
      let s := s.jobStep n k
      match items with
      | [] => s.stopGauge n
      | i :: _ =>
        if i.far then
          let g := { g with phase := 1, buf := [], pos := 0 }
          (s.mapJob n fun j => { j with gauge := some g }).farGauge n g i
        else
          match placeItems (s.rowFirst i.k i.p) (s.rowTable false i.k i.p) items with
          | none => s.stopGauge n
          | some t =>
            let s := (s.writeTable true i.k i.p t).armSwap i.k i.p
            let e := (s.rf (Reg.ROW_EPOCH i.k (s.rowPort i.k i.p)) 0 16 + 1) % 65536
            s.mapJob n fun j => { j with gauge := some { g with phase := 0, epoch := e } }

/-- A step has been applied on its port: noted, logged, and the next one begins unless an abort waits (R155, R157). -/
def State.gaugeStepDone (s : State) (n epoch : Nat) : State :=
  match s.job? n with
  | none => s
  | some j =>
    match j.gauge with
    | none => s
    | some g =>
      match j.stepItem g with
      | none => s
      | some i =>
        let ports := g.ports.map fun x =>
          if x.far = i.far ∧ x.k = i.k ∧ x.p = i.p then { x with step := j.step, epoch := epoch } else x
        let s := s.mapJob n fun j => { j with gauge := some { g with ports := ports } }
        let s := s.log j.kernel Ev.regaugeStep i.p [n, j.step, gaugePortCode i.far i.k i.p, epoch]
        if j.step = j.steps then s.endGauge n .done 0 0
        else if j.abort then s.endGauge n .aborted 0 0
        else s.startGaugeStep n (j.step + 1)

/-- The reply to a remote row command of a re-gauge moves it on; a status other than DONE stops it in Partial. -/
def State.farGaugeReply (s : State) (n status : Nat) (data : List Word) : State :=
  match s.job? n with
  | none => s
  | some j =>
    match j.gauge with
    | none => s
    | some g =>
      match g.plan.getD (j.step - 1) [] with
      | [] => s
      | i :: rest =>
        let go (g : Gauge) : State := (s.mapJob n fun j => { j with gauge := some g }).farGauge n g i
        if j.state ≠ .running then s
        else if g.phase = 1 then
          match tableGot g.buf status data with
          | none => s.stopGauge n
          | some (buf, false) => go { g with buf := buf, epoch := fld (data.getD 0 0) 0 16 }
          | some (buf, true) =>
            match placeItems (if buf.length = 2048 then 2 else 1) buf (i :: rest) with
            | none => s.stopGauge n
            | some t => go { g with phase := 2, buf := t, pos := 0 }
        else if status ≠ 0 then s.stopGauge n
        else
          match g.phase with
          | 2 => if g.pos + farChunk < g.buf.length then go { g with pos := g.pos + farChunk } else go { g with phase := 3 }
          | 3 => go { g with phase := 4 }
          | _ =>
            let e := fld (data.getD 0 0) 0 16
            if e = g.epoch then go g else s.gaugeStepDone n e

/-- The re-gauge jobs that a test on their data picks. -/
def State.gaugeJobs (s : State) (p : Gauge → Bool) : List Nat :=
  (s.running.filter fun j => match j.gauge with | some g => p g | none => false).map (·.num)

/-- A port that leaves Open stops every re-gauge that needs it; the partner's ports reached over it are marked UNREACHED (R155, R157). -/
def State.gaugePortLost (s : State) (k p : Nat) : State :=
  (s.gaugeJobs fun g => (gaugeNear g).contains (k, p)
      || (g.linkK == k && g.linkP == p && g.ports.any (·.far))).foldl (fun s n =>
    let s := match (s.job? n).bind (·.gauge) with
      | some g => if g.linkK = k ∧ g.linkP = p then s.farUnreached n else s
      | none => s
    s.stopGauge n) s

/-- A tunnel that leaves Open stops every re-gauge that names it (R155). -/
def State.gaugeTunLost (s : State) (k t : Nat) : State :=
  (s.gaugeJobs fun g => (gaugeCtxs g).contains (k, t)).foldl (fun s n => s.stopGauge n) s

end Sys2Proof.Machine
end

