-- ==== Sys2Proof/Machine/Crypto.lean ====
section
/-! DEFINITION. The cryptographic functions that the rules of keys and images name: SHA-384, HMAC-SHA-384, the key derivation of R425, and
the P-384 curve with the verification of ECDSA signatures. Their definitions are those of FIPS 180, 198 and 186 (PRESUMED, log entry 33). -/

namespace Sys2Proof.Machine

/-! ### SHA-384 -/

/-- The greatest x below 2^n with p x, for a p that holds of 0 and of everything below a number it holds of. -/
def greatest (p : Nat → Bool) : Nat → Nat → Nat
  | 0, x => x
  | n + 1, x => greatest p n (if p (x + 2 ^ n) then x + 2 ^ n else x)

/-- The first primes below 410, of which there are 80. -/
def smallPrimes : List Nat := (List.range 410).filter fun n => decide (2 ≤ n) && (List.range 21).all fun d => decide (d < 2) || n % d != 0 || d == n

/-- Word i of the constants: 64 bits of the fraction of the cube root of prime i. -/
def shaK : List (BitVec 64) := smallPrimes.map fun q => BitVec.ofNat 64 (greatest (fun x => decide (x ^ 3 ≤ q * 2 ^ 192)) 68 0)

/-- The initial hash value: 64 bits of the fraction of the square roots of primes 9 to 16. -/
def shaInit : List (BitVec 64) := ((smallPrimes.drop 8).take 8).map fun q => BitVec.ofNat 64 (greatest (fun x => decide (x ^ 2 ≤ q * 2 ^ 128)) 70 0)

def rotr (x : BitVec 64) (n : Nat) : BitVec 64 := x.rotateRight n

/-- One round on the working variables a to h, with the sum of the constant and the schedule word. -/
def shaRound (v : List (BitVec 64)) (kw : BitVec 64) : List (BitVec 64) :=
  match v with
  | [a, b, c, d, e, f, g, h] =>
    let t1 := h + (rotr e 14 ^^^ rotr e 18 ^^^ rotr e 41) + ((e &&& f) ^^^ (~~~ e &&& g)) + kw
    let t2 := (rotr a 28 ^^^ rotr a 34 ^^^ rotr a 39) + ((a &&& b) ^^^ (a &&& c) ^^^ (b &&& c))
    [t1 + t2, a, b, c, d + t1, e, f, g]
  | v => v

/-- The message schedule extended by n words; `w` holds the last sixteen, newest first. -/
def shaSchedule : Nat → List (BitVec 64) → List (BitVec 64)
  | 0, _ => []
  | n + 1, w =>
    let s0 (x : BitVec 64) : BitVec 64 := rotr x 1 ^^^ rotr x 8 ^^^ (x >>> 7)
    let s1 (x : BitVec 64) : BitVec 64 := rotr x 19 ^^^ rotr x 61 ^^^ (x >>> 6)
    let x := s1 (w.getD 1 0) + w.getD 6 0 + s0 (w.getD 14 0) + w.getD 15 0
    x :: shaSchedule n (x :: w.take 15)

/-- The big-endian number in a byte string. -/
def bigNat (bs : List Byte) : Nat := bs.foldl (fun a b => 256 * a + b.toNat) 0

/-- A number as n bytes, most significant first. -/
def bigBytes (n v : Nat) : List Byte := (List.range n).reverse.map fun i => BitVec.ofNat 8 (v / 256 ^ i)

/-- One block of 128 bytes compressed into the hash value. -/
def shaBlock (v : List (BitVec 64)) (b : List Byte) : List (BitVec 64) :=
  let w := (List.range 16).map fun i => BitVec.ofNat 64 (bigNat ((b.drop (8 * i)).take 8))
  let ws := w ++ shaSchedule 64 w.reverse
  List.zipWith (· + ·) v ((List.zipWith (· + ·) shaK ws).foldl shaRound v)

def shaBlocks : Nat → List (BitVec 64) → List Byte → List (BitVec 64)
  | 0, v, _ => v
  | n + 1, v, bs => shaBlocks n (shaBlock v (bs.take 128)) (bs.drop 128)

/-- SHA-384: 48 bytes. -/
def sha384 (bs : List Byte) : List Byte :=
  let pad := (239 - bs.length % 128) % 128
  let m := bs ++ [0x80] ++ List.replicate pad 0 ++ bigBytes 16 (8 * bs.length)
  ((shaBlocks (m.length / 128) shaInit m).flatMap fun x => bigBytes 8 x.toNat).take 48

/-- HMAC-SHA-384. -/
def hmac384 (key bs : List Byte) : List Byte :=
  let k := if 128 < key.length then sha384 key else key
  let k := k ++ List.replicate (128 - k.length) 0
  sha384 (k.map (· ^^^ 0x5C) ++ sha384 (k.map (· ^^^ 0x36) ++ bs))

/-- The derivation of R425: the leftmost L bits, L a multiple of 8. -/
def kdf (key label context : List Byte) (L : Nat) : List Byte :=
  ((List.range (ceilDiv L 384)).flatMap fun i => hmac384 key (bigBytes 4 (i + 1) ++ label ++ [0] ++ context ++ bigBytes 4 L)).take (L / 8)

/-! ### P-384 -/

def curveP : Nat := 2 ^ 384 - 2 ^ 128 - 2 ^ 96 + 2 ^ 32 - 1
def curveB : Nat := 0xb3312fa7e23ee7e4988e056be3f82d19181d9c6efe8141120314088f5013875ac656398d8a2ed19d2a85c8edd3ec2aef
def curveN : Nat := 0xffffffffffffffffffffffffffffffffffffffffffffffffc7634d81f4372ddf581a0db248b0a77aecec196accc52973
def curveG : Nat × Nat :=
  (0xaa87ca22be8b05378eb1c71ef320ad746e1d3b628ba79b9859f741e082542a385502f25dbf55296c3a545e3872760ab7,
   0x3617de4a96262c6f5d9e98bf9292dc29f8f41dbd289a147ce9da3113b5f0b8c00a60b1ce1d7e819d7a431d7c90ea0e5f)

/-- a^e modulo m, over the lowest n bits of e. -/
def powMod (m a : Nat) : Nat → Nat → Nat
  | 0, _ => 1 % m
  | n + 1, e => let r := powMod m (a * a % m) n (e / 2); if e % 2 = 1 then r * a % m else r

/-- The inverse modulo a prime of 384 bits. -/
def invMod (m a : Nat) : Nat := powMod m (a % m) 384 (m - 2)

/-- The affine point lies on the curve y² = x³ − 3x + b. -/
def onCurve (q : Nat × Nat) : Bool :=
  decide (q.1 < curveP) && decide (q.2 < curveP) && q.2 * q.2 % curveP == (q.1 ^ 3 + (curveP - 3) * q.1 + curveB) % curveP

/-- The sum of two points; none is the point at infinity. -/
def pointAdd (a b : Option (Nat × Nat)) : Option (Nat × Nat) :=
  match a, b with
  | none, b => b
  | a, none => a
  | some (x1, y1), some (x2, y2) =>
    if x1 = x2 ∧ (y1 + y2) % curveP = 0 then none
    else
      let l := if x1 = x2 then (3 * x1 * x1 + curveP - 3) * invMod curveP (2 * y1) else (y2 + curveP - y1) * invMod curveP (x2 + curveP - x1)
      let l := l % curveP
      let x := (l * l + 2 * curveP - x1 - x2) % curveP
      some (x, (l * (x1 + curveP - x) + curveP - y1) % curveP)

/-- k times a point, over the lowest n bits of k. -/
def pointMul (q : Option (Nat × Nat)) : Nat → Nat → Option (Nat × Nat)
  | 0, _ => none
  | n + 1, k => let r := pointMul (pointAdd q q) n (k / 2); if k % 2 = 1 then pointAdd r q else r

/-- The uncompressed point 0x04 || X || Y. -/
def pointBytes (q : Nat × Nat) : List Byte := 0x04 :: bigBytes 48 q.1 ++ bigBytes 48 q.2

def bytesPoint (bs : List Byte) : Nat × Nat := (bigNat ((bs.drop 1).take 48), bigNat ((bs.drop 49).take 48))

/-- A public key: 97 bytes, uncompressed, on the curve. -/
def keyGood (bs : List Byte) : Bool := bs.length == 97 && bs.head? == some 0x04 && onCurve (bytesPoint bs)

/-- The public key of private key d. -/
def publicKey (d : Nat) : List Byte := match pointMul (some curveG) 384 d with | some q => pointBytes q | none => []

/-- ECDSA P-384 over SHA-384: the signature r ‖ s of 96 bytes verifies over a message under a public key. -/
def verifies (key msg sig : List Byte) : Bool :=
  let r := bigNat (sig.take 48)
  let t := bigNat ((sig.drop 48).take 48)
  let w := invMod curveN t
  let u := pointAdd (pointMul (some curveG) 384 (bigNat (sha384 msg) * w % curveN)) (pointMul (some (bytesPoint key)) 384 (r * w % curveN))
  keyGood key && sig.length == 96 && decide (1 ≤ r) && decide (r < curveN) && decide (1 ≤ t) && decide (t < curveN)
    && (match u with | some q => q.1 % curveN == r | none => false)

/-- The key hash of R424: the first 8 bytes of the SHA-384 of the public key, little-endian. -/
def hashOfKey (key : List Byte) : Nat := bigNat ((sha384 key).take 8).reverse

end Sys2Proof.Machine
end

