-- ==== Sys2Proof/Machine/Slots.lean ====
section
/-! DEFINITION. Key slots (R421 to R424): their one table, which is K0's, their attributes, their keys and their key hashes. -/

namespace Sys2Proof.Machine

/-- LC_STATE.STATE: 0 Manufacture, 1 Provision, 2 Field, 3 Decommission (Table 14.5). -/
def State.lifeCycle (s : State) : Nat := s.rf (Reg.LC_STATE 0) 0 2

/-- Key slot attributes, KIND and the bits of a slot; every kernel shows those of K0's table (R421). -/
def State.keyAttr (s : State) (slot : Nat) : Word := s.reg (Reg.KEY_ATTR 0 slot)
def State.keyKind (s : State) (slot : Nat) : Nat := fld (s.keyAttr slot) 28 3

def State.keySlot (s : State) (slot : Nat) : KeySlot := smapGet (fun _ => {}) s.keys slot

def State.setKeySlot (s : State) (slot : Nat) (x : KeySlot) : State :=
  { s with keys := smapPut (fun _ => {}) s.keys slot x }

/-- The private key of a KIND 2 slot from its 448 derived bits (R425). -/
def privateKey (secret : List Byte) : Nat := bigNat secret % (curveN - 1) + 1

/-- The ASCII bytes of the device identity's label (Table 14.1). -/
def identityLabel : List Byte := [0x45, 0x4C, 0x4E, 0x2D, 0x44, 0x45, 0x56, 0x49, 0x43, 0x45, 0x2D, 0x49, 0x44]

/-- The public key that a factory slot was made with (Table 14.1). -/
def factoryKey (slot : Nat) : List Byte :=
  if slot = 0 then publicKey (privateKey (kdf Config.rootSecret identityLabel [] 448)) else Config.factoryPublic slot

/-- The public key of a KIND 2 or KIND 3 slot, 97 bytes; slots 0 to 2 keep the factory's until they are filled anew. -/
def State.slotKey (s : State) (slot : Nat) : List Byte :=
  let kind := s.keyKind slot
  if kind ≠ 2 ∧ kind ≠ 3 then []
  else if (s.keySlot slot).pub = [] ∧ slot < 3 then factoryKey slot else (s.keySlot slot).pub

/-- The key hash of a slot (R424), 0 for other kinds (Table 14.13). -/
def State.keyHash (s : State) (slot : Nat) : Nat :=
  let kind := s.keyKind slot
  if kind = 2 ∨ kind = 3 then hashOfKey (s.slotKey slot) else 0

/-- The MASTERS bit of a master's class (R423). -/
def masterBit (m : Nat) : Nat := if m ≤ 4 then 15 + m else if m < 16 then 20 else 21

/-- An attribute word serves master m in a life-cycle state (R423); `bit` is the usage that the operation needs. -/
def attrServes (w : Word) (kind bit m lc : Nat) : Bool :=
  fld w 28 3 == kind && bitAt w bit && bitAt w (masterBit m) && (bitAt w 22 || decide (8 ≤ m)) && bitAt w (24 + lc)

end Sys2Proof.Machine
end

