-- ==== Sys2Proof/Machine/Checks.lean ====
section
/-! DEFINITION. The check units (R367 to R370), the snooping of tunnel packets (R369), and end-to-end seals (R371, R372). -/

namespace Sys2Proof.Machine

/-- The bits of a byte, most significant first; REFIN turns the order (R367). -/
def byteBits (refin : Bool) (b : Byte) : List Bool :=
  let l := (List.range 8).map fun i => b.getLsbD (7 - i)
  if refin then l.reverse else l

/-- One bit of the CRC of R367 of `w` bits. -/
def chkBit (w poly st : Nat) (d : Bool) : Nat :=
  let fb := (decide (st / 2 ^ (w - 1) % 2 = 1)) != d
  (st * 2 % 2 ^ w) ^^^ (if fb then poly % 2 ^ w else 0)

def chkFeed (w poly : Nat) (refin : Bool) (st : Nat) (bs : List Byte) : Nat :=
  (bs.flatMap (byteBits refin)).foldl (chkBit w poly) st

/-- RESULT of a state (R367). -/
def chkResult (w : Nat) (refout : Bool) (xorout st : Nat) : Nat :=
  (if refout then maskOf w fun i => decide (st / 2 ^ (w - 1 - i) % 2 = 1) else st) ^^^ (xorout % 2 ^ w)

/-- WIDTH: 0 and values above 32 act as 32 (Table 11.9). -/
def State.chkWidth (s : State) (k u : Nat) : Nat :=
  let w := s.rf (Reg.CHK_CFG k u) 0 6
  if w = 0 ∨ 32 < w then 32 else w

/-- The result of a unit's present state, kept in CHK_RESULT. -/
def State.chkLatch (s : State) (k u : Nat) : State :=
  s.setReg (Reg.CHK_RESULT k u)
    (word (chkResult (s.chkWidth k u) (s.rb (Reg.CHK_CFG k u) 9) (s.reg (Reg.CHK_XOROUT k u)).toNat (s.reg (Reg.CHK_STATE k u)).toNat))

def State.chkInit (s : State) (k u : Nat) : State := s.setReg (Reg.CHK_STATE k u) (s.reg (Reg.CHK_INIT k u))

/-- Bytes fed to a unit (R367): STATE, RESULT and the byte count move. -/
def State.chkBytes (s : State) (k u : Nat) (bs : List Byte) : State :=
  let st := chkFeed (s.chkWidth k u) (s.reg (Reg.CHK_POLY k u)).toNat (s.rb (Reg.CHK_CFG k u) 8) (s.reg (Reg.CHK_STATE k u)).toNat bs
  ((s.setReg (Reg.CHK_STATE k u) (word st)).chkLatch k u).bump (Reg.CHK_BYTES k u) bs.length

/-- A packet of context (k, t) at a snoop point: direction 0 from the adapter, 1 to it (R369). A packet that finds the unit busy is
skipped and counted. -/
def State.snoop (s : State) (k t : Nat) (dir : Bool) (busy : Bool) (bs : List Byte) : State :=
  let opts := s.reg (Reg.TUN_OPTS k t)
  let u := fld opts 8 2
  let cfg := s.reg (Reg.CHK_CFG k u)
  if !bitAt opts 10 || fld cfg 12 2 ≠ 1 || bitAt cfg 14 != dir then s
  else if busy then (s.bump (Reg.CHK_SKIPPED k u) 1).setRb (Reg.CHK_CFG k u) 16 true
  else
    let s := if bitAt cfg 15 then s.chkInit k u else s
    (s.chkBytes k u bs).bump (Reg.CHK_PACKETS k u) 1

/-! ### Seals -/

/-- TUN_OPTS.SEAL; T0 to T7 never carry seals (R371). -/
def State.ctxSeals (s : State) (k t : Nat) : Bool := decide (8 ≤ t) && s.rb (Reg.TUN_OPTS k t) 4

/-- The seal of a packet (R371). -/
def sealBytes (bs : List Byte) : List Byte := wordBytes (crc32c bs)

/-- A received packet's seal holds (R372). -/
def sealGood (bs : List Byte) : Bool := crcGood bs

/-- ACTION of a context on a seal failure: two bits of SEAL_ACT (Table 11.7). -/
def State.sealAction (s : State) (k t : Nat) : Nat := s.rf (Reg.SEAL_ACT k (t / 16)) (2 * (t % 16)) 2

/-- A seal failure counted, and logged at most once per second and context with the failures since the last entry (R372). -/
def State.sealFail (s : State) (k t m : Nat) : State :=
  let s := s.bump (Reg.SEAL_FAIL k t) 1
  let c := s.ctxAt k t m
  let quiet := match c.sealLog with | some w => decide (s.now < w + 1000000000) | none => false
  if quiet then s.setCtxAt k t m { c with sealFails := c.sealFails + 1 }
  else
    (s.setCtxAt k t m { c with sealLog := some s.now, sealFails := 0 }).log k Ev.sealFail t [t, c.sealFails + 1, s.sealAction k t]

end Sys2Proof.Machine
end

