-- ==== Sys2Proof/Machine/Store.lean ====
section
/-! DEFINITION. The shared store (R174 to R193): the depth of queues, the dynamic thresholds, congestion marks, credit, hash sets with their
fences, and the handing over of packets to contexts. -/

namespace Sys2Proof.Machine

/-! ### Depths -/

/-- The entries of a context's queues: one for each port of T4 and T5, one for each member of a loose ply, one for each leg. -/
def State.ctxParts (s : State) (k t : Nat) : List Ctx :=
  if t < 4 then [s.ctx k t] else if t < 6 then (List.range 4).map (s.ctxAt k t)
  else (List.range (if (s.ctxList? k t).isSome then 17 else 2)).map (s.ctxAt k t)

/-- The cells of a transit queue (R174), each with its route. -/
def State.transit (s : State) (k q : Nat) : List (Nat × Cell) := smapGet (fun _ => []) (s.kern k).transit q

def State.setTransit (s : State) (k q : Nat) (l : List (Nat × Cell)) : State :=
  let x := s.kern k
  s.setKern k { x with transit := smapPut (fun _ => []) x.transit q l }

/-- The transit queue of port p under service node n. -/
def transitQ (p n : Nat) : Nat := 512 + 16 * p + n

/-- Q_DEPTH: the depth of a transmit or transit queue. -/
def State.qDepth (s : State) (k q : Nat) : Nat :=
  if q < 512 then ((s.ctxParts k q).map (·.txq.length)).sum else (s.transit k q).length

/-- Q_RXDEPTH. -/
def State.rxDepth (s : State) (k t : Nat) : Nat := ((s.ctxParts k t).map (·.rxDepth)).sum

/-! ### Thresholds (R181 to R184) -/

/-- The class whose cells a transit queue holds: the lowest one that the service node serves (DEDUCED, log entry 19). -/
def State.transitClass (s : State) (k q : Nat) : Nat :=
  ((List.range 6).find? fun c => s.classNode k c == (q - 512) % 16).getD 0

def State.qClass (s : State) (k q : Nat) : Nat := if q < 512 then s.tunClass k q else s.transitClass k q

/-- Q_THRESH: what software set, else the default of the queue's class (R181). -/
def State.qThresh (s : State) (k q : Nat) : Word :=
  let cls := s.reg (Reg.CLASS_THRESH k (s.qClass k q))
  match (s.kern k).thresh.find? fun e => e.1 == q with
  | some (_, true) => setFld (s.reg (Reg.Q_THRESH k q)) 0 4 (fld cls 0 4)
  | some (_, false) => s.reg (Reg.Q_THRESH k q)
  | none => cls

def State.qMin (s : State) (k q : Nat) : Nat := fld (s.qThresh k q) 8 8

/-- floor(2^K × F). -/
def scaleK (K : Int) (f : Nat) : Nat := if 0 ≤ K then f * 2 ^ K.toNat else f / 2 ^ (-K).toNat

def State.qLimit (s : State) (k q f : Nat) : Nat := scaleK (sfld (s.qThresh k q) 0 4) f

/-- C: the packet skein holds 80-byte slots (R179). -/
def State.bufTotal (s : State) (k : Nat) : Nat := (s.reg (Reg.SKEIN_SIZE k 2)).toNat / 80

/-- The contexts and routes of a kernel that hold cells. -/
def State.kernelCtxs (s : State) (k : Nat) : List Ctx :=
  ((s.ctxs.filter fun e => e.1 / 32 / 512 == k) ++ (s.routeCtxs.filter fun e => e.1 / 2048 == k)).map (·.2)

/-- BUF_REPLAY: cells kept for R144. -/
def State.bufReplay (s : State) (k : Nat) : Nat := ((s.kernelCtxs k).map (·.unacked.length)).sum

/-- BUF_CELLS_USED: queued cells and replay copies. -/
def State.bufUsed (s : State) (k : Nat) : Nat :=
  ((s.kernelCtxs k).map fun c => c.txq.length + c.unacked.length + c.rxDepth).sum
    + ((s.kern k).transit.map (·.2.length)).sum

/-- The contexts of a kernel outside Closed. -/
def State.openCtxs (s : State) (k : Nat) : List Nat := (s.liveCtxs.filter fun c => c.1 == k).map (·.2)

/-- The unused part of a queue's minimum (R181). -/
def State.unusedMin (s : State) (k q depth : Nat) : Nat := s.qMin k q - depth

/-- BUF_CELLS_RESERVED: granted credit plus unused minimums of the queues in use (log entry 19). -/
def State.bufReserved (s : State) (k : Nat) : Nat :=
  ((s.kernelCtxs k).map (·.granted)).sum
    + ((s.openCtxs k).map fun t => s.unusedMin k t (s.qDepth k t) + s.unusedMin k t (s.rxDepth k t)).sum
    + ((s.kern k).transit.map fun e => s.unusedMin k e.1 e.2.length).sum

/-- F (R181). -/
def State.bufFree (s : State) (k : Nat) : Nat := s.bufTotal k - s.bufUsed k - s.bufReserved k

/-- A cell meets its queue's limit at a depth, with f free (R181). -/
def State.admits (s : State) (k q depth f : Nat) : Bool := decide (depth < s.qLimit k q f) || decide (depth < s.qMin k q)

/-- BUF_USED_MAX kept (Table 5.12). -/
def State.notePeak (s : State) (k : Nat) : State :=
  if (s.reg (Reg.BUF_USED_MAX k)).toNat < s.bufUsed k then s.setReg (Reg.BUF_USED_MAX k) (word (s.bufUsed k)) else s

/-- Cells admitted to a queue from a depth on, with CM set from MARK on and counted (R185). -/
def State.markCells (s : State) (k q depth : Nat) (cs : List Cell) : List Cell × State :=
  let m := s.rf (Reg.Q_MARK k q) 0 20
  let hit (i : Nat) : Bool := m != 0 && decide (m ≤ depth + i)
  let cs' := (List.range cs.length).map fun i => match cs[i]? with
    | some c => { c with cm := c.cm || hit i }
    | none => { label := 0, cls := 0, first := true, last := true, seq := 0, payload := [] }
  let n := ((List.range cs.length).filter hit).length
  (cs', if n = 0 then s else s.bump (Reg.Q_MARKED k q) n)

/-- Lossless classes (R144). -/
def lossless (cls : Nat) : Bool := [0, 3, 4].contains cls

/-- Credit of a lossless queue (R184). -/
def State.creditGrant (s : State) (k q depth : Nat) : Nat :=
  let f := s.bufFree k
  min 128 (max (s.qMin k q - depth) (s.qLimit k q f - depth))

/-! ### Hash sets and fences (R190 to R193) -/

/-- The bucket table of a hash set of kernel k. -/
def hashTable (k set : Nat) : Nat := if set = 0 then Reg.HASH_PLY k 0 else Reg.HASH_SEAM k (set - 1) 0

/-- The port of member m of the loose ply of Kn.P3. -/
def State.plyMember (s : State) (n m : Nat) : Nat × Nat := if m = 1 then (s.loosePeer n 3).getD (n, 3) else (n, 3)

/-- A fence of a hash set for a bucket that moves to member m. On a ply the row of the old member from which CONG_FENCE_HOLD counts is the present
one, until a later cell of the bucket leaves it (DESIGN CHOICE, log entry 126). -/
def State.newFence (s : State) (k set b m : Nat) : Fence :=
  let e := s.plyMember k (1 - m)
  { set := set, bucket := b, member := m, left := (s.port e.1 e.2).row }

/-- A whole tunnel or route whose bucket has moved to member m of its ply: what it sends there starts at SEQ 0 (R134). A tunnel that spreads its flows is
on both members already. -/
def State.restartOn (s : State) (n b m : Nat) : State :=
  let mine (label : Nat) : Bool := bucketOf label [] == b
  let s := (s.portCtxs n 3).foldl (fun s c =>
    if mine (s.outLabel c.1 c.2) && !(s.tunType c.1 c.2 == 6 && s.rf (Reg.TUN_OPTS c.1 c.2) 0 2 == 1) then
      s.setCtxAt c.1 c.2 m { s.ctxAt c.1 c.2 m with txSeq := 0, credit := none, unacked := [] }
    else s) s
  (s.routes.filter fun r => s.samePly (s.routeOutK r.1 r.2, s.routeOutP r.1 r.2) (n, 3) && mine (s.routeOutLabel r.1 r.2)).foldl (fun s r =>
    s.setRouteCtx (routeKey r.1 r.2 m) ((s.routeCtx (routeKey r.1 r.2 m)).withTx {})) s

/-- A bucket moved to a member behind a fence; a bucket already fenced keeps only the last value asked for (R192, R193). -/
def State.moveBucket (s : State) (k set b m : Nat) : State :=
  let x := s.kern k
  match x.fences.find? fun f => f.set == set && f.bucket == b with
  | some _ => s.setKern k { x with fences := x.fences.map fun f => if f.set = set ∧ f.bucket = b then { f with next := some m } else f }
  | none =>
    if s.bucketMember (hashTable k set) b = m then s
    else
      let s := s.setRb (hashTable k set + 4 * (b / 32)) (b % 32) (m == 1)
      let s := if set = 0 then s.restartOn k b m else s
      (s.setKern k { x with fences := x.fences ++ [s.newFence k set b m] }).bump
        (if set = 0 then Reg.PLY_MOVES k else Reg.SEAM_MOVES k) 1

/-- The default member of a bucket (R191). -/
def State.defaultBuckets (s : State) (k set : Nat) : State := (List.range 256).foldl (fun s b => s.moveBucket k set b (b % 2)) s

/-- The two ports among which a context spreads: the members of its loose ply, or those that a split ply left its flows on (R118, R121). -/
def State.memberPorts (s : State) (k t : Nat) : (Nat × Nat) × (Nat × Nat) :=
  match (s.ctx k t).split with
  | some x => x
  | none => let e := s.egress k t 0; (e, (s.loosePeer e.1 e.2).getD e)

/-- The member that carries a bucket of context (k, t): 0 where the egress is no loose ply (R190). A gauged tunnel stays whole on the member that
MEMBER names (Table 4.7). -/
def State.pinMember (s : State) (k t b : Nat) : Nat :=
  let e := s.egress k t 0
  if s.portPly e.1 e.2 ≠ 2 ∧ (s.ctx k t).split = none then 0
  else if s.gauge (s.gaugePort k t).1 (s.gaugePort k t).2 (s.outLabel k t) = 0 then s.bucketMember (Reg.HASH_PLY (s.memberPorts k t).1.1 0) b
  else s.rf (Reg.TUN_PATH k t) 10 1

/-- The port of member m of a context's egress. -/
def State.memberPort (s : State) (k t m : Nat) : Nat × Nat :=
  if m = 1 then (s.memberPorts k t).2 else s.egress k t 0

/-- The queue index of a context for a port it uses: its own path 0, the second member of a loose ply 1, leg i as 1 + i. -/
def State.memberIx (s : State) (k t kp pp : Nat) : Nat :=
  if t < 4 then 0 else if t < 6 then pp else if s.memberPort k t 1 = (kp, pp) ∧ s.egress k t 0 ≠ (kp, pp) then 1
  else match s.legOn? k t kp pp with
    | some i => 1 + i
    | none => 0

/-! ### Replication lists (R187 to R189) -/

/-- The link legs of a context's list as mask; leg 0 is always there. -/
def State.legMask (s : State) (k t : Nat) : Nat :=
  match s.ctxList? k t with
  | none => 1
  | some l => 1 + maskOf 16 fun i => decide (1 ≤ i) && bitAt (s.reg (Reg.MC_LEG k l (i - 1))) 31 && !bitAt (s.reg (Reg.MC_LEG k l (i - 1))) 0

/-- A packet for a display output of this part. -/
def State.giveLocal (s : State) (o : Nat) (bs : List Byte) : State :=
  { s with localRx := smapPut (fun _ => []) s.localRx o (smapGet (fun _ => []) s.localRx o ++ [bs]) }

/-! ### Flow keys (R190) -/

/-- Where the EtherType of a frame stands, past its VLAN tags. -/
def etherAt (fuel i : Nat) (fr : List Byte) : Nat :=
  match fuel with
  | 0 => i
  | fuel + 1 =>
    let ty := byteAt fr i * 256 + byteAt fr (i + 1)
    if ty = 0x8100 ∨ ty = 0x88A8 then etherAt fuel (i + 4) fr else i

/-- The flow key of an Ethernet frame (R190). The VLAN identifier of a tagged frame that is not IP enters as two bytes (DESIGN CHOICE, log entry 114). -/
def frameKey (fr : List Byte) : List Byte :=
  let e := etherAt 4 12 fr
  let ty := byteAt fr e * 256 + byteAt fr (e + 1)
  let ip := fr.drop (e + 2)
  let ports (proto i : Nat) : List Byte := if proto = 6 ∨ proto = 17 then slice ip i 4 else []
  if ty = 0x0800 then slice ip 12 8 ++ slice ip 9 1 ++ ports (byteAt ip 9) (4 * (byteAt ip 0 % 16))
  else if ty = 0x86DD then slice ip 8 32 ++ slice ip 6 1 ++ ports (byteAt ip 6) 40
  else
    slice fr 0 12 ++ (if 12 < e then [BitVec.ofNat 8 (byteAt fr 14 % 16), fr.getD 15 0] else [])

/-- The bucket of a packet of context (k, t): only an Ethernet tunnel with ORDER 1 and no gauge spreads its flows (R190). The frame of a
PTP_FRAME packet starts at byte 16, that of a FRAME packet at byte 4. -/
def State.packetBucket (s : State) (k t p : Nat) (bs : List Byte) : Nat :=
  let e := s.gaugePort k t
  let label := s.cellLabel k t p
  let spread := s.tunType k t == 6 && s.rf (Reg.TUN_OPTS k t) 0 2 == 1 && s.gauge e.1 e.2 label == 0
  bucketOf label (if spread then frameKey (bs.drop (if byteAt bs 0 = 2 then 16 else 4)) else [])

/-! ### Handing over (R132, R181, R182) -/

/-- The oldest cell that waits for the threshold of its queue enters it where it is admitted, with CM from MARK on (R181, R185). -/
def State.admitOne (s : State) (k t m : Nat) : State :=
  let c := s.ctxAt k t m
  match c.waitq with
  | [] => s
  | x :: rest =>
    let d := s.qDepth k t
    if s.admits k t d (s.bufFree k) then
      let w := s.markCells k t d [x]
      (w.2.setCtxAt k t m { c with txq := c.txq ++ w.1, waitq := rest }).notePeak k
    else s

/-- The cells that wait enter the queue in their order, as far as they are admitted. -/
def State.admitWaiting (s : State) (k t m : Nat) : State :=
  (List.range (s.ctxAt k t m).waitq.length).foldl (fun s _ => s.admitOne k t m) s

/-- The later cells of an admitted network packet of n cells find F above 0 (R182): a cell within MIN takes reserved room, and F stays. -/
def State.restFits (s : State) (k q d f n : Nat) : Bool :=
  (List.range n).all fun i => i == 0 || decide ((List.range i).countP (fun j => decide (s.qMin k q ≤ d + j)) < f)

/-- The tile row of a coded packet of a display tunnel (Table 6.10). -/
def State.tileRowOf (s : State) (k t : Nat) (bs : List Byte) : Option Nat :=
  if s.tunType k t = 3 ∧ byteAt bs 0 = 2 then some (halfAt bs 4 % 1024) else none

/-- A packet handed over to an Open context: snooped, sealed, stamped and cut into cells under its flow's bucket. Answers none where the adapter has
to wait with it: an earlier packet still waits for the threshold, or the first cell does not meet it. A network frame is admitted by its FIRST cell,
and one that finds no room is dropped and counted (Table 5.3). -/
def State.handover? (s : State) (k t p : Nat) (busy : Bool) (bs : List Byte) : Option State :=
  if s.tunState k t ≠ 2 then none
  else
    let b := s.packetBucket k t p bs
    let m := if t < 4 then 0 else if t < 6 then p else s.pinMember k t b
    let cls := s.tunClass k t
    let e := if t < 6 then s.egress k t p else s.memberPort k t m
    let sealed := s.ctxSeals k t
    let enc := s.ctxEnc k t e
    let body := lineBytes enc (if sealed then bs ++ sealBytes bs else bs)
    let c := s.ctxAt k t m
    let d := s.qDepth k t
    let f := s.bufFree k
    let cs := (s.stampCells e.1 e.2 (cellsOf (s.cellLabel k t p) cls c.txSeq sealed body)).map fun x =>
      { x with enc := enc, bucket := b, legs := s.legMask k t, tileRow := s.tileRowOf k t bs }
    let n := cs.length
    let whole := (c.waitq.head?.map (·.first)).getD true
    let taken (s : State) (c : Ctx) : State :=
      let s := s.setCtxAt k t m { c with txSeq := (c.txSeq + n) % 256 }
      (s.localLegs k t).foldl (fun s o => (s.giveLocal o bs).bump (Reg.MC_COPIES k ((s.ctxList? k t).getD 0)) 1) s
    if cls = 5 then
      if whole && s.admits k t d f && s.restFits k t d f n then
        let w := (s.snoop k t false busy bs).markCells k t d cs
        some ((taken w.2 { c with txq := c.txq ++ w.1 }).notePeak k)
      else some ((s.bump (Reg.Q_DROP k t) n).bump (Reg.TUN_DISCARD k t) n)
    else if c.waitq.isEmpty && s.admits k t d f then
      some ((taken (s.snoop k t false busy bs) { c with waitq := cs }).admitWaiting k t m)
    else none

/-- A packet of an adapter; one that has to wait is not taken. -/
def State.handover (s : State) (k t : Nat) (bs : List Byte) : State := (s.handover? k t 0 false bs).getD s

end Sys2Proof.Machine
end

