-- ==== Sys2Proof/Machine/Ports.lean ====
section
/-! DEFINITION. Link ports (R99 to R124, R165): the states of a port, how cast-on starts, moves and fails, how a port opens, and what it
takes with it when it leaves Open. -/

namespace Sys2Proof.Machine

def State.setPortState (s : State) (k p st : Nat) : State := s.setRf (Reg.LNK_STATE k p) 0 4 st

/-- LNK_CAST_STEP: the step reached, and the reason of the last failure (Table 3.14). -/
def State.castTo (s : State) (k p st : Nat) : State := s.setRf (Reg.LNK_CAST_STEP k p) 0 4 st
def State.castReason (s : State) (k p reason : Nat) : State := s.setRf (Reg.LNK_CAST_STEP k p) 8 8 reason

/-- A port is Casting at a step. -/
def State.castAt (s : State) (k p st : Nat) : Bool := s.portState k p == 2 && s.castStep k p == st

/-- The Type-C ports are K0.P0 and K0.P1 (R3). -/
def isTypeC (k p : Nat) : Bool := k == 0 && decide (p < 2)

/-- The running job of an opcode on a port; its first word names the port. -/
def State.portJob? (s : State) (k p opcode : Nat) : Option Job :=
  s.findRunning fun j => j.opcode == opcode && j.kernel == k && (j.args.getD 0 0).toNat == p

def State.endPortJob (s : State) (k p opcode : Nat) (st : JobState) (status detail : Nat) : State :=
  match s.portJob? k p opcode with
  | some j => s.endJob j.num st status detail
  | none => s

def State.stepPortJob (s : State) (k p opcode n : Nat) : State :=
  match s.portJob? k p opcode with
  | some j => s.jobStep j.num n
  | none => s

/-- The members of the ply that PLY_FORM names: tight on this pair, or loose with the neighbour's P2. -/
def plyMembers (k p kind nb : Nat) : List (Nat × Nat) := if kind = 0 then [(k, p), (k, p + 1)] else [(k, 3), (nb, 2)]

/-- The running PLY_FORM whose members include one of some ports. -/
def State.plyJob? (s : State) (ms : List (Nat × Nat)) : Option Job :=
  s.findRunning fun j => j.opcode == 0x0109
    && (plyMembers j.kernel (j.args.getD 0 0).toNat (j.args.getD 1 0).toNat (j.args.getD 2 0).toNat).any fun m => ms.contains m

/-- A PLY_FORM fails. -/
def State.failPly (s : State) (j : Job) (status detail : Nat) : State :=
  let s := if (j.args.getD 1 0).toNat = 1 then s.setReg (Reg.PLY_LOOSE j.kernel) 0 else s
  s.endJob j.num .failed status detail

/-- Word i of the policy of a port that its cast-on took: CRYPT_POLICY, CRYPT_ANCHORS, CRYPT_PHASE_S (R432). -/
def State.policyWord (s : State) (k p i : Nat) : Word :=
  match (s.port k p).policy[i]? with
  | some w => w
  | none => s.reg (Reg.CRYPT_POLICY k p + 4 * i)

/-- The identity hash of a port: the key hash of its identity slot (R424, R432). -/
def State.identHash (s : State) (k p : Nat) : Nat :=
  s.keyHash (fld (s.policyWord k p 0) 8 6)

/-- The partner identity hash of a port. -/
def State.partnerHash (s : State) (k p : Nat) : Nat :=
  (s.reg (Reg.LNK_PARTNER_ID_LO k p)).toNat + 4294967296 * (s.reg (Reg.LNK_PARTNER_ID_HI k p)).toNat

/-- Whether this end comes first where the larger identity hash decides; with equal hashes the larger 4 × kernel + port (R107). The
partner's kernel and port are in its IDENT. -/
def State.nearLarger (s : State) (k p : Nat) : Bool :=
  let b := (s.port k p).ident
  let far := 4 * (byteAt b 8 / 16 % 8) + byteAt b 9 % 4
  decide (s.partnerHash k p < s.identHash k p)
    || (decide (s.partnerHash k p = s.identHash k p) && decide (far < 4 * k + p))

/-- The little-endian number in n bytes of a byte string, and the bytes of a number. -/
def numAt (bs : List Byte) (i n : Nat) : Nat :=
  (List.range n).foldl (fun a j => a + byteAt bs (i + j) * 256 ^ j) 0

def numBytes (v n : Nat) : List Byte := (List.range n).map fun j => BitVec.ofNat 8 (v / 256 ^ j)

/-- n open bytes drawn (log entry 5). -/
def State.freshBytes (s : State) (n : Nat) : List Byte × State :=
  ((List.range n).map fun i => (Config.freeWord (s.free + i)).setWidth 8, { s with free := s.free + n })

/-- A cast-on message sent in LINK_MSG blocks (R123). -/
def State.castSend (s : State) (k p msg : Nat) (body : List Byte) : State :=
  let x := s.port k p
  s.setPort k p { x with lineOut := x.lineOut ++ fragments msg body }

/-! ### Cast-on (R102, R105 to R108, R123) -/

/-- R101: a row with VALID 0 is never selected; row 0 stands for it. -/
def State.validRow (s : State) (k p row : Nat) : Nat := if s.rb (Reg.EQ_ROW_W1 k p row) 24 then row else 0

/-- The equalisation row of a port (R102). `media` is the row that the board table's match list gives a module. -/
def State.eqRow (s : State) (k p media : Nat) : Nat :=
  if s.rb (Reg.LNK_EQ_SEL k p) 8 then s.validRow k p (s.rf (Reg.LNK_EQ_SEL k p) 12 4)
  else if isTypeC k p then
    let c := s.rf (Reg.PDC_CABLE p) 0 4
    s.validRow k p (if c < 8 then s.rf (Reg.EQ_CLASS_MAP_LO k p) (4 * c) 4 else s.rf (Reg.EQ_CLASS_MAP_HI k p) (4 * (c - 8)) 4)
  else s.validRow k p media

/-- The row applied (R102): LNK_STATE.EQ_ROW and LNK_EQ_SEL.ACTIVE_ROW show it. -/
def State.useRow (s : State) (k p row : Nat) : State := (s.setRf (Reg.LNK_STATE k p) 12 4 row).setRf (Reg.LNK_EQ_SEL k p) 0 4 row

/-- The rate code that RATE_MAX of a row allows (Table 3.5). -/
def State.rowRate (s : State) (k p : Nat) : Nat :=
  match s.rf (Reg.EQ_ROW_W1 k p (s.rf (Reg.LNK_STATE k p) 12 4)) 16 3 with
  | 7 => 3
  | 3 => 2
  | _ => 1

/-- Cast-on starts at a step (R105): the parameters of this cast-on are those of LNK_CTRL unless the command names others. -/
def State.startCast (s : State) (k p st : Nat) (params : Option (Nat × Nat)) : State :=
  let s := s.wakeDomain k (4 + p / 2)
  let x := s.port k p
  let r := s.rf (Reg.LNK_CTRL k p) 2 2
  let role := s.rf (Reg.LNK_CTRL k p) 4 2
  let d := params.getD (if r = 0 then 1 else r, if role = 3 then 0 else role)
  let s := s.setPort k p { x with castRate := d.1, castRole := d.2, ident := [], lineOut := [], role := none, rateTry := 0,
                                  rateOk := 0, myErr := none, farRes := none, authGot := 0, newTok := none, newFarTok := none, hunting := 0, row := 0, pos := 0, violLog := [], noticeLog := [],
                                  helloDue := false,
                                  policy := [s.reg (Reg.CRYPT_POLICY k p), s.reg (Reg.CRYPT_ANCHORS k p), s.reg (Reg.CRYPT_PHASE_S k p)] }
  let s := (s.setPortState k p 2).castTo k p st
  let s := s.useRow k p (s.eqRow k p x.media)
  if st = 3 then s.sendTrain k p false 1 else s

/-- The wait after the f-th failed cast-on, in ms (R115). -/
def backoffMs (f : Nat) : Nat := min (200 * 2 ^ (f - 1)) 6400

/-- A step of cast-on fails (R108, R115): the reason is recorded, Backoff starts, and the job ends. -/
def State.castFail (s : State) (k p reason : Nat) : State :=
  let st := s.castStep k p
  let s := (s.castReason k p reason).bumpSat (Reg.LNK_BACKOFF k p) 16 8 1
  let f := s.rf (Reg.LNK_BACKOFF k p) 16 8
  let s := s.setPort k p { s.port k p with backoffEnd := s.now + backoffMs f * 1000000, newTok := none, newFarTok := none }
  let s := (s.setPortState k p 5).log k Ev.castOnFail p [st, reason, f, backoffMs f]
  s.endPortJob k p 0x0102 .failed (statusCode .wrongState) 5

/-- The authentication MODE that a port states at step 4 (R432); in Decommission every port runs as SKIP (Table 14.5). -/
def State.authMode (s : State) (k p : Nat) : Nat := if s.lifeCycle = 3 then 2 else fld (s.policyWord k p 0) 0 2

/-- The highest rate this end states: its parameter, RATE_MAX of its row, and what its module supports (R106, log entry 13). -/
def State.nearRate (s : State) (k p : Nat) : Nat := min (min (s.port k p).castRate (s.rowRate k p)) (max 1 (s.port k p).modRate)

/-- The body of IDENT (Table 3.18). -/
def State.identBody (s : State) (k p tok : Nat) : List Byte :=
  let x := s.port k p
  let tight := (s.port k (p / 2 * 2)).attached && (s.port k (p / 2 * 2 + 1)).attached
  numBytes (s.identHash k p) 8
    ++ [BitVec.ofNat 8 (s.variant.kernels + 16 * k),
        BitVec.ofNat 8 (p + 4 * x.castRole + 16 * s.authMode k p + 64 * s.nearRate k p), 0xB1,
        BitVec.ofNat 8 ((isTypeC k p).toNat + 2 * (!x.slowIdle).toNat + 4 * tight.toNat)]
    ++ wordBytes (s.reg (Reg.KID_FW_VER k)) ++ wordBytes (s.reg (Reg.KID_BT_VER k))
    ++ numBytes (x.farTok.getD 0) 8 ++ numBytes tok 8 ++ [0, 0, 0, 0]

/-- A kernel's DRBG serves (R419). -/
def State.drbgUp (s : State) (k : Nat) : Bool := !(s.kern k).drbgStop

/-- Step 4 begins: a new session token is drawn, and IDENT is sent once (R123, R167). Without the DRBG no token can be drawn: cast-on fails with
ROOT, and its job with HW_FAULT (R419; DESIGN CHOICE, log entry 34). -/
def State.startIdent (s : State) (k p : Nat) : State :=
  if !s.drbgUp k then ((s.castTo k p 4).endPortJob k p 0x0102 .failed (statusCode .hwFault) 0x0E01).castFail k p 0x55
  else
  let tok := (Config.freeWord s.free).toNat + 4294967296 * (Config.freeWord (s.free + 1)).toNat
  let s := { s with free := s.free + 2 }
  let s := (s.setPort k p { s.port k p with newTok := some tok }).castTo k p 4
  s.castSend k p 0x10 (s.identBody k p tok)

/-- The role of R107 from the two preferences: 0 host end, 1 dock end, none for a conflict. -/
def agreeRole (near far : Nat) (larger : Bool) : Option Nat :=
  if near = 1 ∧ far ≠ 1 then some 0
  else if near ≠ 1 ∧ far = 1 then some 1
  else if near = 1 ∧ far = 1 then none
  else if near = 2 ∧ far = 2 then none
  else if near = 2 then some 1
  else if far = 2 then some 0
  else some (if larger then 0 else 1)

/-- ROLE_PREF of the partner's IDENT; 3 acts as Either. -/
def farRolePref (x : Port) : Nat := let r := byteAt x.ident 9 / 4 % 4; if r = 3 then 0 else r

/-- Step 6 begins: ROLE is sent with the outcome of Table 3.7, or with CONFLICT. -/
def State.startRole (s : State) (k p : Nat) : State :=
  let x := s.port k p
  let r := agreeRole x.castRole (farRolePref x) (s.nearLarger k p)
  let s := (s.setPort k p { x with role := r }).castTo k p 6
  s.castSend k p 0x20 (numBytes (match r with | some v => v | none => 2) 16)

/-- A rate check begins: RATE_GO is sent (R106). -/
def State.startRate (s : State) (k p rate : Nat) : State :=
  let s := (s.setPort k p { s.port k p with rateTry := rate, myErr := none, farRes := none }).castTo k p 7
  s.castSend k p 0x30 (numBytes rate 16)

/-- The highest rate that both ends allow (R106). -/
def State.topRate (s : State) (k p : Nat) : Nat := min (s.nearRate k p) (max 1 (byteAt (s.port k p).ident 9 / 64))

/-! ### A port leaves Open -/

/-- Every remote request outstanding on a port is answered PARTNER_TIMEOUT, detail 1 (R51); those of the part's own jobs end with it. -/
def State.dropRemotes (s : State) (k p : Nat) : State :=
  let x := s.port k p
  let s := s.setPort k p { x with jobWait := [] }
  x.remote.foldl (fun s q => s.timeoutRemote k p 1 q) s

/-- REGAUGE requests whose partner reads were on the port fail (R154, R51). -/
def State.dropWaits (s : State) (k p : Nat) : State :=
  (s.gaugeWaits.filter fun w => w.linkK == k && w.linkP == p).foldl (fun s w =>
    s.deliver w.req.via w.req.slot (replyPacket w.opcode w.req .partnerTimeout 1 []))
    { s with gaugeWaits := s.gaugeWaits.filter fun w => !(w.linkK == k && w.linkP == p) }

/-- The shared contexts follow the ports they serve (R126), and name their adapters while they are Open (Tables 4.2, 4.6). -/
def State.syncShared (s : State) (k : Nat) : State :=
  let any := (List.range 4).any fun p => s.portOpen k p || s.portState k p == 4
  [4, 5].foldl (fun s t =>
    if any && s.tunState k t == 0 then
      (s.moveCtx k t 2 portEvent).setReg (Reg.TUN_PATH k t) (packWord [(0, 4, t - 3), (4, 3, k), (16, 4, t - 3)])
    else if !any && s.tunState k t != 0 then (s.moveCtx k t 0 portEvent).setReg (Reg.TUN_PATH k t) 0
    else s) s

/-- The ports that a partner's job held over link (k, p) are free again when the link is lost (R156, log entry 103). -/
def State.releaseFar (s : State) (k p : Nat) : State :=
  (s.allPorts.filter fun x => (s.port x.1 x.2).farHold == some (k, p)).foldl (fun s x => s.holdFar x.1 x.2 none) s

/-- What ends with a port's being Open, whatever ends it: its remote requests, its transport, its control tunnel, its share of T4 and
T5, its keys, and the jobs that need it. `st` is the state the port takes. -/
def State.leaveOpen (s : State) (k p st : Nat) : State :=
  let s := ((s.dropRemotes k p).dropWaits k p).releaseFar k p
  let s := (s.viaDown (.link k p)).gaugePortLost k p
  let s := if s.tunState k p = 0 then s else (s.discardQueued k p 0).moveCtx k p 0 portEvent
  let s := (s.setCtx k p {}).setCtxAt k 4 p {}
  let s := s.setCtxAt k 5 p {}
  let s := (s.setPortState k p st).syncShared k
  let s := ((s.setRf (Reg.LNK_STATE k p) 4 2 0).setRb (Reg.LNK_STATE k p) 7 false).setRate k p 0
  let s := s.setReg (Reg.CRYPT_STATUS k p) 0
  let s := s.endPortJob k p 0x010B .failed (statusCode .partnerTimeout) 1
  let s := match s.plyJob? [(k, p)] with | some j => s.failPly j (statusCode .partnerTimeout) 1 | none => s
  let s := (s.setRegs [(Reg.LTT_DELAY k p, 0), (Reg.LTT_OFFSET k p, 0)]).pipPortLost k p
  s.setPort k p { s.port k p with huskAsked := false, hunting := 0, rxShell := false, idleRun := 0, exitDue := false, rowFromTrain := false,
                                  fetched := [], plan := [], cut := none, levels := [], retrain := false, line := none, swap := none, lists := [], lastPart := none,
                                  pairing := false, violRow := 0, noticed := [], pos := 0, dwrr := [], plyAsked := none, bindCause := 0, pipFault := false, timeFault := false,
                                  txTimes := [], markRx := none, farTime := none, farFull := 0, farYou := false,
                                  pipTx := 0, pipRx := none, pipGapAt := none, pipGaps := 0 }

/-- The resume window of a port in ms (R164): values above 10,000 act as 10,000. What is left of a ply uses the window of the ply's first member, or
of its P3 member. -/
def State.resumeMs (s : State) (k p : Nat) : Nat :=
  let win (n i : Nat) : Nat := min (s.rf (Reg.TUN_RESUME n i) 0 14) 10000
  if s.rf (plyTightReg k p) 0 2 = 3 then win k (p / 2 * 2)
  else if p = 2 then
    match (List.range s.variant.kernels).find? fun n => s.rf (Reg.PLY_LOOSE n) 0 2 == 3 && s.rf (Reg.PLY_LOOSE n) 4 3 == k with
    | some n => win n 3
    | none => win k p
  else win k p

/-- A tunnel's job when its port is lost (Table 4.8, R60): an open ends PARTNER_TIMEOUT, detail 1; so does a close. -/
def State.loseTun (s : State) (k t : Nat) : State :=
  (s.endCtxJob k t .failed .partnerTimeout 1).closeCtx k t portEvent

/-- The tunnels of a lost port (R165): Open ones enter Held while the window is above 0, else Closed; Opening, Draining and Fault ones
go Closed. -/
def State.loseTunnels (s : State) (k p : Nat) : State :=
  let w := s.resumeMs k p
  let s := s.forCtxs (s.portCtxsIn k p [1, 3, 5]) fun s n t => s.loseTun n t
  let opens := s.portCtxsIn k p [2]
  let s := s.forCtxs opens fun s n t => s.gaugeTunLost n t
  let s := s.forCtxs opens fun s n t => if w = 0 then s.closeCtx n t portEvent else s.holdOff n t portEvent
  s.setPort k p { s.port k p with heldEnd := s.now + w * 1000000 }

/-- Every tunnel of the port goes Closed without being held (R114). -/
def State.closeTunnels (s : State) (k p : Nat) : State :=
  s.forCtxs (s.portCtxs k p) fun s n t => (s.gaugeTunLost n t).loseTun n t

/-! ### Plies (R120) -/

/-- Every tunnel of a port now leaves by another port, in TUN_PATH. -/
def State.movePath (s : State) (l : List (Nat × Nat)) (k p : Nat) : State :=
  s.forCtxs l fun s n t => (s.setRf (Reg.TUN_PATH n t) 4 3 k).setRf (Reg.TUN_PATH n t) 8 2 p

/-- What belongs to one port that carries a tunnel (R134, R144), taken from another record. -/
def Ctx.withLink (x a : Ctx) : Ctx :=
  { x with txq := a.txq, waitq := a.waitq, unacked := a.unacked, rxOpen := a.rxOpen, rxCm := a.rxCm, rxq := a.rxq, credit := a.credit, granted := a.granted,
           changed := a.changed, nack := a.nack, nackDue := a.nackDue, wholeSeq := a.wholeSeq, dropping := a.dropping,
           creditSent := a.creditSent, authFails := a.authFails, pn := a.pn, txSeq := a.txSeq, rxSeq := a.rxSeq }

/-- Cells numbered anew from n on. -/
def renumber (n : Nat) (cs : List Cell) : List Cell := cs.mapIdx fun i c => { c with seq := (n + i) % 256 }

/-- The cells of whole packets: those before the first FIRST are left out. -/
def fromFirst (cs : List Cell) : List Cell := cs.dropWhile fun c => !c.first

/-- A tunnel moves to another port of its ply: SEQ restarts at 0 there, and what a lossless tunnel has not had acknowledged is sent again
(R134, R144). -/
def State.restartLink (s : State) (k t : Nat) : State :=
  let x := s.ctx k t
  let q := renumber 0 (fromFirst (x.unacked ++ x.txq ++ x.waitq))
  s.setCtx k t (x.withLink { txq := q, txSeq := q.length % 256, rxq := x.rxq })

/-- One member of a loose ply carries a tunnel from now on, and `keep` is its record: packets that wait for the other member move to it, and
what is in flight or incomplete there is lost and counted (Table 3.11). -/
def State.mergeMembers (s : State) (k t keep : Nat) : State :=
  let x := s.ctx k t
  let a := s.ctxAt k t keep
  let b := s.ctxAt k t (1 - keep)
  let q := fromFirst (b.txq ++ b.waitq)
  let lost := b.unacked.length + (b.txq.length + b.waitq.length - q.length) + (match b.rxOpen with | some bs => ceilDiv bs.length 64 | none => 0)
  let a := { a with txq := a.txq ++ renumber a.txSeq q, txSeq := (a.txSeq + q.length) % 256, rxq := b.rxq ++ a.rxq }
  let s := (s.setCtxAt k t 1 {}).setCtx k t { (x.withLink a) with split := none }
  let s := s.dropFetched fun y => !y.raw && y.n == k && y.t == t
  if lost = 0 then s else s.bump (Reg.TUN_DISCARD k t) lost

/-- What names one port of a kernel names another from now on: raw routes, legs, and the cells that wait for the port (log entry 124). -/
def State.movePort (s : State) (k a v : Nat) : State :=
  let s := s.routes.foldl (fun s r =>
    let s := if r.1 = k ∧ s.routeInPort r.1 r.2 = a then s.setRf (Reg.RAW_ROUTE_A r.1 r.2) 0 2 v else s
    if s.routeOutK r.1 r.2 = k ∧ s.routeOutP r.1 r.2 = a then s.setRf (Reg.RAW_ROUTE_B r.1 r.2) 4 2 v else s) s
  let s := s.mcLegs.foldl (fun s l =>
    let w := s.reg (Reg.MC_LEG l.1 l.2.1 l.2.2)
    if !bitAt w 0 && fld w 1 3 == k && fld w 4 2 == a then s.setRf (Reg.MC_LEG l.1 l.2.1 l.2.2) 4 2 v else s) s
  let s := (List.range 16).foldl (fun s n => (s.setTransit k (transitQ v n) (s.transit k (transitQ a n))).setTransit k (transitQ a n) []) s
  [4, 5].foldl (fun s t => (s.setCtxAt k t v (s.ctxAt k t a)).setCtxAt k t a {}) s

/-- What the egress buffer and the queues hold of a route under one key stands under another. -/
def State.rekeyCells (s : State) (k p a b : Nat) : State :=
  let ren (x : Nat) : Nat := if x = a then b else x
  let src (x : Src) : Src := if x.raw then { x with n := ren x.n } else x
  let y := s.port k p
  let s := s.setPort k p { y with fetched := y.fetched.map fun f => (src f.1, f.2), plan := y.plan.map fun f => { f with src := src f.src },
                                  cut := y.cut.map fun c => (ren c.1, c.2) }
  (List.range 16).foldl (fun s n => s.setTransit k (transitQ p n) ((s.transit k (transitQ p n)).map fun c => (ren c.1, c.2))) s

/-- The records that raw routes have of a port, kept under member `a` so far, go to member `b`, as the port joins or leaves a loose ply (R134). -/
def State.rekeyRoutes (s : State) (k p a b : Nat) : State :=
  s.routes.foldl (fun s r =>
    let x := s.routeCtx (routeKey r.1 r.2 a)
    let y := s.routeCtx (routeKey r.1 r.2 b)
    let s := if (r.1, s.routeInPort r.1 r.2) = (k, p) then
        (s.setRouteCtx (routeKey r.1 r.2 b) (y.withRx x)).setRouteCtx (routeKey r.1 r.2 a) (x.withRx {})
      else s
    if (s.routeOutK r.1 r.2, s.routeOutP r.1 r.2) = (k, p) then
      let x := s.routeCtx (routeKey r.1 r.2 a)
      let y := s.routeCtx (routeKey r.1 r.2 b)
      ((s.setRouteCtx (routeKey r.1 r.2 b) (y.withTx x)).setRouteCtx (routeKey r.1 r.2 a) (x.withTx {})).rekeyCells k p (routeKey r.1 r.2 a)
        (routeKey r.1 r.2 b)
    else s) s

/-- A port opens again: what raw routes send and receive on it starts at SEQ 0, from the first whole packet that waits (R134). -/
def State.routesReopen (s : State) (k p : Nat) : State :=
  s.routes.foldl (fun s r =>
    let key := routeKey r.1 r.2 0
    let s := if (r.1, s.routeInPort r.1 r.2) = (k, p) then s.setRouteCtx key ((s.routeCtx key).withRx {}) else s
    if (s.routeOutK r.1 r.2, s.routeOutP r.1 r.2) = (k, p) then
      (List.range 16).foldl (fun s n =>
        let l := s.transit k (transitQ p n)
        let x := s.routeCtx key
        let mine := (l.filter fun c => c.1 == key).map (·.2)
        if mine.isEmpty ∧ (x.unacked.isEmpty ∨ n ≠ s.classNode k x.cls) then s
        else
          let q := renumber 0 (fromFirst (x.unacked ++ mine))
          (s.setTransit k (transitQ p n) ((l.filter fun c => c.1 ≠ key) ++ q.map fun c => (key, c))).setRouteCtx key
            (x.withTx { txSeq := q.length % 256 })) (s.setRouteCtx key ((s.routeCtx key).withTx { unacked := (s.routeCtx key).unacked }))
    else s) s

/-- Two ports that were a ply remember each other (R164, R166). -/
def State.setMates (s : State) (a b : Nat × Nat) : State :=
  let s := s.setPort a.1 a.2 { s.port a.1 a.2 with mate := some b }
  s.setPort b.1 b.2 { s.port b.1 b.2 with mate := some a }

/-- The entries of both tables of a port are gone. -/
def State.clearRows (s : State) (k p n : Nat) : State :=
  (s.writeTable false k p (List.replicate n 0)).writeTable true k p (List.replicate n 0)

/-- The members of a tight ply are ports of their own again: their tables are empty, each epoch is one higher, and each has its own ceiling
(R150, R170). `st` is what PLY_TIGHT shows. -/
def State.untie (s : State) (k a st : Nat) : State :=
  let s := s.clearRows k a 2048
  let s := [a, a + 1].foldl (fun s p =>
    let s := (s.setRf (Reg.LNK_STATE k p) 10 2 0).setRf (Reg.ROW_CEIL k p) 0 11 (min 920 (s.rf (Reg.ROW_CEIL k p) 0 11))
    s.setRf (Reg.ROW_EPOCH k p) 0 16 (s.rf (Reg.ROW_EPOCH k p) 0 16 + 1)) s
  s.setRf (plyTightReg k a) 0 2 st

/-- The label of a port's far control context, from the partner's IDENT (R127); a ply's is that of the first far member. -/
def State.farControl (s : State) (k p : Nat) : Nat :=
  let b := (s.port k p).ident
  let farP := byteAt b 9 % 4
  512 * (byteAt b 8 / 16 % 8) + (if s.isTight k p then farP / 2 * 2 else farP)

/-- A tight ply that lost member q (Table 3.11): the survivor trains its two lanes anew, every source keeps half of its gauge there, and the control
tunnel moves to the survivor's own context. The survivor stays Open meanwhile and sends no stitches (log entry 120). -/
def State.degradeTight (s : State) (k q : Nat) : State :=
  let a := q / 2 * 2
  let v := if q = a then a + 1 else a
  let l := s.portCtxs k q
  let labels := ((s.rowTable false k a).filter entryValid |>.map entryLabel).dedup
  let gs := labels.map fun x => (x, tableGauge (s.rowTable false k a) x / 2)
  let row := (s.port k a).row
  let s := (s.untie k a 3).setMates (k, a) (k, a + 1)
  let s := gs.foldl (fun s g => s.place k v g.1 g.2) s
  let s := s.movePath l k v
  let s := if v = a then s
    else
      let s := (s.movePort k a v).forCtxs l fun s n t => s.restartLink n t
      let x := s.ctx k a
      let s := s.setReg (Reg.TUN_LABELS k v) (packWord [(0, 12, 512 * k + v), (16, 12, s.farControl k v)])
      let q := renumber 0 ((fromFirst (x.unacked ++ x.txq ++ x.waitq)).map fun c => { c with label := s.farControl k v })
      ((s.setCtx k v { txq := q, txSeq := q.length % 256, rxq := x.rxq }).moveCtx k v 2 portEvent).moveCtx k a 0 portEvent
  let s := s.setPort k v { s.port k v with hunting := 3, retrain := true, row := row, pos := 0, fetched := [], plan := [], cut := none }
  (s.sendTrain k v false 1).log k Ev.plyDegraded v [1, 4 * k + q, 2]

/-- Every bucket of a bucket table names one member; the moved ones are counted (R191, R193). -/
def State.allBuckets (s : State) (a cnt : Nat) (m : Nat) : State :=
  let moved := ((List.range 256).filter fun b => s.bucketMember a b != m).length
  let s := (List.range 8).foldl (fun s w => s.setReg (a + 4 * w) (if m = 0 then 0 else 0xFFFFFFFF)) s
  if moved = 0 then s else s.bump cnt moved

/-- The fences of a kernel's loose ply lift (R192). -/
def State.dropFences (s : State) (n : Nat) : State :=
  let x := s.kern n
  s.setKern n { x with fences := x.fences.filter fun f => f.set != 0 }

/-- The cells of raw routes that wait for member (k, p) of a loose ply follow those of the other one, v, which the routes name from now on; the
records of that port are the routes' own (Table 3.11, R134). -/
def State.moveRoutes (s : State) (k p : Nat) (v : Nat × Nat) : State :=
  let a := if p = 2 then 1 else 0
  let s := s.routes.foldl (fun s r =>
    let old := routeKey r.1 r.2 a
    let new := routeKey r.1 r.2 (1 - a)
    let s := (List.range 16).foldl (fun s n =>
      let l := s.transit k (transitQ p n)
      let x := s.routeCtx new
      let q := renumber x.txSeq (fromFirst ((l.filter fun c => c.1 == old).map (·.2)))
      if (l.all fun c => c.1 ≠ old) then s
      else
        ((s.setTransit k (transitQ p n) (l.filter fun c => c.1 ≠ old)).setTransit v.1 (transitQ v.2 n)
          (s.transit v.1 (transitQ v.2 n) ++ q.map fun c => (new, c))).setRouteCtx new { x with txSeq := (x.txSeq + q.length) % 256 }) s
    let s := s.setRouteCtx old {}
    let s := if (r.1, s.routeInPort r.1 r.2) = (k, p) ∧ v.1 = k then s.setRf (Reg.RAW_ROUTE_A r.1 r.2) 0 2 v.2 else s
    if (s.routeOutK r.1 r.2, s.routeOutP r.1 r.2) = (k, p) then
      (s.setRf (Reg.RAW_ROUTE_B r.1 r.2) 0 3 v.1).setRf (Reg.RAW_ROUTE_B r.1 r.2) 4 2 v.2
    else s) s
  if a = 1 then s else s.rekeyRoutes v.1 v.2 1 0

/-- A loose ply that lost member (k, p): flows move to the survivor, where no fence holds them since the old member is gone (R192), and the gauge
held on the lost member is released (Table 3.11). -/
def State.degradeLoose (s : State) (k p : Nat) : State :=
  match s.loosePeer k p with
  | none => s
  | some v =>
    let head := s.plyHead k p
    let l := s.portCtxs k p
    let s := s.forCtxs l fun s n t => if (s.ctx n t).unknown then s else s.releaseRows k p (s.outLabel n t)
    let s := s.allBuckets (Reg.HASH_PLY head.1 0) (Reg.PLY_MOVES head.1) (if p = 3 then 1 else 0)
    let s := (s.setRf (Reg.LNK_STATE k p) 10 2 0).setRf (Reg.LNK_STATE v.1 v.2) 10 2 0
    let s := (s.movePath l v.1 v.2).setMates (k, p) v
    let s := s.forCtxs l fun s n t => s.mergeMembers n t (if v = head then 0 else 1)
    let s := s.moveRoutes k p v
    ((s.dropFences head.1).setRf (Reg.PLY_LOOSE head.1) 0 2 3).log v.1 Ev.plyDegraded v.2 [2, 4 * k + p, 4]

/-- A member of a ply is lost: the ply degrades first, so that what is lost with the port is its own (R120). -/
def State.degradePly (s : State) (k p : Nat) : State :=
  match s.portPly k p with
  | 1 => s.degradeTight k p
  | 2 => s.degradeLoose k p
  | _ => s

/-- Flows that a split ply left on two ports go on by the other one when a port is lost (R121). -/
def State.endSplits (s : State) (k p : Nat) : State :=
  (s.portCtxs k p).foldl (fun s c =>
    match (s.ctx c.1 c.2).split with
    | none => s
    | some x =>
      if x.1 = (k, p) then (s.movePath [c] x.2.1 x.2.2).mergeMembers c.1 c.2 1
      else if x.2 = (k, p) then s.mergeMembers c.1 c.2 0
      else s) s

/-- What was left of a ply is lost too: the ply is no more (Table 3.11). -/
def State.plyEnds (s : State) (k p : Nat) : State :=
  if s.rf (plyTightReg k p) 0 2 = 3 then (s.setReg (plyTightReg k p) 0).log k Ev.plyDegraded p [1, 4 * k + p, 6]
  else
    let n? := if p = 3 then (if s.rf (Reg.PLY_LOOSE k) 0 2 = 3 then some k else none)
      else (List.range s.variant.kernels).find? fun n => p == 2 && s.rf (Reg.PLY_LOOSE n) 0 2 == 3 && s.rf (Reg.PLY_LOOSE n) 4 3 == k
    match n? with
    | some n => (s.setReg (Reg.PLY_LOOSE n) 0).log k Ev.plyDegraded p [2, 4 * k + p, 6]
    | none => s

/-! ### Part-state jobs that wait for ports (R454, R457) -/

/-- The running SYS_STATE_SET, whose first word is the state it leads to. -/
def State.stateJob (s : State) (st : Nat) : Option Job :=
  s.findRunning fun j => j.opcode == 0x0002 && (j.args.getD 0 0).toNat == st

/-- A port outside the mask is Casting, Open or Binding. -/
def State.portsActive (s : State) (mask : Nat) : Bool :=
  s.allPorts.any fun kp => !mask.testBit (portKey kp.1 kp.2) && [2, 3, 4].contains (s.portState kp.1 kp.2)

/-- Every port of a mask is in Husk. -/
def State.portsHusk (s : State) (mask : Nat) : Bool :=
  s.allPorts.all fun kp => !mask.testBit (portKey kp.1 kp.2) || (s.portOpen kp.1 kp.2 && s.rf (Reg.LNK_STATE kp.1 kp.2) 4 2 == 2)

/-- A step boundary of the Quiet job: a wake that came before ends it (R455), as JOB_ABORT does; else it goes on. -/
def State.quietBoundary (s : State) (n : Nat) : State :=
  if s.part.wake then ({ s with part := { s.part with wake := false } } : State).endJob n .failed (statusCode .wrongState) 0xFB else s.nextStep n

/-- Step 1 of Quiet entry is over once every kept port is in Husk (R454). -/
def State.quietStep (s : State) : State :=
  match s.stateJob 1 with
  | some j => if j.step = 1 ∧ s.portsHusk (j.args.getD 1 0).toNat then s.quietBoundary j.num else s
  | none => s

/-- An entry that goes to the black box whatever BB_CTRL says (R457). -/
def State.logBoxed (s : State) (k : Nat) (d : EvDef) (idx : Nat) (ps : List Nat) : State :=
  let ring := s.ringOf k
  let s' := s.log k d idx ps
  if s.rf (Reg.BB_CTRL ring) 0 3 ≤ d.severity then s'
  else
    let x := s'.kern ring
    s'.setKern ring { x with box := match x.log with | e :: _ => boxAdd (s.rb (Reg.BB_CTRL ring) 8) x.box e | [] => x.box }

/-- Step 1 of Seed entry is over once no port is Casting, Open or Binding; step 2 logs the state and ends the job, and SEED_DELAY runs (R457). -/
def State.seedStep (s : State) : State :=
  match s.stateJob 2 with
  | some j =>
    if j.step = 1 ∧ !s.portsActive 0 then
      let s := s.nextStep j.num
      if j.abort then s
      else
        let s := (s.setRf Reg.AON_STATE 0 2 2).logBoxed s.lead Ev.state 0 [0, 2, match j.via with | some v => master v | none => 8 + s.lead]
        (({ s with part := { s.part with seedDue := true } } : State)).nextStep j.num
    else s
  | none => s

/-! ### Port loss and detach (R99, R114, R116, R165) -/

/-- A member is lost while a tight ply forms: the other one casts on again from step 3, as after any failure of its steps 2 to 4 (R117). -/
def State.formingLost (s : State) (k p : Nat) : State :=
  let q := p / 2 * 2 + (1 - p % 2)
  if !s.plyForming k p then s
  else
    let s := match s.plyJob? [(k, p)] with | some j => s.failPly j (statusCode .partnerTimeout) 1 | none => s
    (((s.setReg (plyTightReg k p) 0).leaveOpen k q 2).setRf (Reg.LNK_BACKOFF k q) 16 8 0).startCast k q 3 none

/-- The link of a port is lost or its attach ends: an Open port loses its tunnels into Held; a Binding one closes them, its job ends
PARTNER_TIMEOUT, detail 1, and after a lost link it is Off (R114); a Casting one ends its job PARTNER_TIMEOUT, detail 1, on a detach. -/
def State.portLost (s : State) (k p : Nat) (detach : Bool) : State :=
  match s.portState k p with
  | 3 =>
    let s := s.formingLost k p
    let s := if s.portPly k p = 0 then ((s.endSplits k p).loseTunnels k p).plyEnds k p else s.degradePly k p
    (s.endPortJob k p 0x0102 .failed (statusCode .partnerTimeout) 1).leaveOpen k p 1
  | 4 =>
    let tight := s.isTight k p
    let s := s.closeTunnels k p
    let s := if tight then (s.untie k (p / 2 * 2) 0).leaveOpen k (p / 2 * 2 + (1 - p % 2)) 0 else s.degradePly k p
    let s := s.endPortJob k (if tight then p / 2 * 2 else p) 0x0103 .failed (statusCode .partnerTimeout) 1
    (s.leaveOpen k p (if detach then 1 else 0)).seedStep
  | 2 =>
    if detach then ((s.setPortState k p 1).endPortJob k p 0x0102 .failed (statusCode .partnerTimeout) 1).seedStep else s
  | 5 => if detach then s.setPortState k p 1 else s
  | _ => if detach then s.setPortState k p 1 else s

/-- A clean detach sets the failure count to 0 and cancels any Backoff wait (R116). -/
def State.detachPort (s : State) (k p : Nat) : State :=
  let s := if s.portState k p = 6 ∨ s.portState k p = 0 then s else s.portLost k p true
  let s := s.setRf (Reg.LNK_BACKOFF k p) 16 8 0
  s.setPort k p { s.port k p with attached := false, ready := false, modulePower := false, modRate := 3, backoffEnd := 0 }

/-- The step from which an attached port casts on again: 2 where the Type-C partner has left the alternate mode, else 3 (R99, R115). -/
def State.recastStep (s : State) (k p : Nat) : Nat := if isTypeC k p && !(s.port k p).ready then 2 else 3

/-! ### A port opens (R105, R126, R166) -/

/-- Held tunnels of a port. -/
def State.heldCtxs (s : State) (k p : Nat) : List (Nat × Nat) := s.portCtxsIn k p [4]

/-- The entries of RESUME_LIST for this end's Held tunnels: label, far label, TYPE, gauge (Table 4.9). -/
def State.resumeEntries (s : State) (k p : Nat) : List (Nat × Nat × Nat × Nat) :=
  (s.heldCtxs k p).map fun c =>
    (512 * c.1 + c.2, s.outLabel c.1 c.2, s.tunType c.1 c.2, s.gauge k p (s.outLabel c.1 c.2))

/-- A RESUME_LIST message (Table 4.9). -/
def resumeWords (part : Nat) (last : Bool) (es : List (Nat × Nat × Nat × Nat)) : List Word :=
  packWord [(0, 8, es.length), (8, 8, part), (16, 1, last.toNat)]
    :: es.flatMap fun e => [packWord [(0, 12, e.1), (16, 12, e.2.1), (28, 4, e.2.2.1)], packWord [(0, 11, e.2.2.2)]]

/-- A list cut into parts of at most n. -/
def parts {α : Type} (fuel n : Nat) (l : List α) : List (List α) :=
  match fuel with
  | 0 => []
  | fuel + 1 => if l.length ≤ n then [l] else l.take n :: parts fuel n (l.drop n)

/-- This end names all its Held tunnels, at most 126 in each message (R166). -/
def State.sendResumeLists (s : State) (k p : Nat) : State :=
  let ps := parts 64 126 (s.resumeEntries k p)
  (List.range ps.length).foldl (fun s i => s.sendMsg k p 0x0288 (resumeWords i (i + 1 == ps.length) (ps.getD i []))) s

/-- Held tunnels of the other port of a ply that is no more resume on this one, with their gauges and what is left of their window (R166, log entry
125). -/
def State.takeMate (s : State) (k p : Nat) : State :=
  match (s.port k p).mate with
  | none => s
  | some m =>
    let l := s.portCtxsIn m.1 m.2 [4]
    if [3, 4].contains (s.portState m.1 m.2) ∨ l.isEmpty ∨ (s.port m.1 m.2).sessId ≠ some (s.partnerHash k p) then s
    else
      let s := s.forCtxs l fun s n t =>
        let out := s.outLabel n t
        let g := s.gauge m.1 m.2 out
        (s.releaseRows m.1 m.2 out).place k p out g
      (s.movePath l k p).setPort k p { s.port k p with heldEnd := max (s.port k p).heldEnd (s.port m.1 m.2).heldEnd }

/-- A port forgets the ply that it was in. -/
def State.dropMate (s : State) (k p : Nat) : State := s.setPort k p { s.port k p with mate := none }

/-- The last words of tunnels that have closed on a lost session go with it. -/
def State.dropWords (s : State) (k p : Nat) : State := (s.lastWords k p).foldl (fun s c => s.setCtx c.1 c.2 { s.ctx c.1 c.2 with txq := [] }) s

/-- The port becomes Open at the end of step 8, and step 9 opens its control tunnel, T4 and T5 (R105, R126): the tokens of this
cast-on are those of the new session, and the failure count is 0. -/
def State.portOpens (s : State) (k p : Nat) : State :=
  let x := s.port k p
  let farK := byteAt x.ident 8 / 16 % 8
  let farP := byteAt x.ident 9 % 4
  let s := ((s.takeMate k p).routesReopen k p).dropWords k p
  let held := !(s.heldCtxs k p).isEmpty
  let y := s.port k p
  let s := s.setPort k p { y with myTok := x.newTok, farTok := x.newFarTok, newTok := none, newFarTok := none,
                                  sessId := some (s.partnerHash k p), stitch := 0, lists := [], lastPart := none,
                                  pairing := true, remote := [], jobWait := [] }
  let s := s.setRf (Reg.LNK_BACKOFF k p) 16 8 0
  let s := (s.setPortState k p 3).castTo k p 9
  let s := (s.setRate k p x.rateOk).setRf (Reg.LNK_STATE k p) 6 1 (x.role.getD 0) |>.roleSync k p
  let s := s.setReg (Reg.TUN_LABELS k p) (packWord [(0, 12, 512 * k + p), (16, 12, 512 * farK + farP)])
  let s := s.setReg (Reg.TUN_PATH k p) (packWord [(4, 3, k), (8, 2, p), (20, 3, farK)])
  let s := (s.setCtx k p {}).moveCtx k p 2 portEvent
  let s := (s.syncShared k).viaUpNow (.link k p)
  let s := s.sendResumeLists k p
  -- step 9 is over at once where this end has nothing to resume (log entry 14)
  if held then s else s.endPortJob k p 0x0102 .done 0 0

/-- The job of a cast-on shows the step that the port has reached. -/
def State.castJobStep (s : State) (k p : Nat) : State := s.stepPortJob k p 0x0102 (s.castStep k p)

/-- An attached port casts on where its LNK_CTRL.AUTO_CAST_ON says so (R99, R105). -/
def State.autoCast (s : State) (k p : Nat) : State :=
  if (s.port k p).attached && s.rb (Reg.LNK_CTRL k p) 6 then s.startCast k p (s.recastStep k p) none else s

/-! ### Bind-off (R114) -/

/-- The drain time a BIND_REQ or a CLOSE_REQ asks for: 0 is 10 ms, and more than 1,000 ms is 1,000 ms. -/
def drainOf (ms : Nat) : Nat := if ms = 0 then 10 else min ms 1000

/-- The port of a tight ply, or the port itself: what bind-off takes Off together. -/
def State.bindPorts (s : State) (k p : Nat) : List Nat := if s.isTight k p then [p / 2 * 2, p / 2 * 2 + 1] else [p]

/-- Step 1 of bind-off: the port, or every member of its tight ply, is Binding, and refuses new opens. -/
def State.startBind (s : State) (k p cause drain : Nat) : State :=
  (s.bindPorts k p).foldl (fun s q =>
    let s := s.setPortState k q 4
    s.setPort k q { s.port k q with bindCause := cause, drainMs := drain }) s

/-- Step 2: every tunnel of the port moves to Draining and stops admitting cells. -/
def State.bindDrain (s : State) (k p : Nat) : State :=
  s.forCtxs (s.portCtxsIn k p [2]) fun s n t => ((s.gaugeTunLost n t).adapterDrain n t).moveCtx n t 3 portEvent

/-- Steps 3 to 5: cells still queued are discarded, the tunnels close, BIND_END is sent and the port, or every member of its tight ply, is Off. A loose
ply loses the member (DESIGN CHOICE: its tunnels close with it, log entry 119). -/
def State.finishBind (s : State) (k p : Nat) : State :=
  let cause := (s.port k p).bindCause
  let qs := s.bindPorts k p
  let s := ((s.closeTunnels k p).sendMarker k p).sendOnLanes k p 4 (.bindEnd cause)
  let s := if s.isTight k p then s.untie k (p / 2 * 2) 0 else s.degradePly k p
  (qs.foldl (fun s q => ((s.leaveOpen k q 0).dropMate k q).log k Ev.portDown q [cause]) s).seedStep

/-- A port that is Casting goes Off (R114): a near PORT_BIND_OFF with cause 1, a received BIND_END with cause 2. -/
def State.castOff (s : State) (k p cause : Nat) : State :=
  let s := if cause = 1 ∧ 3 ≤ s.castStep k p then s.sendOnLanes k p 4 (.bindEnd cause) else s
  let s := (s.setPortState k p 0).log k Ev.portDown p [cause]
  (s.endPortJob k p 0x0102 .failed (statusCode .wrongState) 0).seedStep

/-! ### Partner violations (R162, R163) -/

/-- The classes of Table 4.13 that notify the partner. -/
def notifies (cls : Nat) : Bool := [3, 4, 7, 9].contains cls

/-- EV_PARTNER_VIOLATION at most once per class and port in 1,000 row periods, with the count since the last entry (R162). -/
def State.logViolation (s : State) (k p cls label : Nat) : State :=
  let x := s.port k p
  match x.violLog.find? fun v => v.1 == cls with
  | some v =>
    if v.2.1 + 1000 ≤ x.row then
      (s.setPort k p { x with violLog := (cls, x.row, 0) :: x.violLog.filter fun w => w.1 ≠ cls }).log k Ev.partnerViolation p
        [cls, v.2.2 + 1, label]
    else s.setPort k p { x with violLog := (cls, v.2.1, v.2.2 + 1) :: x.violLog.filter fun w => w.1 ≠ cls }
  | none => (s.setPort k p { x with violLog := (cls, x.row, 0) :: x.violLog }).log k Ev.partnerViolation p [cls, 1, label]

/-- The limit of R163: a value below 64 acts as 64. -/
def State.violLimit (s : State) (k : Nat) : Nat := max 64 (s.rf (Reg.TUN_VIOL_LIMIT k) 0 16)

/-- A violation of classes 1 to 10 on a port, charged to a tunnel where one is named: counted, notified as Table 4.13 says, and at the
limit of R163 the port is bound off with DRAIN_MS 1. A notice carries the count of all classes in the row (DESIGN CHOICE, log entry 111). -/
def State.violation (s : State) (k p cls label : Nat) (ctx : Option (Nat × Nat)) : State :=
  let s := s.bump (Reg.TUN_VIOL_CNT k p) 1
  let s := match ctx with | some c => s.bump (Reg.TUN_VIOL c.1 c.2) 1 | none => s
  let x := s.port k p
  let n := x.violRow + 1
  let s := s.setPort k p { x with violRow := n }
  let s : State :=
    if notifies cls then
      let s : State := if x.noticed.contains cls then s
        else (s.setPort k p { s.port k p with noticed := cls :: x.noticed }).sendMsg k p 0x0289
          [packWord [(0, 8, cls), (8, 12, label)], word n]
      s.logViolation k p cls label
    else s
  if s.portOpen k p && decide (s.violLimit k ≤ n) then
    let s := (s.startBind k p 3 1).log k Ev.portViolationBindoff p [n]
    s.sendMsg k p 0x0181 [1]
  else s

/-- Quarantine (R162): the tunnel moves to Fault, QUARANTINE is sent, and the event is logged. -/
def State.quarantine (s : State) (k t cls : Nat) : State :=
  let s := if s.tunState k t = 2 then (s.gaugeTunLost k t).faultCtx k t 0x028A else s
  let s := s.ctxMsg k t 0x028A 0 0 [packWord [(0, 12, s.outLabel k t), (16, 8, cls)]]
  s.log k Ev.tunQuarantine t [cls, s.outLabel k t, 0]

/-- Quarantine of a context that the port has for itself or shares (R162, R365): of T4 or T5 on the port alone. A control tunnel goes to Fault, and no
message can say so (log entry 127). -/
def State.quarantineShared (s : State) (k t p cls : Nat) : State :=
  let x := s.port k p
  let s := if t < 4 then (if s.tunState k t = 2 then s.faultCtx k t 0x028A else s)
    else (s.setPort k p (if t = 5 then { x with pipFault := true } else { x with timeFault := true })).discardQueued k t p
  let s := if t < 4 then s else s.sendMsg k p 0x028A [packWord [(0, 12, s.cellLabel k t p), (16, 8, cls)]]
  s.log k Ev.tunQuarantine t [cls, s.cellLabel k t p, 0, p]

/-! ### Husk conditions (R111) -/

/-- A mapped signal of the kernel names the port as its pip source or destination (R349). -/
def State.pipOnPort (s : State) (k p : Nat) : Bool :=
  (List.range 256).any fun g =>
    let c := s.reg (Reg.SMAP_CTRL k g)
    bitAt c 31 && ((fld c 0 3 == 2 && s.rf (Reg.SMAP_SRC k g) 0 2 == p) || (fld c 12 2 == 1 && s.rf (Reg.SMAP_DST k g) 0 2 == p))

/-- The port is the selected timebase source of a kernel that has one (R330). -/
def State.timeSourcePort (s : State) (k p : Nat) : Bool :=
  (List.range s.variant.kernels).any fun n =>
    let i := s.rf (Reg.TIME_STATE n) 4 3
    let w := s.reg (Reg.TIME_SRC n i)
    decide (i < 6) && fld w 0 3 == 3 && fld w 4 3 == k && fld w 8 2 == p

/-- The first Husk condition that fails at this end, as its Table 3.13 code; a policy other than 2 shows the port state (log entry 15). -/
def State.huskRefusal (s : State) (k p : Nat) : Option Nat :=
  if s.rf (Reg.LNK_CTRL k p) 0 2 ≠ 2 then some (s.portState k p)
  else if (s.portCtxs k p).any fun c => s.tunType c.1 c.2 == 3 || decide (s.rf (Reg.TUN_SCHED c.1 c.2) 8 4 ≤ 1) then some 0x10
  else if s.timeSourcePort k p then some 0x11
  else if s.pipOnPort k p then some 0x13
  else none

/-- Husk entered: HUSK_ENTER sent and the lane PLLs stopped (R111). -/
def State.enterHusk (s : State) (k p : Nat) : State :=
  let s := s.sendOnLanes k p 4 .huskEnter
  let s := (s.setPwr k p 2).bump (Reg.LNK_HUSK_ENTRIES k (s.linePort k p)) 1
  (s.setPort k p { s.port k p with huskAsked := false, rxShell := false }).quietStep

/-- HUSK_REQ sent (R111). -/
def State.askHusk (s : State) (k p : Nat) : State :=
  (s.setPort k p { s.port k p with huskAsked := true }).sendMsg k p 0x0183 []

/-- LNK_BACKOFF: the remaining wait in 0.1 s and the failure count (Table 3.14). -/
def State.backoffWord (s : State) (k p : Nat) : Word :=
  let left := if s.portState k p = 5 then ceilDiv ((s.port k p).backoffEnd - s.now) 100000000 else 0
  packWord [(0, 16, left), (16, 8, s.rf (Reg.LNK_BACKOFF k p) 16 8)]

/-! ### Plies (R117 to R119) -/

/-- Raw routes that enter or leave by a port or its ply. -/
def State.portRoutes (s : State) (k p : Nat) : List (Nat × Nat) :=
  s.routes.filter fun r => s.samePly (r.1, s.routeInPort r.1 r.2) (k, p) || s.samePly (s.routeOutK r.1 r.2, s.routeOutP r.1 r.2) (k, p)

/-- Both members of a pair face the same partner, on a pair that the far part can join as a tight ply (R117). -/
def State.tightCondition (s : State) (k a : Nat) : Bool :=
  let x := s.port k a
  let y := s.port k (a + 1)
  let far (z : Port) : Nat × Nat := (byteAt z.ident 8 / 16 % 8, byteAt z.ident 9 % 4)
  s.portOpen k a && s.portOpen k (a + 1)
    && s.rf (Reg.LNK_STATE k a) 4 2 == 0 && s.rf (Reg.LNK_STATE k (a + 1)) 4 2 == 0
    && s.rf (Reg.LNK_STATE k a) 8 2 == s.rf (Reg.LNK_STATE k (a + 1)) 8 2
    && s.partnerHash k a == s.partnerHash k (a + 1)
    && (far x).1 == (far y).1 && (far x).2 / 2 == (far y).2 / 2 && (far x).2 != (far y).2
    && byteAt x.ident 11 / 4 % 2 == 1 && byteAt y.ident 11 / 4 % 2 == 1
    && s.portPly k a == 0 && s.portPly k (a + 1) == 0
    && [a, a + 1].all fun p => (s.portCtxs k p).isEmpty && (s.portRoutes k p).isEmpty

/-- The members of a loose ply Kn.P3 and Km.P2 are Open to the same partner identity (R118). -/
def State.looseCondition (s : State) (n m : Nat) : Bool :=
  s.portOpen n 3 && s.portOpen m 2 && s.partnerHash n 3 == s.partnerHash m 2 && s.portPly n 3 == 0 && s.portPly m 2 == 0

/-- A tight ply begins to form: all stitches stop and TRAIN with LANES 1 is sent on all four lanes (R117 step 2). -/
def State.tightForming (s : State) (k a : Nat) : State := (s.setRf (plyTightReg k a) 0 2 1).sendTrain k a false 1

/-- A tight ply is formed (R117 steps 4 and 5): 2,048 stitches in empty tables, a new epoch, the ceiling of a ply unless software had lowered it, and one
control tunnel, whose far end is that of the partner's first member (R127, R170). -/
def State.tightFormed (s : State) (k a : Nat) : State :=
  let s := [a, a + 1].foldl (fun s p => ((s.clearRows k p 1024).setRf (Reg.LNK_STATE k p) 10 2 1).dropMate k p) s
  let s := s.clearRows k a 2048
  let s := s.setRf (Reg.ROW_CEIL k a) 0 11 (if s.rf (Reg.ROW_CEIL k a) 0 11 = 920 then 1840 else s.rf (Reg.ROW_CEIL k a) 0 11)
  let s := s.setRf (Reg.ROW_EPOCH k a) 0 16 (s.rf (Reg.ROW_EPOCH k a) 0 16 + 1)
  let s := s.setRf (Reg.TUN_LABELS k a) 16 12 (s.farControl k a)
  let s := if s.tunState k (a + 1) = 0 then s else (s.setCtx k (a + 1) {}).moveCtx k (a + 1) 0 portEvent
  (s.setPort k a { s.port k a with row := 0, pos := 0 }).setRf (plyTightReg k a) 0 2 2

/-- Members of a tight ply go back to separate ports by cast-on from step 3, with a failure count of 0 (R117, R121). -/
def State.tightApart (s : State) (k a : Nat) : State :=
  let s := if s.isTight k a then s.untie k a 0 else s.setReg (plyTightReg k a) 0
  [a, a + 1].foldl (fun s p =>
    ((s.leaveOpen k p 2).setRf (Reg.LNK_BACKOFF k p) 16 8 0).startCast k p 3 none) s

/-- The cells of a bucket that enter member v wait for a fence (R192). -/
def State.raiseFence (s : State) (n b v : Nat) : State :=
  let x := s.kern n
  if x.fences.any fun f => f.set == 0 && f.bucket == b then s
  else s.setKern n { x with fences := x.fences ++ [s.newFence n 0 b v] }

/-- A tunnel that member i of a new loose ply carried so far: a gauged one stays on that member, which MEMBER names; flows of another whose bucket
names the other member move there behind a fence (R118, R190, Table 4.7). -/
def State.pinTunnel (s : State) (n k t i : Nat) : State :=
  let s := s.setRf (Reg.TUN_PATH k t) 10 1 i
  let out := s.outLabel k t
  if s.gauge (s.gaugePort k t).1 (s.gaugePort k t).2 out ≠ 0 then s
  else
    let moved := (if s.tunType k t = 6 ∧ s.rf (Reg.TUN_OPTS k t) 0 2 = 1 then List.range 256 else [bucketOf out []]).filter fun b => b % 2 ≠ i
    moved.foldl (fun s b => s.raiseFence n b (1 - i)) s

/-- A loose ply is formed (R118): flows are pinned to its members by the default buckets, and tunnels of the P2 member show the ply; what
they hold stays with that member. -/
def State.looseFormed (s : State) (n m : Nat) : State :=
  let l3 := s.portCtxs n 3
  let l2 := s.portCtxs m 2
  let s := (s.setRf (Reg.LNK_STATE n 3) 10 2 2).setRf (Reg.LNK_STATE m 2) 10 2 2
  let s := ((((s.setReg (Reg.PLY_LOOSE n) (packWord [(0, 2, 2), (4, 3, m)])).dropMate n 3).dropMate m 2).rekeyRoutes m 2 0 1).defaultBuckets n 0
  let s := s.movePath l2 n 3
  let s := s.forCtxs l2 fun s k t =>
    let x := s.ctx k t
    (s.setCtxAt k t 1 (({} : Ctx).withLink x)).setCtx k t (x.withLink {})
  let s := s.forCtxs l3 fun s k t => s.pinTunnel n k t 0
  s.forCtxs l2 fun s k t => s.pinTunnel n k t 1

end Sys2Proof.Machine
end

