-- ==== Sys2Proof/Machine/LinkCmds.lean ====
section
/-! DEFINITION. The link-port commands (Table 3.12). TARGET.SUB names the port, or the first member of a ply. -/

namespace Sys2Proof.Machine

/-- A command allowed in some port states: else WRONG_STATE with the port's code (R122). -/
def portIn (s : State) (k p : Nat) (sts : List Nat) : Check := (!sts.contains (s.portState k p), .wrongState, s.portState k p)

def cmdPortInfo : Cmd where
  opcode := 0x0101
  domain := portDomain
  bad r _ _ := [badSub r 4]
  act r k s :=
    let p := reqSub r
    .ok s [s.reg (Reg.LNK_STATE k p), s.reg (Reg.LNK_PARTNER_ID_LO k p), s.reg (Reg.LNK_PARTNER_ID_HI k p),
           s.reg (Reg.LNK_CAST_STEP k p), s.backoffWord k p]

def execPortInfo (r : Req) (s : State) : Result := onCommand cmdPortInfo r s

def cmdPortCastOn : Cmd where
  opcode := 0x0102
  domain := portDomain
  minLen := 4
  bad r _ _ := [badSub r 4, (decide (reqField r 12 0 2 = 0) || decide (reqField r 12 2 2 = 3), .badParam, 12)]
  act r k s :=
    let p := reqSub r
    .checked
      [portIn s k p [0, 1, 5], (!(s.port k p).attached, .wrongState, s.portState k p), jobLimit s] s
      (let n := s.newJobNum
       let s := s.startJob 0x0102 r k 9 [word p]
       .accepted n ((s.startCast k p (s.recastStep k p) (some (reqField r 12 0 2, reqField r 12 2 2))).castJobStep k p) [])

def execPortCastOn (r : Req) (s : State) : Result := onCommand cmdPortCastOn r s

/-- The job of a port that holds it against another command: a ply job (R57). -/
def portHeld (s : State) (k p : Nat) : Check := heldBy (s.plyJob? [(k, p)])

def cmdPortBindOff : Cmd where
  opcode := 0x0103
  domain := portDomain
  minLen := 4
  bad r _ _ := [badSub r 4, (decide (1000 < (reqWord r 12).toNat), .badParam, 12)]
  act r k s :=
    let p := reqSub r
    .checked [portIn s k p [2, 3], portHeld s k p, jobLimit s] s
      (let n := s.newJobNum
       let d := drainOf (reqWord r 12).toNat
       let s := s.startJob 0x0103 r k 5 [word p]
       if s.portState k p = 2 then .accepted n (((s.castOff k p 1).jobStep n 5).endJob n .done 0 0) []
       else
         let s := s.endPortJob k p 0x0102 .failed (statusCode .wrongState) 0
         .accepted n ((s.startBind k p 1 d).sendMsg k p 0x0181 [word d]) [])

def execPortBindOff (r : Req) (s : State) : Result := onCommand cmdPortBindOff r s

/-- PWR_POLICY changed (R113): a port in a state that the policy no longer allows wakes at once. -/
def State.setPolicy (s : State) (k p v : Nat) : State :=
  let s := s.setRf (Reg.LNK_CTRL k p) 0 2 v
  if v < s.rf (Reg.LNK_STATE k p) 4 2 then s.wakePort k p else s

def cmdPortPowerState : Cmd where
  opcode := 0x0104
  domain := portDomain
  minLen := 12
  bad r _ _ :=
    [badSub r 4, (decide (reqField r 12 0 2 = 3), .badParam, 12),
     (decide ((reqWord r 16).toNat < 64) || decide (65535 < (reqWord r 16).toNat), .badParam, 16),
     (decide ((reqWord r 20).toNat < 1) || decide (1000 < (reqWord r 20).toNat), .badParam, 20)]
  act r k s :=
    let p := reqSub r
    let s' := ((s.setPolicy k p (reqField r 12 0 2)).setReg (Reg.LNK_SHELL_IDLE k p) (reqWord r 16)).setReg
      (Reg.LNK_HUSK_IDLE k p) (reqWord r 20)
    .checked
      [portIn s k p [3],
       (reqBit r 12 8 && (s'.huskRefusal k p).isSome, .wrongState, (s'.huskRefusal k p).getD 0)] s
      (.ok (if reqBit r 12 8 then s'.askHusk k p else s') [])

def execPortPowerState (r : Req) (s : State) : Result := onCommand cmdPortPowerState r s

def cmdPortEqSelect : Cmd where
  opcode := 0x0105
  domain := portDomain
  minLen := 4
  bad r _ _ :=
    let v := reqField r 12 0 8
    [badSub r 4, (decide (15 < v) && decide (v ≠ 255), .badParam, 12)]
  act r k s :=
    let p := reqSub r
    let v := reqField r 12 0 8
    let s :=
      if v = 255 then s.setRb (Reg.LNK_EQ_SEL k p) 8 false
      else (s.setRb (Reg.LNK_EQ_SEL k p) 8 true).setRf (Reg.LNK_EQ_SEL k p) 12 4 v
    .ok (if s.portState k p = 6 then s.useRow k p (s.eqRow k p (s.port k p).media) else s) []

def execPortEqSelect (r : Req) (s : State) : Result := onCommand cmdPortEqSelect r s

/-- A port leaves Test: a loopback and a PRBS test on it end (R83, R100). -/
def State.leaveTest (s : State) (k p : Nat) : State :=
  let s := ((s.setPortState k p 0).setRb (Reg.DIAG_LOOP k) p false).setRb (Reg.DIAG_LOOP k) (4 + p) false
  s.setPort k p { s.port k p with prbs := 0 }

def cmdPortAlignMode : Cmd where
  opcode := 0x0106
  domain := portDomain
  minLen := 4
  bad r _ _ := [badSub r 4]
  act r k s :=
    let p := reqSub r
    .checked [portIn s k p [0, 1, 5, 6]] s
      (.ok (if reqBit r 12 0 then s.setPortState k p 6
            else if s.portState k p = 6 then s.leaveTest k p else s) [])

def execPortAlignMode (r : Req) (s : State) : Result := onCommand cmdPortAlignMode r s

/-- A bit slip: the offset moves by n modulo 195, later or earlier (R100). -/
def slipped (offset n : Nat) (earlier : Bool) : Nat := if earlier then (offset + 195 - n) % 195 else (offset + n) % 195

def cmdPortBitSlip : Cmd where
  opcode := 0x0107
  domain := portDomain
  minLen := 8
  bad r _ _ := [badSub r 4, (decide ((reqWord r 16).toNat < 1) || decide (194 < (reqWord r 16).toNat), .badParam, 16)]
  act r k s :=
    let p := reqSub r
    let l := reqField r 12 0 1
    let a := Reg.LANE_ALIGN k p l
    .checked [portIn s k p [6]] s
      (let s := s.setRf a 0 8 (slipped (s.rf a 0 8) (reqWord r 16).toNat (reqBit r 12 8))
       .ok s.fresh.2 [setFld (s.reg a) 16 6 (s.fresh.1.toNat % 33)])

def execPortBitSlip (r : Req) (s : State) : Result := onCommand cmdPortBitSlip r s

/-- The counts of a PRBS test as read: what the lanes have counted is the environment's, an open value (log entry 5). A stopped lane
shows 0 bits beside its last error count (DESIGN CHOICE, log entry 109). -/
def State.readPrbs (s : State) (k p mask : Nat) : List Word × State :=
  ([0, 1].filter fun l => mask / 2 ^ l % 2 == 1).foldl (fun (acc : List Word × State) l =>
    if (s.port k p).prbs / 2 ^ l % 2 = 1 then
      let e := acc.2.fresh
      let b := e.2.fresh
      (acc.1 ++ [e.1, b.1], b.2.setReg (Reg.LANE_PRBS_ERR k p l) e.1)
    else (acc.1 ++ [acc.2.reg (Reg.LANE_PRBS_ERR k p l), 0], acc.2)) ([], s)

def cmdPortPrbs : Cmd where
  opcode := 0x0108
  domain := portDomain
  minLen := 4
  bad r _ _ := [badSub r 4, (decide (reqField r 12 0 2 = 3), .badParam, 12)]
  act r k s :=
    let p := reqSub r
    let mask := reqField r 12 8 2
    let x := s.port k p
    .checked [portIn s k p [6]] s
      (match reqField r 12 0 2 with
       | 0 => .ok (s.setPort k p { x with prbs := x.prbs &&& (3 - mask) }) []
       | 1 => .ok (s.setPort k p { x with prbs := x.prbs ||| mask }) []
       | _ => let q := s.readPrbs k p mask; .ok q.2 q.1)

def execPortPrbs (r : Req) (s : State) : Result := onCommand cmdPortPrbs r s

/-- PLY_REQ on both control tunnels (R117 step 1); a loose request names the sender's neighbour kernel. -/
def State.sendPlyReq (s : State) (k p kind nb : Nat) : State :=
  (plyMembers k p kind nb).foldl (fun s m => s.sendMsg m.1 m.2 0x0186 [packWord [(0, 1, kind), (4, 3, if kind = 1 then nb else 0)]]) s

/-- PLY_FORM (R117, R118). A neighbour that is no seam neighbour and a SUB that does not match the kind answer BAD_PARAM at their bytes (DESIGN CHOICE,
log entry 108). -/
def cmdPlyForm : Cmd where
  opcode := 0x0109
  domain := portDomain
  minLen := 4
  bad r k s :=
    let kind := reqField r 12 0 1
    [(decide (3 < reqSub r) || (decide (kind = 0) && decide (reqSub r % 2 = 1)) || (decide (kind = 1) && decide (reqSub r ≠ 3)),
        .badParam, 4),
     (decide (kind = 1) && decide (r.plen < 8), .badParam, 6),
     (decide (kind = 1) && !((List.range 3).any fun i => seamPeer s.variant k i == some (reqWord r 16).toNat), .badParam, 16)]
  act r k s :=
    let p := reqSub r
    let kind := reqField r 12 0 1
    let nb := (reqWord r 16).toNat
    .checked
      (((plyMembers k p kind nb).map fun m => portIn s m.1 m.2 [3]) ++ ((plyMembers k p kind nb).map fun m => portHeld s m.1 m.2) ++
       [(!(if kind = 0 then s.tightCondition k p else s.looseCondition k nb), .wrongState, 0x12), jobLimit s]) s
      (let n := s.newJobNum
       let s := s.startJob 0x0109 r k (if kind = 0 then 5 else 2) [word p, word kind, word nb]
       let s := if kind = 1 then s.setReg (Reg.PLY_LOOSE k) (packWord [(0, 2, 1), (4, 3, nb)]) else s
       .accepted n (s.sendPlyReq k p kind nb) [])

def execPlyForm (r : Req) (s : State) : Result := onCommand cmdPlyForm r s

/-- The P2 member of the loose ply of Kn.P3 carries a tunnel: the member of its gauge, or without one the member of its bucket (R118, R190). -/
def State.onSecond (s : State) (n k t : Nat) : Bool :=
  let e := s.gaugePort k t
  if s.gauge e.1 e.2 (s.outLabel k t) = 0 then s.bucketMember (Reg.HASH_PLY n 0) (bucketOf (s.outLabel k t) []) == 1 else s.rb (Reg.TUN_PATH k t) 10

/-- A tunnel of a loose ply whose flows both members carry (R190). -/
def State.spreads (s : State) (k t : Nat) : Bool :=
  s.tunType k t == 6 && s.rf (Reg.TUN_OPTS k t) 0 2 == 1 && s.gauge (s.gaugePort k t).1 (s.gaugePort k t).2 (s.outLabel k t) == 0

/-- A loose ply of Kn.P3 with Km.P2 splits (R121): a tunnel stays with the member it is pinned to, one that spreads its flows with both, each on the
port that it is pinned to; and raw routes leave by the port that their label names. -/
def State.looseSplit (s : State) (n m : Nat) : State :=
  let hi := (n, 3)
  let lo := (m, 2)
  let all := s.portCtxs n 3
  let both := all.filter fun c => s.spreads c.1 c.2
  let one := all.filter fun c => !s.spreads c.1 c.2
  let second := one.filter fun c => s.onSecond n c.1 c.2
  let outs := (s.portRoutes n 3).filterMap fun r =>
    if s.samePly (s.routeOutK r.1 r.2, s.routeOutP r.1 r.2) hi then some (r, s.routeEgress r.1 r.2) else none
  let s := (s.setRf (Reg.LNK_STATE n 3) 10 2 0).setRf (Reg.LNK_STATE m 2) 10 2 0
  let s := ((s.dropFences n).movePath second lo.1 lo.2).setReg (Reg.PLY_LOOSE n) 0
  let s := s.forCtxs one fun s a t => (s.mergeMembers a t (if second.contains (a, t) then 1 else 0)).setRb (Reg.TUN_PATH a t) 10 false
  let s := s.forCtxs both fun s a t => s.setCtx a t { s.ctx a t with split := some (hi, lo) }
  let s := outs.foldl (fun s r =>
    (s.setRf (Reg.RAW_ROUTE_B r.1.1 r.1.2) 0 3 r.2.1).setRf (Reg.RAW_ROUTE_B r.1.1 r.1.2) 4 2 r.2.2) s
  s.rekeyRoutes m 2 1 0

def cmdPlySplit : Cmd where
  opcode := 0x010A
  domain := portDomain
  bad r _ _ := [badSub r 4]
  act r k s :=
    let p := reqSub r
    .checked
      [(s.portPly k p == 0, .wrongState, 0x12),
       (s.isTight k p && !((s.portCtxs k p).isEmpty && (s.portRoutes k p).isEmpty), .wrongState, 0x12), portHeld s k p, jobLimit s] s
      (let n := s.newJobNum
       let s := s.startJob 0x010A r k 1 [word p]
       let h := s.plyHead k p
       let s := if s.isTight k p then s.tightApart k (p / 2 * 2)
         else match s.loosePeer h.1 h.2 with
           | none => s
           | some v => s.looseSplit h.1 v.1
       .accepted n (s.endJob n .done 0 0) [])

def execPlySplit (r : Req) (s : State) : Result := onCommand cmdPlySplit r s

end Sys2Proof.Machine
end

