-- ==== Sys2Proof/Machine/LinkEvents.lean ====
section
/-! DEFINITION. What happens on the cable of a link port (R96 to R124, R432 to R435): attach, cast-on messages, markers, the low-power
states, bind-off and plies. Each meaning is one event that the environment brings about; where the port is not in the state that the
event belongs to, nothing changes. -/

namespace Sys2Proof.Machine

/-- An event at a port: it takes effect where its condition holds. -/
def onPort (k p : Nat) (c : Bool) (s : State) (f : State) : Result := onUnit s (s.hasPort k p) (if c then f else s)

/-! ### Attach (R104, R116) -/

def execModuleAttach (k p : Nat) (s : State) : Result :=
  onPort k p (!isTypeC k p && !(s.port k p).attached) s
    (let s := s.setPort k p { s.port k p with attached := true, ready := false, modulePower := true, noMode := false }
     if s.kernelState k == 2 && [0, 1].contains (s.portState k p) && s.rb (Reg.LNK_CTRL k p) 6 then s.startCast k p 1 none else s)

/-- The entries of 16 bytes in a match list (Table 14.16). -/
def matchEntries (fuel : Nat) (bs : List Byte) : List (List Byte) :=
  match fuel with
  | 0 => []
  | fuel + 1 => if bs.length < 16 then [] else bs.take 16 :: matchEntries fuel (bs.drop 16)

/-- An entry matches a module on port p: media type, length in 0.1 m, and the vendor OUI where it gives one (R102). -/
def entryMatches (p mtype len oui : Nat) (e : List Byte) : Bool :=
  byteAt e 0 % 4 == p && byteAt e 1 == mtype && decide (numAt e 2 2 ≤ len) && (decide (numAt e 4 2 = 0xFFFF) || decide (len ≤ numAt e 4 2))
    && (byteAt e 9 % 2 == 0 || numAt e 6 3 == oui)

/-- The row that the match list of the board table gives a module, 0 without a match, and NO_FAST_IDLE (R102, R104). -/
def State.matchModule (s : State) (k p mtype len oui : Nat) : Nat × Bool :=
  let l := smapGet (fun _ => []) s.images.modules k
  match (matchEntries l.length l).find? (entryMatches p mtype len oui) with
  | some e => (byteAt e 0 / 16, byteAt e 9 / 2 % 2 == 1)
  | none => (0, false)

/-- A module has reported ready, and its identity has been read: the media type of byte 0, its length in 0.1 m, its vendor OUI and the code of the
highest rate that it supports. -/
def execModuleReady (k p mtype len : Nat) (maker : ModuleMaker) (s : State) : Result :=
  onPort k p ((s.port k p).attached && !(s.port k p).ready) s
    (let m := s.matchModule k p mtype len maker.oui
     let s := s.setPort k p { s.port k p with ready := true, media := m.1, slowIdle := m.2, modRate := maker.rate }
     if s.castAt k p 1 then ((s.useRow k p (s.eqRow k p m.1)).castTo k p 3).castJobStep k p else s)

def execModuleDetach (k p : Nat) (s : State) : Result := onPort k p (s.port k p).attached s (s.detachPort k p)

/-! ### Lanes (R96 to R99) -/

/-- A tight ply that fails to form: both members record the reason where one is given, and cast on again from step 3; the job fails (R98, R117, log
entry 16). -/
def State.plyFails (s : State) (k p : Nat) (reason : Option Nat) : State :=
  let a := p / 2 * 2
  let s := match reason with | some r => (s.castReason k a r).castReason k (a + 1) r | none => s
  (s.endPortJob k a 0x0109 .failed (statusCode .wrongState) 0x12).tightApart k a

/-- The ROW that a training burst carries. -/
def trainRow (ls : List (Nat × Bool × TrainInfo)) : Nat := (ls.head?.map fun a => a.2.2.row).getD 0

/-- A tight ply one of whose members trains at a lower rate steps down to it as a whole (Table 3.11). -/
def State.plySteps (s : State) (k p : Nat) (ls : List (Nat × Bool × TrainInfo)) : State :=
  let a := p / 2 * 2
  let now := s.rf (Reg.LNK_STATE k a) 8 2
  match (List.range ls.length).find? fun j => decide (s.isTight k p) && (ls[j]?.any fun x => decide (0 < x.2.2.rate) && decide (x.2.2.rate < now)) with
  | none => s
  | some j =>
    let r := (ls.map fun x => max 1 x.2.2.rate).foldl min now
    ((s.setRate k a r).setRate k (a + 1) r).log k Ev.plyDegraded a [1, 4 * k + a + j / 2, 3]

/-- A training burst on all lanes of a port or forming ply (R96 to R98, R105, R106, R110, R112, R117). A step that waits for RXLOCK answers with its own
until the far end has locked too. -/
def State.trained (s : State) (k p : Nat) (ls : List (Nat × Bool × TrainInfo)) : State :=
  let lock := ls.all fun a => a.2.2.rxlock
  let t := s.lockTrain k p ls
  if s.castAt k p 3 then
    if 8 < skewOf ls then s.castFail k p 0x04
    else if lock then (t.startIdent k p).castJobStep k p else t.sendTrain k p true 1
  else if s.plyForming k p then
    if 64 < skewOf ls then s.plyFails k p (some 0x04)
    else
      let t := t.setRf (plyTightReg k p) 8 8 (64 - skewOf ls)
      if lock then t.stepPortJob k (p / 2 * 2) 0x0109 4 else t.sendTrain k p true 1
  else if s.castAt k p 7 then t
  else if [3, 4].contains (s.portState k p) then
    let q := s.linePort k p
    let x := t.port k q
    let t := t.setPort k q { x with row := if x.rowFromTrain then trainRow ls else x.row, rowFromTrain := false,
                                    retrain := x.retrain && !lock }
    (if x.retrain && !lock then t.sendTrain k p true 1 else t).plySteps k p ls
  else s

/-- The bits of 33 blocks that each received lane of the port, or of all four of a ply, has shown up to now: a training burst, or what a hunting lane
may lock on. -/
def execTrainRx (k p lanes stream0 stream1 stream2 stream3 : Nat) (s : State) : Result :=
  onPort k p true s
    (let streams := [stream0, stream1, stream2, stream3].take lanes
     match s.trainLocks k p streams with
     | some ls => s.trained k p ls
     | none => if [3, 4].contains (s.portState k p) then s.relock k p streams else s)

/-- Headers that a lane has received since the last stitch or marker of the port (R96). -/
def execLaneLockLoss (k p : Nat) (shown : LaneHeaders) (s : State) : Result :=
  onUnit s (s.hasPort k p && decide (shown.lane < 2)) (s.rxHeaders k p shown.lane shown.headers)

/-- R99: the link of an Open port that has not relocked is lost; with its attach still present it casts on again under AUTO_CAST_ON.
A Binding port that has lost its link goes Off (R114). -/
def execRelockTimeout (k p : Nat) (s : State) : Result :=
  onPort k p ([3, 4].contains (s.portState k p) && (s.port k p).hunting != 0) s
    (let lanes := (s.port k p).hunting
     let rows := s.rf (Reg.LNK_RELOCK_ROWS k p) 0 7
     let binding := s.portState k p == 4
     let s := (s.log k Ev.linkLost p [lanes, rows]).portLost k p false
     if binding then s else s.autoCast k p)

/-! ### Cast-on (R105 to R108, R115, R123) -/

/-- The reason of a step's own time limit (Table 3.6); steps 2, 6 and 7 have none of their own (log entry 17). -/
def stepTimeout (st : Nat) : Option Nat :=
  match st with
  | 1 => some 0x01
  | 3 => some 0x03
  | 4 => some 0x10
  | 5 => some 0x56
  | 8 => some 0x40
  | _ => none

/-- A failure of step 5 (R434): logged, and cast-on fails. -/
def State.authFail (s : State) (k p reason : Nat) : State := (s.log k Ev.linkAuthFail p [p, reason]).castFail k p reason

/-- The time limit of the step in progress runs out. At step 9 the port is Open: it fails where its control tunnel is not (Table 3.6, R166). -/
def execCastOnStepTimeout (k p : Nat) (s : State) : Result :=
  onPort k p true s
    (if s.plyForming k p then s.plyFails k p none
     else if s.portState k p = 2 then
       match stepTimeout (s.castStep k p) with
       | some reason => if reason = 0x56 then s.authFail k p reason else s.castFail k p reason
       | none => s
     else if s.portOpen k p ∧ s.castStep k p = 9 ∧ s.tunState k (s.ctrlCtx k p) ≠ 2 then (s.leaveOpen k p 2).castFail k p 0x41
     else s)

def execBackoffExpiry (k p : Nat) (s : State) : Result :=
  onPort k p (s.portState k p == 5) s (s.startCast k p (s.recastStep k p) none)

/-- K0's derivation engine can serve (R420): K0 runs with its SEC domain on, and the root is present and whole. -/
def State.engineUp (s : State) : Bool :=
  s.kernelRuns 0 && s.domainOn 0 12 && s.rb (Reg.ROOT_STATUS 0) 0 && s.rb (Reg.ROOT_STATUS 0) 1

/-- Step 5 begins: AUTH_HELLO with a fresh public key and nonce; without the engine it fails with ROOT (R420, R433). It wakes the SEC domains
that it needs (Table 15.1), and goes on when they are on. -/
def State.startAuth (s : State) (k p : Nat) : State :=
  let s := (s.castTo k p 5).castJobStep k p
  let off := s.kernelRuns 0 && !(s.domainOn 0 12 && s.domainOn k 12)
  let s := if off then (s.wakeDomain k 12).wakeDomain 0 12 else s
  let s := s.setPort k p { s.port k p with helloDue := off }
  if off then s
  else if s.engineUp && s.drbgUp k then
    let r := s.freshBytes 129
    r.2.castSend k p 0x50 r.1
  else s.authFail k p 0x55

/-- Held tunnels of a port close at once where the partner is not the one of the last session; a token of zero never matches (R167). -/
def State.checkSession (s : State) (k p : Nat) : State :=
  let x := s.port k p
  let tok := numAt x.ident 20 8
  if x.sessId = some (numAt x.ident 0 8) ∧ x.myTok = some tok ∧ tok ≠ 0 then s
  else (s.forCtxs (s.heldCtxs k p) fun s n t => s.closeCtx n t portEvent).dropMate k p

/-- A port whose lanes carry cast-on messages: Casting at step 4 or a later one. -/
def State.castHears (s : State) (k p : Nat) : Bool := s.portState k p == 2 && decide (4 ≤ s.castStep k p)

def isLinkMsg (c : Control) : Bool := match c with | .linkMsg _ _ _ _ => true | _ => false

/-- The LINK_MSG blocks among blocks that arrive at a port (R123). -/
def State.castMsgs (s : State) (k p : Nat) (blocks : List Block) : List Control := (controlsOf (s.receive k p blocks).1).filter isLinkMsg

/-- A cast-on message that step `st` expects (R123): one that another step gets, and one malformed, fails the step in progress with MALFORMED. Blocks
that carry none of it change no step. -/
def onCast (k p st msg len : Nat) (blocks : List Block) (s : State) (f : List Byte → State → State) : Result :=
  onPort k p (s.castHears k p) s
    (let cs := s.castMsgs k p blocks
     let t := (s.receive k p blocks).2
     if cs.isEmpty then t
     else if s.castStep k p ≠ st then t.castFail k p 0x11
     else
       match assemble msg len cs with
       | none => t.castFail k p 0x11
       | some body => f body t)

/-- A message of step 5 that no fragment shows here: it fails any other step of cast-on (R123; DESIGN CHOICE for steps 5 and 8, log entry 110). -/
def onAuth (k p : Nat) (s : State) (f : State) : Result :=
  onPort k p (s.castHears k p) s (if s.castStep k p = 5 then f else s.castFail k p 0x11)

def execIdent (k p : Nat) (blocks : List Block) (s : State) : Result :=
  onCast k p 4 0x10 40 blocks s fun body s =>
       let s := s.setPort k p { s.port k p with ident := body, newFarTok := some (numAt body 28 8) }
       let s := s.setReg (Reg.LNK_PARTNER_ID_LO k p) (word (numAt body 0 4))
       let s := (s.setReg (Reg.LNK_PARTNER_ID_HI k p) (word (numAt body 4 4))).checkSession k p
       let near := s.authMode k p
       let far := byteAt body 9 / 16 % 4
       if near = 2 ∨ far = 2 then
         if near = 0 ∨ far = 0 then (s.castTo k p 5).authFail k p 0x50
         else (s.startRole k p).castJobStep k p
       else s.startAuth k p

/-- The chain that an identity slot sends (R433, R448): the board table's, or for the factory slot the factory's. -/
def State.certChain (s : State) (slot : Nat) : List Byte :=
  match s.images.chains.find? fun e => e.1 == slot with
  | some e => e.2
  | none => if slot = 0 then Config.factoryChain else []

/-- AUTH_HELLO: one malformed or out of order fails with MALFORMED and logs no EV_LINK_AUTH_FAIL (DESIGN CHOICE, log entry 110). -/
def execAuthHello (k p : Nat) (blocks : List Block) (s : State) : Result :=
  onCast k p 5 0x50 129 blocks s fun _ s =>
    if (s.port k p).authGot ≠ 0 then s.castFail k p 0x11
    else (s.setPort k p { s.port k p with authGot := 1 }).castSend k p 0x51 (s.certChain (fld (s.policyWord k p 0) 8 6))

/-- A trust anchor of the port (R432, R423): one of its four slots, KIND 3 with VERIFY, serving the Needles in the present state. -/
def State.isAnchor (s : State) (k p slot : Nat) : Bool :=
  ((List.range 4).any fun i => fld (s.policyWord k p 1) (8 * i) 8 == slot) && attrServes (s.keyAttr slot) 3 2 8 s.lifeCycle

/-- The partner's chain: `leaf` is the key hash of its leaf, `signed` says that each certificate verifies under the next, the last under
slot `anchor`, and that the CA and key-usage rules hold; `valid` that all validity periods contain the present time (R434). -/
def execAuthCert (k p leaf anchor : Nat) (signed valid : Bool) (s : State) : Result :=
  onAuth k p s
    (let checkTime := bitAt (s.policyWord k p 0) 2 && s.rf (Reg.TIME_STATE k) 0 2 == 2
     if (s.port k p).authGot ≠ 1 then s.castFail k p 0x11
     else if !signed || !s.isAnchor k p anchor || (checkTime && !valid) then s.authFail k p 0x51
     else if leaf ≠ s.partnerHash k p then s.authFail k p 0x53
     else if !s.engineUp then s.authFail k p 0x55
     else
       let r := (s.setPort k p { s.port k p with authGot := 2 }).freshBytes 96
       r.2.castSend k p 0x52 r.1)

def execAuthSig (k p : Nat) (good : Bool) (s : State) : Result :=
  onAuth k p s
    (if (s.port k p).authGot ≠ 2 then s.castFail k p 0x11
     else if !good then s.authFail k p 0x52
     else
       let r := (s.setPort k p { s.port k p with authGot := 3 }).freshBytes 16
       r.2.castSend k p 0x53 r.1)

/-- Step 5 ends: the partner is authenticated, and the port's traffic keys of phase 0 exist (R434, R435). -/
def execAuthDone (k p : Nat) (good : Bool) (s : State) : Result :=
  onAuth k p s
    (if (s.port k p).authGot ≠ 3 then s.castFail k p 0x11
     else if !good then s.authFail k p 0x54
     else
       let s := (s.setRb (Reg.LNK_STATE k p) 7 true).setReg (Reg.CRYPT_STATUS k p) 1
       let s := (s.setReg (Reg.CRYPT_TX_PN_LO k p) 0).setReg (Reg.CRYPT_TX_PN_HI k p) 0
       let s := s.setPort k p { s.port k p with phase := 0, phaseAt := s.now, rxPhase := 0, oldKeys := false }
       (s.startRole k p).castJobStep k p)

def execRoleMsg (k p : Nat) (blocks : List Block) (s : State) : Result :=
  onCast k p 6 0x20 16 blocks s fun body s =>
    let x := s.port k p
    match x.role with
    | none => (s.log k Ev.roleConflict p [x.castRole, farRolePref x]).castFail k p 0x20
    | some r =>
      if byteAt body 0 / 2 % 2 = 1 ∨ byteAt body 0 % 2 = r then s.castFail k p 0x20
      else (s.startRate k p 1).castJobStep k p

/-- A rate check starts at the next row marker: the lanes relock at the new rate, and TRAIN is sent (R106). -/
def execRateGo (k p : Nat) (blocks : List Block) (s : State) : Result :=
  onCast k p 7 0x30 16 blocks s fun body s =>
    if byteAt body 0 % 4 ≠ (s.port k p).rateTry then s.castFail k p 0x11
    else (s.setRate k p (s.port k p).rateTry).sendTrain k p false 1

/-- The outcome of a rate check once both ends' counts are known (R106, R123). -/
def State.rateVerdict (s : State) (k p : Nat) : State :=
  let x := s.port k p
  match x.myErr, x.farRes with
  | some e, some body =>
    if byteAt body 0 % 4 ≠ x.rateTry then s.castFail k p 0x11
    else if e = (0, 0) ∧ numAt body 4 4 = 0 ∧ numAt body 8 4 = 0 then
      let s := s.setPort k p { x with rateOk := x.rateTry }
      if x.rateTry < s.topRate k p then s.startRate k p (x.rateTry + 1) else (s.castTo k p 8).castJobStep k p
    else if x.rateTry ≤ 1 then s.castFail k p 0x30
    else
      let s := (s.log k Ev.rateFallback p [x.rateTry, x.rateOk]).setRate k p x.rateOk
      (s.castTo k p 8).castJobStep k p
  | _, _ => s

/-- LNK_PRBS_WINDOW ends with this end's error counts, and the bits compared on each lane in units of 2^20 (R106). -/
def execPrbsWindowEnd (k p err0 err1 bits : Nat) (s : State) : Result :=
  onPort k p (s.castAt k p 7 && (s.port k p).myErr.isNone) s
    (let x := s.port k p
     let s := s.setPort k p { x with myErr := some (err0, err1) }
     let s := (s.bump (Reg.LANE_PRBS_ERR k p 0) err0).bump (Reg.LANE_PRBS_ERR k p 1) err1
     (s.castSend k p 0x31 (numBytes x.rateTry 4 ++ numBytes err0 4 ++ numBytes err1 4 ++ numBytes bits 4)).rateVerdict k p)

def execRateResult (k p : Nat) (blocks : List Block) (s : State) : Result :=
  onCast k p 7 0x31 16 blocks s fun body s => (s.setPort k p { s.port k p with farRes := some body }).rateVerdict k p

/-! ### Row markers (R87, R90, R148) -/

/-- A row marker's lane blocks 0 arrive (R87, R90, R91): the receive scramblers are loaded and the row position is the marker's, or without a good
ROW_MARK the one counted. Answers ROW, EPOCH and TUNNEL_VALID of a good one. -/
def State.receiveMarker (s : State) (k p : Nat) (blocks : List Block) : Option (Nat × Nat × Bool) × State :=
  let q := s.linePort k p
  let lanes := s.laneCount k p
  let x := s.port k q
  let s := s.setPort k q { x with rxBlk := 0, rxScr := (List.range lanes).map scrSeed }
  let r := s.receive k p blocks
  let m := (controlsOf r.1).findSome? fun c => match c with | .rowMark _ _ row epoch v => some (row, epoch, v) | _ => none
  let row := (m.map (·.1)).getD (x.rxRow + 1)
  let b := 3 * (lanes / 2)
  (m, r.2.setPort k q { r.2.port k q with rxRow := row, rxBlk := b, rxScr := scrOf lanes b,
                                          markRx := some (row % 256, s.tai * 256 + s.taiFrac / 256) })

/-- Row sync on a marker with TUNNEL_VALID 1 (R105 step 8): the epochs are exchanged and the port is Open; or a tight ply is formed (R117 step 4). -/
def State.rowSynced (s : State) (k p epoch : Nat) : State :=
  if s.castAt k p 8 then ((s.setRf (Reg.ROW_EPOCH k p) 16 16 epoch).portOpens k p).castJobStep k p
  else if s.plyForming k p then
    let a := p / 2 * 2
    ((s.tightFormed k a).stepPortJob k a 0x0109 5).endPortJob k a 0x0109 .done 0 0
  else s

def execRowSync (k p : Nat) (blocks : List Block) (s : State) : Result :=
  onPort k p (s.castAt k p 8 || s.plyForming k p) s
    (match s.receiveMarker k p blocks with
     | (some (_, epoch, true), s) => s.rowSynced k p epoch
     | (_, s) => s)

/-- A new epoch is recorded and answered with EPOCH_ACK (R148). -/
def State.newEpoch (s : State) (k p epoch : Nat) : State :=
  let a := Reg.ROW_EPOCH k (s.rowPort k p)
  if s.rf a 16 16 = epoch then s
  else (s.setRf a 16 16 epoch).sendMsg k p 0x0287 [packWord [(0, 16, epoch), (16, 2, p)]]

def execRowMarkRx (k p : Nat) (first : Block) (others : List Block) (s : State) : Result :=
  onPort k p ([3, 4].contains (s.portState k p) || s.castHears k p) s
    (match s.receiveMarker k p (first :: others) with
     | (some (_, epoch, _), s) => if s.castHears k p then s else s.newEpoch k p epoch
     | (none, s) => s)

/-! ### Shell and Husk (R109 to R112) -/

/-- Blocks that end what the receiver hears, from the receive position on: SHELL_ENTER, HUSK_ENTER or BIND_END. -/
def onControl (k p : Nat) (c : Bool) (is : Control → Bool) (blocks : List Block) (s : State) (f : State → State) : Result :=
  onPort k p c s
    (let r := s.receive k p blocks
     if (controlsOf r.1).any is then f r.2 else r.2)

def execShellEnterRx (k : Nat) (rx : PortBlocks) (s : State) : Result :=
  onControl k rx.port (s.portOpen k rx.port) (· == .shellEnter) rx.blocks s fun s => s.setPort k rx.port { s.port k rx.port with rxShell := true }

def execHuskIdleExpiry (k p : Nat) (s : State) : Result :=
  onPort k p (s.portOpen k p && s.rf (Reg.LNK_STATE k p) 4 2 != 2 && (s.huskRefusal k p).isNone && !(s.port k p).huskAsked) s
    (s.askHusk k p)

/-! ### Link messages on a control tunnel -/

/-- The adapter takes the oldest whole packet that its context holds. -/
def State.takeRx (s : State) (k t p : Nat) : State :=
  let c := s.ctxAt k t p
  match c.rxq with
  | [] => s
  | _ :: rest => s.setCtxAt k t p { c with rxq := rest, changed := true }

/-- A link message that a port's control tunnel has delivered; without a control tunnel there is none (R126). -/
def onMsg (k p : Nat) (s : State) (f : State → State) : Result :=
  onPort k p ([3, 4].contains (s.portState k p)) s (f (s.takeRx k (s.ctrlCtx k p) p))

def execHuskReq (k p tag : Nat) (s : State) : Result :=
  onMsg k p s fun s =>
    if (s.port k p).huskAsked then s.enterHusk k p
    else
      match s.huskRefusal k p with
      | some c => s.sendAnswer k p 0x0185 tag [word c]
      | none => (s.sendAnswer k p 0x0184 tag []).enterHusk k p

def execHuskEnterRx (k : Nat) (rx : PortBlocks) (s : State) : Result :=
  onControl k rx.port (s.portOpen k rx.port && s.rf (Reg.LNK_STATE k rx.port) 4 2 != 2) (· == .huskEnter) rx.blocks s fun s => s.enterHusk k rx.port

/-! ### Bind-off (R114) -/

/-- A BIND_REQ: answered, and this end runs bind-off too. Where this end has sent its own, the requests merge. -/
def execBindReq (k p tag drain : Nat) (s : State) : Result :=
  onMsg k p s fun s =>
    let s := s.sendAnswer k p 0x0182 tag []
    let own := s.portState k p == 4
    let s := if own then s else s.startBind k p 2 (drainOf drain)
    (s.bindDrain k p).stepPortJob k p 0x0103 2

def execBindAck (k p : Nat) (s : State) : Result :=
  onMsg k p s fun s =>
    if s.portState k p = 4 ∧ (s.port k p).bindCause ≠ 2 then (s.bindDrain k p).stepPortJob k p 0x0103 2
    else s.violation k p 10 0 none

/-- The far end has not answered within 50 ms: the near end goes on alone, and its job will end PARTNER_TIMEOUT (R114). -/
def execBindTimeout (k p : Nat) (s : State) : Result :=
  onPort k p (s.portState k p == 4 && (s.port k p).bindCause != 2) s
    (let s := s.setPort k p { s.port k p with bindCause := 4 }
     (s.bindDrain k p).stepPortJob k p 0x0103 2)

/-- The end of bind-off at this end: Off, with the job's outcome (R114). -/
def State.bindEnds (s : State) (k p : Nat) : State :=
  let alone := (s.port k p).bindCause == 4
  let s := (s.stepPortJob k p 0x0103 5).finishBind k p
  if alone then s.endPortJob k p 0x0103 .failed (statusCode .partnerTimeout) 0
  else s.endPortJob k p 0x0103 .done 0 0

def execBindDrainEnd (k p : Nat) (s : State) : Result := onPort k p (s.portState k p == 4) s (s.bindEnds k p)

def isBindEnd (c : Control) : Bool := match c with | .bindEnd _ => true | _ => false

/-- BIND_END received: a Casting port stops its cast-on, with no failure counted; any other that is Open or Binding goes Off (R114). -/
def execBindEndRx (k : Nat) (rx : PortBlocks) (s : State) : Result :=
  onControl k rx.port true isBindEnd rx.blocks s fun s =>
    (match s.portState k rx.port with
     | 2 => s.castOff k rx.port 2
     | 3 => (s.startBind k rx.port 2 0).bindEnds k rx.port
     | 4 => s.bindEnds k rx.port
     | _ => s)

/-! ### Plies (R117 to R119) -/

/-- The loose ply that a request arriving on port (k, p) can mean: the kernels of its P3 and P2 members. -/
def State.looseFor (s : State) (k p : Nat) : Option (Nat × Nat) :=
  if p = 3 then (((List.range 3).filterMap fun i => seamPeer s.variant k i).find? fun m => s.looseCondition k m).map fun m => (k, m)
  else if p = 2 then ((List.range s.variant.kernels).find? fun n =>
    (List.range 3).any (fun i => seamPeer s.variant n i == some k) && s.looseCondition n k).map fun n => (n, k)
  else none

/-- A request for a ply with no own request beside it: this end joins, or answers PLY_NAK. -/
def State.joinPly (s : State) (k p tag kind : Nat) : State :=
  let a := p / 2 * 2
  let nak (detail : Nat) : State := s.sendAnswer k p 0x0187 tag [packWord [(0, 16, statusCode .wrongState), (16, 16, detail)]]
  if kind = 0 then
    if s.plyForming k p then s
    else if s.tightCondition k a then (s.sendPlyReq k a 0 0).tightForming k a
    else nak (if s.portOpen k p then 0x12 else s.portState k p)
  else if s.portPly k p = 2 then s
  else
    match s.looseFor k p with
    | some x => (s.sendPlyReq x.1 3 1 x.2).looseFormed x.1 x.2
    | none => nak 0x12

/-- A PLY_REQ (R119): it merges with an own request for the same members. Where the requests conflict, that of the end with the smaller identity hash
fails, and this end goes by the other one alone; the end with the larger hash has nothing to answer (DEDUCED, log entry 108). -/
def State.plyRequest (s : State) (k p tag kind : Nat) : State :=
  let a := p / 2 * 2
  match s.plyJob? (if kind = 0 then [(k, a), (k, a + 1)] else [(k, p)]) with
  | none => s.joinPly k p tag kind
  | some j =>
    if (j.args.getD 1 0).toNat = kind then
      if kind = 0 then if s.plyForming k p then s else (s.tightForming k a).jobStep j.num 2
      else if s.portPly k p = 2 then s
      else ((s.looseFormed j.kernel (j.args.getD 2 0).toNat).jobStep j.num 2).endJob j.num .done 0 0
    else if s.nearLarger k p then s
    else (s.failPly j (statusCode .partnerRefused) (statusCode .wrongState)).joinPly k p tag kind

def execPlyReq (k p tag kind : Nat) (s : State) : Result := onMsg k p s fun s => s.plyRequest k p tag kind

def execPlyNak (k p status : Nat) (s : State) : Result :=
  onMsg k p s fun s =>
    match s.plyJob? [(k, p)] with
    | some j => s.failPly j (statusCode .partnerRefused) status
    | none => s.violation k p 10 0 none

end Sys2Proof.Machine
end

