-- ==== Sys2Proof/Machine/TunnelCmds.lean ====
section
/-! DEFINITION. The tunnel and row commands of Table 4.15 but the re-gauge. For the tunnel commands TARGET.UNIT is the context's kernel;
for the row commands TARGET.SUB is the port. -/

namespace Sys2Proof.Machine

/-- A kernel that another cannot reach over the seams (R23): refused with WRONG_STATE, detail 0x0031 (log entry 18). -/
def unreached (s : State) (a b : Nat) : Check := (!s.reaches a b, .wrongState, 0x31)

/-- A context number outside T8 to T511 (R126), in the word at byte 12; T0 to T7 cannot be closed or released (DESIGN CHOICE for the status, log entry
113). -/
def badCtx (r : Req) : Check := (decide ((reqWord r 12).toNat < 8) || decide (511 < (reqWord r 12).toNat), .badParam, 12)

/-- A context in a state that the command does not allow (Table 4.16). -/
def ctxIn (s : State) (k t : Nat) (sts : List Nat) : Check := (!sts.contains (s.tunState k t), .wrongState, 0x20 + s.tunState k t)

/-- A tunnel that a job holds (R57). -/
def ctxHeld (s : State) (k t : Nat) : Check := ((s.ctxJob k t).isSome, .busy, (s.ctxJob k t).getD 0)

/-- A role swap on a port refuses opens of PCIe and USB tunnels (Table 4.12): BUSY with the job, or 0xFFFE at the far end. -/
def swapBlocks (s : State) (k p ty : Nat) : Check :=
  ((ty == 4 || ty == 5) && (s.port k p).swap.isSome, .busy, (((s.port k p).swap.bind (·.job)).getD 0xFFFE))

/-! ### Context words -/

/-- TUN_HELD_LEFT: ms left in the resume window (Table 4.4). -/
def State.heldLeft (s : State) (k t : Nat) : Nat :=
  if s.tunState k t = 4 then
    let e := s.egress k t 0
    ceilDiv ((s.port e.1 e.2).heldEnd - s.now) 1000000
  else 0

/-- TUN_GAUGE: the gauge in force, and the aim of the job that holds the tunnel (Table 4.7). -/
def State.gaugeWord (s : State) (k t : Nat) : Word :=
  if t = 4 ∨ t = 5 then 0
  else
    let e := s.gaugePort k t
    let g := if s.tunState k t = 0 ∨ (s.ctx k t).unknown then 0 else s.gauge e.1 e.2 (s.outLabel k t)
    let aim := ((s.ctxJob k t).bind fun n => s.job? n).bind fun j =>
      match j.gauge with
      | some g => (g.items.find? fun i => i.kind == 0 && i.kernel == k && i.index == t && i.hop == 0).map (·.new)
      | none => if j.opcode = 0x0201 then some (s.ctx k t).gaugeTx else none
    packWord [(0, 11, g), (16, 11, aim.getD g)]

/-- Word i of a context (Table 4.4), computed where the register is a view of other state. -/
def State.ctxWord (s : State) (k t i : Nat) : Word :=
  match i with
  | 3 => s.gaugeWord k t
  | 8 =>
    let c := s.ctx k t
    packWord [(0, 8, c.txSeq), (8, 8, c.rxSeq), (16, 8, c.unacked.length)]
  | 15 => word (s.heldLeft k t)
  | _ => s.reg (Reg.TUN_CTRL k t + 4 * i)

/-! ### Opening -/

/-- Parameter words of OPEN_REQ for a context (Table 4.9). -/
def State.openReqWords (s : State) (k t : Nat) : List Word :=
  let c := s.ctx k t
  let path := s.reg (Reg.TUN_PATH k t)
  let opts := s.reg (Reg.TUN_OPTS k t)
  [packWord [(0, 12, 512 * k + t), (12, 4, s.tunType k t), (16, 4, fld path 16 4), (20, 3, fld path 20 3), (24, 2, fld opts 0 2),
             (26, 1, fld opts 4 1), (27, 1, fld opts 5 1), (28, 1, (s.rb (Reg.TUN_CTRL k t) 12).toNat)],
   packWord [(0, 11, c.gaugeTx), (11, 4, fld path 0 4), (16, 11, c.gaugeRx)], word c.typePar.length] ++ bytesWords c.typePar

/-- OPEN_REQ sent for an Opening context (R138 step 2, R140). -/
def State.sendOpenReq (s : State) (k t : Nat) : State := s.ctxRequest k t 0x0281 (s.openReqWords k t)

/-- A status as its code, for refusals that carry one of the far end's. -/
def codeStatus (c : Nat) : Status :=
  ([.badParam, .wrongState, .noResource, .busy, .denied, .lockedByOther, .partnerRefused, .partnerTimeout, .hwFault].find? fun x =>
    statusCode x == c).getD .wrongState

def cmdTunOpen : Cmd where
  opcode := 0x0201
  domain := fun _ => 2
  minLen := 16
  bad r k s :=
    let t := reqField r 12 0 16
    let ty := reqField r 12 16 4
    let a := reqField r 12 20 4
    let pre := reqBit r 12 24
    let ek := reqField r 16 0 3
    let ep := reqField r 16 4 2
    let fa := reqField r 16 8 4
    let out := reqField r 16 16 16
    let plen := reqField r 24 16 16
    let sub := reqField r 24 0 7
    [badSub r 1,
     ((decide (t < 8) || decide (511 < t)) && (decide (t ≠ 0xFFFF) || pre), .badParam, 12),
     (decide (ty < 3) || decide (6 < ty) || !adapterCarries ty a, .badParam, 14),
     (!s.hasKernel ek, .badParam, 16), (!adaptersPair ty a fa, .badParam, 17),
     (if pre then decide (4095 < out) else decide (out ≠ 0xFFFF), .badParam, 18),
     (decide (s.rf (Reg.SUB_NODE ek sub) 0 2 ≠ ep), .badParam, 24),
     (decide (plen % 4 ≠ 0) || decide (992 < plen) || decide (r.plen ≠ 16 + plen), .badParam, 26)]
    ++ ((s.adapterChecks true k a ek ep ((reqBytes r 28).take plen)).filter fun c => c.2.1 == 0x0102).map fun c =>
      (c.1, .badParam, c.2.2)
  act r k s :=
    let ty := reqField r 12 16 4
    let a := reqField r 12 20 4
    let pre := reqBit r 12 24
    let ek := reqField r 16 0 3
    let ep := reqField r 16 4 2
    let named := reqField r 12 0 16
    let t := if named = 0xFFFF then s.freeCtx? k ek ep else some named
    let out := reqField r 16 16 16
    let g := reqField r 20 0 11
    let par := (reqBytes r 28).take (reqField r 24 16 16)
    let h := s.plyHead ek ep
    let label := if pre then some out else none
    .checked
      ([(!s.portOpen ek ep, .wrongState, s.portState ek ep), unreached s k ek,
        (named != 0xFFFF && s.tunState k named != 0, .wrongState, 0x20 + s.tunState k named),
        (t.isSome && s.rb (Reg.TUN_OPTS k (t.getD 8)) 5 && !s.portAuth ek ep, .wrongState, 0x33), swapBlocks s ek ep ty]
       ++ (((s.adapterChecks true k a ek ep par).filter fun c => c.2.1 != 0x0102).map fun c => (c.1, codeStatus c.2.1, c.2.2))
       ++ [(t.isNone, .noResource, 0), ((s.adapterCtx? k a).isSome, .noResource, 2),
           ((pre && s.labelHasSource h.1 h.2 out) || (s.routeIn? ek ep (512 * k + t.getD 8)).isSome, .noResource, 1),
           (decide (s.freeFor h.1 h.2 label < g), .noResource, 0x8000 + s.freeFor h.1 h.2 label), jobLimit s]) s
      (let t := t.getD 8
       let n := s.newJobNum
       let svc := if reqBit r 24 12 then s.classNode k (typeClass ty) else reqField r 24 8 4
       let s := (s.startJob 0x0201 r k 3 [word t]).wakeHusk h.1 h.2
       let s := s.setCtx k t { pendGauge := if pre then 0 else g, gaugeTx := g, gaugeRx := reqField r 20 16 11, typePar := par, unknown := !pre }
       let s := s.setupCtx k t ty a ek ep (reqField r 16 8 4) (reqField r 16 12 3) (if pre then out else 0) pre
         (some (reqField r 24 0 7)) svc
       let e := s.gaugePort k t
       let s := if pre then s.place e.1 e.2 out g else s
       let s := ((s.moveCtx k t 1 0x0201).holdCtx k t (some n)).jobStep n 2
       .accepted n (s.sendOpenReq k t) [packWord [(0, 9, t), (16, 12, 512 * k + t)]])

def execTunOpen (r : Req) (s : State) : Result := onCommand cmdTunOpen r s

/-! ### Closing (R142) -/

/-- Nothing of a context waits or is unacknowledged, on either member of its ply. -/
def State.ctxEmpty (s : State) (k t : Nat) : Bool :=
  [0, 1].all fun m => let c := s.ctxAt k t m; c.txq.isEmpty && c.waitq.isEmpty && c.unacked.isEmpty

/-- A Draining context whose queue has emptied sends CLOSE_DONE, which answers the CLOSE_REQ that it received (R142, R143); once the other's has come
too it goes Closed and its job is done. -/
def State.closeProgress (s : State) (k t : Nat) : State :=
  if s.tunState k t ≠ 3 then s
  else
    let c := s.ctx k t
    let s :=
      if s.ctxEmpty k t && !c.doneSent then
        (s.setCtx k t { c with doneSent := true }).ctxMsg k t 0x0285 (c.doneTag.getD c.reqTag) 1 [word (s.outLabel k t)]
      else s
    let c := s.ctx k t
    if c.doneSent && c.doneRcvd then ((s.endCtxJob k t .done .done 0).closeCtx k t 0x0285) else s

/-- CLOSE_REQ sent for a context (R142). -/
def State.sendCloseReq (s : State) (k t drain : Nat) : State :=
  s.ctxRequest k t 0x0284 [word (s.outLabel k t), word drain]

def cmdTunClose : Cmd where
  opcode := 0x0202
  domain := fun _ => 2
  minLen := 8
  bad r _ _ := [badSub r 1, badCtx r, (decide (1000 < (reqWord r 16).toNat), .badParam, 16)]
  act r k s :=
    let t := (reqWord r 12).toNat
    .checked [ctxIn s k t [2], ctxHeld s k t, jobLimit s] s
      (let n := s.newJobNum
       let s := s.startJob 0x0202 r k 2 [word t]
       let s := ((s.adapterDrain k t).holdCtx k t (some n)).sendCloseReq k t (drainOf (reqWord r 16).toNat)
       .accepted n (((s.moveCtx k t 3 0x0202).jobStep n 2).closeProgress k t) [])

def execTunClose (r : Req) (s : State) : Result := onCommand cmdTunClose r s

def cmdTunInfo : Cmd where
  opcode := 0x0203
  domain := fun _ => 2
  minLen := 4
  bad r _ _ := [badSub r 1, (decide (511 < (reqWord r 12).toNat), .badParam, 12)]
  act r k s := .ok s ((List.range 16).map (s.ctxWord k (reqWord r 12).toNat))

def execTunInfo (r : Req) (s : State) : Result := onCommand cmdTunInfo r s

/-- The fields of TUN_OPTS (Table 4.4). -/
def optsMask : Word := 0x733

def cmdTunModify : Cmd where
  opcode := 0x0204
  domain := fun _ => 2
  minLen := 8
  bad r _ _ := [badSub r 1, (decide (511 < (reqWord r 12).toNat), .badParam, 12), (decide (1 < reqField r 16 0 2), .badParam, 16)]
  act r k s :=
    let t := (reqWord r 12).toNat
    .checked [ctxIn s k t [0]] s (.ok (s.setReg (Reg.TUN_OPTS k t) (reqWord r 16 &&& optsMask)) [])

def execTunModify (r : Req) (s : State) : Result := onCommand cmdTunModify r s

/-- What an open that is tried again reserves anew: its gauge beyond the entries that the context still has (R137). -/
def State.missingGauge (s : State) (k t : Nat) : Nat :=
  let e := s.gaugePort k t
  (s.ctx k t).gaugeTx - (if (s.ctx k t).unknown then 0 else s.gauge e.1 e.2 (s.outLabel k t))

def cmdTunRelease : Cmd where
  opcode := 0x0205
  domain := fun _ => 2
  minLen := 8
  bad r _ _ := [badSub r 1, badCtx r]
  act r k s :=
    let t := (reqWord r 12).toNat
    let again := reqBit r 16 0
    let e := s.egress k t 0
    let pre := s.rb (Reg.TUN_CTRL k t) 12
    let free := s.freeFor e.1 e.2 none
    .checked
      [ctxIn s k t (if again then [5] else [4, 5]), (again && !s.portOpen e.1 e.2, .wrongState, s.portState e.1 e.2),
       (again && !pre && decide (free < s.missingGauge k t), .noResource, 0x8000 + free), ctxHeld s k t] s
      (if again then
         let c := s.ctx k t
         let s := s.setCtx k t { gaugeTx := c.gaugeTx, gaugeRx := c.gaugeRx, typePar := c.typePar, unknown := c.unknown,
                                 pendGauge := if pre then 0 else s.missingGauge k t }
         .ok (((s.moveCtx k t 1 0x0205).wakeHusk e.1 e.2).sendOpenReq k t) []
       else .ok (s.closeCtx k t 0x0205) [])

def execTunRelease (r : Req) (s : State) : Result := onCommand cmdTunRelease r s

def cmdResumeWindowSet : Cmd where
  opcode := 0x0206
  domain := fun _ => 2
  minLen := 4
  bad r _ _ := [badSub r 4, (decide (10000 < (reqWord r 12).toNat), .badParam, 12)]
  act r k s := .ok (s.setReg (Reg.TUN_RESUME k (reqSub r)) (reqWord r 12)) []

def execResumeWindowSet (r : Req) (s : State) : Result := onCommand cmdResumeWindowSet r s

/-! ### Raw routes (R129, R130, R168) -/

def badRoute (r : Req) : Check := (decide (1023 < (reqWord r 12).toNat), .badParam, 12)

def cmdRawRouteSet : Cmd where
  opcode := 0x0207
  domain := fun _ => 2
  minLen := 8
  bad r k s :=
    let add := reqBit r 16 31
    [badSub r 1, badRoute r, (add && decide (r.plen < 16), .badParam, 6),
     (add && decide (512 * s.variant.kernels ≤ reqField r 16 16 12), .badParam, 18),
     (add && (!s.hasKernel (reqField r 20 0 3)
        || (decide (reqField r 20 0 3 = k) && decide (reqField r 20 4 2 = reqField r 16 0 2))), .badParam, 20)]
  act r k s :=
    let n := (reqWord r 12).toNat
    let ip := reqField r 16 0 2
    let inL := reqField r 16 16 12
    let ek := reqField r 20 0 3
    let ep := reqField r 20 4 2
    let outL := reqField r 20 16 12
    let enc := reqBit r 20 30
    let g := reqField r 24 0 11
    if !reqBit r 16 31 then .ok (if s.routeValid k n then s.dropRoute k n else s) []
    else
      .checked
        [(s.routeValid k n, .wrongState, 0x35), unreached s k ek,
         (enc && !(s.portAuth k ip && s.portAuth ek ep), .wrongState, 0x33),
         ((s.routeIn? k ip inL).isSome || s.labelHasSource ek ep outL
           || (s.portCtxs k ip).contains (inL / 512, inL % 512)
           || (decide (inL / 512 = k) && (decide (inL % 512 = s.ctrlCtx k ip) || decide (inL % 512 = 4) || decide (inL % 512 = 5))
               && s.portOpen k ip), .noResource, 1),
         (decide (s.freeFor ek ep (some outL) < g), .noResource, 0x8000 + s.freeFor ek ep (some outL))] s
        (let s := (s.clearRoute k n).setReg (Reg.RAW_ROUTE_A k n) (packWord [(0, 2, ip), (16, 12, inL), (31, 1, 1)])
         let s := s.setReg (Reg.RAW_ROUTE_B k n) (packWord [(0, 3, ek), (4, 2, ep), (16, 12, outL), (30, 1, enc.toNat)])
         let e := s.routeEgress k n
         .ok (s.place e.1 e.2 outL g) [])

def execRawRouteSet (r : Req) (s : State) : Result := onCommand cmdRawRouteSet r s

def cmdRawRouteRead : Cmd where
  opcode := 0x0307
  domain := fun _ => 2
  minLen := 4
  bad r _ _ := [badSub r 1, badRoute r]
  act r k s :=
    let n := (reqWord r 12).toNat
    .ok s [s.reg (Reg.RAW_ROUTE_A k n), s.reg (Reg.RAW_ROUTE_B k n),
           word (let e := s.routeEgress k n; s.gauge e.1 e.2 (s.routeOutLabel k n))]

def execRawRouteRead (r : Req) (s : State) : Result := onCommand cmdRawRouteRead r s

/-! ### Row tables (R146 to R152) -/

def cmdRowTableRead : Cmd where
  opcode := 0x0301
  domain := fun _ => 2
  minLen := 12
  bad r k s :=
    let first := (reqWord r 16).toNat
    let c := (reqWord r 20).toNat
    [badSub r 4, (decide (s.rowLen k (reqSub r) ≤ first), .badParam, 16),
     (decide (c < 1) || decide (255 < c) || decide (s.rowLen k (reqSub r) < first + c), .badParam, 20)]
  act r k s :=
    let p := reqSub r
    .ok s (s.reg (Reg.ROW_EPOCH k (s.rowPort k p))
      :: (List.range (reqWord r 20).toNat).map fun i =>
        word (if s.rowPort k p = p then s.rowEntry (reqBit r 12 0) k p ((reqWord r 16).toNat + i) else 0))

def execRowTableRead (r : Req) (s : State) : Result := onCommand cmdRowTableRead r s

/-- A port whose rows a job holds (R156), and a swap armed (R147). -/
def rowsBusy (s : State) (k p : Nat) : Check := (s.rowHeld k p, .busy, s.rowJob k p)

/-- The same for a row command, which the partner's own job may send to the port that it holds. -/
def rowsBusyFor (r : Req) (s : State) (k p : Nat) : Check :=
  let own := match r.via with
    | .link a b => (s.port k (s.rowPort k p)).farHold == some (a, b)
    | _ => false
  (s.rowHeld k p && !own, .busy, s.rowJob k p)
def rowsArmed (s : State) (k p : Nat) : Check := (s.swapArmed k p, .wrongState, 0x37)

def cmdRowShadowWrite : Cmd where
  opcode := 0x0302
  domain := fun _ => 2
  minLen := 8
  bad r k s :=
    let first := (reqWord r 12).toNat
    let c := (reqWord r 16).toNat
    [badSub r 4, (decide (s.rowLen k (reqSub r) ≤ first), .badParam, 12),
     (decide (c < 1) || decide (254 < c) || decide (s.rowLen k (reqSub r) < first + c) || decide (r.plen ≠ 8 + 4 * c), .badParam, 16)]
  act r k s :=
    let p := reqSub r
    let first := (reqWord r 12).toNat
    .checked [rowsArmed s k p, rowsBusyFor r s k p] s
      (let s := if s.rowPort k p ≠ p then s else (List.range (reqWord r 16).toNat).foldl (fun s i =>
        s.setRowEntry true k p (first + i) (reqField r (20 + 4 * i) 0 16)) s
       .ok (match r.via with | .link a b => s.holdFar k p (some (a, b)) | _ => s) [])

def execRowShadowWrite (r : Req) (s : State) : Result := onCommand cmdRowShadowWrite r s

/-- A VALID shadow entry that names a label without a source on the port (R152). -/
def State.shadowStray (s : State) (k p : Nat) : Bool :=
  (((s.rowTable true k p).filter entryValid).map entryLabel).dedup.any fun l => !s.labelHasSource k p l

def cmdRowSwap : Cmd where
  opcode := 0x0303
  domain := fun _ => 2
  bad r _ _ := [badSub r 4]
  act r k s :=
    let p := reqSub r
    .checked
      [rowsArmed s k p, (s.shadowStray k p, .wrongState, 0x32), rowsBusyFor r s k p,
       (decide (s.ceiling k p < s.reserved true k p + s.pendingGauge k p), .noResource, s.reserved true k p + s.pendingGauge k p)] s
      (.ok (s.armSwap k p) [])

def execRowSwap (r : Req) (s : State) : Result := onCommand cmdRowSwap r s

def cmdGaugeCeilingSet : Cmd where
  opcode := 0x0306
  domain := fun _ => 2
  minLen := 4
  bad r k s :=
    [badSub r 4, (decide ((if s.isTight k (reqSub r) then 1840 else 920) < reqField r 12 0 11), .badParam, 12)]
  act r k s :=
    let p := reqSub r
    .checked [rowsBusyFor r s k p, (decide (reqField r 12 0 11 < s.reservedAll k p), .noResource, s.reservedAll k p)] s
      (.ok (s.setReg (Reg.ROW_CEIL k (s.rowPort k p)) (word (reqField r 12 0 11))) [])

def execGaugeCeilingSet (r : Req) (s : State) : Result := onCommand cmdGaugeCeilingSet r s

end Sys2Proof.Machine
end

