-- ==== Sys2Proof/Machine/TunnelEvents.lean ====
section
/-! DEFINITION. The link messages about tunnels and what runs out while they are awaited (R138 to R148, R162 to R167). `k` and `p` are the
port a message arrives on; an in-band message arrives on the label of its context (R140). -/

namespace Sys2Proof.Machine

/-- The context that one of this part's labels names (R128). -/
def labelK (label : Nat) : Nat := label / 512
def labelT (label : Nat) : Nat := label % 512

/-- The context that a message tag belongs to: one of the port's in a state, whose own request carried the tag. -/
def State.ctxByTag (s : State) (k p tag : Nat) (sts : List Nat) : Option (Nat × Nat) :=
  (s.portCtxsIn k p sts).find? fun c => (s.ctx c.1 c.2).reqTag == tag

/-- A class 10 violation (Table 4.13). -/
def State.badMsg (s : State) (k p label : Nat) : State := s.violation k p 10 label none

/-! ### OPEN_REQ (R139 to R141) -/

/-- The fields of OPEN_REQ (Table 4.9). -/
structure OpenReq where
  label : Nat
  ty : Nat
  farA : Nat
  farK : Nat
  opts : Nat
  gauge : Nat
  adapter : Nat
  asked : Nat
  par : List Byte

def openReqOf (w : List Word) : OpenReq :=
  let a := w.getD 0 0
  let b := w.getD 1 0
  { label := fld a 0 12, ty := fld a 12 4, farA := fld a 16 4, farK := fld a 20 3,
    opts := fld a 24 2 + 16 * fld a 26 1 + 32 * fld a 27 1, gauge := fld b 0 11, adapter := fld b 11 4, asked := fld b 16 11,
    par := (wordsBytes (w.drop 3)).take (w.getD 2 0).toNat }

/-- The conditions of R139, in its order, each with the status and detail that OPEN_NAK gives. -/
def State.openConditions (s : State) (k p : Nat) (q : OpenReq) : List (Bool × Nat × Nat) :=
  let h := s.plyHead k p
  let acc := s.reg (Reg.TUN_ACCEPT q.farK)
  let known := s.hasKernel q.farK
  [(s.portState k p == 4, statusCode .wrongState, 4),
   (known && !bitAt acc q.ty, statusCode .denied, 1),
   (known && !s.portAuth k p && !bitAt acc 8, statusCode .wrongState, 0x14),
   (!known || !adaptersPair q.ty q.farA q.adapter, statusCode .badParam, 12),
   ((s.adapterCtx? q.farK q.farA).isSome, statusCode .noResource, 2)]
  ++ s.adapterChecks false q.farK q.farA k p q.par ++
  [((q.opts / 32 % 2 == 1) && !s.portAuth k p, statusCode .wrongState, 0x33),
   (decide (s.freeFor h.1 h.2 (some q.label) < q.asked), statusCode .noResource, 0x8000 + s.freeFor h.1 h.2 (some q.label)),
   (s.labelHasSource h.1 h.2 q.label, statusCode .noResource, 1),
   ((s.freeCtx? q.farK k p).isNone, statusCode .noResource, 0)]

/-- An OPEN_REQ accepted (R139): the lowest free context, in Opening and then Open, with OPEN_ACK. -/
def State.acceptOpen (s : State) (k p tag : Nat) (q : OpenReq) : State :=
  let t := (s.freeCtx? q.farK k p).getD 8
  let n := q.farK
  let s := s.setupCtx n t q.ty q.farA k p q.adapter (q.label / 512) q.label false none (s.classNode n (typeClass q.ty))
  let s := s.setReg (Reg.TUN_OPTS n t) ((s.reg (Reg.TUN_OPTS n t) &&& 0x700) ||| word q.opts)
  let s := s.setCtx n t { gaugeTx := q.asked, gaugeRx := q.gauge, typePar := q.par }
  let e := s.gaugePort n t
  let s := s.place e.1 e.2 q.label q.asked
  let s := (s.moveCtx n t 1 0x0281).sendAnswer k p 0x0282 tag [word (512 * n + t), word q.asked]
  s.openCtx n t 0x0281

/-- This end's own Opening request that an arriving one crosses (R141). -/
def State.crossing (s : State) (k p : Nat) (q : OpenReq) : Option (Nat × Nat) :=
  (s.portCtxsIn k p [1]).find? fun c =>
    let path := s.reg (Reg.TUN_PATH c.1 c.2)
    s.tunType c.1 c.2 == q.ty && c.1 == q.farK && fld path 0 4 == q.farA && fld path 16 4 == q.adapter
      && fld path 20 3 == q.label / 512

/-- A direct OPEN_REQ. -/
def State.openReqDirect (s : State) (k p tag : Nat) (q : OpenReq) : State :=
  let answer (s : State) : State :=
    match (s.openConditions k p q).find? (·.1) with
    | some c => s.sendAnswer k p 0x0283 tag [packWord [(0, 16, c.2.1), (16, 16, c.2.2)]]
    | none => s.acceptOpen k p tag q
  match s.crossing k p q with
  | some c =>
    if s.nearLarger k p then s
    else answer ((s.endCtxJob c.1 c.2 .failed .partnerRefused 0).closeCtx c.1 c.2 0x0281)
  | none => answer s

/-- A context that was Opening is Open, and the job of its open is done. -/
def State.openDone (s : State) (k t cause : Nat) : State :=
  let j := s.ctxJob k t
  let s := (s.openCtx k t cause).holdCtx k t none
  match j with
  | some j => (s.jobStep j 3).endJob j .done 0 0
  | none => s

/-- An in-band OPEN_REQ on the label of context (n, t) (R140). -/
def State.openReqInBand (s : State) (k p tag n t : Nat) (q : OpenReq) : State :=
  match s.legOn? n t k p with
  | some leg =>
    -- the far end of a leg opens (R187): answered on the leg's label, and the context stays as it is
    if s.tunState n t ≠ 2 then s.badMsg k p (512 * n + t)
    else if s.tunType n t ≠ q.ty ∨ !adaptersPair q.ty (s.tunAdapter n t) q.adapter then
      s.legMsg n t leg 0x0283 tag [packWord [(0, 16, statusCode .badParam), (16, 16, 12)]]
    else
      let out := s.rf (Reg.MC_LEG n ((s.ctxList? n t).getD 0) (leg - 1)) 16 12
      s.legMsg n t leg 0x0282 tag [word (512 * n + t), word (s.gauge k p out)]
  | none =>
  if !s.rb (Reg.TUN_CTRL n t) 12 || !([1, 2].contains (s.tunState n t)) then s.badMsg k p (512 * n + t)
  else if s.tunType n t ≠ q.ty ∨ !adaptersPair q.ty (s.tunAdapter n t) q.adapter then
    s.ctxMsg n t 0x0283 tag 1 [packWord [(0, 16, statusCode .badParam), (16, 16, 12)]]
  else
    let s := s.ctxMsg n t 0x0282 tag 1 [word (512 * n + t), word (s.ctx n t).gaugeTx]
    if s.tunState n t = 1 then s.openDone n t 0x0281 else s

def execOpenReq (k p tag : Nat) (inBand : Option Nat) (w : List Word) (s : State) : Result :=
  onMsg k p s fun s =>
    match inBand with
    | some label => s.openReqInBand k p tag (labelK label) (labelT label) (openReqOf w)
    | none => s.openReqDirect k p tag (openReqOf w)

/-- A context that learns its OUT_LABEL (R138): MEMBER follows the label, and the gauge that waited for it goes into the row table, beside the entries
that the context had under an earlier label. -/
def State.learnLabel (s : State) (k t label : Nat) : State :=
  let c := s.ctx k t
  let old := s.gaugePort k t
  let g := c.pendGauge + (if c.unknown then 0 else s.gauge old.1 old.2 (s.outLabel k t))
  let s := if c.unknown then s else s.releaseRows old.1 old.2 (s.outLabel k t)
  let s := ((s.setRf (Reg.TUN_LABELS k t) 16 12 label).setCtx k t { c with pendGauge := 0, unknown := false }).setMember k t
  let e := s.gaugePort k t
  s.place e.1 e.2 label g

/-- Whether a source of the port other than context (k, t) sends a label (R129). -/
def State.labelTaken (s : State) (k t label : Nat) : Bool :=
  let e := s.egress k t 0
  (s.setCtx k t { s.ctx k t with unknown := true }).labelHasSource e.1 e.2 label

/-- OPEN_ACK (R138, R140): the context learns its OUT_LABEL, unless a source of the port already sends that label. A prearranged context that is Open
already takes the ACK of its own request with no more to do. -/
def execOpenAck (k p tag label : Nat) (inBand : Option Nat) (s : State) : Result :=
  onMsg k p s fun s =>
    match inBand with
    | some l =>
      let n := labelK l
      let t := labelT l
      if !s.rb (Reg.TUN_CTRL n t) 12 then s.badMsg k p label
      else if s.tunState n t = 1 then s.openDone n t 0x0282
      else if s.tunState n t = 2 ∧ (s.ctx n t).reqTag = tag then s
      else s.badMsg k p label
    | none =>
      match s.ctxByTag k p tag [1] with
      | none => s.badMsg k p label
      | some (n, t) =>
        if s.labelTaken n t label then
          let s := (s.setRf (Reg.TUN_LABELS n t) 16 12 label).sendCloseReq n t 1
          -- the label is another source's, so nothing of it is released
          let s := (s.setRf (Reg.TUN_LABELS n t) 16 12 0).setCtx n t { s.ctx n t with pendGauge := 0, unknown := true }
          (s.endCtxJob n t .failed .noResource 1).closeCtx n t 0x0282
        else (s.learnLabel n t label).openDone n t 0x0282

def execOpenNak (k p tag status : Nat) (inBand : Option Nat) (s : State) : Result :=
  onMsg k p s fun s =>
    let c? := match inBand with
      | some l => if s.tunState (labelK l) (labelT l) = 1 then some (labelK l, labelT l) else none
      | none => s.ctxByTag k p tag [1]
    match c? with
    | none => s.badMsg k p 0
    | some c => (s.endCtxJob c.1 c.2 .failed .partnerRefused status).closeCtx c.1 c.2 0x0283

/-- A context of the variant: kernel and number. -/
def State.hasCtx (s : State) (k t : Nat) : Bool := s.hasKernel k && decide (t < 512)

def execOpenTimeout (k t : Nat) (s : State) : Result :=
  onUnit s (s.hasCtx k t)
    (if s.tunState k t = 1 then (s.endCtxJob k t .failed .partnerTimeout 0).closeCtx k t 0x0201 else s)

def execPrearrangedOpenResend (k t : Nat) (s : State) : Result :=
  onUnit s (s.hasCtx k t) (if s.tunState k t = 1 && s.rb (Reg.TUN_CTRL k t) 12 then s.sendOpenReq k t else s)

/-! ### CLOSE_REQ and CLOSE_DONE (R142) -/

def execCloseReq (k p tag label drain : Nat) (s : State) : Result :=
  onMsg k p s fun s =>
    let n := labelK label
    let t := labelT label
    if !s.hasKernel n ∨ t < 8 ∨ s.tunState n t = 0 then
      (s.sendAnswer k p 0x0285 tag [word label]).badMsg k p label
    else if let some leg := s.legOn? n t k p then s.legMsg n t leg 0x0285 tag [word label]
    else if s.tunState n t = 2 then
      let s := (s.gaugeTunLost n t).adapterDrain n t
      let s := s.setCtx n t { s.ctx n t with doneTag := some tag }
      let s := s.moveCtx n t 3 0x0284
      (s.setPort k p { s.port k p with drainMs := drainOf drain }).closeProgress n t
    else if s.tunState n t = 3 then s.setCtx n t { s.ctx n t with doneTag := some tag }
    else s.badMsg k p label

def execCloseDone (k p tag label : Nat) (s : State) : Result :=
  onMsg k p s fun s =>
    let own := if s.hasKernel (labelK label) ∧ s.tunState (labelK label) (labelT label) = 3 then some (labelK label, labelT label)
      else none
    match (s.ctxByTag k p tag [3]).orElse fun _ => own with
    | some c => (s.setCtx c.1 c.2 { s.ctx c.1 c.2 with doneRcvd := true }).closeProgress c.1 c.2
    | none => s.badMsg k p label

def execCloseDrainExpiry (k t : Nat) (s : State) : Result :=
  onUnit s (s.hasCtx k t) (if s.tunState k t = 3 then (s.endCtxJob k t .done .done 0).closeCtx k t 0x0284 else s)

/-! ### Credit and replay (R144, R184) -/

/-- Cells up to and including one SEQ taken off the front of the unacknowledged ones; all stay where none has it. -/
def ackCells (seq : Nat) (cs : List Cell) : List Cell :=
  if cs.any fun c => c.seq == seq then (cs.dropWhile fun c => c.seq ≠ seq).drop 1 else cs

/-- The context that sends a label on a port, with its queue there: the control tunnel, T4, T5, or a tunnel of the port. -/
def State.ctxBySent? (s : State) (k p label : Nat) : Option (Nat × Nat) :=
  (((k, s.ctrlCtx k p) :: (k, 4) :: (k, 5) :: s.portCtxsIn k p [1, 2, 3]).find? fun c =>
    s.tunState c.1 c.2 != 0 && s.cellLabel c.1 c.2 p == label)

/-- An entry applied to what a source has sent: cells acknowledged, a NACK sends the rest again, and the grant replaces the last. G counts from the last SEQ
received in order, so the cells on their way have used it (R184). Answers the cells to be sent again. -/
def Ctx.credited (c : Ctx) (w : Word) : List Cell × Ctx :=
  let rest := ackCells (fld w 12 8) c.unacked
  if bitAt w 20 then (rest, { c with unacked := [], credit := some (fld w 21 11) })
  else ([], { c with unacked := rest, credit := some (fld w 21 11 - rest.length) })

/-- Cells put back at the front of the queue of a context, or of the transit queue of a route under its key, to be sent again on port (k, p). -/
def State.resend (s : State) (k t m : Nat) (cs : List Cell) : State :=
  if cs.isEmpty then s
  else (s.setCtxAt k t m { s.ctxAt k t m with txq := cs ++ (s.ctxAt k t m).txq }).dropFetched fun x => !x.raw && x.n == k && x.t == t && x.m == m

def State.requeue (s : State) (k p key : Nat) (cs : List Cell) : State :=
  match cs with
  | [] => s
  | c :: _ =>
    let q := transitQ (s.rowPort k p) (s.classNode k c.cls)
    (s.setTransit k q (cs.map (fun c => (key, c)) ++ s.transit k q)).dropFetched fun x => x.raw && x.n == key

/-- One entry of CREDIT (Table 4.9): the label is the one that the credited cells carry on the link (DEDUCED, log entry 21). -/
def State.creditEntry (s : State) (k p : Nat) (w : Word) : State :=
  let label := fld w 0 12
  match s.ctxBySent? k p label with
  | some (n, t) =>
    let m := s.memberIx n t k p
    let x := (s.ctxAt n t m).credited w
    ((s.setCtxAt n t m x.2).resend n t m x.1).closeProgress n t
  | none =>
    match s.routeOut? k p label with
    | some (n, r) =>
      let key := routeKey n r (s.memberOf k p)
      let x := (s.routeCtx key).credited w
      (s.setRouteCtx key x.2).requeue k p key x.1
    | none => s

def execCredit (k p : Nat) (entries : List Word) (s : State) : Result :=
  onMsg k p s fun s => entries.foldl (fun s w => s.creditEntry k p w) s

/-- The port of member m of the ply by which a route leaves. -/
def State.routeMember (s : State) (k r m : Nat) : Nat × Nat :=
  let e := s.routeEgress k r
  if s.memberOf e.1 e.2 = m then e else (s.loosePeer e.1 e.2).getD e

/-- Four row periods without a CREDIT entry (R144): context (k, t), or route t of kernel k, sends again; p is a port number for T4 and T5, and a member
of the ply for the other contexts and for routes. -/
def execReplayTimeout (k t p : Nat) (route : Bool) (s : State) : Result :=
  if route then
    onUnit s (s.hasKernel k && decide (t < 1024) && decide (p < 2))
      (let key := routeKey k t p
       let c := s.routeCtx key
       let e := s.routeMember k t p
       (s.setRouteCtx key { c with unacked := [] }).requeue e.1 e.2 key c.unacked)
  else
    onUnit s (s.hasCtx k t)
      (let c := s.ctxAt k t p
       (s.setCtxAt k t p { c with unacked := [] }).resend k t p c.unacked)

/-! ### Epochs (R148, R155) -/

/-- The re-gauge job that waits for an epoch on a port of this part. -/
def State.epochJob (s : State) (k p epoch : Nat) : Option Nat :=
  (s.findRunning fun j =>
    match j.gauge with
    | some g =>
      g.phase == 0 && g.epoch == epoch && (match (g.plan.getD (j.step - 1) []).head? with
        | some i => !i.far && i.k == k && i.p == p
        | none => false)
    | none => false).map (·.num)

def execEpochAck (k p epoch : Nat) (s : State) : Result :=
  onMsg k p s fun s =>
    match s.epochJob k p epoch with
    | some n => s.gaugeStepDone n epoch
    | none => s

/-- A step of a re-gauge takes too long (R155). Where an answer of the partner is outstanding, its ports are unreached (R157). -/
def execRegaugeStepTimeout (job : Nat) (s : State) : Result :=
  .next (if (s.gaugeJobs fun _ => true).contains job then
      (if s.allPorts.any fun e => (s.port e.1 e.2).remote.any (fun q => q.job == some job) then s.farUnreached job else s).stopGauge job
    else s)

/-! ### Resume (R166, R167) -/

/-- The entries of one RESUME_LIST. -/
def resumeEntriesOf : List Word → List (Nat × Nat × Nat × Nat)
  | a :: b :: rest => (fld a 0 12, fld a 16 12, fld a 28 4, fld b 0 11) :: resumeEntriesOf rest
  | _ => []

/-- Every PART from 0 to the LAST one is in. -/
def Port.listsWhole (x : Port) : Bool :=
  match x.lastPart with
  | some n => (List.range (n + 1)).all fun i => x.lists.any fun l => l.1 == i
  | none => false

/-- Pairing is over: the lists and the ply that was are forgotten, and the cast-on job is done. -/
def State.pairingEnds (s : State) (k p : Nat) : State :=
  let s := s.setPort k p { s.port k p with lists := [], lastPart := none, pairing := false, heldEnd := 0, mate := none }
  s.endPortJob k p 0x0102 .done 0 0

/-- Pairing (R166): Held tunnels named crosswise with equal TYPE resume, the rest close, and the cast-on job is done. -/
def State.pairTunnels (s : State) (k p : Nat) : State :=
  let far := (s.port k p).lists.flatMap (·.2)
  let s := s.forCtxs (s.heldCtxs k p) fun s n t =>
    if far.any fun e => e.1 == s.outLabel n t && e.2.1 == 512 * n + t && e.2.2.1 == s.tunType n t then s.resumeCtx n t portEvent
    else s.closeCtx n t portEvent
  s.pairingEnds k p

def execResumeList (k p : Nat) (w : List Word) (s : State) : Result :=
  onMsg k p s fun s =>
    let x := s.port k p
    if !x.pairing then s.badMsg k p 0
    else
      let h := w.getD 0 0
      let part := fld h 8 8
      let es := (resumeEntriesOf (w.drop 1)).take (fld h 0 8)
      let s := s.setPort k p { x with lists := (part, es) :: x.lists.filter (fun l => l.1 ≠ part),
                                      lastPart := if bitAt h 16 then some part else x.lastPart }
      if (s.port k p).listsWhole then s.pairTunnels k p else s

def execResumePairingTimeout (k p : Nat) (s : State) : Result :=
  onPort k p (s.portOpen k p && (s.port k p).pairing) s
    ((s.forCtxs (s.heldCtxs k p) fun s n t => s.closeCtx n t portEvent).pairingEnds k p)

def execResumeWindowExpiry (k p : Nat) (s : State) : Result :=
  onPort k p ((!s.portOpen k p || (s.port k p).pairing) && !(s.heldCtxs k p).isEmpty) s
    (let l := s.heldCtxs k p
     let s := s.forCtxs l fun s n t => s.closeCtx n t portEvent
     s.log k Ev.resumeExpired p [l.length])

/-! ### Violations (R162) -/

def execViolationNotice (k p cls label count : Nat) (s : State) : Result :=
  onMsg k p s fun s =>
    let x := s.port k p
    let recent := match x.noticeLog.find? fun v => v.1 == cls with | some v => decide (x.row < v.2 + 1000) | none => false
    if recent then s
    else (s.setPort k p { x with noticeLog := (cls, x.row) :: x.noticeLog.filter fun v => v.1 ≠ cls }).log k Ev.violationNotice p
      [cls, count, label]

/-- QUARANTINE: the named context moves to Fault as well. For T4 and T5 only the port it came on is quarantined (R365). -/
def execQuarantine (k p label cls : Nat) (s : State) : Result :=
  onMsg k p s fun s =>
    let n := labelK label
    let t := labelT label
    let x := s.port k p
    if s.hasKernel n ∧ 8 ≤ t ∧ s.tunState n t = 2 then
      let s := (s.gaugeTunLost n t).faultCtx n t 0x028A
      s.log n Ev.tunQuarantine t [cls, s.outLabel n t, 1]
    else if (t = 4 ∨ t = 5) ∧ n = k then
      let s := (s.setPort k p (if t = 5 then { x with pipFault := true } else { x with timeFault := true })).discardQueued k t p
      s.log k Ev.tunQuarantine t [cls, s.cellLabel k t p, 1, p]
    else s.badMsg k p label

/-- A packet on a control tunnel with bad CRC or length, or an in-band link message with those or an opcode that Table 4.9 has not: dropped, never
answered, and charged to its tunnel (R143, Table 4.13 class 9). -/
def execBadControlPacket (k : Nat) (path : PacketPath) (s : State) : Result :=
  match path.inBand with
  | some l => onPort k path.port (s.portOpen k path.port) s (s.violation k path.port 9 l (some (labelK l, labelT l)))
  | none => onMsg k path.port s fun s => s.violation k path.port 9 0 none

end Sys2Proof.Machine
end

