-- ==== Sys2Proof/Machine/RoleSwapCmds.lean ====
section
/-! DEFINITION. Role swap (R159 to R161). -/

namespace Sys2Proof.Machine

/-- A PCIe or USB tunnel of the port is Opening or Draining (R161). -/
def State.swapUnsettled (s : State) (k p : Nat) : Bool :=
  (s.portCtxsIn k p [1, 3]).any fun c => s.tunType c.1 c.2 == 4 || s.tunType c.1 c.2 == 5

/-- LNK_CTRL.ROLE_PREF names the role that the port holds (R161): 1 host end, 2 dock end. -/
def State.prefersRole (s : State) (k p : Nat) : Bool :=
  s.rf (Reg.LNK_CTRL k p) 4 2 == s.rf (Reg.LNK_STATE k p) 6 1 + 1

/-- The PCIe and USB tunnels of the port enter Held for the swap (R159). -/
def State.holdForSwap (s : State) (k p : Nat) : State :=
  s.forCtxs ((s.portCtxsIn k p [2]).filter fun c => s.tunType c.1 c.2 == 4 || s.tunType c.1 c.2 == 5) fun s n t =>
    let s := (s.gaugeTunLost n t).holdOff n t 0x0188
    if s.tunAdapter n t = usbAdapter ∧ (s.hub n).form = 1 then s.usbPortsGone n else s

/-- The row that a port, or its tight ply, sends. -/
def State.rowNow (s : State) (k p : Nat) : Nat := (s.port k (s.rowPort k p)).row

/-- The port is forming a ply. -/
def State.formsPly (s : State) (k p : Nat) : Bool := (s.plyJob? [(k, p)]).isSome || s.plyForming k p

/-- ROLE_SWAP's parameter word (Table 4.9). -/
def swapWord (x : RoleSwap) : Word := packWord [(0, 8, x.priority), (8, 16, x.token), (24, 2, x.attempt)]

def State.setSwap (s : State) (k p : Nat) (x : Option RoleSwap) : State := s.setPort k p { s.port k p with swap := x }

def cmdRoleSwapRequest : Cmd where
  opcode := 0x010B
  domain := portDomain
  minLen := 4
  bad r _ _ := [badSub r 4]
  act r k s :=
    let p := reqSub r
    let x := (s.port k p).swap
    .checked
      [portIn s k p [3], (s.formsPly k p, .wrongState, s.portState k p), (s.prefersRole k p, .wrongState, 0x36), (s.swapUnsettled k p, .wrongState, 0x34),
       (!s.drbgUp k, .hwFault, 0x0E01),
       (x.isSome, .busy, ((x.bind (·.job)).getD 0xFFFE)), jobLimit s] s
      (let n := s.newJobNum
       let f := s.fresh
       let w : RoleSwap := { priority := reqField r 12 0 8, token := fld f.1 0 16, attempt := 1, job := some n }
       let s := (f.2.startJob 0x010B r k 3 [word p]).setSwap k p (some w)
       .accepted n (s.sendMsg k p 0x0188 [swapWord w]) [])

def execRoleSwapRequest (r : Req) (s : State) : Result := onCommand cmdRoleSwapRequest r s

/-- A far end's ROLE_SWAP accepted: the echo in ROLE_SWAP_ACK, and this end's PCIe and USB tunnels held. An own request that lost keeps
its job, which ends DONE, detail 1 (R160). -/
def State.acceptSwap (s : State) (k p tag prio tok att : Nat) (job : Option Nat) : State :=
  let w : RoleSwap := { priority := prio, token := tok, attempt := att, job := job, acked := true, farAsked := true,
                        flipRow := s.rowNow k p + 3 }
  ((s.sendAnswer k p 0x0189 tag [swapWord w]).setSwap k p (some w)).holdForSwap k p

/-- The refusals of R161 at the far end; a port that forms a ply gives its state code (DESIGN CHOICE, log entry 112). -/
def State.swapRefusal (s : State) (k p : Nat) : Option (Nat × Nat) :=
  if s.prefersRole k p then some (statusCode .denied, 1)
  else if !s.portOpen k p then some (statusCode .wrongState, s.portState k p)
  else if s.formsPly k p then some (statusCode .wrongState, s.portState k p)
  else if s.swapUnsettled k p then some (statusCode .wrongState, 0x34)
  else none

def execRoleSwap (k p tag prio tok att : Nat) (s : State) : Result :=
  onMsg k p s fun s =>
    match (s.port k p).swap with
    | some x =>
      if x.acked then s.sendAnswer k p 0x018A tag [packWord [(0, 16, statusCode .busy)]]
      else if let some c := s.swapRefusal k p then s.sendAnswer k p 0x018A tag [packWord [(0, 16, c.1), (16, 16, c.2)]]
      else if x.waiting then s.acceptSwap k p tag prio tok att x.job
      else
        let near := x.priority * 65536 + x.token
        let far := prio * 65536 + tok
        if far < near then s
        else if near < far then s.acceptSwap k p tag prio tok att x.job
        else if 3 ≤ x.attempt then if s.nearLarger k p then s else s.acceptSwap k p tag prio tok att x.job
        else s.setSwap k p (some { x with waiting := true })
    | none =>
      match s.swapRefusal k p with
      | some c => s.sendAnswer k p 0x018A tag [packWord [(0, 16, c.1), (16, 16, c.2)]]
      | none => s.acceptSwap k p tag prio tok att none

def execRoleSwapAck (k p : Nat) (s : State) : Result :=
  onMsg k p s fun s =>
    match (s.port k p).swap with
    | some x =>
      if x.acked ∨ x.waiting then s.badMsg k p 0
      else
        let s := s.setSwap k p (some { x with acked := true, flipRow := s.rowNow k p + 3 })
        (s.holdForSwap k p).stepPortJob k p 0x010B 2
    | none => s.badMsg k p 0

def execRoleSwapNak (k p status : Nat) (s : State) : Result :=
  onMsg k p s fun s =>
    match (s.port k p).swap with
    | some x =>
      if x.acked then s.badMsg k p 0
      else (s.setSwap k p none).endPortJob k p 0x010B .failed (statusCode .partnerRefused) status
    | none => s.badMsg k p 0

/-- The first row that starts at least 2 row periods after the ACK: ROLE flips (R159). -/
def execRoleFlip (k p : Nat) (s : State) : Result :=
  onPort k p (match (s.port k p).swap with | some x => x.acked && !x.flipped && decide (x.flipRow ≤ s.rowNow k p) | none => false) s
    (match (s.port k p).swap with
     | none => s
     | some x =>
       let role := 1 - s.rf (Reg.LNK_STATE k p) 6 1
       let s := (s.setRf (Reg.LNK_STATE k p) 6 1 role).setSwap k p (some { x with flipped := true }) |>.roleSync k p
       let s := s.log k Ev.roleSwapped p [role, if x.farAsked then 0 else x.job.getD 0]
       s.stepPortJob k p 0x010B 3)

def execRoleSwapRetry (k p : Nat) (s : State) : Result :=
  onPort k p (match (s.port k p).swap with | some x => x.waiting | none => false) s
    (match (s.port k p).swap with
     | none => s
     | some x =>
       let f := s.fresh
       let x := { x with token := fld f.1 0 16, attempt := x.attempt + 1, waiting := false }
       (f.2.setSwap k p (some x)).sendMsg k p 0x0188 [swapWord x])

def execRoleSwapTimeout (k p : Nat) (s : State) : Result :=
  onPort k p (match (s.port k p).swap with | some x => !x.acked && !x.waiting | none => false) s
    ((s.setSwap k p none).endPortJob k p 0x010B .failed (statusCode .partnerTimeout) 0)

/-- The functions reappear in their new form, and the tunnels return to Open (R159). -/
def execRoleSwapDone (k p : Nat) (s : State) : Result :=
  onPort k p (match (s.port k p).swap with | some x => x.flipped | none => false) s
    (match (s.port k p).swap with
     | none => s
     | some x =>
       let s := s.forCtxs ((s.heldCtxs k p).filter fun c => s.tunType c.1 c.2 == 4 || s.tunType c.1 c.2 == 5) fun s n t =>
         s.resumeCtx n t 0x0188
       (s.setSwap k p none).endPortJob k p 0x010B .done 0 (if x.farAsked then 1 else 0))

end Sys2Proof.Machine
end

