-- ==== Sys2Proof/Machine/GaugeCmds.lean ====
section
/-! DEFINITION. REGAUGE and REGAUGE_ROLLBACK (R153 to R158): the entries, the checks made before ACCEPTED, the reading of partner routes, and
the start of the job. -/

namespace Sys2Proof.Machine

/-- One entry of REGAUGE (Table 4.15). -/
structure GaugeEntry where
  kind : Nat
  kernel : Nat
  index : Nat
  port : Nat
  next : Bool
  farK : Nat
  farRoute : Nat
  gauge : Nat

def gaugeEntry (r : Req) (i : Nat) : GaugeEntry :=
  let w := reqWord r (16 + 8 * i)
  { kind := fld w 0 1, kernel := fld w 1 3, index := fld w 4 10, port := fld w 14 2, next := bitAt w 16, farK := fld w 17 3,
    farRoute := fld w 20 10, gauge := reqField r (20 + 8 * i) 0 11 }

def gaugeEntries (r : Req) : List (Nat × GaugeEntry) := (List.range (reqWord r 12).toNat).map fun i => (i, gaugeEntry r i)

/-- The transmitting port of a source's hop 0, and the label it sends there (R154). -/
def State.gaugeHop0 (s : State) (e : GaugeEntry) : (Nat × Nat) × Nat :=
  if e.kind = 1 then ((s.routeOutK e.kernel e.index, s.routeOutP e.kernel e.index), s.routeOutLabel e.kernel e.index)
  else if e.index = 4 ∨ e.index = 5 then ((e.kernel, e.port), s.cellLabel e.kernel e.index e.port)
  else (s.gaugePort e.kernel e.index, s.outLabel e.kernel e.index)

/-- The item of hop 0. -/
def State.gaugeNearItem (s : State) (e : GaugeEntry) : GaugeItem :=
  let h := s.gaugeHop0 e
  { kind := e.kind, kernel := e.kernel, index := e.index, label := h.2, k := h.1.1, p := h.1.2, far := false, hop := 0,
    old := s.gauge h.1.1 h.1.2 h.2, new := e.gauge }

/-- Two entries that name one source; the ports of T4 and T5 are sources of their own. -/
def sameSource (a b : GaugeEntry) : Bool :=
  a.kind == b.kind && a.kernel == b.kernel && a.index == b.index
    && (a.kind == 1 || (a.index != 4 && a.index != 5) || a.port == b.port)

/-- The checks of an entry on this part's own state (R154, Table 4.15, Table 4.16). A raw route that is not valid answers WRONG_STATE, detail
0x0020 (DESIGN CHOICE, log entry 113). -/
def State.gaugeEntryState (s : State) (k : Nat) (e : GaugeEntry) : List Check :=
  let h := (s.gaugeHop0 e).1
  [unreached s k e.kernel,
   (if e.kind = 1 then !s.routeValid e.kernel e.index else s.tunState e.kernel e.index != 2, .wrongState,
     0x20 + (if e.kind = 1 then 0 else s.tunState e.kernel e.index)),
   (!s.portOpen h.1 h.2, .wrongState, 0x31), (e.next && !s.portAuth h.1 h.2, .wrongState, 0x14),
   ((e.kind == 0) && (s.ctxJob e.kernel e.index).isSome, .busy, (s.ctxJob e.kernel e.index).getD 0), rowsBusy s h.1 h.2]

/-- The link to the partner: the hop-0 port of the first entry with NEXT. -/
def State.gaugeLink (s : State) (r : Req) : Option (Nat × Nat) :=
  ((gaugeEntries r).find? fun e => e.2.next).map fun e => (s.gaugeHop0 e.2).1

/-- The partner identity of a port (Table 3.13). -/
def State.partnerId (s : State) (k p : Nat) : Nat :=
  (s.reg (Reg.LNK_PARTNER_ID_LO k p)).toNat + 2 ^ 32 * (s.reg (Reg.LNK_PARTNER_ID_HI k p)).toNat

/-- The checks of R154 that need no answer from the partner. -/
def State.gaugeChecks (s : State) (r : Req) (k : Nat) : List Check :=
  ((gaugeEntries r).flatMap fun e => s.gaugeEntryState k e.2) ++ [jobLimit s]

/-- Entry i's port of a partner other than the first one's: a re-gauge reaches one partner (R155). -/
def State.gaugeStray (s : State) (r : Req) (e : GaugeEntry) : Bool :=
  match s.gaugeLink r with
  | some l => let h := (s.gaugeHop0 e).1; e.next && s.partnerId h.1 h.2 != s.partnerId l.1 l.2
  | none => false

def badGauge (r : Req) (s : State) : List Check :=
  let c := (reqWord r 12).toNat
  [badSub r 1, (decide (c < 1) || decide (32 < c) || decide (r.plen ≠ 4 + 8 * c), .badParam, 12)]
  ++ (gaugeEntries r).flatMap fun e =>
    let x := e.2
    [(!s.hasKernel x.kernel || ((x.kind == 0) && (decide (511 < x.index) || x.index == 6 || x.index == 7))
        || ((gaugeEntries r).any fun y => decide (y.1 < e.1) && sameSource y.2 x), .badParam, 16 + 8 * e.1),
     (s.gaugeStray r x, .badParam, 18 + 8 * e.1)]

/-- The state words of a re-gauge job before its first step. -/
def State.newGauge (s : State) (items : List GaugeItem) (link : Nat × Nat) (lost : List GaugePort) : Gauge :=
  { items := items, plan := gaugePlan items, linkK := link.1, linkP := link.2,
    ports := ((gaugePorts items).map fun c =>
      let k := c / 4 % 8
      let p := c % 4
      { k := k, p := p, far := decide (32 ≤ c), epoch := if c < 32 then s.rf (Reg.ROW_EPOCH k (s.rowPort k p)) 0 16 else 0 }) ++ lost }

/-- The job added, its tunnels and ports marked as held, and its first step begun (R155, R156). -/
def State.startGauge (s : State) (opcode : Nat) (r : Req) (k : Nat) (g : Gauge) : State :=
  let n := s.newJobNum
  let s := s.startJob opcode r k g.plan.length []
  let s := s.mapJob n fun j => { j with gauge := some g }
  let s := (gaugeCtxs g).foldl (fun s c => s.holdCtx c.1 c.2 (some n)) s
  let s := (gaugeNear g).foldl (fun s x => s.holdRows x.1 x.2 (some n)) s
  s.startGaugeStep n 1

/-- The last check of R155 and the start. -/
def State.gaugeGo (s : State) (opcode : Nat) (r : Req) (k : Nat) (items : List GaugeItem) (link : Nat × Nat) (lost : List GaugePort)
    (tables : List (Nat × List Nat)) : Res :=
  match s.gaugeOver? items tables with
  | some c => .fail .noResource (0x4000 + c) s
  | none =>
    let g := s.newGauge items link lost
    .accepted s.newJobNum (s.startGauge opcode r k g) [word g.plan.length]

/-! ### Partner routes (R154) -/

/-- The far ends of the ports that hop 0 may use: the far kernel and the far ingress ports, on a ply every member's. -/
def State.farEnds (s : State) (k p : Nat) : List (Nat × Nat) :=
  let one (k p : Nat) : List (Nat × Nat) :=
    let l := s.outLabel k (s.ctrlCtx k p)
    if s.isTight k p then [(l / 512, l % 512), (l / 512, l % 512 + 1)] else [(l / 512, l % 512)]
  one k p ++ (match s.loosePeer k p with | some o => one o.1 o.2 | none => [])

/-- The next partner route or table of a waiting request is read (R154). -/
def State.askPartner (s : State) (w : GaugeWait) : State :=
  let send (opcode target : Nat) (data : List Word) : State :=
    s.sendJobRemote w.linkK w.linkP (jobRemote w.linkK w.linkP opcode target none (some w.id)) data
  match w.reads, w.ports with
  | x :: _, _ => send 0x0307 x.2.1 [word x.2.2]
  | [], c :: _ => send 0x0301 (c / 4 + 16 * (c % 4)) (tableRead w.buf)
  | [], [] => s

/-- A waiting REGAUGE or REGAUGE_ROLLBACK answered and gone. -/
def State.endGaugeWait (s : State) (w : GaugeWait) (st statusDetail : Nat) (data : List Word) : State :=
  let s := { s with gaugeWaits := s.gaugeWaits.filter fun x => x.id ≠ w.id }
  let r := w.req
  let s := if st ≤ 1 then s else s.bump (Reg.DIAG_REJECT (reqTarget r) (master r.via)) 1
  s.deliver r.via r.slot
    { opcode := w.opcode, tag := r.tag, flags := r.flags / 8 * 8 + r.flags / 2 % 2 * 2 + 1, target := r.target, status := st,
      detail := statusDetail % 65536, data := data }

/-- A request that reads from its partner before it is answered. -/
def State.waitGauge (s : State) (w : GaugeWait) : Res :=
  let w := { w with id := (s.gaugeWaits.map (·.id)).foldl max 0 + 1 }
  { status := .accepted, detail := 0, data := [], state := ({ s with gaugeWaits := s.gaugeWaits ++ [w] }).askPartner w, later := true }

/-! ### Rollback (R158) -/

/-- The items of a rollback: from the gauge in force back to the old gauge, without unreached ports and tunnels that left Open. That of a partner's
port comes from its table. -/
def State.rollbackItems (s : State) (g : Gauge) : List GaugeItem :=
  (g.items.filter fun i =>
      !(g.ports.any fun x => x.far == i.far && x.k == i.k && x.p == i.p && x.unreached)
        && (if i.kind = 1 then s.routeValid i.kernel i.index else s.tunState i.kernel i.index == 2)).map fun i =>
    { i with old := if i.far then 0 else s.gauge i.k i.p i.label, new := i.old }

/-- The re-gauge job that a rollback names; a rollback is none (R158). -/
def State.gaugeJob? (s : State) (n : Nat) : Option Job := (s.job? n).bind fun j => if j.gauge.isSome ∧ j.opcode = 0x0304 then some j else none

/-- The checks of a rollback. -/
def State.rollbackChecks (s : State) (j : Job) (g : Gauge) : List Check :=
  let items := s.rollbackItems g
  let near := items.filter fun i => !i.far
  let held := near.filterMap fun i => if i.kind = 0 then s.ctxJob i.kernel i.index else none
  [(!([.partly, .aborted].contains j.state), .wrongState, 0x100 + jobStateCode j.state)]
    ++ near.map (fun i => (!s.portOpen i.k i.p, .wrongState, 0x31))
    ++ [((items.any (·.far)) && !s.portOpen g.linkK g.linkP, .wrongState, 0x31), (!held.isEmpty, .busy, held.headD 0)]
    ++ near.map (fun i => rowsBusy s i.k i.p) ++ [jobLimit s]

/-- What a request comes to once all that it reads from the partner is there; the items of a partner's port take their gauge from its table. -/
def State.finishWait (s : State) (w : GaugeWait) : Res :=
  let k := reqTarget w.req
  let inForce (i : GaugeItem) : GaugeItem :=
    if i.far then { i with old := tableGauge (smapGet (fun _ => []) w.tables (4 * i.k + i.p)) i.label } else i
  let link := (w.linkK, w.linkP)
  if w.opcode = 0x0304 then
    .checked (s.gaugeChecks w.req k) s
      (s.gaugeGo 0x0304 w.req k (((gaugeEntries w.req).map fun e => s.gaugeNearItem e.2) ++ w.items.map inForce) link [] w.tables)
  else
    match s.gaugeJob? (reqWord w.req 12).toNat with
    | none => .fail .badParam 12 s
    | some j =>
      match j.gauge with
      | none => .fail .badParam 12 s
      | some g =>
        .checked (s.rollbackChecks j g) s (s.gaugeGo 0x0305 w.req k ((s.rollbackItems g).map inForce) link w.lost w.tables)

/-- The partner's ports that items name, by 4 × kernel + port. -/
def farPorts (items : List GaugeItem) : List Nat := ((items.filter (·.far)).map fun i => 4 * i.k + i.p).dedup

/-- A waiting request with one more answer from its partner: it asks for the next part, or is finished. -/
def State.wentOn (s : State) (w : GaugeWait) : State :=
  let s := { s with gaugeWaits := s.gaugeWaits.map fun (y : GaugeWait) => if y.id = w.id then w else y }
  if w.reads.isEmpty ∧ w.ports.isEmpty then
    let res := s.finishWait w
    res.state.endGaugeWait w (statusCode res.status) res.detail res.data
  else s.askPartner w

/-- A route that the partner answered: valid, with its cells coming in at the far end of hop 0 under the source's label (R154). -/
def State.routeRead (s : State) (w : GaugeWait) (x : Nat × Nat × Nat) (rest : List (Nat × Nat × Nat)) (data : List Word) : State :=
  let e := gaugeEntry w.req x.1
  let near := s.gaugeNearItem e
  let a := data.getD 0 0
  let b := data.getD 1 0
  if !bitAt a 31 || fld a 16 12 != near.label || !(s.farEnds near.k near.p).contains (e.farK, fld a 0 2) then
    s.endGaugeWait w (statusCode .badParam) (18 + 8 * x.1) []
  else
    let item : GaugeItem :=
      { near with label := fld b 16 12, k := fld b 0 3, p := fld b 4 2, far := true, hop := 1, old := fld (data.getD 2 0) 0 11 }
    let items := w.items ++ [item]
    s.wentOn { w with items := items, reads := rest, ports := farPorts items }

/-- The reply to a remote read of a waiting request. -/
def State.gaugeWaitReply (s : State) (id status detail : Nat) (data : List Word) : State :=
  match s.gaugeWaits.find? fun w => w.id == id with
  | none => s
  | some w =>
    match w.reads, w.ports with
    | x :: rest, _ => if status ≠ 0 then s.endGaugeWait w status detail [] else s.routeRead w x rest data
    | [], c :: cs =>
      match tableGot w.buf status data with
      | none => s.endGaugeWait w status detail []
      | some (buf, false) => s.wentOn { w with buf := buf }
      | some (buf, true) => s.wentOn { w with buf := [], ports := cs, tables := w.tables ++ [(c, buf)] }
    | [], [] => s

/-- REGAUGE (R154, R155). With partner routes to read, the reply waits for them. -/
def cmdRegauge : Cmd where
  opcode := 0x0304
  domain := fun _ => 2
  minLen := 12
  bad r _ s := badGauge r s
  act r k s :=
    .checked (s.gaugeChecks r k) s
      (match s.gaugeLink r with
       | none => s.gaugeGo 0x0304 r k ((gaugeEntries r).map fun e => s.gaugeNearItem e.2) (0, 0) [] []
       | some l =>
         s.waitGauge { id := 0, req := r, opcode := 0x0304, items := [],
                       reads := ((gaugeEntries r).filter fun e => e.2.next).map fun e => (e.1, e.2.farK, e.2.farRoute), linkK := l.1, linkP := l.2 })

def execRegauge (r : Req) (s : State) : Result := onCommand cmdRegauge r s

/-- REGAUGE_ROLLBACK (R158). With partner ports to change, the reply waits for their tables. -/
def cmdRegaugeRollback : Cmd where
  opcode := 0x0305
  domain := fun _ => 2
  minLen := 4
  bad r _ s := [badSub r 1, ((s.gaugeJob? (reqWord r 12).toNat).isNone, .badParam, 12)]
  act r k s :=
    match s.gaugeJob? (reqWord r 12).toNat with
    | none => .fail .badParam 12 s
    | some j =>
      match j.gauge with
      | none => .fail .badParam 12 s
      | some g =>
        let items := s.rollbackItems g
        let lost := g.ports.filter (·.unreached)
        .checked (s.rollbackChecks j g) s
          (if (farPorts items).isEmpty then s.gaugeGo 0x0305 r k items (g.linkK, g.linkP) lost []
           else s.waitGauge { id := 0, req := r, opcode := 0x0305, items := items, reads := [], ports := farPorts items, lost := lost,
                              linkK := g.linkK, linkP := g.linkP })

def execRegaugeRollback (r : Req) (s : State) : Result := onCommand cmdRegaugeRollback r s

end Sys2Proof.Machine
end

