-- ==== Sys2Proof/Machine/Switch.lean ====
section
/-! DEFINITION. What a link port does with an arriving cell (R128 to R134, R144, R145, R162, R182, R436, R437): label resolution, the
checks, reassembly of packets for a context, and the forwarding of raw-route cells. -/

namespace Sys2Proof.Machine

/-! ### The line format (Table 4.3, R133) -/

def crc8Bit (c : BitVec 8) : BitVec 8 := if c.getLsbD 7 then (c <<< 1) ^^^ 0x07 else c <<< 1

/-- HCHK: CRC-8, polynomial 0x07, initial value 0 (R133). -/
def crc8 (bs : List Byte) : BitVec 8 := bs.foldl (fun c b => (List.range 8).foldl (fun c _ => crc8Bit c) (c ^^^ b)) 0

/-- The 72 bytes of a cell, most significant first; the payload padded with zeros (R131, R132). -/
def cellBytes (c : Cell) : List Byte :=
  let count := c.payload.length
  let h := c.label % 4096 * 2 ^ 52 + c.cls % 8 * 2 ^ 49 + c.first.toNat * 2 ^ 48 + c.last.toNat * 2 ^ 47 + c.cm.toNat * 2 ^ 46
    + c.sealed.toNat * 2 ^ 45 + count % 128 * 2 ^ 38 + c.seq % 256 * 2 ^ 30
  let hb := (List.range 7).map fun i => BitVec.ofNat 8 (h / 2 ^ (56 - 8 * i))
  hb ++ [crc8 hb] ++ c.payload ++ List.replicate (64 - count) 0

/-- The header of a received cell as a number of 56 bits. -/
def headerNum (raw : List Byte) : Nat := (raw.take 7).foldl (fun n b => n * 256 + b.toNat) 0

/-- COUNT of a received cell. -/
def headerCount (raw : List Byte) : Nat := headerNum raw / 2 ^ 30 % 128

def cellOf (raw : List Byte) : Cell :=
  let h := headerNum raw
  { label := h / 2 ^ 44 % 4096, cls := h / 2 ^ 41 % 8, first := h / 2 ^ 40 % 2 == 1, last := h / 2 ^ 39 % 2 == 1,
    cm := h / 2 ^ 38 % 2 == 1, sealed := h / 2 ^ 37 % 2 == 1, seq := h / 2 ^ 22 % 256,
    payload := (raw.drop 8).take (min 64 (headerCount raw)) }

/-! ### Sequence and credit (R134, R144, Table 4.13) -/

/-- How far a SEQ lies ahead of the one expected. -/
def seqAhead (x : Ctx) (seq : Nat) : Nat := (seq + 256 - x.rxSeq) % 256

/-- A gap on a lossless tunnel: what follows is discarded and a NACK falls due; an encrypted tunnel starts again after its last whole
packet (R144). True beside the context when the gap is new. -/
def Ctx.gap (x : Ctx) (enc : Bool) : Ctx :=
  let x := if enc then { x with rxOpen := none, rxSeq := (x.wholeSeq + 1) % 256 } else x
  if x.nack then x else { x with nack := true, nackDue := true, changed := true }

/-- A cell in sequence. -/
def Ctx.inSeq (x : Ctx) (c : Cell) : Ctx :=
  { x with rxSeq := (c.seq + 1) % 256, nack := false, nackDue := false,
           wholeSeq := if c.last then c.seq else x.wholeSeq }

/-- Cells of the open packet. -/
def Ctx.openCells (x : Ctx) : Nat := match x.rxOpen with | some b => ceilDiv b.length 64 | none => 0

/-- The credit that an arriving cell uses (R184): a granted cell, or one of the first MIN before the first CREDIT entry. None where it has
none left. -/
def Ctx.useCredit (x : Ctx) (min : Nat) : Option Ctx :=
  if 0 < x.granted then some { x with granted := x.granted - 1 }
  else if !x.creditSent && decide (x.rxSeq < min) then some x
  else none

/-! ### Whole packets -/

/-- The packet number and phase parity of an encrypted packet (R436). -/
def packetPn (bs : List Byte) : Nat × Bool := (numAt bs 0 8 % 2 ^ 63, decide (byteAt bs 7 / 128 = 1))

/-- An encrypted packet that fails its tag or its PN (R437): a class 7 violation, and the quarantine at the sixteenth in a row. -/
def State.authReject (s : State) (k p n t m label : Nat) : State :=
  let s := s.bump (Reg.CRYPT_AUTH_FAIL k p) 1
  let x := s.ctxAt n t m
  let s := s.setCtxAt n t m { x with authFails := x.authFails + 1 }
  let s := s.violation k p 7 label (some (n, t))
  if 16 ≤ x.authFails + 1 ∧ 8 ≤ t then s.quarantine n t 7 else s

/-- The phase of a received packet on a port, from its parity (R437): the newest received, the one before while its keys are kept, or the
next, which begins with it. -/
def Port.packetPhase (x : Port) (odd : Bool) : Nat :=
  if decide (x.rxPhase % 2 = 1) == odd then x.rxPhase else if x.oldKeys then x.rxPhase - 1 else x.rxPhase + 1

/-- A context after a packet whose tag is good: none where its PN is not above the highest accepted in its phase (R437). -/
def Ctx.takePn (x : Ctx) (phase pn : Nat) : Option Ctx :=
  match x.pn.find? fun e => e.1 == phase with
  | some e => if pn ≤ e.2 then none else some { x with pn := smapInsert x.pn phase pn }
  | none => some { x with pn := smapInsert x.pn phase pn }

/-- The first packet of a phase has arrived on a port. -/
def State.phaseRx (s : State) (k p phase : Nat) : State :=
  let x := s.port k p
  if x.rxPhase < phase then s.setPort k p { x with rxPhase := phase, oldKeys := true } else s

/-- The cleartext of a received packet: none where the engine rejects it (R437). `plain` is what AES-256-GCM yields, none for a wrong tag. -/
def State.decrypt (s : State) (k p n t m label : Nat) (bs : List Byte) (plain : Option (List Byte)) : Option (List Byte) × State :=
  let x := s.ctxAt n t m
  let pn := packetPn bs
  let phase := (s.port k p).packetPhase pn.2
  match plain with
  | none => (none, s.authReject k p n t m label)
  | some b =>
    if bs.length < 24 then (none, s.authReject k p n t m label)
    else match x.takePn phase pn.1 with
      | none => (none, (s.bump (Reg.CRYPT_REPLAY k p) 1).authReject k p n t m label)
      | some y => (some b, (s.setCtxAt n t m { y with authFails := 0 }).phaseRx k p phase)

/-- What a context does on a seal failure (R372): discard, or quarantine the tunnel. -/
def State.sealReject (s : State) (n t m : Nat) : State :=
  let s := s.sealFail n t m
  let act := s.sealAction n t
  if act = 2 ∨ act = 0 ∧ lossless (s.tunClass n t) then s.quarantine n t 0 else s

/-- A whole packet for a context: decrypted, its seal checked and taken off, snooped, and queued for the adapter. -/
def State.rxPacket (s : State) (k p n t m : Nat) (c : Cell) (enc : Bool) (cm : Bool) (bs : List Byte) (plain : Option (List Byte))
    (busy : Bool) : State :=
  let d := if enc then s.decrypt k p n t m c.label bs plain else (some bs, s)
  match d.1 with
  | none => d.2
  | some b =>
    let s := d.2
    let want := s.ctxSeals n t
    if decide (8 ≤ t) && (c.sealed != want || (want && !sealGood b)) then s.sealReject n t m
    else
      let b := if want then b.take (b.length - 4) else b
      let s := s.snoop n t true busy b
      let x := s.ctxAt n t m
      s.setCtxAt n t m { x with rxq := x.rxq ++ [(cm, b)], changed := x.changed || lossless c.cls }

/-! ### Cells of a context -/

/-- The open packet of a context discarded and counted (R145). -/
def State.dropOpen (s : State) (n t m : Nat) (dropping : Bool) : State :=
  let x := s.ctxAt n t m
  let s := if x.openCells = 0 then s else s.bump (Reg.TUN_DISCARD n t) x.openCells
  s.setCtxAt n t m { x with rxOpen := none, rxCm := false, dropping := dropping }

/-- A cell admitted to a receive queue (R181, R182): class 5 by its FIRST cell, classes 1 and 2 cell by cell, lossless ones always. -/
def State.rxAdmits (s : State) (n t : Nat) (c : Cell) : Bool :=
  let f := s.bufFree n
  if lossless c.cls then true
  else if c.cls = 5 then (if c.first then s.admits n t (s.rxDepth n t) f else decide (0 < f))
  else s.admits n t (s.rxDepth n t) f

/-- A cell in its place in the packet: framing (R132), admission, marking, and the packet when it is whole. -/
def State.rxBody (s : State) (k p n t m count : Nat) (c : Cell) (enc : Bool) (plain : Option (List Byte)) (busy : Bool) : State :=
  let x := s.ctxAt n t m
  if count = 0 ∨ 64 < count ∨ (count < 64 ∧ !c.last) then
    (s.dropOpen n t m !c.last).violation k p 4 c.label (some (n, t))
  else if !c.first && x.rxOpen.isNone then
    if x.dropping then (s.bump (Reg.TUN_DISCARD n t) 1).setCtxAt n t m { x with dropping := !c.last }
    else (s.setCtxAt n t m { x with dropping := !c.last }).violation k p 4 c.label (some (n, t))
  else
    let s := if c.first then s.dropOpen n t m false else s
    if !s.rxAdmits n t c then ((s.dropOpen n t m !c.last).bump (Reg.Q_DROP n t) 1).bump (Reg.TUN_DISCARD n t) 1
    else
      let w := s.markCells n t (s.rxDepth n t) [c]
      let s := w.2
      let x := s.ctxAt n t m
      let cm := x.rxCm || c.cm || (w.1.any (·.cm))
      let bs := (x.rxOpen.getD []) ++ c.payload
      if c.last then
        ((s.setCtxAt n t m { x with rxOpen := none, rxCm := false }).rxPacket k p n t m c enc cm bs plain busy).notePeak n
      else (s.setCtxAt n t m { x with rxOpen := some bs, rxCm := cm }).notePeak n

/-- A cell for context (n, t) has come to its kernel, in a state that takes cells (R134, R137, R144, Table 4.13). A CLASS 0 cell on the label of a context
other than a control tunnel carries a link message (R140, log entry 20). -/
def State.rxLand (s : State) (k p n t m count : Nat) (c : Cell) (enc : Bool) (plain : Option (List Byte)) (busy : Bool) : State :=
  let s := s.bump (Reg.TUN_CELLS_RX n t) 1
  let x := s.ctxAt n t m
  let d := seqAhead x c.seq
  if !([1, 2, 3].contains (s.tunState n t)) then s.bump (Reg.TUN_DISCARD n t) 1
  else if c.cls = 0 ∧ 4 ≤ t then s
  else if c.cls ≠ s.tunClass n t then s.violation k p 3 c.label (some (n, t))
  else if lossless c.cls then
    if 128 < d then s.violation k p 5 c.label (some (n, t))
    else if d ≠ 0 then
      let s := if x.nack then s else s.bump (Reg.TUN_GAPS n t) 1
      s.setCtxAt n t m (x.gap enc)
    else
      match x.useCredit (s.qMin n t) with
      | none =>
        let s := s.violation k p 6 c.label (some (n, t))
        if 8 ≤ t then s.quarantine n t 6 else s.quarantineShared n t p 6
      | some x => (s.setCtxAt n t m { x.inSeq c with changed := true }).rxBody k p n t m count c enc plain busy
  else
    let s := if d = 0 then s else (s.bump (Reg.TUN_GAPS n t) 1).dropOpen n t m true
    (s.setCtxAt n t m ((s.ctxAt n t m).inSeq c)).rxBody k p n t m count c enc plain busy

/-! ### Cells of a raw route (R130, R176, R177, R182) -/

/-- The key under which a route queues at its egress: its member of a loose ply counts (R134). -/
def State.routeOutKey (s : State) (n r : Nat) : Nat := let e := s.routeEgress n r; routeKey n r (s.memberOf e.1 e.2)

/-- The transit queue of a route for cells of a class. -/
def State.routeQ (s : State) (n r cls : Nat) : Nat := let e := s.routeEgress n r; transitQ (s.rowPort e.1 e.2) (s.classNode e.1 cls)

/-- Cells stored in a transit queue, marked from MARK on (R185). -/
def State.storeRouted (s : State) (k q key : Nat) (cs : List Cell) : State :=
  let l := s.transit k q
  let w := s.markCells k q l.length cs
  (w.2.setTransit k q (l ++ w.1.map fun c => (key, c))).notePeak k

/-- A cell that cuts through port (k, p) and loses its stitch is stored instead (R177). -/
def State.storeCut (s : State) (k p : Nat) : State :=
  let x := s.port k p
  match x.cut with
  | none => s
  | some c => (s.setPort k p { x with cut := none }).storeRouted k (transitQ p (s.classNode k c.2.cls)) c.1 [c.2]

/-- A routed cell cuts through (R176): the transit queue is empty, the egress stitch lasts at least as long as the ingress stitch, and the route needs no
encryption. Its header has passed HCHK, and a cell of a route is never multicast. -/
def State.cutsThrough (s : State) (k p n r : Nat) (c : Cell) : Bool :=
  let e := s.routeEgress n r
  (s.transit e.1 (s.routeQ n r c.cls)).isEmpty && (s.port e.1 (s.rowPort e.1 e.2)).cut.isNone && !s.routeEnc n r
    && decide (s.stitchUnits k p ≤ s.stitchUnits e.1 e.2)

/-- Cells go to the egress of a route under its egress label and the next SEQ there; the first may cut through. -/
def State.queueRoute (s : State) (k p n r : Nat) (cs : List Cell) : State :=
  let e := s.routeEgress n r
  let q := s.rowPort e.1 e.2
  let out := s.routeOutLabel n r
  let key := s.routeOutKey n r
  let x := s.routeCtx key
  let cs := cs.mapIdx fun i c => { c with label := out, seq := (x.txSeq + i) % 256, bucket := bucketOf out [] }
  let s := s.setRouteCtx key { x with txSeq := (x.txSeq + cs.length) % 256, cls := (cs.map (·.cls)).headD x.cls }
  match cs with
  | [c] =>
    if s.cutsThrough k p n r c then s.setPort e.1 q { s.port e.1 q with cut := some (key, c) }
    else (s.storeCut e.1 q).storeRouted e.1 (s.routeQ n r c.cls) key [c]
  | _ => (s.storeCut e.1 q).storeRouted e.1 (s.routeQ n r ((cs.map (·.cls)).headD 0)) key cs

/-- Whether a transit queue takes a routed cell (R181, R182). -/
def State.routeAdmits (s : State) (n r : Nat) (c : Cell) : Bool :=
  let e := s.routeEgress n r
  let q := s.routeQ n r c.cls
  let f := s.bufFree e.1
  if lossless c.cls then true
  else if c.cls = 5 ∧ !c.first then decide (0 < f)
  else s.admits e.1 q (s.transit e.1 q).length f

/-- The partial packet that a route has in a transit queue is discarded and counted (R182). -/
def State.dropPartial (s : State) (n r : Nat) (c : Cell) : State :=
  let e := s.routeEgress n r
  let q := s.routeQ n r c.cls
  let key := s.routeOutKey n r
  let l := s.transit e.1 q
  let mine := (l.filter fun y => y.1 == key).length
  let part := ((l.reverse.filter fun y => y.1 == key).takeWhile fun y => !y.2.last).length
  let keep := (l.foldl (fun (a : List (Nat × Cell) × Nat) y =>
    if y.1 = key then (if a.2 < mine - part then (a.1 ++ [y], a.2 + 1) else a) else (a.1 ++ [y], a.2)) ([], 0)).1
  ((s.setTransit e.1 q keep).dropFetched fun x => x.raw && x.n == key).bump (Reg.Q_DROP e.1 q) part

/-- A cell of a route has come to the kernel of its egress: its queue takes it, or it is dropped and counted. A network packet is dropped as a whole,
cells of classes 1 and 2 one at a time (R182). -/
def State.routeLand (s : State) (k p n r : Nat) (c : Cell) : State :=
  let key := routeKey n r (s.memberOf k p)
  let x := s.routeCtx key
  let e := s.routeEgress n r
  if !s.routeValid n r then s
  else if x.dropping && !c.first then s.setRouteCtx key { x with dropping := !c.last }
  else if !s.routeAdmits n r c then
    let s := if c.cls = 5 ∧ !c.first then s.dropPartial n r c else s
    (s.setRouteCtx key { s.routeCtx key with dropping := c.cls == 5 && !c.last }).bump (Reg.Q_DROP e.1 (s.routeQ n r c.cls)) 1
  else (s.setRouteCtx key { x with dropping := false }).queueRoute k p n r [c]

/-! ### Cells over seams (R20 to R22, R172) -/

/-- Two cells go to the same queue, in which their order stands (R172). -/
def FlightEnd.same : FlightEnd → FlightEnd → Bool
  | .rx _ _ n t m _ _ _ _, .rx _ _ a b c _ _ _ _ => n == a && t == b && m == c
  | .route _ _ n r, .route _ _ a b => n == a && r == b
  | .egress k p x, .egress a b y => k == a && p == b && x == y
  | _, _ => false

/-- A cell at its destination kernel. -/
def State.land (s : State) (c : Cell) (fin : FlightEnd) : State :=
  match fin with
  | .rx k p n t m count enc plain busy => s.rxLand k p n t m count c enc plain busy
  | .route k p n r => s.routeLand k p n r c
  | .egress k p x =>
    let y := s.port k p
    s.setPort k p { y with fetched := (x, ((y.fetched.find? fun e => e.1 == x).map (·.2)).getD 0 + 1) :: y.fetched.filter fun e => e.1 != x }

/-- A cell sets off for another kernel; inside one it is there at once. -/
def State.arrive (s : State) (a b bucket : Nat) (c : Cell) (fin : FlightEnd) : State :=
  if a = b then s.land c fin
  else { s with flights := s.flights ++ [{ cell := c, here := a, dst := b, bucket := bucket, fin := fin }] }

/-- A cell that a change of the seams would take over a fourth hop is lost and counted (R23; DESIGN CHOICE, log entry 128). -/
def State.loseFlight (s : State) (f : Flight) : State :=
  let s := s.releaseHop f
  match f.fin with
  | .rx _ _ n t _ _ _ _ _ => s.bump (Reg.TUN_DISCARD n t) 1
  | .route _ _ n r => s.bump (Reg.Q_DROP (s.routeEgress n r).1 (s.routeQ n r f.cell.cls)) 1
  | .egress _ _ _ => s

/-- One pass over the cells on their way, oldest first: each moves one hop, or lands behind those that go to the same queue (DESIGN CHOICE for the pace,
log entry 128). -/
def State.moveFlights (s : State) : State :=
  (s.flights.foldl (fun (a : State × List FlightEnd) f =>
    let s := a.1
    let keep (s : State) (f : Flight) : State := { s with flights := s.flights ++ [f] }
    if f.here = f.dst then
      if s.flights.any fun g => g.fin.same f.fin then (keep s f, a.2) else ((s.releaseHop f).land f.cell f.fin, a.2)
    else if 3 ≤ f.hops then (s.loseFlight f, a.2)
    else if a.2.any fun g => g.same f.fin then (keep s f, a.2)
    else match s.hop? f with
      | some x => (keep x.2 x.1, a.2)
      | none => (keep s f, f.fin :: a.2)) ({ s with flights := [] }, [])).1

/-- A tunnel whose flows a seam hash set spreads (R190). -/
def State.spreadCtx (s : State) (n t : Nat) : Bool :=
  s.tunType n t == 6 && s.rf (Reg.TUN_OPTS n t) 0 2 == 1 && s.gauge (s.gaugePort n t).1 (s.gaugePort n t).2 (s.outLabel n t) == 0

/-- A cell for context (n, t) at port (k, p): inside one kernel it is there at once. Cells of a tunnel that spreads its flows over seam paths set off once
their packet is whole, under the bucket of its flow (R190, R436); all others under that of their label. -/
def State.rxCtx (s : State) (k p n t count : Nat) (c : Cell) (plain : Option (List Byte)) (busy : Bool) : State :=
  let m := s.memberIx n t k p
  let enc := s.ctxEnc n t (k, p)
  let fin (cnt : Nat) (pl : Option (List Byte)) : FlightEnd := .rx k p n t m cnt enc pl busy
  let base := bucketOf c.label []
  if k = n ∨ !s.spreadCtx n t then s.arrive k n base c (fin count plain)
  else
    let x := s.ctxAt n t m
    let old := if c.first then x.rxWait else []
    let s := old.foldl (fun s y => s.arrive k n base y.2 (fin y.1 none)) s
    let wait := (if c.first then [] else x.rxWait) ++ [(count, c)]
    if !c.last then s.setCtxAt n t m { s.ctxAt n t m with rxWait := wait }
    else
      let bs := if enc then plain.getD [] else wait.flatMap fun y => y.2.payload
      let b := bucketOf c.label (frameKey (bs.drop (if byteAt bs 0 = 2 then 16 else 4)))
      wait.foldl (fun s y => s.arrive k n b y.2 (fin y.1 (if y.2.last then plain else none)))
        (s.setCtxAt n t m { s.ctxAt n t m with rxWait := [] })

/-- A routed cell in sequence: an ENCRYPT route takes whole packets, which this port decrypts and the egress port encrypts anew; each cell of the packet
keeps its CM (R130, R436). -/
def State.routeBody (s : State) (k p n r : Nat) (c : Cell) (plain : Option (List Byte)) : State :=
  let key := routeKey n r (s.memberOf k p)
  let x := s.routeCtx key
  let e := s.routeEgress n r
  let base := bucketOf c.label []
  if s.routeEnc n r && !(s.rb (Reg.LNK_STATE k p) 7 && s.rb (Reg.LNK_STATE e.1 e.2) 7) then
    s.bump (Reg.CRYPT_NOKEY (if s.rb (Reg.LNK_STATE k p) 7 then e.1 else k) (if s.rb (Reg.LNK_STATE k p) 7 then e.2 else p)) 1
  else if x.gapDrop && !c.first then s.setRouteCtx key { x with gapDrop := !c.last }
  else if s.routeEnc n r then
    let bs := (if c.first then [] else x.rxOpen.getD []) ++ c.payload
    let cms := (if c.first then [] else x.cms) ++ [c.cm]
    if c.last then
      let y := { x with rxOpen := none, gapDrop := false, cms := [] }
      let pn := packetPn bs
      let phase := (s.port k p).packetPhase pn.2
      let bad (s : State) : State := ((s.setRouteCtx key y).bump (Reg.CRYPT_AUTH_FAIL k p) 1).violation k p 7 c.label none
      match plain, y.takePn phase pn.1 with
      | none, _ => bad s
      | some _, none => bad (s.bump (Reg.CRYPT_REPLAY k p) 1)
      | some b, some y =>
        let s := (s.setRouteCtx key y).phaseRx k p phase
        let cs := (cellsOf c.label c.cls 0 c.sealed (lineBytes true b)).mapIdx fun i z =>
          { z with enc := true, cm := cms.getD i c.cm, stampPort := c.stampPort, stamp := c.stamp, stampRate := c.stampRate }
        cs.foldl (fun s z => s.arrive k e.1 base z (.route k p n r)) s
    else s.setRouteCtx key { x with rxOpen := some bs, gapDrop := false, cms := cms }
  else (s.setRouteCtx key { x with gapDrop := false }).arrive k e.1 base c (.route k p n r)

/-- A cell of a raw route (R128, R144). -/
def State.rxRoute (s : State) (k p n r count : Nat) (c : Cell) (plain : Option (List Byte)) : State :=
  let key := routeKey n r (s.memberOf k p)
  let x := { s.routeCtx key with cls := c.cls }
  let d := seqAhead x c.seq
  let e := s.routeEgress n r
  if 5 < c.cls then s.violation k p 3 c.label none
  else if count = 0 ∨ 64 < count ∨ (count < 64 ∧ !c.last) then s.violation k p 4 c.label none
  else if lossless c.cls then
    if 128 < d then s.violation k p 5 c.label none
    else if d ≠ 0 then s.setRouteCtx key (x.gap (s.routeEnc n r))
    else
      match x.useCredit (s.qMin e.1 (s.routeQ n r c.cls)) with
      | none => s.violation k p 6 c.label none
      | some x => (s.setRouteCtx key { x.inSeq c with changed := true }).routeBody k p n r c plain
  else (s.setRouteCtx key { x.inSeq c with gapDrop := x.gapDrop || (d != 0 && !c.first) }).routeBody k p n r c plain

/-! ### CELL_RX -/

/-- The context of a label on a port (R128): it exists, is in a state that takes cells, and uses this port or a ply that holds it. -/
def State.labelCtx (s : State) (k p label : Nat) (sts : List Nat) : Bool :=
  let n := label / 512
  let t := label % 512
  s.hasKernel n && sts.contains (s.tunState n t)
    && (if t < 4 then n == k && t == s.ctrlCtx k p
        else if t < 6 then n == k
        else s.egress n t 0 == s.plyHead k p || s.memberPort n t 1 == (k, p) || (s.legOn? n t k p).isSome)

/-- A cell at an Open port: HCHK, then the label (R128, R133). -/
def State.cellRx (s : State) (k p : Nat) (raw : List Byte) (plain : Option (List Byte)) (busy : Bool) : State :=
  let c := { cellOf raw with stampPort := portKey k p, stamp := (s.port k p).stitch, stampRate := (s.port k p).rateChanges }
  let n := c.label / 512
  let t := c.label % 512
  if crc8 (raw.take 7) ≠ raw.getD 7 0 then s.violation k p 1 0 none
  else
    match s.routeIn? k p c.label with
    | some r => s.rxRoute k p r.1 r.2 (headerCount raw) c plain
    | none =>
      if n = k ∧ ((t = 5 ∧ (s.port k p).pipFault) ∨ (t = 4 ∧ (s.port k p).timeFault)) then s.bump (Reg.TUN_DISCARD n t) 1
      else if s.labelCtx k p c.label [1, 2, 3] then s.rxCtx k p n t (headerCount raw) c plain busy
      else if s.labelCtx k p c.label [4, 5] then s.bump (Reg.TUN_DISCARD n t) 1
      else s.violation k p 2 c.label none

/-- The bytes of the cell in three blocks. -/
def cellOfBits (bits : BitVec 576) : List Byte := (List.range 72).map fun i => bits.extractLsb' (568 - 8 * i) 8

/-- A stitch that the port cannot receive while a lane hunts: lost and counted, and the receive position moves on (R99). -/
def State.loseStitch (s : State) (k p : Nat) : State :=
  let q := s.linePort k p
  let x := s.port k q
  (s.setPort k q { x with rxBlk := x.rxBlk + 3, rxScr := skipBlocks (s.laneCount k p) x.rxBlk 3 x.rxScr }).bump (Reg.LNK_STITCH_LOST k q) 1

/-- A lane of the port, or of its tight ply, hunts. -/
def State.lanesHunt (s : State) (k p : Nat) : Bool :=
  (List.range (s.laneCount k p / 2)).any fun i => (s.port k (s.linePort k p + i)).hunting != 0

/-- The three blocks of a stitch arrive on port p of kernel k (R86, R93): a cell, or control blocks, or what the receiver cannot take as a cell
(DESIGN CHOICE where blocks of two kinds share a stitch, log entry 118). `plain` is what decryption yields of the packet that the cell completes;
`busy` says that a check unit that snoops the packet is still busy. -/
def execCellRx (k p : Nat) (b0 b1 b2 : Block) (plain : Option (List Byte)) (busy : Bool) (s : State) : Result :=
  onPort k p ([3, 4].contains (s.portState k p) || s.castHears k p) s
    (if s.lanesHunt k p then s.loseStitch k p
     else
       let r := s.receive k p [b0, b1, b2]
       match cellOfBlocks r.1 with
       | some bits => if s.castHears k p then r.2 else (r.2.cellRx k p (cellOfBits bits) plain busy).moveFlights
       | none => r.2)

end Sys2Proof.Machine
end

