-- ==== Sys2Proof/Machine/Stitch.lean ====
section
/-! DEFINITION. What a link port sends (R86, R91 to R95, R149, R175, R194 to R201, R436): the choice of a source for each stitch, the scheduler
and its shapers, the lane blocks with stuffing and deferral, and what begins with a row. -/

namespace Sys2Proof.Machine

/-! ### The blocks of a cell (R85, R86, R92) -/

/-- The three blocks of a cell on their lanes, each none where it cannot go out, and the lanes' states after them (R86, R92). -/
def sendBlocks (lanes n : Nat) (scr : List (BitVec 31)) (bits : BitVec 576) : List (Nat × Option Block) × List (BitVec 31) :=
  onLanes lanes (3 * n) (fun _ st (p : BitVec 192) => dataBlock (p ^^^ blockKey st)) scr
    [bits.extractLsb' 384 192, bits.extractLsb' 192 192, bits.extractLsb' 0 192]

/-- The bits of a cell, most significant first. -/
def cellBits (c : Cell) : BitVec 576 := BitVec.ofNat 576 (bytesNum 72 (cellBytes c))

/-! ### Sources of a port (R174, R187, R194) -/

/-- The contexts that send on a port: its control tunnel, T4, T5, its tunnels in a state that sends (R137), the link legs of replication lists, and
what closed tunnels still have to say. -/
def State.portSrcs (s : State) (k p : Nat) : List Src :=
  let ctl : List Src := [{ n := k, t := s.ctrlCtx k p, m := 0, leg := 0 }, { n := k, t := 4, m := p, leg := 0 },
    { n := k, t := 5, m := p, leg := 0 }]
  let own := (s.portCtxs k p).filterMap fun c =>
    let st := s.tunState c.1 c.2
    if st = 2 ∨ st = 3 ∨ (st = 1 ∧ s.rb (Reg.TUN_CTRL c.1 c.2) 12) then
      some ({ n := c.1, t := c.2, m := s.memberIx c.1 c.2 k p, leg := 0 } : Src)
    else none
  let legs := s.mcLegs.flatMap fun l =>
    let w := s.reg (Reg.MC_LEG l.1 l.2.1 l.2.2)
    let t := s.rf (Reg.MC_CTRL l.1 l.2.1) 0 9
    let e := s.labelPort (fld w 1 3) (fld w 4 2) (fld w 16 12)
    if !bitAt w 0 && e.1 == k && s.rowPort e.1 e.2 == p && t != 0x1FF && s.tunState l.1 t == 2 then
      ([0, 1].filter fun m => decide (m = 0) || !(s.ctxAt l.1 t 1).txq.isEmpty).map fun m => ({ n := l.1, t := t, m := m, leg := l.2.2 + 1 } : Src)
    else []
  ctl ++ own ++ legs ++ (s.lastWords k p).map fun c => { n := c.1, t := c.2, m := 0, leg := 0 }

/-- The raw routes with cells in a transit queue, in the order of their first ones. -/
def State.transitSrcs (s : State) (k q : Nat) : List Src :=
  ((s.transit k q).map (·.1)).eraseDups.map fun key => { n := key, t := q, m := 0, leg := 0, raw := true }

/-- The cells of a source in their order. -/
def State.srcCells (s : State) (k : Nat) (x : Src) : List Cell :=
  if x.raw then ((s.transit k x.t).filter fun c => c.1 == x.n).map (·.2)
  else (s.ctxAt x.n x.t x.m).txq.filter fun c => c.legs.testBit x.leg

/-- The kernel in whose store a source's queue sits. -/
def Src.kernel (x : Src) (k : Nat) : Nat := if x.raw then k else x.n

/-- What a source has sent and may still send: its context, or the record of its route. -/
def State.srcCtx (s : State) (x : Src) : Ctx := if x.raw then s.routeCtx x.n else s.ctxAt x.n x.t x.m

/-- The label a source's cells carry on the port. -/
def State.srcLabel (s : State) (p : Nat) (x : Src) : Nat :=
  if x.raw then s.routeOutLabel (x.n / 2 / 1024) (x.n / 2 % 1024)
  else if x.leg = 0 then s.cellLabel x.n x.t p
  else s.rf (Reg.MC_LEG x.n ((s.ctxList? x.n x.t).getD 0) (x.leg - 1)) 16 12

/-- Credit and replay let a lossless cell go with j more ahead of it (R144, R184). -/
def creditLets (c : Ctx) (cls min j : Nat) : Bool :=
  !lossless cls
    || (decide (c.unacked.length + j < 128) && (match c.credit with | some g => decide (j < g) | none => decide (c.unacked.length + j < min)))

/-- A fence of the port's loose ply holds a source's cell (R192). -/
def State.heldBack (s : State) (k p : Nat) (x : Src) (c : Cell) : Bool :=
  s.portPly k p == 2 && x.leg == 0 && (x.raw || decide (8 ≤ x.t)) && s.fenced (s.plyHead k p).1 0 c.bucket (s.memberOf k p)

/-- How many stitches ahead the scheduler has given to a source (R175). -/
def State.planned (s : State) (k p : Nat) (x : Src) : Nat := (s.port k p).plan.countP fun y => y.src == x

/-- A leg takes whole packets in turn where a loose ply splits its context's queue in two (R188, R190). -/
def State.legTurn (s : State) (k p : Nat) (x : Src) : Bool :=
  let o : Src := { x with m := 1 - x.m }
  x.leg == 0 || (((s.srcCells k o).head?.map (·.first)).getD true && s.planned k p o == 0)

/-- Cell j of a source, where it may be sent once those ahead of it are. -/
def State.cellReady (s : State) (k p : Nat) (x : Src) (j : Nat) : Option Cell :=
  ((s.srcCells k x)[j]?).filter fun c =>
    ((!x.raw && !s.ownClass x.n x.t c.cls) || creditLets (s.srcCtx x) c.cls (s.qMin (x.kernel k) x.t) j) && !s.heldBack k p x c
      && s.legTurn k p x


/-! ### The scheduler (R194 to R197) -/

/-- A child of a parent has something left of its round. -/
def dwrrLeft (tbl : List (Nat × Nat)) (par c : Nat) : Nat := smapGet (fun _ => 0) tbl (par * 2 ^ 24 + c)

/-- One DWRR decision among the eligible children of a parent: in ascending order, each up to its weight a round (R196, log entry 22).
A child that is not eligible loses the rest of its round. -/
def dwrrPick (tbl : List (Nat × Nat)) (par : Nat) (cs : List (Nat × Nat)) : Option Nat × List (Nat × Nat) :=
  let key (c : Nat) : Nat := par * 2 ^ 24 + c
  let tbl := tbl.filter fun e => decide (e.1 / 2 ^ 24 ≠ par) || cs.any fun c => key c.1 == e.1
  let take (tbl : List (Nat × Nat)) (c : Nat) : Option Nat × List (Nat × Nat) :=
    (some c, smapPut (fun _ => 0) tbl (key c) (dwrrLeft tbl par c - 1))
  match cs.find? fun c => 0 < dwrrLeft tbl par c.1 with
  | some c => take tbl c.1
  | none =>
    let full := cs.foldl (fun t c => smapPut (fun _ => 0) t (key c.1) (max 1 c.2)) tbl
    match cs with
    | [] => (none, tbl)
    | c :: _ => take full c.1

/-- A queue of the tree that can send: its place under a service node, its code among the children there, and its cell. -/
structure Ready where
  svc : Nat
  sub : Option Nat
  code : Nat
  weight : Nat
  qk : Nat
  q : Nat
  src : Src
  cell : Cell

/-- The code of a context queue among the children of its parent. -/
def srcCode (x : Src) : Nat := 256 + (((512 * x.n + x.t) * 4 + x.m) * 16 + x.leg)

/-- The place of a source in the tree of its port: service node, subscriber node, the queue's code and weight (R194, R195). -/
def State.srcNode (s : State) (k p : Nat) (x : Src) (c : Cell) : Ready :=
  if x.raw then
    let n := x.t % 16
    { svc := n, sub := none, code := 128, weight := s.rf (Reg.SVC_NODE k p n) 16 8, qk := k, q := x.t, src := x, cell := c }
  else
    let sched := s.reg (Reg.TUN_SCHED x.n x.t)
    { svc := if x.t < 8 then s.classNode x.n c.cls else fld sched 8 4,
      sub := if x.t < 8 ∨ bitAt sched 7 ∨ x.m = 1 ∨ 0 < x.leg then none else some (fld sched 0 7),
      code := srcCode x, weight := s.rf (Reg.Q_WEIGHT x.n x.t) 0 8, qk := x.n, q := x.t, src := x, cell := c }

/-- The eligible queues of a port (R196, R200): the next cell of each beyond those given a stitch already. A queue with a packet in progress needs no
permission; of a transit queue the first label that may go counts, and the first with a packet in progress. -/
def State.readyQueues (s : State) (k p : Nat) : List Ready :=
  let next (x : Src) : Option Ready := (s.cellReady k p x (s.planned k p x)).map fun c => s.srcNode k p x c
  let may (r : Ready) : Bool := !r.cell.first || s.permitted r.qk r.q
  let tr := (List.range 16).flatMap fun n =>
    let l := (s.transitSrcs k (transitQ p n)).filterMap next
    (l.head?.toList ++ (l.find? fun r => !r.cell.first).toList)
  ((s.portSrcs k p).filterMap next ++ tr).filter may

/-- The queues under a node that may use it: those with a packet in progress always, the others while the node's shaper permits. -/
def throughNode (ok : Bool) (l : List Ready) : List Ready := l.filter fun r => ok || !r.cell.first

/-- LEVEL of the 16 service nodes of a port. -/
def State.svcLevels (s : State) (k p : Nat) : List Nat := (List.range 16).map fun n => s.rf (Reg.SVC_NODE k p n) 0 2

/-- The eligible service nodes of the lowest level, with that level and their weights. -/
def State.svcChoice (s : State) (k p : Nat) (levels svcs : List Nat) : Nat × List (Nat × Nat) :=
  let level (n : Nat) : Nat := levels.getD n 0
  let v := ((List.range 4).find? fun v => svcs.any fun n => level n == v).getD 0
  (v, ((List.range 16).filter fun n => svcs.contains n && level n == v).map fun n => (n, s.rf (Reg.SVC_NODE k p n) 8 8))

/-- The scheduler's decision for a port (R196), with the round state after it. A new round of the service nodes takes their LEVELs as they are then
(R197). -/
def State.schedule (s : State) (k p : Nat) : Option Ready × State :=
  let l := throughNode (s.permitted k (768 + p)) (s.readyQueues k p)
  let l := l.filter fun r => s.permitted k (704 + 16 * p + r.svc) || !r.cell.first
  let l := l.filter fun r => match r.sub with | some i => s.permitted k (576 + i) || !r.cell.first | none => true
  let svcs := (l.map (·.svc)).dedup
  if l.isEmpty then (none, s)
  else
    let x := s.port k p
    let live := s.svcLevels k p
    let first := s.svcChoice k p (if x.levels.isEmpty then live else x.levels) svcs
    let anew := x.levels.isEmpty || !(first.2.any fun c => decide (0 < dwrrLeft x.dwrr first.1 c.1))
    let here := if anew then s.svcChoice k p live svcs else first
    let s := if anew then s.setPort k p { x with levels := live } else s
    let x := s.port k p
    let a := dwrrPick x.dwrr here.1 here.2
    match a.1 with
    | none => (none, s)
    | some n =>
      let l := l.filter fun r => r.svc == n
      let subs := (List.range 128).filter fun i => l.any fun r => r.sub == some i
      let kids := subs.map (fun i => (i, s.rf (Reg.SUB_NODE k i) 8 8))
        ++ (l.filter fun r => r.sub.isNone).map fun r => (r.code, r.weight)
      let b := dwrrPick a.2 (4 + n) kids
      match b.1 with
      | none => (none, s)
      | some c =>
        if c < 128 then
          let under := l.filter fun r => r.sub == some c
          let d := dwrrPick b.2 (32 + 128 * n + c) (under.map fun r => (r.code, r.weight))
          (under.find? fun r => d.1 == some r.code, s.setPort k p { x with dwrr := d.2 })
        else (l.find? fun r => r.sub.isNone && r.code == c, s.setPort k p { x with dwrr := b.2 })

/-- What a scheduled cell is charged (R199): a packet's length with its FIRST cell, and cells of a routed packet that had not arrived then as they go. Every
bucket from the queue up pays it. `paid` counts the cells of a routed packet that are paid for. -/
def State.chargeReady (s : State) (k p : Nat) (r : Ready) : State :=
  let cells := s.srcCells k r.src ++ (if r.src.raw then [] else (s.ctxAt r.src.n r.src.t r.src.m).waitq.filter fun c => c.legs.testBit r.src.leg)
  let paid := (s.routeCtx r.src.n).paid
  let l := if r.cell.first then packetCharge (if cells.isEmpty then [r.cell] else cells) (s.overhead r.qk r.q)
    else if r.src.raw && paid == 0 then r.cell.payload.length else 0
  let s := if !r.src.raw then s
    else s.setRouteCtx r.src.n { s.routeCtx r.src.n with
      paid := if r.cell.first then (cells.takeWhile fun c => !c.last).length else paid - 1 }
  if l = 0 then s
  else
    let s := s.charge r.qk r.q l
    let s := match r.sub with | some i => s.charge k (576 + i) l | none => s
    (s.charge k (704 + 16 * p + r.svc) l).charge k (768 + p) l

/-- A packet whose FIRST cell went in a gauged stitch is charged nothing (R200): all its cells count as paid for. -/
def State.noCharge (s : State) (x : Src) (c : Cell) : State :=
  if !x.raw then s
  else
    let y := s.routeCtx x.n
    s.setRouteCtx x.n { y with paid := if c.first then 65536 else y.paid - 1 }

/-! ### The egress buffer (R174, R175) -/

/-- Cells of a source that the egress buffer of a port holds, and those on their way to it. -/
def State.fetchedOf (s : State) (k p : Nat) (x : Src) : Nat := (((s.port k p).fetched.find? fun e => e.1 == x).map (·.2)).getD 0

def State.comingTo (s : State) (k p : Nat) (x : Src) : Nat := s.flights.countP fun f => f.fin == .egress k p x

/-- All cells that the egress buffer holds or waits for. -/
def State.egressUse (s : State) (k p : Nat) : Nat :=
  ((s.port k p).fetched.map (·.2)).sum + s.flights.countP fun f => match f.fin with | .egress a b _ => a == k && b == p | _ => false

/-- The labels that have stitches in the active table of a port. -/
def State.gaugedLabels (s : State) (k p : Nat) : List Nat :=
  (s.regs.flatMap fun e =>
    if addrUnit e.1 = k ∧ addrBlock e.1 = 0x11 ∧ 0x2000 * p ≤ addrOff e.1 ∧ addrOff e.1 < 0x2000 * p + 0x1000 then
      [fld e.2 0 16, fld e.2 16 16].filter entryValid |>.map entryLabel
    else []).eraseDups

/-- One more cell of a source is fetched where there is room for it: over the seams where its queue sits in another kernel. -/
def State.fetchOne (s : State) (k p : Nat) (x : Src) (want : Nat) : State :=
  let have_ := s.fetchedOf k p x + s.comingTo k p x
  match (s.srcCells k x)[have_]? with
  | none => s
  | some c =>
    if have_ < min want 4 ∧ s.egressUse k p < 2048 then s.arrive (x.kernel k) k c.bucket c (.egress k p x) else s

/-- The egress buffer is filled (R175): up to 4 cells of every source with reserved stitches, and the cells that have been given a stitch. -/
def State.fetchAll (s : State) (k p : Nat) : State :=
  let labels := s.gaugedLabels k p
  (s.portSrcs k p ++ (List.range 16).flatMap fun n => s.transitSrcs k (transitQ p n)).foldl (fun s x =>
    let want := if labels.contains (s.srcLabel p x) then 4 else s.planned k p x
    (List.range want).foldl (fun s _ => s.fetchOne k p x want) s) s

/-- The scheduler chooses the source of the stitch 4 ahead, where that is not reserved (R175). -/
def State.planAhead (s : State) (k p : Nat) : State :=
  let x := s.port k p
  let next := decide (s.rowLen k p ≤ x.pos + 4)
  let at_ := if next then x.pos + 4 - s.rowLen k p + s.rowFirst k p else x.pos + 4
  if entryValid (s.rowEntry false k p at_) then s
  else
    let d := s.schedule k p
    match d.1 with
    | none => d.2
    | some r =>
      let y := d.2.port k p
      d.2.setPort k p { y with plan := y.plan ++
        [{ due := x.stitch + 4 + (if next then s.rowFirst k p else 0), src := r.src, svc := r.svc, sub := r.sub, qk := r.qk, q := r.q }] }

/-! ### Sending -/

/-- The sender of a port moves to its next key phase: PN starts at 0 again (R436, R437). -/
def State.nextPhase (s : State) (k p : Nat) : State :=
  let n := (s.port k p).phase + 1
  let s := s.setPort k p { s.port k p with phase := n, phaseAt := s.now }
  let s := s.setRegs [(Reg.CRYPT_TX_PN_LO k p, 0), (Reg.CRYPT_TX_PN_HI k p, 0)]
  let s := (s.setRf (Reg.CRYPT_STATUS k p) 1 1 (n % 2)).setRf (Reg.CRYPT_STATUS k p) 16 16 (n % 65536)
  (s.bump (Reg.CRYPT_PHASES k p) 1).log k Ev.phase p [p, n]

/-- The payload that an encrypted cell shows on the line: the PN in the first 8 bytes of its packet, ciphertext and tag as open values
(R436, log entry 5). -/
def State.cipher (s : State) (k p : Nat) (c : Cell) : List Byte × State :=
  if !c.enc then (c.payload, s)
  else
    let pn := (s.reg (Reg.CRYPT_TX_PN_LO k p)).toNat + 2 ^ 32 * (s.rf (Reg.CRYPT_TX_PN_HI k p) 0 31)
    let parity := s.rf (Reg.CRYPT_STATUS k p) 1 1
    let head := if c.first then numBytes (pn + 2 ^ 63 * parity) 8 else []
    let f := s.freshBytes (c.payload.length - head.length)
    let s := if !c.first then f.2
      else if pn + 1 = 2 ^ 32 then f.2.nextPhase k p
      else (f.2.setReg (Reg.CRYPT_TX_PN_LO k p) (word (pn + 1))).setRf (Reg.CRYPT_TX_PN_HI k p) 0 31 ((pn + 1) / 2 ^ 32)
    ((head ++ f.1).take c.payload.length, s)

/-- The last cell of a bucket to leave a member of a loose ply counts for the fence behind which the bucket has moved away from it (R192). -/
def State.noteLeft (s : State) (k p : Nat) (c : Cell) : State :=
  if s.portPly k p ≠ 2 then s
  else
    let n := (s.plyHead k p).1
    let x := s.kern n
    s.setKern n { x with fences := x.fences.map fun f =>
      if f.set = 0 ∧ f.bucket = c.bucket ∧ f.member ≠ s.memberOf k p then { f with left := (s.port k p).row } else f }

/-- A cell of a route taken from its transit queue, or from its way through the port. -/
def State.takeRouted (s : State) (k p : Nat) (x : Src) (c : Cell) : State :=
  let y := s.port k p
  let s := if y.cut = some (x.n, c) then s.setPort k p { y with cut := none } else s.setTransit k x.t ((s.transit k x.t).erase (x.n, c))
  let r := s.routeCtx x.n
  if lossless c.cls then s.setRouteCtx x.n { r with unacked := r.unacked ++ [c], credit := r.credit.map (· - 1) } else s

/-- A cell taken from its queue once it is on the line: a lossless one is kept until it is acknowledged and uses credit (R144); a
replicated one stays until every leg has it (R188). -/
def State.takeQueued (s : State) (x : Src) (c : Cell) : State :=
  let y := s.ctxAt x.n x.t x.m
  let s := s.bump (Reg.TUN_CELLS_TX x.n x.t) 1
  if lossless c.cls && s.ownClass x.n x.t c.cls then
    s.setCtxAt x.n x.t x.m { y with txq := y.txq.drop 1, unacked := y.unacked ++ [c], credit := y.credit.map (· - 1) }
  else
    let i := (y.txq.findIdx? fun z => z.legs.testBit x.leg).getD 0
    let q := (y.txq.modify i fun z => { z with legs := z.legs - 2 ^ x.leg }).filter fun z => z.legs ≠ 0
    let s := s.setCtxAt x.n x.t x.m { y with txq := q }
    let z := s.ctx x.n x.t
    let s := if x.leg = 0 ∨ !s.ownClass x.n x.t c.cls then s
      else s.setCtx x.n x.t { z with legSeq := smapPut (fun _ => 0) z.legSeq x.leg ((smapGet (fun _ => 0) z.legSeq x.leg + 1) % 256) }
    match s.ctxList? x.n x.t with
    | some l => if c.last then s.bump (Reg.MC_COPIES x.n l) 1 else s
    | none => s

/-- A cell leaves the egress buffer and its queue. -/
def State.takeCell (s : State) (k p : Nat) (x : Src) (c : Cell) : State :=
  let y := s.port k p
  let s := s.setPort k p { y with fetched := (y.fetched.map fun e => if e.1 = x then (x, e.2 - 1) else e).filter fun e => e.2 ≠ 0 }
  (if x.raw then s.takeRouted k p x c else s.takeQueued x c).noteLeft k p c

/-- The cell as it goes out: its label on this port, its SEQ, and the payload that the engine makes of it. -/
def State.lineCell (s : State) (k p : Nat) (x : Src) (c : Cell) : Cell × State :=
  let y := s.ctx x.n x.t
  let f := s.cipher k p c
  ({ c with label := if x.raw then c.label else s.srcLabel p x,
            seq := if x.leg = 0 then c.seq else smapGet (fun _ => 0) y.legSeq x.leg, payload := f.1 }, f.2)

/-- A stitch without a cell: three IDLE blocks (R87). -/
def State.sendIdle (s : State) (k p : Nat) : State :=
  let s := s.sendControls k p [.idle, .idle, .idle]
  s.setPort k p { s.port k p with idleRun := (s.port k p).idleRun + 1 }

/-- A gauge miss (R149). -/
def State.gaugeMiss (s : State) (k p : Nat) (x : Src) : State :=
  let s := s.bump (Reg.ROW_MISS k p) 1
  if x.raw then s else s.bump (Reg.TUN_MISS x.n x.t) 1

/-- A cell sent in the present stitch, or deferred when its run length calls for it (R92, R94). `sched` is the place in the tree by which it goes. -/
def State.sendCell (s : State) (k p : Nat) (x : Src) (c : Cell) (sched : Option Ready) : State :=
  let lanes := s.laneCount k p
  let port := s.port k p
  let f := s.lineCell k p x c
  let b := sendBlocks lanes port.pos port.scr (cellBits f.1)
  if b.1.any fun y => y.2.isNone then
    let s := (s.bump (Reg.LNK_RUN_DEFER k p) 1).sendIdle k p
    if sched.isNone then s.gaugeMiss k p x else s
  else
    let s := match sched with
      | some r => (f.2.chargeReady k p r).bump (Reg.SVC_SENT k p r.svc) 1
      | none => f.2.noCharge x c
    let s := s.takeCell k p x c
    s.setPort k p { s.port k p with line := some f.1, sent := b.1.filterMap fun y => y.2.map fun z => (y.1, z), scr := b.2,
                                    pos := port.pos + 1, stitch := port.stitch + 1, idleRun := 0 }

/-- The raw-route cell that cuts through a port, as a source, where credit lets it go and no fence holds it. -/
def State.cutReady (s : State) (k p : Nat) : Option (Src × Cell) :=
  (s.port k p).cut.bind fun y =>
    let x : Src := { n := y.1, t := transitQ p (s.classNode k y.2.cls), m := 0, leg := 0, raw := true }
    if creditLets (s.routeCtx y.1) y.2.cls (s.qMin k x.t) 0 && !s.heldBack k p x y.2 then some (x, y.2) else none

/-- Every node from its queue up permits a cell that cuts through (R200). -/
def State.cutPermitted (s : State) (k p : Nat) (r : Ready) : Bool :=
  !r.cell.first || (s.permitted k r.q && s.permitted k (704 + 16 * p + r.svc) && s.permitted k (768 + p))

/-- The owner of a reserved stitch with its next cell: a context, a leg or a route (R149). -/
def State.stitchOwner (s : State) (k p label : Nat) : Option (Src × Cell) :=
  let srcs := s.portSrcs k p ++ (List.range 16).flatMap fun n => s.transitSrcs k (transitQ p n)
  (srcs.findSome? fun x => if s.srcLabel p x = label then (s.cellReady k p x 0).map fun c => (x, c) else none).orElse fun _ =>
    (s.cutReady k p).filter fun y => y.2.label == label

/-- A reserved stitch whose owner has a cell (R149): it goes out, or where it has not reached the egress buffer, an idle cell does. -/
def State.ownStitch (s : State) (k p : Nat) (late : Bool) (x : Src) (c : Cell) : State :=
  let through := (s.port k p).cut == some (x.n, c)
  let s := if through then s else s.storeCut k p
  if late || (!through && s.fetchedOf k p x == 0) then (s.gaugeMiss k p x).sendIdle k p else s.sendCell k p x c none

/-- A stitch that the scheduler has given to a source (R175): its cell goes out where it has reached the egress buffer. -/
def State.givenStitch (s : State) (k p : Nat) (late : Bool) (x : Src) : State :=
  let s := s.storeCut k p
  match s.cellReady k p x 0 with
  | some c => if late || s.fetchedOf k p x == 0 then s.sendIdle k p else s.sendCell k p x c (some (s.srcNode k p x c))
  | none => s.sendIdle k p

/-- A stitch that a cell may cut through in (R176, R177). With none to do so, `other` says what is sent. -/
def State.cutStitch (s : State) (k p : Nat) (other : State → State) : State :=
  match s.cutReady k p with
  | some (x, c) =>
    let r := s.srcNode k p x c
    if s.cutPermitted k p r then s.sendCell k p x c (some r) else other (s.storeCut k p)
  | none => other (s.storeCut k p)

/-- What the port sends in a stitch (R149, R175 to R177). `late` says that the cell for it is in the core but not yet in the egress buffer. A reserved
stitch whose owner has no cell goes to the scheduler at once. -/
def State.stitch (s : State) (k p : Nat) (late : Bool) : State :=
  let s := (((s.accrue k p 1).planAhead k p).fetchAll k p)
  let x := s.port k p
  let v := s.rowEntry false k p x.pos
  let given := x.plan.find? fun y => y.due == x.stitch
  let s := s.setPort k p { x with plan := x.plan.filter fun y => decide (x.stitch < y.due) }
  if entryValid v then
    match s.stitchOwner k p (entryLabel v) with
    | some o => s.ownStitch k p late o.1 o.2
    | none => s.cutStitch k p fun s =>
        let d := s.schedule k p
        match d.1 with
        | some r => (d.2.fetchOne k p r.src 4).givenStitch k p late r.src
        | none => d.2.sendIdle k p
  else
    match given with
    | some y => s.givenStitch k p late y.src
    | none => s.cutStitch k p fun s => s.sendIdle k p

/-- Cells that wait for the thresholds of their queues on a port enter them (R181). -/
def State.admitPort (s : State) (k p : Nat) : State := (s.portSrcs k p).foldl (fun s x => s.admitWaiting x.n x.t x.m) s

/-- The tunnels of a port whose queue has emptied go on with their close (R142). -/
def State.closeDrained (s : State) (k p : Nat) : State :=
  s.forCtxs (s.portCtxsIn k p [3]) fun s n t => s.closeProgress n t

/-- A Casting port whose lanes send blocks: its stitches carry cast-on messages and idle cells (R89, R123). -/
def State.castStitch (s : State) (k p : Nat) : State :=
  let x := s.port k p
  let cs := x.lineOut.take 3
  (s.setPort k p { x with lineOut := x.lineOut.drop 3 }).sendControls k p (cs ++ List.replicate (3 - cs.length) .idle)

/-- A stitch of a transmitter in Shell (R109, R110): lane blocks are counted, nothing is sent, and an exit that is due begins after the minimum. -/
def State.shellStitch (s : State) (k p : Nat) : State :=
  let x := s.port k p
  let s := (s.accrue k p 1).setPort k p { x with sent := [], line := none, pos := x.pos + 1, stitch := x.stitch + 1,
                                                 scr := skipBlocks (s.laneCount k p) (3 * x.pos) 3 x.scr }
  let y := s.port k p
  if y.exitDue && decide (y.shellUntil ≤ y.laneBlock (s.laneCount k p)) then s.leaveShell k p else s

/-! ### Rows (R86, R87, R147, R144) -/

/-- The CREDIT entry of a receive queue (Table 4.9) and the queue after it: the SEQ received in order, on an encrypted tunnel that of the
last whole packet. -/
def creditOf (x : Ctx) (label : Nat) (enc : Bool) (g : Nat) : Word × Ctx :=
  let seq := if enc then x.wholeSeq else (x.rxSeq + 255) % 256
  (packWord [(0, 12, label), (12, 8, seq), (20, 1, x.nackDue.toNat), (21, 11, g)],
   { x with changed := false, nackDue := false, creditSent := true, granted := g })

/-- The CREDIT entries of one row period, for every lossless tunnel and raw route of the port whose state has changed (R144, R184). The room of a route is
that of the transit queue of its own class. -/
def State.sendCredit (s : State) (k p : Nat) : State :=
  let ctl : List (Nat × Nat) := [(k, s.ctrlCtx k p)]
  let ctxs := (ctl ++ s.portCtxsIn k p [1, 2, 3]).filter fun c =>
    (s.ctxAt c.1 c.2 (s.memberIx c.1 c.2 k p)).changed && lossless (s.tunClass c.1 c.2)
  let a := ctxs.foldl (fun (a : List Word × State) c =>
    let m := a.2.memberIx c.1 c.2 k p
    let x := a.2.ctxAt c.1 c.2 m
    let e := creditOf x (512 * c.1 + c.2) (a.2.ctxEnc c.1 c.2 (k, p)) (a.2.creditGrant c.1 c.2 (a.2.rxDepth c.1 c.2))
    (a.1 ++ [e.1], a.2.setCtxAt c.1 c.2 m e.2)) ([], s)
  let key (r : Nat × Nat) : Nat := routeKey r.1 r.2 (s.memberOf k p)
  let rs := s.routes.filter fun r => s.samePly (r.1, s.routeInPort r.1 r.2) (k, p) && (s.routeCtx (key r)).changed
  let a := rs.foldl (fun (a : List Word × State) r =>
    let s := a.2
    let x := s.routeCtx (key r)
    let e := s.routeEgress r.1 r.2
    let q := s.routeQ r.1 r.2 x.cls
    let w := creditOf x (s.routeInLabel r.1 r.2) (s.routeEnc r.1 r.2) (s.creditGrant e.1 q (s.transit e.1 q).length)
    (a.1 ++ [w.1], s.setRouteCtx (key r) w.2)) a
  (parts (a.1.length + 1) 253 a.1).foldl (fun s l => if l.isEmpty then s else s.sendMsg k p 0x0286 (word l.length :: l)) a.2

end Sys2Proof.Machine
end

