-- ==== Sys2Proof/Machine/LowPower.lean ====
section
/-! DEFINITION. How a transmitter enters and leaves Shell (R109, R110). -/

namespace Sys2Proof.Machine

/-- A cell waits for the port, on whatever path: its control and shared contexts, its tunnels on either member, legs and raw routes (R109). -/
def State.cellWaits (s : State) (k p : Nat) : Bool :=
  let r := s.rowPort k p
  ((s.portSrcs k r).any fun x => !(s.srcCells k x).isEmpty || !(s.ctxAt x.n x.t x.m).waitq.isEmpty) || (s.port k r).cut.isSome
    || (List.range 16).any fun n => !(s.transit k (transitQ r n)).isEmpty

def execShellIdleExpiry (k p : Nat) (s : State) : Result :=
  onPort k p (s.portOpen k p && s.rf (Reg.LNK_STATE k p) 4 2 == 0 && decide (1 ≤ s.rf (Reg.LNK_CTRL k p) 0 2)
      && !(s.port k p).slowIdle && decide (s.rf (Reg.LNK_SHELL_IDLE k p) 0 16 ≤ (s.port k (s.linePort k p)).idleRun) && !s.cellWaits k p) s
    (s.enterShell k p)

def execShellExit (k p : Nat) (s : State) : Result :=
  onPort k p (s.rf (Reg.LNK_STATE k p) 4 2 == 1) s (s.wakeShell k p)

end Sys2Proof.Machine
end

