-- ==== Sys2Proof/Machine/SwitchCmds.lean ====
section
/-! DEFINITION. The buffer and scheduling commands of Table 5.7 (R178 to R205), the samplers (R202, R203), and the events of fences and
residues (R188, R192). -/

namespace Sys2Proof.Machine

/-! ### Skeins (R178 to R180) -/

/-- A display skein is being scanned out (Table 7.6: Showing or SelfRefresh), by whichever output of a pair fetches from it (R237). -/
def State.scanningOut (s : State) (k o : Nat) : Bool :=
  (List.range 2).any fun x => s.sourceOf k x == o && [4, 5].contains (s.doutState k x)

/-- A skein that is not idle (R180); only skeins 2 to 4 are asked about. A local-output leg counts as the output's tunnel (R270). -/
def State.skeinBusy (s : State) (k i : Nat) : Bool :=
  if i = 2 then
    ((List.range 4).any fun p => [2, 3, 4].contains (s.portState k p)) || s.liveCtxs.any (fun c => c.1 == k)
      || s.routes.any fun r => r.1 == k
  else
    s.scanningOut k (i - 3) || (s.localOwner? k (i - 3)).isSome
      || s.liveCtxs.any fun c => c.1 == k && s.tunType k c.2 == 3 && s.tunAdapter k c.2 == i + 2

/-- The words of the skeins for sizes in bytes of PACKET, DISP0 and DISP1 (Table 5.2). -/
def skeinWords (k a b c : Nat) : List (Nat × Word) :=
  let base2 := 0x400000
  [(Reg.SKEIN_BASE k 2, word base2), (Reg.SKEIN_SIZE k 2, word a), (Reg.SKEIN_BASE k 3, word (base2 + a)), (Reg.SKEIN_SIZE k 3, word b),
   (Reg.SKEIN_BASE k 4, word (base2 + a + b)), (Reg.SKEIN_SIZE k 4, word c), (Reg.SKEIN_BASE k 5, word (base2 + a + b + c)),
   (Reg.SKEIN_SIZE k 5, word (0x2C00000 - a - b - c))]

/-- The running seam or store test of a kernel (DIAG_TEST). -/
def State.diagJob (s : State) (k : Nat) : Option Job :=
  s.findRunning fun j => j.kernel == k && (j.opcode == 0x1104 || j.opcode == 0x1105)

/-- The store test that runs on a skein of a kernel (R83). -/
def State.storeTestOn (s : State) (k i : Nat) : Option Job :=
  s.findRunning fun j => j.kernel == k && j.opcode == 0x1105 && (j.args.getD 0 0).toNat == i

/-- Words for skein i that differ from what it has. -/
def State.skeinMoved (s : State) (k : Nat) (ws : List (Nat × Word)) (i : Nat) : Bool :=
  ws.any fun w => (w.1 == Reg.SKEIN_BASE k i || w.1 == Reg.SKEIN_SIZE k i) && s.reg w.1 != w.2

/-- The first skein that would change while it is not idle (R180). -/
def State.skeinHit (s : State) (k : Nat) (ws : List (Nat × Word)) : Option Nat :=
  [2, 3, 4].find? fun i => s.skeinMoved k ws i && s.skeinBusy k i

/-- The first store test on a skein that would change. -/
def State.skeinTest (s : State) (k : Nat) (ws : List (Nat × Word)) : Option Job :=
  [2, 3, 4, 5].findSome? fun i => if s.skeinMoved k ws i then s.storeTestOn k i else none

def cmdSkeinCarve : Cmd where
  opcode := 0x0401
  domain := fun _ => 3
  minLen := 12
  bad r _ _ :=
    [badSub r 1, (decide ((reqWord r 12).toNat < 32) || decide (704 < (reqWord r 12).toNat), .badParam, 12),
     (decide (704 < (reqWord r 16).toNat), .badParam, 16), (decide (704 < (reqWord r 20).toNat), .badParam, 20)]
  act r k s :=
    let a := (reqWord r 12).toNat
    let b := (reqWord r 16).toNat
    let c := (reqWord r 20).toNat
    let ws := skeinWords k (a * 65536) (b * 65536) (c * 65536)
    .checked [((s.skeinHit k ws).isSome, .wrongState, 0x40 + (s.skeinHit k ws).getD 0), heldBy (s.skeinTest k ws), (decide (704 < a + b + c), .noResource, 704)] s
      (.ok (s.setRegs ws) [])

def execSkeinCarve (r : Req) (s : State) : Result := onCommand cmdSkeinCarve r s

/-- SKEIN_USE: cells in use for PACKET, the display frame store's bytes for skeins 3 and 4, and none that the spec states elsewhere. -/
def State.skeinUse (s : State) (k i : Nat) : Word :=
  if i = 2 then word (s.bufUsed k) else if i = 3 ∨ i = 4 then s.reg (Reg.FST_BYTES k (i - 3)) else s.reg (Reg.SKEIN_USE k i)

def cmdSkeinInfo : Cmd where
  opcode := 0x0402
  domain := fun _ => 3
  bad r _ _ := [badSub r 1]
  act _ k s :=
    .ok s ((List.range 6).flatMap fun i =>
      [s.reg (Reg.SKEIN_BASE k i), s.reg (Reg.SKEIN_SIZE k i), s.reg (Reg.SKEIN_KIND k i), s.skeinUse k i])

def execSkeinInfo (r : Req) (s : State) : Result := onCommand cmdSkeinInfo r s

/-! ### Queues, nodes and shapers -/

/-- A queue number that no open context, shared context or transit queue has (R205). -/
def State.noQueue (s : State) (k q : Nat) : Bool :=
  decide (576 ≤ q) || (decide (q < 512) && q != 4 && q != 5 && s.tunState k q == 0)

/-- The MIN total with one queue's or class's words replaced (R183). -/
def State.minTotal (s : State) (k : Nat) : Nat :=
  ((s.openCtxs k).map fun t => 2 * s.qMin k t).sum + ((List.range 64).map fun i => s.qMin k (512 + i)).sum

/-- K, MIN and MARK of a queue, or K and MIN of a class, set (R183); classes 6 and 7 hold 0. -/
def State.setThresh (s : State) (k : Nat) (cls : Bool) (n kv : Nat) (kDefault : Bool) (min mark : Nat) : State :=
  if cls then
    if n < 6 then s.setReg (Reg.CLASS_THRESH k n) (packWord [(0, 4, kv), (8, 8, min)]) else s
  else
    let s := (s.setReg (Reg.Q_THRESH k n) (packWord [(0, 4, kv), (8, 8, min)])).setRf (Reg.Q_MARK k n) 0 20 mark
    let x := s.kern k
    s.setKern k { x with thresh := smapInsert x.thresh n kDefault }

def cmdQueueThresholdSet : Cmd where
  opcode := 0x0403
  domain := fun _ => 2
  minLen := 12
  bad r k s :=
    let cls := reqBit r 12 31
    [badSub r 1, (!cls && s.noQueue k (reqField r 12 0 10), .badParam, 12),
     (decide (4 ≤ reqField r 16 0 4) && decide (reqField r 16 0 4 < 12), .badParam, 16), (decide (64 < reqField r 16 8 8), .badParam, 17)]
  act r k s :=
    let cls := reqBit r 12 31
    let n := if cls then reqField r 12 0 3 else reqField r 12 0 10
    let t := s.setThresh k cls n (reqField r 16 0 4) (reqBit r 16 4) (reqField r 16 8 8) (reqField r 20 0 20)
    .checked [(decide (s.bufFree k < t.minTotal k), .noResource, min (s.bufFree k) 0xFFFF)] s (.ok t [])

def execQueueThresholdSet (r : Req) (s : State) : Result := onCommand cmdQueueThresholdSet r s

/-- SUB_NODE.IN_USE: some tunnel's queue names the node (R197). -/
def State.subInUse (s : State) (k i : Nat) : Bool :=
  s.liveCtxs.any fun c =>
    decide (8 ≤ c.2) && s.rf (Reg.TUN_PATH c.1 c.2) 4 3 == k && !s.rb (Reg.TUN_SCHED c.1 c.2) 7 && s.rf (Reg.TUN_SCHED c.1 c.2) 0 7 == i

def cmdSchedNodeSet : Cmd where
  opcode := 0x0404
  domain := fun _ => 2
  minLen := 8
  bad r k s :=
    let n := reqField r 12 0 10
    let svc := decide (704 ≤ n)
    [badSub r 1, (decide (767 < n) || (decide (n < 576) && s.noQueue k n), .badParam, 12),
     (!svc && decide (reqField r 16 0 2 ≠ 0), .badParam, 16), (!svc && decide (reqField r 16 16 8 ≠ 0), .badParam, 18),
     (!(decide (576 ≤ n) && decide (n < 704)) && decide (reqField r 16 24 2 ≠ 0), .badParam, 19)]
  act r k s :=
    let n := reqField r 12 0 10
    let w := reqField r 16 8 8
    if n < 576 then .ok (s.setRf (Reg.Q_WEIGHT k n) 0 8 w) []
    else if n < 704 then
      let i := n - 576
      .checked [(s.rf (Reg.SUB_NODE k i) 0 2 != reqField r 16 24 2 && s.subInUse k i, .wrongState, 0x41)] s
        (.ok ((s.setRf (Reg.SUB_NODE k i) 0 2 (reqField r 16 24 2)).setRf (Reg.SUB_NODE k i) 8 8 w) [])
    else
      .ok (s.setReg (Reg.SVC_NODE k ((n - 704) / 16) ((n - 704) % 16))
        (packWord [(0, 2, reqField r 16 0 2), (8, 8, w), (16, 8, reqField r 16 16 8)])) []

def execSchedNodeSet (r : Req) (s : State) : Result := onCommand cmdSchedNodeSet r s

/-- R201: a change of a shaper sets its tokens to 0, or to BURST with TOKEN_RESET. -/
def State.resetTokens (s : State) (k n : Nat) : State :=
  s.setTokens k n (if s.rb (Reg.SHP_BURST k n) 24 then (s.burst k n * tokenUnit : Nat) else 0)

/-- SHP_TOKENS: whole bytes. -/
def State.tokenWord (s : State) (k n : Nat) : Word := satSigned (s.tokens k n / tokenUnit)

def cmdShaperSet : Cmd where
  opcode := 0x0405
  domain := fun _ => 2
  minLen := 16
  bad r k s :=
    let n := reqField r 12 0 10
    let o := sfld (reqWord r 24) 0 8
    [badSub r 1, (decide (771 < n) || (decide (n < 576) && s.noQueue k n), .badParam, 12),
     (decide (o < -32) || (decide (576 ≤ n) && decide (o ≠ 0)), .badParam, 24)]
  act r k s :=
    let n := reqField r 12 0 10
    let s := s.setReg (Reg.SHP_RATE k n) (word (reqField r 16 0 28))
    let s := s.setReg (Reg.SHP_BURST k n) (packWord [(0, 24, reqField r 20 0 24), (24, 1, reqField r 20 24 1)])
    let s := if n < 576 then s.setReg (Reg.SHP_OVERHEAD k n) (word (reqField r 24 0 8)) else s
    .ok (s.resetTokens k n) []

def execShaperSet (r : Req) (s : State) : Result := onCommand cmdShaperSet r s

/-! ### Replication lists (R187, R189) -/

/-- The part of a context in which a leg's oldest cell stands: that of the other member of a loose ply where the first holds none. -/
def State.legPart (s : State) (k t leg : Nat) : Nat :=
  let has (m : Nat) : Bool := let c := s.ctxAt k t m; (c.txq ++ c.waitq).any fun z => z.legs.testBit leg
  if !has 0 && has 1 then 1 else 0

/-- An encoder marks the tile rows of dropped packets for refresh (R188, R232). -/
def State.refreshRows (s : State) (k t : Nat) (rows : List Nat) : State :=
  let a := s.tunAdapter k t
  if s.tunType k t = 3 ∧ (a = 3 ∨ a = 4) then
    s.setDin k (a - 3) { s.din k (a - 3) with refresh := (s.din k (a - 3)).refresh ++ rows.map fun r => (r, 1) }
  else s

/-- A leg's cells dropped from part m of a context's queue, packets counted, and the tile rows of a display leg refreshed (R188, R189). `whole` drops every
packet, else only the one in progress goes. -/
def State.dropLeg (s : State) (k t m leg : Nat) (whole : Bool) : State :=
  let c := s.ctxAt k t m
  let q := c.txq ++ c.waitq
  let i := (q.findIdx? fun z => z.legs.testBit leg).getD q.length
  let tail := q.drop i
  let n := if whole then tail.length else (tail.takeWhile fun z => !z.last).length + 1
  let hit := (tail.take n).filter fun z => z.legs.testBit leg
  let off (z : Cell) : Cell := if z.legs.testBit leg then { z with legs := z.legs - 2 ^ leg } else z
  let q' := q.take i ++ (tail.take n).map off ++ tail.drop n
  let left (l : List Cell) : List Cell := l.filter fun z => z.legs ≠ 0
  let packets := (hit.filter (·.last)).length
  let s := s.setCtxAt k t m { c with txq := left (q'.take c.txq.length), waitq := left (q'.drop c.txq.length) }
  let s := s.dropFetched fun x => !x.raw && x.n == k && x.t == t && x.m == m && x.leg == leg
  let s := s.refreshRows k t ((hit.filter (·.last)).filterMap (·.tileRow))
  match s.ctxList? k t with
  | some l => if packets = 0 then s else s.bump (Reg.MC_RESIDUE_DROP k l) packets
  | none => s

/-- A list taken from the context it is bound to (R189): the legs that go drop their residue, and those that `keep` names stay. -/
def State.unbindList (s : State) (k l : Nat) (keep : Nat → Bool) : State :=
  let t := s.rf (Reg.MC_CTRL k l) 0 9
  if t = 0x1FF then s
  else
    let s := (List.range 15).foldl (fun s i =>
      if !s.rb (Reg.MC_LEG k l i) 31 || keep i then s
      else
        let s := (s.dropLeg k t 0 (i + 1) true).dropLeg k t 1 (i + 1) true
        (s.setCtx k t { s.ctx k t with legSeq := smapPut (fun _ => 0) (s.ctx k t).legSeq (i + 1) 0 }).setCtxAt k t (i + 2) {}) s
    s.setRf (Reg.TUN_TYPEREF k t) 0 10 0x3FF

def cmdMcastListSet : Cmd where
  opcode := 0x0406
  domain := fun _ => 2
  minLen := 8
  bad r k s :=
    let t := reqField r 12 16 9
    let c := reqField r 16 8 4
    let bind := decide (t ≠ 0x1FF)
    [badSub r 1, (bind && (decide (t < 8) || (s.tunType k t != 3 && s.tunType k t != 6)), .badParam, 14),
     (decide (reqField r 16 0 7 < 1) || decide (64 < reqField r 16 0 7), .badParam, 16), (decide (r.plen ≠ 8 + 4 * c), .badParam, 17)]
    ++ (List.range c).map fun i =>
      (reqBit r (20 + 4 * i) 31 && (!s.hasKernel (reqField r (20 + 4 * i) 1 3)
        || (reqBit r (20 + 4 * i) 0 && (decide (1 < reqField r (20 + 4 * i) 4 2) || s.tunType k t != 3))), .badParam, 20 + 4 * i)
  act r k s :=
    let l := reqField r 12 0 8
    let t := reqField r 12 16 9
    let c := reqField r 16 8 4
    let other := s.ctxList? k t
    let bind := t != 0x1FF
    let mine (i : Nat) : Bool := s.reg (Reg.MC_LEG k l i) == reqWord r (20 + 4 * i) && s.rf (Reg.MC_CTRL k l) 0 9 == t
    let clash := (List.range c).any fun i =>
      let w := reqWord r (20 + 4 * i)
      bitAt w 31 && !bitAt w 0 && !mine i && (s.labelHasSource (fld w 1 3) (fld w 4 2) (fld w 16 12)
        || (List.range i).any fun j => let v := reqWord r (20 + 4 * j)
             bitAt v 31 && !bitAt v 0 && fld v 1 5 == fld w 1 5 && fld v 16 12 == fld w 16 12)
    .checked [(bind && clash, .noResource, 1), (bind && (match other with | some x => x != l | none => false), .noResource, 3)] s
      (let before := s.localLegs k (s.rf (Reg.MC_CTRL k l) 0 9)
       let s := s.unbindList k l fun i => bind && decide (i < c) && mine i
       let s := (List.range 15).foldl (fun s i =>
         s.setReg (Reg.MC_LEG k l i) (if bind && decide (i < c) then reqWord r (20 + 4 * i) &&& 0x8FFF003F else 0)) s
       let s := s.setReg (Reg.MC_CTRL k l) (packWord [(0, 9, t), (16, 4, if bind then c else 0), (24, 7, reqField r 16 0 7)])
       let s := if bind then s.setRf (Reg.TUN_TYPEREF k t) 0 10 l else s
       let now := if bind then s.localLegs k t else []
       let s := (before.filter fun o => !now.contains o).foldl (fun s o => s.doutClosed (o / 2) (o % 2)) s
       .ok (if s.tunState k t = 2 then (now.filter fun o => !before.contains o).foldl (fun s o => s.doutOpened (o / 2) (o % 2)) s else s) [])

def execMcastListSet (r : Req) (s : State) : Result := onCommand cmdMcastListSet r s

/-- RESIDUE_AGE row periods after a packet's FIRST cell a leg that has not taken it drops the rest of it (R188). -/
def execResidueAgeExpiry (k t leg : Nat) (s : State) : Result :=
  onUnit s (s.hasCtx k t && decide (leg < 16)) (if (s.ctxList? k t).isSome then s.dropLeg k t (s.legPart k t leg) leg false else s)

/-- Row periods of CONG_FENCE_HOLD, 1 to 16 (R192). -/
def State.fenceHold (s : State) (k : Nat) : Nat := max 1 (min 16 (s.rf (Reg.CONG_FENCE_HOLD k) 0 5))

/-- The old path of a moved bucket has drained (R192). On a ply no queue or buffer of the old member holds a cell of the bucket, and CONG_FENCE_HOLD row
periods have passed since the last one left; where the ply is gone there is nothing to wait for. On a seam path no cell of the bucket is under way. -/
def State.fenceDrained (s : State) (k : Nat) (f : Fence) : Bool :=
  if f.set = 0 then
    let e := s.plyMember k (1 - f.member)
    let srcs := ((s.portSrcs e.1 e.2).filter fun x => x.leg == 0 && decide (8 ≤ x.t)) ++ (List.range 16).flatMap fun n => s.transitSrcs e.1 (transitQ e.2 n)
    let holds (x : Src) : Bool := (s.srcCells e.1 x ++ (s.srcCtx x).waitq).any fun c => c.bucket == f.bucket
    s.portPly k 3 != 2 || (!srcs.any holds && !((s.port e.1 e.2).cut.any fun c => c.2.bucket == f.bucket)
      && decide (f.left + s.fenceHold k < (s.port e.1 e.2).row))
  else !s.flights.any fun g => g.bucket == f.bucket && g.dst + 1 == f.set && decide (g.here ≠ k ∧ 1 ≤ g.hops)

/-- A fence lifts, and a further move of its bucket that waited is applied (R192, R193). -/
def State.liftFence (s : State) (k set b : Nat) : State :=
  let x := s.kern k
  match x.fences.find? fun f => f.set == set && f.bucket == b with
  | none => s
  | some f =>
    let s := s.setKern k { x with fences := x.fences.filter fun g => !(g.set == set && g.bucket == b) }
    match f.next with
    | some m => s.moveBucket k set b m
    | none => s

/-- A fence whose old path has drained is taken away. -/
def execFenceLift (k hashSet bucket : Nat) (s : State) : Result :=
  onUnit s (s.hasKernel k && decide (hashSet < 9) && decide (bucket < 256)) 
    (if (s.kern k).fences.any fun f => f.set == hashSet && f.bucket == bucket && s.fenceDrained k f then s.liftFence k hashSet bucket else s)

/-! ### Samplers (R202, R203) -/

/-- A sampler cleared (R203). -/
def State.latClear (s : State) (k q : Nat) : State := s.resetRange (Reg.LAT_CTRL k q + 4) (Reg.LAT_CTRL k q + 0x80)

/-- A write of LAT_CTRL, or LAT_SAMPLE_SET: the sampler is cleared and restarted. -/
def State.latSet (s : State) (k q interval base : Nat) : State :=
  (s.latClear k q).setReg (Reg.LAT_CTRL k q) (packWord [(0, 7, interval), (8, 8, base)])

def cmdLatSampleSet : Cmd where
  opcode := 0x0407
  domain := fun _ => 2
  minLen := 8
  bad r k s :=
    [badSub r 1, (s.noQueue k (reqField r 12 0 10), .badParam, 12), (decide (64 < reqField r 16 0 7), .badParam, 16),
     (decide (reqField r 16 8 8 < 1), .badParam, 17)]
  act r k s := .ok (s.latSet k (reqField r 12 0 10) (reqField r 16 0 7) (reqField r 16 8 8)) []

def execLatSampleSet (r : Req) (s : State) : Result := onCommand cmdLatSampleSet r s

def cmdLatSampleRead : Cmd where
  opcode := 0x0408
  domain := fun _ => 2
  minLen := 4
  bad r k s := [badSub r 1, (s.noQueue k (reqField r 12 0 10), .badParam, 12)]
  act r k s :=
    let q := reqField r 12 0 10
    .ok (if reqBit r 12 16 then s.latClear k q else s) ((List.range 32).map fun i => s.reg (Reg.LAT_CTRL k q + 4 * i))

def execLatSampleRead (r : Req) (s : State) : Result := onCommand cmdLatSampleRead r s

/-- A register write to LAT_CTRL (R203, R206): refused values are ignored and counted. -/
def execLatCtrlWrite (_via : Via) (k q : Nat) (w : Word) (s : State) : Result :=
  onUnit s (s.hasKernel k && decide (q < 576))
    (if 64 < fld w 0 7 ∨ fld w 8 8 = 0 ∨ s.noQueue k q then s.ignoreWrite k (Reg.LAT_CTRL k q) else s.latSet k q (fld w 0 7) (fld w 8 8))

/-- The head cell of a queue with the oldest place in it. -/
def State.headCell (s : State) (k q : Nat) : Option Cell :=
  if q < 512 then (s.ctxParts k q).findSome? fun c => c.txq.head? else (s.transit k q).head?.map (·.2)

/-- The sojourn of a cell in stitches of its stamping port; none when the lane rate has changed (R202). -/
def State.sojourn (s : State) (c : Cell) : Option Nat :=
  let k := c.stampPort / 4
  let p := c.stampPort % 4
  if (s.port k p).rateChanges = c.stampRate then some ((s.port k p).stitch - c.stamp) else none

/-- The histogram bin of a sojourn of n stitches with BIN_BASE w (R203). -/
def latBin (w n : Nat) : Nat := ((List.range 15).find? fun i => decide (n < w * 2 ^ i)).getD 15

/-- Stitches of a port in ns, rounded down: 117/32 ns each unit. -/
def stitchNs (units n : Nat) : Nat := n * units * 117 / 32

/-- Minimum, maximum, last and sum of a sampled value at the words of `a`, saturating (R203). -/
def State.latNote (s : State) (cnt a v : Nat) : State :=
  let n := (s.reg cnt).toNat
  let s := s.setReg cnt (satInc (s.reg cnt) 1)
  let s := s.setReg a (word (if n = 0 then v else min (s.reg a).toNat v))
  let s := (s.setReg (a + 4) (word (max (s.reg (a + 4)).toNat v))).setReg (a + 8) (word v)
  let sum := min ((s.reg (a + 12)).toNat + 2 ^ 32 * (s.reg (a + 16)).toNat + v) (2 ^ 64 - 1)
  (s.setReg (a + 12) (word sum)).setReg (a + 16) (word (sum / 2 ^ 32))

/-- A sampling instant of a queue (R202). -/
def State.latTick (s : State) (k q : Nat) : State :=
  let s := s.latNote (Reg.LAT_DEPTH_N k q) (Reg.LAT_DEPTH_MIN k q) (s.qDepth k q)
  match (s.headCell k q) with
  | none => s
  | some c =>
    match s.sojourn c with
    | none => s
    | some n =>
      let s := s.latNote (Reg.LAT_DELAY_N k q) (Reg.LAT_DELAY_MIN k q) (stitchNs (s.stitchUnits (c.stampPort / 4) (c.stampPort % 4)) n)
      let a := Reg.LAT_HIST k q (latBin (s.rf (Reg.LAT_CTRL k q) 8 8) n)
      s.setReg a (satInc (s.reg a) 1)

/-- A sampler with INTERVAL 0 or above 64 takes no sample (R202). -/
def execLatSampleTick (k q : Nat) (s : State) : Result :=
  onUnit s (s.hasKernel k && decide (q < 576))
    (let n := s.rf (Reg.LAT_CTRL k q) 0 7
     if n = 0 ∨ 64 < n then s else s.latTick k q)

end Sys2Proof.Machine
end

