-- ==== Sys2Proof/Machine/Capture.lean ====
section
/-! DEFINITION. Display capture and the Purl encoder: the commands of Table 6.13, input states (R209, R210), hot-plug (R212), coded frames
(R213 to R231), and the reverse packets of a display tunnel at its source (R232, R233). -/

namespace Sys2Proof.Machine

/-! ### Handing over (R132, R181) -/

/-- An adapter hands over its packets in turn until its tunnel takes no more. -/
def State.flushFrom (s : State) (fuel k a t : Nat) : State :=
  match fuel with
  | 0 => s
  | fuel + 1 =>
    match s.outboxOf k a with
    | [] => s
    | b :: l =>
      match s.handover? k t 0 false b with
      | some s => (s.setOutbox k a l).flushFrom fuel k a t
      | none => s

/-- The packets of an adapter handed over as far as its Open tunnel takes them. A display source hands over at its own pace, by
PACKET_HANDOVER. -/
def State.flush (s : State) (k a : Nat) : State :=
  match s.adapterOpen? k a with
  | some t => s.flushFrom (s.outboxOf k a).length k a t
  | none => s

/-- Packets made and handed over at once where the tunnel takes them. -/
def State.emitAll (s : State) (k a : Nat) (ps : List (List Byte)) : State := (ps.foldl (fun s b => s.emit k a b) s).flush k a

/-! ### Commands -/

/-- An abort of the frame in transmission when the input leaves Active (R231). -/
def State.inputGone (s : State) (k i : Nat) : State :=
  s.encAbort k i 1 (s.adapterOpen? k (dinAdapter i)).isSome

/-- DIN_STATUS.STATE set. -/
def State.setDinState (s : State) (k i v : Nat) : State := s.setRf (Reg.DIN_STATUS k i) 0 4 v

/-- ENABLE and the other fields of DIN_CTRL applied (R209, R212, R235). -/
def State.dinApply (s : State) (k i : Nat) (w : Word) : State :=
  let old := s
  let s := s.setReg (Reg.DIN_CTRL k i) w
  let s :=
    if bitAt w 0 && s.dinState k i == 0 then s.setDinState k i 1
    else if !bitAt w 0 then
      let s := (s.inputGone k i).setReg (Reg.DIN_STATUS k i) 0
      s.setDin k i { s.din k i with pulse := false }
    else s
  old.presentChange s k i

def cmdDinConfig : Cmd where
  opcode := 0x0501
  minLen := 8
  domain := fun _ => 7
  bad r _ _ :=
    [badSub r 2, (!([1, 2, 4].contains (reqField r 12 4 3)), .badParam, 12), (decide (6 < reqField r 12 8 4), .badParam, 13),
     (decide (reqField r 16 0 2 = 3) || (reqBit r 16 2 && decide (reqField r 16 0 2 ≠ 0)), .badParam, 16)]
  act r k s :=
    let w := s.reg (Reg.DIN_CTRL k (reqSub r))
    .ok (s.dinApply k (reqSub r) ((w &&& 0x03000000) ||| packWord
      [(0, 1, reqField r 12 0 1), (1, 1, reqField r 12 1 1), (4, 3, reqField r 12 4 3), (8, 4, reqField r 12 8 4),
       (16, 2, reqField r 16 0 2), (18, 1, reqField r 16 2 1), (19, 1, reqField r 16 3 1)])) []

def execDinConfig (r : Req) (s : State) : Result := onCommand cmdDinConfig r s

/-- The checksum of an EDID block: its bytes sum to a multiple of 256. -/
def blockGood (bs : List Byte) : Bool := (bs.map (·.toNat)).sum % 256 == 0

def cmdEdidProxySet : Cmd where
  opcode := 0x0502
  minLen := 4
  domain := fun _ => 7
  bad r _ _ :=
    let n := reqField r 12 4 2 + 1
    let load := reqBit r 12 2
    [badSub r 2, (decide (r.plen ≠ if load then 4 + 128 * n else 4), .badParam, 6)]
    ++ (List.range n).map fun b => (load && !blockGood ((reqBytes r (16 + 128 * b)).take 128), .badParam, 16 + 128 * b)
  act r k s :=
    let i := reqSub r
    let old := s
    let s := (s.setRb (Reg.DIN_CTRL k i) 24 (reqBit r 12 0)).setRb (Reg.DIN_CTRL k i) 25 (reqBit r 12 1)
    let s := if reqBit r 12 2 then
        s.setDin k i { s.din k i with fixedEdid := some ((reqBytes r 16).take (128 * (reqField r 12 4 2 + 1))) }
      else s
    .ok (old.presentChange s k i) []

def execEdidProxySet (r : Req) (s : State) : Result := onCommand cmdEdidProxySet r s

def cmdPurlModeSet : Cmd where
  opcode := 0x0503
  minLen := 4
  domain := fun _ => 7
  bad r _ _ :=
    let m := reqField r 12 0 2
    let b := reqField r 12 4 2
    let cap := reqField r 12 8 6
    [badSub r 2, (decide (m = 3) || (if m = 1 then decide (b = 0) else decide (b ≠ 0)), .badParam, 12),
     (if m = 2 then decide (cap < 8) || decide (32 < cap) else decide (cap ≠ 0), .badParam, 13),
     (m != 2 && decide (reqField r 12 16 5 ≠ 0), .badParam, 14)]
  act r k s := .ok (s.setReg (Reg.PURL_MODE k (reqSub r)) (reqWord r 12 &&& 0x001F3F33)) []

def execPurlModeSet (r : Req) (s : State) : Result := onCommand cmdPurlModeSet r s

/-- A rectangle of EXACT_REGION_SET that R227 refuses. -/
def badRegion (a b : Word) : Bool :=
  let x := fld a 0 13
  let y := fld a 16 13
  let w := fld b 0 13
  let h := fld b 16 13
  decide (x % 8 ≠ 0) || decide (y % 8 ≠ 0) || decide (w % 8 ≠ 0) || decide (h % 8 ≠ 0) || w == 0 || h == 0
    || decide (7680 < x + w) || decide (4320 < y + h)

def cmdExactRegionSet : Cmd where
  opcode := 0x0504
  minLen := 4
  domain := fun _ => 7
  bad r _ _ :=
    let c := (reqWord r 12).toNat
    [badSub r 2, (decide (16 < c) || decide (r.plen ≠ 4 + 8 * c), .badParam, 12)]
    ++ (List.range (min c 16)).map fun i => (badRegion (reqWord r (16 + 8 * i)) (reqWord r (20 + 8 * i)), .badParam, 16 + 8 * i)
  act r k s :=
    let i := reqSub r
    let c := (reqWord r 12).toNat
    let sub := s.dinState k i == 3 && s.rf (Reg.DIN_STATUS k i) 12 2 != 0
    .checked [(decide (c ≠ 0) && sub, .wrongState, 0x55)] s
      (let s := (List.range 16).foldl (fun s j =>
         let live := decide (j < c)
         (s.setReg (Reg.EXACT_RGN_A k i j) (if live then reqWord r (16 + 8 * j) &&& 0x1FFF1FFF else 0)).setReg (Reg.EXACT_RGN_B k i j)
           (if live then (reqWord r (20 + 8 * j) &&& 0x1FFF1FFF) ||| 0x80000000 else 0)) s
       .ok (s.setRf (Reg.PURL_STATUS k i) 18 5 c) [])

def execExactRegionSet (r : Req) (s : State) : Result := onCommand cmdExactRegionSet r s

def cmdDamageConfig : Cmd where
  opcode := 0x0505
  minLen := 4
  domain := fun _ => 7
  bad r _ _ := [badSub r 2, (decide (reqField r 12 0 8 = 0), .badParam, 12)]
  act r k s := .ok (s.setReg (Reg.DAMAGE_CTRL k (reqSub r)) (reqWord r 12 &&& 0x3FF)) []

def execDamageConfig (r : Req) (s : State) : Result := onCommand cmdDamageConfig r s

def cmdPurlFrameReport : Cmd where
  opcode := 0x0506
  minLen := 4
  domain := fun _ => 7
  bad r _ _ := [badSub r 2]
  act r k s :=
    let a := Reg.PURL_LAST_FRAME k (reqSub r)
    .ok (if reqBit r 12 0 then s.setRegs ((List.range 4).map fun j => (a + 0x14 + 4 * j, (0 : Word))) else s)
      ((List.range 64).map fun j => s.reg (a + 4 * j))

def execPurlFrameReport (r : Req) (s : State) : Result := onCommand cmdPurlFrameReport r s

/-! ### Input states (R207, R209) -/

/-- A display input of the part. -/
def onInput (k i : Nat) (c : Bool) (s f : State) : Result := onUnit s (s.hasKernel k && decide (i < 2)) (if c then f else s)

/-- A source begins to train the link, or has trained it with a lane count and a rate code within DIN_CTRL's limits. -/
def execDinTraining (k i : Nat) (trained : Option (Nat × Nat)) (s : State) : Result :=
  onInput k i (s.dinState k i != 0) s
    (match trained with
     | none => ((s.inputGone k i).setDinState k i 2).setRf (Reg.DIN_STATUS k i) 4 8 0
     | some (lanes, rate) =>
       if s.dinState k i = 2 ∧ [1, 2, 4].contains lanes ∧ lanes ≤ s.rf (Reg.DIN_CTRL k i) 4 3 ∧ rate ≤ s.rf (Reg.DIN_CTRL k i) 8 4 then
         ((s.setRf (Reg.DIN_STATUS k i) 4 3 lanes).setRf (Reg.DIN_STATUS k i) 8 4 rate).bump (Reg.DIN_TRAINS k i) 1
       else s)

/-- The link is lost, or the MSA has not been valid for 100 ms. An input that has already lost its MSA may still lose its link. -/
def execDinSignalLost (k i : Nat) (link : Bool) (s : State) : Result :=
  onInput k i (s.dinState k i != 0) s
    (let old := s.dinState k i
     let s := if link then s.setRf (Reg.DIN_STATUS k i) 4 8 0 else s
     if old = 1 then s else
     let s := ((s.inputGone k i).setDinState k i 1).log k Ev.dinLost i [0x50 + old]
     if old = 3 then s.bump (Reg.DIN_LOSSES k i) 1 else s)

/-- The HPD pulse ends (R212). -/
def execHpdPulseEnd (k i : Nat) (s : State) : Result :=
  onInput k i (s.din k i).pulse s
    (let s := (s.setDin k i { s.din k i with pulse := false }).dinHpd k i (s.adapterOpen? k (dinAdapter i)).isSome
     let e := s.presented k i
     s.log k Ev.edidChanged i [if e.1 then 0 else 1, e.2.length / 128])

/-! ### Coded frames (R213 to R230) -/

/-- The exact regions of an input: X, Y, W and H. -/
def State.regions (s : State) (k i : Nat) : List (Nat × Nat × Nat × Nat) :=
  (List.range 16).filterMap fun j =>
    let a := s.reg (Reg.EXACT_RGN_A k i j)
    let b := s.reg (Reg.EXACT_RGN_B k i j)
    if bitAt b 31 then some (fld a 0 13, fld a 16 13, fld b 0 13, fld b 16 13) else none

/-- A tile overlaps a region (R226). -/
def tileExact (rs : List (Nat × Nat × Nat × Nat)) (row col : Nat) : Bool :=
  rs.any fun r => decide (32 * col < r.1 + r.2.2.1) && decide (r.1 < 32 * col + 32) && decide (8 * row < r.2.1 + r.2.2.2)
    && decide (r.2.1 < 8 * row + 8)

/-- A tile of a frame to be coded: its place, hash, KIND, its blocks, and whether it was forced. -/
structure CodeTile where
  row : Nat
  col : Nat
  hash : Word
  kind : Nat
  blocks : List (Nat × List Nat)
  forced : Bool

/-- The format word of FRAME_START (Table 6.10, byte 8). -/
def formWord (f : InFrame) (form : Nat × Bool) (matrix : Nat) (full : Bool) (mode : Nat) : Word :=
  packWord [(0, 2, form.1), (2, 1, form.2.toNat), (3, 1, f.ten.toNat), (4, 1, matrix), (5, 1, f.limited.toNat), (6, 2, f.sampling),
            (8, 1, f.rgb.toNat), (9, 1, full.toNat), (10, 2, mode)]

/-- The tiles sent in a frame (R218, R219). F counts frames without a wrap (DESIGN CHOICE, log entry 115). -/
def tilesSent (f : InFrame) (coded : List Plane) (sampling : Nat) (d : Din) (regions : List (Nat × Nat × Nat × Nat)) (full : Bool)
    (damage : Word) : List CodeTile :=
  let input := inputPlanes f
  let across := tilesAcross f.width
  let every := fld damage 0 8
  (List.range (across * tileRows f.height)).filterMap fun n =>
    let row := n / across
    let col := n % across
    let exact := tileExact regions row col
    let blocks := if exact then tileBlocks input 0 row col else tileBlocks coded sampling row col
    let t : CodeTile :=
      { row := row, col := col, hash := tileHash input f.sampling row col, kind := tileKind exact blocks, blocks := blocks,
        forced := (d.nextFrame + n) % every == 0 }
    let old := (d.committed.find? fun e => e.1 == n).map (·.2)
    let send := full || t.forced || bitAt damage 8 || (exact && bitAt damage 9) || old != some (t.hash, t.kind) || d.refreshAll
      || d.refresh.any fun r => decide (r.1 ≤ row) && decide (row < r.1 + r.2)
    if send then some t else none

/-- The TILE_ROW packets of a frame, tile j of the list coded with bound `bound j`. -/
def tilePackets (frame across rows depth : Nat) (ts : List CodeTile) (bound : Nat → Nat) : List (List Byte) :=
  let coded := (List.range ts.length).filterMap fun j => ts[j]?.map fun t => (t, tileEntry t.kind (bound j) (tileData depth t.kind (bound j) t.blocks))
  (List.range rows).filterMap fun row =>
    let mine := coded.filter fun e => e.1.row == row
    if mine.isEmpty then none
    else some (tileRowPacket frame row across (mine.map (·.1.col)) (mine.flatMap (·.2)))

def packetsBytes (ps : List (List Byte)) : Nat := (ps.map (·.length)).sum

/-- A coded frame begins (R229, R230). In mode C rate control chooses each bound: an open value up to BOUND_LIMIT, held to BOUND_LIMIT
itself where only that meets the budget (R224). The frame after an aborted FULL frame is no FULL frame for that (DESIGN CHOICE, log entry 116). -/
def State.beginFrame (s : State) (k i : Nat) (f : InFrame) : State :=
  let ctrl := s.reg (Reg.DIN_CTRL k i)
  let mode := s.reg (Reg.PURL_MODE k i)
  let d := s.din k i
  let form := codedForm f (fld ctrl 16 2) (bitAt ctrl 18)
  let matrix := if f.rgb && !form.2 then fld ctrl 19 1 else f.matrix
  let coded := codedPlanes f (fld ctrl 16 2) (bitAt ctrl 18) matrix
  let full := d.full
  let rs := if f.sampling = 0 then s.regions k i else []
  let ts := tilesSent f coded form.1 d rs full (s.reg (Reg.DAMAGE_CTRL k i))
  let n := d.nextFrame % 65536
  let across := tilesAcross f.width
  let depth := depthOf f.ten
  let m := fld mode 0 2
  let limit := fld mode 16 5
  let drawn (j : Nat) : Nat :=
    if m = 0 then 0 else if m = 1 then fld mode 4 2 else (Config.freeWord (s.free + j)).toNat % (limit + 1)
  let pack (b : Nat → Nat) : List (List Byte) := tilePackets n across (tileRows f.height) depth ts b
  let overCap (ps : List (List Byte)) : Bool := m == 2 && decide (fld mode 8 6 * f.width * f.height < 16 * packetsBytes ps)
  let retry := overCap (pack drawn) && !overCap (pack fun _ => limit)
  let bound : Nat → Nat := if retry then fun _ => limit else drawn
  let ps := pack bound
  let normal := (List.range ts.length).filterMap fun j => match ts[j]? with
    | some x => if x.kind = 0 then some (bound j) else none
    | none => none
  let start := displayPacket 1 n [packWord [(0, 13, f.width), (16, 13, f.height)], formWord f form matrix full m, word f.period]
  let stop := displayPacket 3 n [word ts.length, word (packetsBytes ps)]
  let s := { s with free := s.free + (if m = 2 then ts.length else 0) }
  let s := s.setDin k i
    { d with nextFrame := d.nextFrame + 1, full := false, refresh := [], refreshAll := false, sending := true,
             sent := ts.map fun x => (x.row * across + x.col, x.hash, x.kind),
             report := [n + 65536 * normal.foldl max 0, ts.length, (ts.filter fun x => x.kind % 2 == 1).length,
                        (ts.filter (·.forced)).length, packetsBytes ps],
             hist := (List.range 32).map fun b => (normal.filter (· == b)).length }
  let s := if overCap ps then s.bump (Reg.PURL_OVER_CAP k i) 1 else s
  let s := (s.setRf (Reg.PURL_STATUS k i) 0 16 n).setRb (Reg.PURL_STATUS k i) 16 true
  s.setOutbox k (dinAdapter i) (s.outboxOf k (dinAdapter i) ++ start :: ps ++ [stop])

/-- DIN_STATUS, DIN_ACTIVE, DIN_TOTAL and DIN_PERIOD of the frame that starts. -/
def State.noteFrame (s : State) (k i : Nat) (f : InFrame) : State :=
  let ctrl := s.reg (Reg.DIN_CTRL k i)
  let form := codedForm f (fld ctrl 16 2) (bitAt ctrl 18)
  let forced := form.1 != fld ctrl 16 2 || form.2 != bitAt ctrl 18
  let w := s.reg (Reg.DIN_STATUS k i)
  let s := s.setReg (Reg.DIN_STATUS k i)
    (setFld w 12 7 (f.sampling + 4 * f.rgb.toNat + 8 * f.ten.toNat + 16 * f.limited.toNat + 32 * f.matrix + 64 * forced.toNat))
  s.setRegs [(Reg.DIN_ACTIVE k i, packWord [(0, 13, f.width), (16, 13, f.height)]),
             (Reg.DIN_TOTAL k i, packWord [(0, 14, f.hTotal), (16, 14, f.vTotal)]), (Reg.DIN_PERIOD k i, word f.period)]

/-- A change of timing, format or coded form since the last frame start makes the next coded frame FULL (R210, R229), whatever became of the frames in
between. -/
def State.noteForm (s : State) (k i : Nat) (f : InFrame) : State :=
  let ctrl := s.reg (Reg.DIN_CTRL k i)
  let form := codedForm f (fld ctrl 16 2) (bitAt ctrl 18)
  let sign := [f.width, f.height, f.hTotal, f.vTotal, f.pixelRate, f.sampling, f.rgb.toNat, f.ten.toNat, f.limited.toNat, f.matrix,
               f.standard.toNat, f.interlaced.toNat, form.1, form.2.toNat, if f.rgb && !form.2 then fld ctrl 19 1 else f.matrix]
  let d := s.din k i
  s.setDin k i { d with full := d.full || decide (d.lastForm ≠ sign), lastForm := sign }

/-- Exact regions suspended while the input is subsampled (R228). -/
def State.noteExact (s : State) (k i : Nat) (f : InFrame) : State :=
  let susp := f.sampling != 0 && !(s.regions k i).isEmpty
  let was := s.rb (Reg.PURL_STATUS k i) 17
  let s := s.setRb (Reg.PURL_STATUS k i) 17 susp
  if susp && !was then s.log k Ev.exactSuspended i [f.sampling] else s

/-- A frame starts at an input with a trained link (R208, R210, R230). -/
def execInputFrameStart (k i : Nat) (frame : InFrame) (s : State) : Result :=
  onInput k i (s.dinState k i != 0 && s.rf (Reg.DIN_STATUS k i) 4 3 != 0) s
    (let s := s.noteForm k i frame
     if frameAccepted frame then
       let s := (((s.setDinState k i 3).noteFrame k i frame).bump (Reg.DIN_FRAMES k i) 1).noteExact k i frame
       match s.adapterOpen? k (dinAdapter i) with
       | none => s
       | some _ => if (s.din k i).sending then s.bump (Reg.PURL_HELD k i) 1 else s.beginFrame k i frame
     else
       let s := s.noteFrame k i frame
       if s.dinState k i = 4 then s
       else
         let s := (s.inputGone k i).setDinState k i 4
         let ctrl := s.reg (Reg.DIN_CTRL k i)
         (s.bump (Reg.DIN_UNSUP k i) 1).log k Ev.dinUnsupported i
           [frame.width % 65536 + 65536 * frame.height, frame.pixelRate,
            (formWord frame (codedForm frame (fld ctrl 16 2) (bitAt ctrl 18)) frame.matrix false 0).toNat])

/-- The frame in transmission is complete once its FRAME_END has left the transmit queue (R218, R230). -/
def State.encProgress (s : State) (k i t : Nat) : State :=
  let d := s.din k i
  if !d.sending || !(s.outboxOf k (dinAdapter i)).isEmpty || (s.ctxParts k t).any (fun c => !c.txq.isEmpty || !c.waitq.isEmpty) then s
  else
    let a := Reg.PURL_LAST_FRAME k i
    let keep := d.committed.filter fun e => !(d.sent.any fun x => x.1 == e.1)
    let s := s.setDin k i { d with sending := false, committed := d.sent ++ keep, sent := [] }
    let s := s.setRegs (((List.range 5).map fun j => (a + 4 * j, word (d.report.getD j 0)))
      ++ (List.range 32).map fun b => (Reg.PURL_HIST k i b, word (d.hist.getD b 0)))
    s.setRb (Reg.PURL_STATUS k i) 16 false

/-- After a stitch of a port, the adapters whose tunnels leave by it hand over what waits, and a display source sees its frame leave. -/
def State.portAdapters (s : State) (k p : Nat) : State :=
  s.forCtxs (s.portCtxsIn k p [2]) fun s n t =>
    let a := s.tunAdapter n t
    if a = 3 ∨ a = 4 then s.encProgress n (a - 3) t else s.flush n a

/-- A stitch of a port begins (R85, R149). `late` says that the cell of the stitch's owner is in the core but not yet in the egress buffer. -/
def execStitchStart (k p : Nat) (late : Bool) (s : State) : Result :=
  onPort k p (s.sendsRows k p && decide (1 ≤ (s.port k p).pos) && decide ((s.port k p).pos < s.rowLen k p)) s
    (if s.portState k p = 2 then s.castStitch k p
     else if s.rf (Reg.LNK_STATE k p) 4 2 = 1 then s.shellStitch k p
     else ((((s.moveFlights.admitPort k p).stitch k p late).closeDrained k p).portAdapters k p))

/-- An adapter offers its oldest packet to its tunnel: a display source that would have to wait aborts its frame (R231). -/
def State.offer (s : State) (k t p : Nat) (busy : Bool) (bytes : List Byte) : State :=
  let a := s.tunAdapter k t
  match (if t < 8 then [] else s.outboxOf k a) with
  | [] => if bytes.isEmpty then s else (s.handover? k t p busy bytes).getD s
  | b :: l =>
    match s.handover? k t p busy b with
    | some s => s.setOutbox k a l
    | none => if (a = 3 ∨ a = 4) ∧ ptypeOf b ≠ 4 ∧ s.tunState k t = 2 then s.encAbort k (a - 3) 2 true else s

/-- An adapter hands a packet to context (k, t): the oldest that the part's own adapter has made, else `bytes`; p is the port for T4 and
T5, and `busy` says that the check unit that snoops it is still busy. -/
def execPacketHandover (k t p : Nat) (bytes : List Byte) (busy : Bool) (s : State) : Result :=
  onUnit s (s.hasCtx k t && decide (p < 4)) (s.offer k t p busy bytes)

/-! ### Reverse packets at the source (R211, R232, R233) -/

/-- A packet that breaks Tables 6.9 to 6.11: a class 8 violation, which quarantines the tunnel (Table 4.13). -/
def State.adapterViolation (s : State) (k t : Nat) : State :=
  let e := s.memberPort k t 0
  (s.violation e.1 e.2 8 (512 * k + t) (some (k, t))).quarantine k t 8

/-- The oldest reverse packet of a display input, when it has the type named; one that breaks the tables is a violation. -/
def onReverse (k i ptype : Nat) (s : State) (f : State → List Byte → State) : Result :=
  onInput k i true s
    (match s.adapterOpen? k (dinAdapter i) with
     | none => s
     | some t =>
       match s.takeAdapter k t with
       | none => s
       | some (b, s') =>
         if !reverseOk b.2 then s'.adapterViolation k t
         else if ptypeOf b.2 = ptype then f s' b.2 else s)

/-- REFRESH: the rows are sent whole in the next coded frame; requests merge (R232). -/
def execRefresh (k i : Nat) (s : State) : Result :=
  onReverse k i 0x11 s fun s b =>
    let d := s.din k i
    let s := if byteAt b 4 % 2 = 1 then s.setDin k i { d with refreshAll := true }
      else s.setDin k i { d with refresh := d.refresh ++ [(halfAt b 6 % 1024, halfAt b 8 % 1024)] }
    s.bump (Reg.PURL_REFRESH_RX k i) 1

/-- SINK_EDID: a block of the far EDID; the proxy takes it once every block is there with a correct checksum (R211). A packet with
NO_PANEL carries no EDID, and the proxy keeps the one it has (DEDUCED, log entry 24). -/
def State.takeEdid (s : State) (k i : Nat) (b : List Byte) : State :=
  let d := s.din k i
  let ix := byteAt b 4 % 4
  let n := byteAt b 4 / 4 % 4 + 1
  if byteAt b 4 / 16 % 2 = 1 then s
  else
    let blocks := smapInsert (if d.farCount = n then d.farBlocks else []) ix ((b.drop 8).take 128)
    let got := (List.range n).map fun j => smapGet (fun _ => []) blocks j
    if got.all fun x => decide (x.length = 128) && blockGood x then
      s.presentChange (s.setDin k i { d with farEdid := some got.flatten, farCount := 0, farBlocks := [] }) k i
    else s.setDin k i { d with farCount := n, farBlocks := blocks }

def execSinkEdid (k i : Nat) (s : State) : Result := onReverse k i 0x12 s fun s b => s.takeEdid k i b

/-- SINK_STATUS (R253): the source keeps nothing of it. -/
def execSinkStatus (k i : Nat) (s : State) : Result := onReverse k i 0x13 s fun s _ => s

end Sys2Proof.Machine
end

