-- ==== Sys2Proof/Machine/EtherCmds.lean ====
section
/-! DEFINITION. The Ethernet and PRP commands (R319, R323, R346) and the events of the Ethernet ports (R319 to R326, R338, R339). -/

namespace Sys2Proof.Machine

/-- An Ethernet tunnel of a port is outside Closed. -/
def State.ethBusy (s : State) (k e : Nat) : Bool := (s.adapterCtx? k (ethAdapter e)).isSome

/-- A port without link: what depends on it ends. -/
def State.ethDown (s : State) (k e : Nat) : State :=
  let p := (s.net k).eth e
  let s := (s.setEth k e { p with pdT1 := none, pdResp := none, delay := none, pauseEnd := 0 }).setRf (Reg.ETH_STATUS k e) 0 4 0
  (s.setRb (Reg.PTP_PORT_STATE k e) 4 false).setReg (Reg.PTP_LINK_DELAY k e) 0

def cmdEthConfig : Cmd where
  opcode := 0x0901
  minLen := 8
  domain := fun _ => 10
  bad r _ _ :=
    let m := reqField r 16 0 14
    [badSub r 2, (decide (4 < reqField r 12 0 3), .badParam, 12), (decide (m < 1518) || decide (9216 < m), .badParam, 16)]
  act r k s :=
    let e := reqSub r
    let w := s.reg (Reg.ETH_CTRL k e)
    let medium := reqField r 12 0 3
    let speed := reqField r 12 4 2
    .checked [((decide (actsMedium medium ≠ actsMedium (fld w 0 3)) || decide (speed ≠ fld w 4 2)) && s.ethBusy k e, .wrongState, 0x0092)] s
      (let s' := s.setReg (Reg.ETH_CTRL k e) (packWord [(0, 3, medium), (4, 2, speed), (8, 2, reqField r 12 8 2), (16, 14, reqField r 16 0 14)])
       .ok (if actsMedium medium ≠ actsMedium (fld w 0 3) then (s'.setRb (Reg.ETH_STATUS k e) 5 false).ethDown k e else s') [])

def execEthConfig (r : Req) (s : State) : Result := onCommand cmdEthConfig r s

/-- The pair formed or split (R323): an empty proxy table and no discard entries. -/
def State.setPair (s : State) (k : Nat) (on sup : Bool) : State :=
  let was := s.paired k
  let s := s.setReg (Reg.PRP_CTRL k) (packWord [(0, 1, on.toNat), (1, 1, sup.toNat)])
  if was = on then s
  else
    let s := s.setNet k { s.net k with proxy := [], seen := [], gone := [], ownSeq := 0, supSeq := 0 }
    let s := (s.setRb (Reg.ETH_STATUS k 0) 6 on).setRb (Reg.ETH_STATUS k 1) 6 on
    s.setReg (Reg.PRP_STATUS k) (packWord [(0, 1, (on && s.ethLink k 0).toNat), (1, 1, (on && s.ethLink k 1).toNat)])

def cmdPrpPairSet : Cmd where
  opcode := 0x0902
  minLen := 12
  domain := fun _ => 10
  bad r _ _ :=
    let l := (reqWord r 16).toNat
    let f := (reqWord r 20).toNat
    [badSub r 2, (decide (l < 100) || decide (10000 < l), .badParam, 16), (decide (f < 10) || decide (10000 < f), .badParam, 20)]
  act r k s :=
    .checked
      [(decide (s.medium k 0 = 0) || decide (s.medium k 1 = 0), .wrongState, 0x0090),
       (s.ethBusy k 0 || s.ethBusy k 1, .wrongState, 0x0092)] s
      (.ok (((s.setPair k (reqBit r 12 0) (reqBit r 12 1)).setReg (Reg.PRP_LIFE_CHECK k) (reqWord r 16)).setReg (Reg.PRP_FORGET k) (reqWord r 20)) [])

def execPrpPairSet (r : Req) (s : State) : Result := onCommand cmdPrpPairSet r s

def cmdEthStatus : Cmd where
  opcode := 0x0903
  minLen := 4
  domain := fun _ => 10
  bad r _ _ := [badSub r 2]
  act r k s :=
    let e := reqSub r
    let eth := (List.range 8).map fun i => Reg.ETH_RX_FRAMES k e + 4 * i
    let prp := (List.range 5).map fun i => Reg.PRP_DUP_DISCARD k + 4 * i
    .ok (if reqBit r 12 0 then s.setRegs ((eth ++ prp).map fun a => (a, 0)) else s)
      (s.reg (Reg.ETH_STATUS k e) :: eth.map s.reg ++ [s.reg (Reg.PRP_STATUS k)] ++ prp.map s.reg)

def execEthStatus (r : Req) (s : State) : Result := onCommand cmdEthStatus r s

/-! ### Link and module -/

/-- An event at an Ethernet port whose NET domain is on. -/
def onEth (k e : Nat) (s : State) (f : State → State) : Result :=
  onUnit s (s.hasKernel k && decide (e < 2)) (if s.domainOn k 10 then f s else s)

/-- The link goes up or down; a port that is Off or holds a mismatched module stays down (R319). -/
def execEthLinkChange (k e : Nat) (up : Bool) (rate : Nat) (s : State) : Result :=
  onEth k e s fun s =>
    if !up then (if s.ethLink k e then s.ethDown k e else s)
    else if s.medium k e = 0 ∨ s.rb (Reg.ETH_STATUS k e) 5 ∨ s.ethLink k e then s
    else
      let p := (s.net k).eth e
      (s.setEth k e { p with out := [], pauseEnd := 0 }).setRf (Reg.ETH_STATUS k e) 0 4 (1 + 2 * (rate % 8))

/-- A module inserted or drawn: `fits` says that its identity matches the medium, `code` is its compliance byte (R319). -/
def execSfpModuleInsert (k e : Nat) (present fits : Bool) (code : Nat) (s : State) : Result :=
  onEth k e s fun s =>
    let s := (s.setRb (Reg.ETH_STATUS k e) 4 present).setRb (Reg.ETH_STATUS k e) 5 (present && !fits && decide (2 ≤ s.medium k e))
    if s.rb (Reg.ETH_STATUS k e) 5 then (s.ethDown k e).log k Ev.ethModuleMismatch e [s.medium k e, code]
    else if present then s else s.ethDown k e

/-- A LAN port of the pair went down or came back (R326). -/
def execPrpLanChange (k lan : Nat) (s : State) : Result :=
  onEth k lan s fun s =>
    if !s.paired k ∨ s.rb (Reg.PRP_STATUS k) lan = s.ethLink k lan then s
    else
      let up := s.ethLink k lan
      (s.setRb (Reg.PRP_STATUS k) lan up).log k (if up then Ev.prpLanUp else Ev.prpLanDown) 2 [lan]

/-- A discard entry is forgotten after PRP_FORGET, a proxy entry after 60 s without a frame (R323, R325). -/
def execPrpEntryExpiry (k : Nat) (proxy : Bool) (mac seq : Nat) (s : State) : Result :=
  onEth k 0 s fun s =>
    let x := s.net k
    if proxy then
      (s.setNet k { x with proxy := x.proxy.filter fun v => !(v.1 == mac && decide (v.2.1 + 60000000000 ≤ s.now)) }).prpCount k
    else
      let out (v : Nat × Nat × Nat) : Bool := v.1 == mac && v.2.1 == seq
      (s.setNet k { x with seen := x.seen.filter fun v => !out v, gone := x.seen.filter out ++ x.gone }).prpCount k

/-- A supervision frame: version 1, TLV 20 with the MAC address of the node, and the RedBox TLV for a VDAN (R326). -/
def supFrame (own mac seq : Nat) : List Byte :=
  ownFrame 0x01154E000100 own [] 0x88FB (beBytes 2 1 ++ beBytes 2 seq ++ [20, 6] ++ beBytes 6 mac
    ++ (if mac = own then [] else [30, 6] ++ beBytes 6 own) ++ [0, 0])

def execPrpLifeCheckTimer (k : Nat) (s : State) : Result :=
  onEth k 0 s fun s =>
    if s.paired k ∧ s.rb (Reg.PRP_CTRL k) 1 then
      let own := s.macOf k 0
      (own :: (s.net k).proxy.map (·.1)).foldl (fun s mac =>
        let x := s.net k
        (s.setNet k { x with supSeq := (x.supSeq + 1) % 65536 }).pairSend k true (supFrame own mac x.supSeq)) s
    else s

/-! ### Ingress (R320, R321) -/

/-- PTP message type, when a frame is PTP. -/
def ptpType (b : List Byte) : Nat := byteAt (etherLoad b) 0 % 16

/-- An event message of PTP: Sync, Delay_Req, Pdelay_Req, Pdelay_Resp. -/
def isPtpEvent (t : Nat) : Bool := decide (t < 4)

/-- Peer delay messages, which a port answers itself (R338). -/
def isPdelay (t : Nat) : Bool := t == 2 || t == 3 || t == 10

/-- Rate of a link in Mb/s (Table 10.15). -/
def ethRate (w : Word) : Nat := match fld w 1 3 with | 1 => 10 | 2 => 100 | 3 => 1000 | 4 => 10000 | _ => 0

/-- The port whose tunnel takes a frame of port e: the pair's tunnel names ETH0 (R323). -/
def State.tunPort (s : State) (k e : Nat) : Nat := if s.paired k then 0 else e

/-- A packet for the tunnel of a port, or the frame dropped where there is none Open (R321). -/
def State.ethIngress (s : State) (k e : Nat) (packet : List Byte) : State :=
  let a := ethAdapter (s.tunPort k e)
  if (s.adapterOpen? k a).isSome then (s.emit k a packet).flush k a else s.bump (Reg.ETH_TUN_DOWN_DROP k e) 1

/-- A PTP frame toward the tunnel: an event message is stamped, others go as they are; peer delay messages stay (R338, R339). -/
def State.ptpIngress (s : State) (k e : Nat) (b : List Byte) : State :=
  let t := ptpType b
  let prp := s.paired k
  if isPdelay t then s
  else if t = 0 then
    s.ethIngress k e (etherPacket 2 (if prp then e else 0) prp
      (wordsBytes [word s.tai, word (s.tai / 2 ^ 32), packWord [(0, 16, s.taiFrac)]] ++ b))
  else s.ethIngress k e (etherPacket 1 (if prp then e else 0) prp b)

/-- A frame received on a port. `fcsOk` tells of its FCS; `full` says that the receive FIFO has no room. -/
def State.ethRx (s : State) (k e : Nat) (b : List Byte) (fcsOk full : Bool) : State :=
  let n := b.length + 4
  if !fcsOk then s.bump (Reg.ETH_RX_FCS_ERR k e) 1
  else if n < 64 ∨ s.maxFrame k e < n then s.bump (Reg.ETH_RX_SIZE_ERR k e) 1
  else if full then s.bump (Reg.ETH_RX_FIFO_DROP k e) 1
  else
    let s := s.bump (Reg.ETH_RX_FRAMES k e) 1
    if etherType b = 0x8808 then
      let s := s.bump (Reg.ETH_PAUSE_RX k e) 1
      let l := etherLoad b
      if s.rb (Reg.ETH_CTRL k e) 8 ∧ beNat l 0 2 = 1 then
        let p := (s.net k).eth e
        s.setEth k e { p with pauseEnd := s.now + beNat l 2 2 * 512 * 1000 / max 1 (ethRate (s.reg (Reg.ETH_STATUS k e))) }
      else s
    else if etherType b = 0x88F7 ∧ s.rf (Reg.PTP_CTRL k) 0 2 ≠ 0 then s.ptpIngress k e b
    else if s.paired k then
      if etherType b = 0x88FB then s
      else
        match s.pairReceive k e b with
        | (some b, s) => s.ethIngress k e (etherPacket 1 e true b)
        | (none, s) => s
    else s.ethIngress k e (etherPacket 1 0 false b)

def execEthFrameRx (k e : Nat) (bytes : List Byte) (fcsOk full : Bool) (s : State) : Result :=
  onEth k e s fun s => if s.ethLink k e ∧ 14 ≤ bytes.length then s.ethRx k e bytes fcsOk full else s

/-! ### Egress (R322, R338, R339) -/

/-- The oldest packet of an Ethernet tunnel, when it has the type named; one that breaks Table 10.2 or is too long for the egress is a
class 8 violation. A PAUSE holds it back. -/
def onEthPacket (k e ptype : Nat) (s : State) (f : State → Bool → List Byte → Nat → State) : Result :=
  onEth k e s fun s =>
    match s.adapterOpen? k (ethAdapter e) with
    | none => s
    | some t =>
      if s.now < ((s.net k).eth e).pauseEnd then s
      else
        match s.takeAdapter k t with
        | none => s
        | some (b, s') =>
          let pt := byteAt b.2 0
          let hdr := if pt = 2 then 16 else 4
          if byteAt b.2 1 ≠ 1 ∨ (pt ≠ 1 ∧ pt ≠ 2) ∨ b.2.length < hdr + 14 ∨ s.maxFrame k e < b.2.length - hdr + 4 then s'.adapterViolation k t
          else if pt ≠ ptype then s
          else f s' b.1 b.2 t

/-- The ports by which a PTP frame leaves: the LAN it came by for a pair, both LANs for one from a single port; at a single port those of
LAN A, or those of LAN B while LAN A's port has no valid meanLinkDelay (R339). That port is the far part's, and the packet does not tell of
its meanLinkDelay: `aValid` is open. -/
def State.ptpPorts (s : State) (k e lan : Nat) (fromPrp aValid : Bool) : List Nat :=
  if s.paired k then (if fromPrp then [lan] else [0, 1])
  else if !fromPrp || aValid == decide (lan = 0) then [e]
  else []

/-- A correction in 2^-16 ns added to the correctionField of a PTP frame. -/
def addCorrection (b : List Byte) (c : Int) : List Byte :=
  let i := typeAt b + 2 + 8
  let v := BitVec.ofNat 64 (beNat b i 8) + BitVec.ofInt 64 c
  b.take i ++ beBytes 8 v.toNat ++ b.drop (i + 8)

/-- What joins a Sync and its Follow_Up: port identity and sequence number. -/
def syncKey (m : List Byte) : List Byte := slice m 20 12

/-- A FRAME leaves the tunnel: marked CE where its cells carried CM, with RCTs on a pair; a PTP frame as R339 says, a Follow_Up with what its
Sync left to correct (R338). -/
def execEthFramePacket (k e : Nat) (s : State) : Result :=
  onEthPacket k e 1 s fun s cm p _ =>
    let b := p.drop 4
    let flags := byteAt p 2
    if etherType b = 0x88F7 ∧ s.rf (Reg.PTP_CTRL k) 0 2 ≠ 0 then
      let x := s.net k
      let key := syncKey (etherLoad b)
      let r := if ptpType b = 8 then
          match x.owed.find? fun o => o.1 == key with
          | some o => (addCorrection b o.2, s.setNet k { x with owed := x.owed.filter fun q => q.1 != key })
          | none => (b, s)
        else (b, s)
      (r.2.ptpPorts k e (flags % 2) (flags / 2 % 2 == 1) (bitAt r.2.fresh.1 0)).foldl (fun s q => s.ethSend k q r.1) r.2.fresh.2
    else
      let r := match (if cm then markCe b else none) with
        | some m => (m, s.bump (Reg.ETH_ECN_CE k e) 1)
        | none => (b, s)
      if r.2.paired k then r.2.pairSend k false r.1 else r.2.ethSend k e r.1

/-- A PTP_FRAME leaves the tunnel (R338): residence, and the ingress port's meanLinkDelay, which the packet does not carry and is open. A
prearranged tunnel forwards only while both ends are Locked. -/
def execPtpFramePacket (k e : Nat) (s : State) : Result :=
  onEthPacket k e 2 s fun s _ p t =>
    let b := p.drop 16
    let g := s.memberPort k t 0
    let fixed := s.rb (Reg.TUN_CTRL k t) 12
    let far := (s.port g.1 g.2).farTime
    if fixed && !(s.timeState == 2 && (match far with | some (st, _, _) => st == 2 | none => false)) then s.bump (Reg.PTP_TC_UNMEASURED k) 1
    else
      let ingress : Int := ((bytesWords (slice p 4 8)).getD 0 0).toNat + ((bytesWords (slice p 4 8)).getD 1 0).toNat * 4294967296
      let o : Int := if fixed then 0 else (s.reg (Reg.LTT_OFFSET g.1 g.2)).toInt * 65536 / 1000
      let mld : Int := s.fresh.1.toNat
      let s := s.fresh.2
      let c := s.taiX - (ingress * 65536 + halfAt p 12) + o + mld
      let m := etherLoad b
      let two := byteAt m 6 / 2 % 2 = 1
      let s := if two then s.setNet k { s.net k with owed := ((syncKey m, c) :: (s.net k).owed).take 64 } else s
      let flags := byteAt p 2
      let a := s.fresh
      ((a.2.ptpPorts k e (flags % 2) (flags / 2 % 2 == 1) (bitAt a.1 0)).foldl (fun s q => s.ethSend k q (if two then b else addCorrection b c)) a.2).bump
        (Reg.PTP_TC_FWD k) 1

end Sys2Proof.Machine
end

