-- ==== Sys2Proof/Machine/FrameStore.lean ====
section
/-! DEFINITION. The frame store at the sink of a display tunnel (R237 to R243, R373, R374): records, frame sets, and the forward packets of
the display tunnel. -/

namespace Sys2Proof.Machine

/-- A display output of the part. -/
def onOutput (k o : Nat) (c : Bool) (s f : State) : Result := onUnit s (s.hasKernel k && decide (o < 2)) (if c then f else s)

/-! ### Records (R238, R239) -/

def frameWidth (f : FrameSet) : Nat := fld f.size 0 13
def frameHeight (f : FrameSet) : Nat := fld f.size 16 13
def frameSampling (f : FrameSet) : Nat := fld f.form 0 2
def frameDepth (f : FrameSet) : Nat := depthOf (bitAt f.form 3)

/-- The components that each plane group holds: three-plane for LAYOUT 1 and for every RGB coded form, else semi-planar (R238). -/
def planeGroups (layout : Bool) (f : FrameSet) : List (List Nat) := if layout || bitAt f.form 2 then [[0], [1], [2]] else [[0], [1, 2]]

/-- Width and sample count of component c of a tile: the components of exact kinds are 4:4:4 (Table 6.6). -/
def tileShape (f : FrameSet) (kind row col c : Nat) : Nat × Nat :=
  let d := chromaDiv (if kind % 2 = 1 then 0 else frameSampling f) c
  let w := min (32 / d.1) (ceilDiv (frameWidth f) d.1 - 32 / d.1 * col)
  let h := min (8 / d.2) (ceilDiv (frameHeight f) d.2 - 8 / d.2 * row)
  (w, w * h)

/-- One component's code at the head of a bit string: its samples and the bits left (Table 6.6). -/
def readComp (f : FrameSet) (kind bound row col c : Nat) (bs : List Bool) : Option (List Nat × List Bool) :=
  let sh := tileShape f kind row col c
  let n := frameDepth f
  if 2 ≤ kind then
    if bs.length < n then none else some (List.replicate sh.2 ((bs.take n).foldl (fun v b => 2 * v + b.toNat) 0), bs.drop n)
  else decodePlane n (if kind = 0 then bound else 0) sh.1 sh.2 bs

/-- Several components at the head of a bit string. -/
def readComps (f : FrameSet) (kind bound row col : Nat) : List Nat → List Bool → Option (List (List Nat) × List Bool)
  | [], bs => some ([], bs)
  | c :: cs, bs =>
    match readComp f kind bound row col c bs with
    | none => none
    | some (x, bs) => (readComps f kind bound row col cs bs).map fun r => (x :: r.1, r.2)

/-- A tile's data split into its plane groups (R240); none where it is too short. -/
def splitTile (f : FrameSet) (groups : List (List Nat)) (kind bound row col : Nat) (data : List Byte) : Option (List (List Byte)) :=
  let rec go : List (List Nat) → List Bool → Option (List (List Byte))
    | [], _ => some []
    | g :: gs, bs =>
      match readComps f kind bound row col g bs with
      | none => none
      | some (_, rest) => (go gs rest).map fun l => bitsBytes (bs.take (bs.length - rest.length)) :: l
  go groups (bytesBits data)

/-- The bytes of a record before its check word (Table 7.2). -/
def recordBytes (r : SinkRec) : List Byte :=
  wordsBytes (packWord [(0, 10, r.tiles.length), (16, 2, r.group)]
      :: r.tiles.map fun t => packWord [(0, 2, t.1), (2, 5, t.2.1), (16, 16, t.2.2.length)])
    ++ r.tiles.flatMap fun t => pad4 t.2.2

/-- The length of a record without its check word. -/
def recordLength (r : SinkRec) : Nat := 4 * (1 + r.tiles.length) + (r.tiles.map fun t => (pad4 t.2.2).length).sum

/-- The check unit of output o guards its skein (R373). -/
def State.guarded (s : State) (k o : Nat) : Bool := s.rf (Reg.CHK_CFG k (2 + o)) 12 2 == 3

/-- Bytes that a record takes, in units of 64 (R239, R373). -/
def recordSize (guarded : Bool) (r : SinkRec) : Nat := 64 * ceilDiv (recordLength r + (if guarded then 4 else 0)) 64

/-- FST_BYTES: bytes of the record area in use. -/
def State.fstBytes (s : State) (k o : Nat) : Nat := ((s.dout k o).recs.map fun r => recordSize (s.guarded k o) r.2).sum

/-- Offset of the index word of tile row r and group g in set i of a display skein, and what the word holds (Table 7.1). -/
def indexOffset (i g r : Nat) : Nat := 0x2000 * i + 0x900 * g + 4 * r

def indexWord (f : FrameSet) (g r : Nat) : Word :=
  match f.index.find? fun e => e.1 == 3 * r + g with
  | some e => packWord [(0, 20, e.2), (31, 1, 1)]
  | none => 0

/-- The end of the record area, in units of 64 bytes. -/
def State.recordEnd (s : State) (k o : Nat) : Nat := (s.reg (Reg.SKEIN_SIZE k (3 + o))).toNat / 64

/-- A place for a record of n bytes: the lowest free one that is long enough from 0x6000 on (R239; DESIGN CHOICE, log entry 78). None where there is no
room. -/
def recordPlace (guarded : Bool) (recs : List (Nat × SinkRec)) (last n : Nat) : Option Nat :=
  let size (r : Nat × SinkRec) : Nat := recordSize guarded r.2 / 64
  let free (c : Nat) : Bool := decide (c + n / 64 ≤ last) && recs.all fun r => decide (r.1 + size r ≤ c ∨ c + n / 64 ≤ r.1)
  ((0x180 :: recs.map fun r => r.1 + size r).filter free).foldl (fun b c => match b with | some x => some (min x c) | none => some c) none

/-- Records placed one after the other; none where one of them has no room. -/
def placeRecords (guarded : Bool) (last : Nat) : List (Nat × SinkRec) → List SinkRec → Option (List (Nat × SinkRec))
  | _, [] => some []
  | recs, r :: rs =>
    match recordPlace guarded recs last (recordSize guarded r) with
    | none => none
    | some c => (placeRecords guarded last (recs ++ [(c, r)]) rs).map fun l => (c, r) :: l

/-! ### Frame sets (R238, R241) -/

def Dout.sets (d : Dout) : List FrameSet := d.front.toList ++ d.ready.toList ++ d.build.toList ++ d.base.toList

/-- Records that no set refers to are freed (R241). -/
def Dout.collect (d : Dout) : Dout :=
  { d with recs := d.recs.filter fun r => d.sets.any fun f => f.index.any fun e => e.2 == r.1 }

/-- FST_SETS, FST_FRAMES, FST_BYTES and FST_BYTES_MAX (Table 7.14). -/
def State.syncStore (s : State) (k o : Nat) : State :=
  let d := (s.dout k o).collect
  let s := s.setDout k o d
  let ix (f : Option FrameSet) : Nat := match f with | some f => f.set | none => 3
  let no (f : Option FrameSet) : Nat := match f with | some f => f.frame | none => 0
  let n := s.fstBytes k o
  let s := s.setRegs [(Reg.FST_SETS k o, packWord [(0, 2, ix d.front), (2, 2, ix d.ready), (4, 2, ix d.build)]),
    (Reg.FST_FRAMES k o, packWord [(0, 16, no d.front), (16, 16, no d.ready)]), (Reg.FST_BYTES k o, word n)]
  if (s.reg (Reg.FST_BYTES_MAX k o)).toNat < n then s.setReg (Reg.FST_BYTES_MAX k o) (word n) else s

/-- The lowest set that no role holds. -/
def Dout.freeSet (d : Dout) : Nat :=
  ((List.range 3).find? fun i => !(d.front.toList ++ d.ready.toList).any fun f => f.set == i).getD 2

/-- The oldest packet that has arrived for an output: on a local-output leg, or on its tunnel. -/
def State.sinkTake (s : State) (k o : Nat) : Option (List Byte × State) :=
  match smapGet (fun _ => []) s.localRx (2 * k + o) with
  | b :: l => some (b, { s with localRx := smapPut (fun _ => []) s.localRx (2 * k + o) l })
  | [] =>
    match s.adapterCtx? k (doutAdapter o) with
    | none => none
    | some t => (s.takeAdapter k t).map fun r => (r.1.2, r.2)

/-- A forward packet that breaks Tables 6.9 and 6.10 (R233): a class 8 violation where it came by a tunnel. -/
def State.sinkViolation (s : State) (k o : Nat) : State :=
  match s.adapterCtx? k (doutAdapter o) with
  | some t => s.adapterViolation k t
  | none => s

/-- The oldest forward packet of an output, when it has the type named. -/
def onForward (k o ptype : Nat) (s : State) (f : State → List Byte → State) : Result :=
  onOutput k o true s
    (match s.sinkTake k o with
     | none => s
     | some (b, s') =>
       if !forwardOk b then s'.sinkViolation k o
       else if ptypeOf b = ptype then f s' b else s)

/-- BUILD discarded (R231, R242). -/
def State.dropBuild (s : State) (k o : Nat) : State :=
  (s.setDout k o { s.dout k o with build := none, base := none, ended := false, scanning := false }).syncStore k o

/-! ### Forward packets (R229, R231, R240 to R242) -/

/-- FRAME_START: a new BUILD over its base; a BUILD whose FRAME_END has not come is discarded; one that waits for rows named in REFRESH is
the base of the next frame (R232). A BUILD discarded so, or a frame number passed over, means lost cells, and all rows are asked for unless the new frame
is FULL (DESIGN CHOICE, log entry 26). -/
def State.sinkStart (s : State) (k o : Nat) (b : List Byte) : State :=
  let d := s.dout k o
  let form := (bytesWords (slice b 8 4)).getD 0 0
  let kept := if d.ended && !d.scanning then d.build else none
  let full := bitAt form 9
  let base := if full then none else (kept.orElse fun _ => d.ready.orElse fun _ => d.front)
  let gap := d.lastStart.any (fun n => decide (frameOf b ≠ (n + 1) % 65536)) || d.lastStart.isNone || (d.build.isSome && !d.ended)
  let ask := gap && !full
  let f : FrameSet := { set := (kept.map (·.set)).getD d.freeSet, frame := frameOf b, size := (bytesWords (slice b 4 4)).getD 0 0, form := form }
  let s := (s.setDout k o { d with build := some f, base := base, ended := false, scanning := false, need := if full then [] else d.need,
                                   needAll := !full && (d.needAll || ask), lastStart := some (frameOf b) }).syncStore k o
  if ask then s.sendRefresh k o (frameOf b) none else s

def execFrameStart (k o : Nat) (s : State) : Result := onForward k o 1 s fun s b => s.sinkStart k o b

/-- The entries of a TILE_ROW packet from byte `at` on, one for each column sent: KIND, bound and data; none where it is too short. -/
def rowEntries : List Nat → List Byte → Option (List (Nat × Nat × Nat × List Byte))
  | [], _ => some []
  | c :: cs, bs =>
    let w := (bytesWords (bs.take 4)).getD 0 0
    let n := fld w 16 16
    if bs.length < 4 + n then none
    else (rowEntries cs (bs.drop (4 + (n + 3) / 4 * 4))).map fun l => (c, fld w 0 2, fld w 2 5, (bs.drop 4).take n) :: l

/-- A TILE_ROW packet read, where its entries keep Tables 6.6 and 6.10: its row, its columns sent, and for each group the tiles of those columns. -/
def parseTileRow (layout : Bool) (f : FrameSet) (b : List Byte) : Option (Nat × List Nat × List (List (Nat × Nat × Nat × List Byte))) :=
  let row := halfAt b 4 % 1024
  let across := halfAt b 6 % 1024
  let bytes := ceilDiv across 8
  let cols := (List.range across).filter fun c => (byteAt b (8 + c / 8)).testBit (c % 8)
  if across ≠ tilesAcross (frameWidth f) ∨ tileRows (frameHeight f) ≤ row then none
  else
    match rowEntries cols (b.drop (8 + (bytes + 3) / 4 * 4)) with
    | none => none
    | some es =>
      if es.any fun e => decide (e.2.1 ≠ 0 ∧ e.2.2.1 ≠ 0) then none else
      let groups := planeGroups layout f
      let parts := es.map fun e => (splitTile f groups e.2.1 e.2.2.1 row e.1 e.2.2.2).map fun l => (e, l)
      if parts.any (·.isNone) then none
      else
        let ok := parts.filterMap id
        some (row, cols, (List.range groups.length).map fun g =>
          ok.map fun x => (x.1.1, x.1.2.1, x.1.2.2.1, x.2.getD g []))

/-- The tiles of a record of the base frame. -/
def Dout.baseTiles (d : Dout) (row g : Nat) : List (Nat × Nat × List Byte) :=
  match d.base with
  | none => []
  | some f =>
    match f.index.find? fun e => e.1 == 3 * row + g with
    | none => []
    | some e => match d.recs.find? fun r => r.1 == e.2 with | some r => r.2.tiles | none => []

/-- The record area has no room (R242). -/
def State.noSpace (s : State) (k o frame : Nat) : State :=
  let s := s.bump (Reg.FST_NOSPACE k o) 1
  let s := (s.setDout k o { s.dout k o with ready := none, needAll := true }).dropBuild k o
  let d := s.dout k o
  let quiet := match d.fullLog with | some w => decide (s.now < w + 1000000000) | none => false
  let s := if quiet then s.setDout k o { d with refused := d.refused + 1 }
    else (s.setDout k o { d with fullLog := some s.now, refused := 0 }).log k Ev.fstoreFull o [s.fstBytes k o, d.refused + 1]
  s.sendRefresh k o frame none

/-- A check unit set to FEED 3 computes the word of a record (R373). -/
def State.guardRecord (s : State) (k o : Nat) (r : SinkRec) : State := (s.chkInit k (2 + o)).chkBytes k (2 + o) (recordBytes r)

/-- A tile row stored: one record for each group, with copies of the base's data for the tiles not sent (R240). On an ELN-8 the check
words wait for the scan after FRAME_END (R373). -/
def State.storeRow (s : State) (k o : Nat) (f : FrameSet) (row : Nat) (cols : List Nat)
    (groups : List (List (Nat × Nat × Nat × List Byte))) : State :=
  let across := tilesAcross (frameWidth f)
  let d := s.dout k o
  let inline := s.guarded k o && s.variant != .eln8
  let recs := (List.range groups.length).map fun g =>
    let base := d.baseTiles row g
    let sent := groups.getD g []
    ({ row := row, group := g, checked := inline,
       tiles := (List.range across).map fun c =>
         match sent.find? fun x => x.1 == c with
         | some x => (x.2.1, x.2.2.1, x.2.2.2)
         | none => base.getD c (0, 0, []) } : SinkRec)
  match placeRecords (s.guarded k o) (s.recordEnd k o) d.recs recs with
  | none => s.noSpace k o f.frame
  | some numbered =>
    let s := if inline then recs.foldl (fun s r => s.guardRecord k o r) s else s
    let index := numbered.foldl (fun ix r => smapInsert ix (3 * row + r.2.group) r.1) f.index
    let whole := cols.length == across
    (s.setDout k o
      { d with recs := d.recs ++ numbered, need := if whole then d.need.filter (· != row) else d.need,
               build := some { f with index := index, rows := row :: f.rows, whole := if whole then row :: f.whole else f.whole,
                                      tiles := f.tiles + cols.length } }).syncStore k o

/-- TILE_ROW: a packet of a frame that is not being built is dropped; one that does not parse is counted and its row asked for again, and
breaks R233 (log entry 25). -/
def State.sinkRow (s : State) (k o : Nat) (b : List Byte) : State :=
  let d := s.dout k o
  match d.build with
  | none => s
  | some f =>
    if f.frame ≠ frameOf b ∨ d.ended then s
    else
      match parseTileRow (s.rb (Reg.FST_CTRL k o) 0) f b with
      | some (row, cols, groups) => s.storeRow k o f row cols groups
      | none =>
        let row := halfAt b 4 % 1024
        let s := (s.bump (Reg.PURLD_PARSE_ERR k o) 1).setDout k o { d with need := row :: d.need }
        (s.sendRefresh k o f.frame (some (row, 1))).sinkViolation k o

def execTileRow (k o : Nat) (s : State) : Result := onForward k o 2 s fun s b => s.sinkRow k o b

/-- A complete BUILD becomes READY; a READY it replaces is counted (R241). -/
def State.completeBuild (s : State) (k o : Nat) : State :=
  let d := s.dout k o
  let s := if d.ready.isSome then s.bump (Reg.FST_SKIPPED k o) 1 else s
  (s.setDout k o { d with ready := d.build, build := none, base := none, ended := false, scanning := false }).syncStore k o

/-- FRAME_END: rows that sent no tile share the base's records (R240). Fewer tiles than were sent means lost cells: REFRESH with ALL
(R232; DESIGN CHOICE, log entry 26); of a BUILD discarded since, the rows are asked for already. The frame is complete when no row named in REFRESH is missing, on an ELN-8 after its scan. -/
def State.sinkEnd (s : State) (k o : Nat) (b : List Byte) : State :=
  let d := s.dout k o
  let lost (s : State) : State :=
    (s.setDout k o { s.dout k o with needAll := true }).sendRefresh k o (frameOf b) none
  match d.build with
  | none => if d.lastStart = some (frameOf b) then s else lost s
  | some f =>
    if f.frame ≠ frameOf b ∨ d.ended then lost s
    else
      let rest : List (Nat × Nat) := match d.base with
        | none => []
        | some g => g.index.filter fun e => !f.rows.contains (e.1 / 3)
      let f := { f with index := rest.foldl (fun ix e => smapInsert ix e.1 e.2) f.index }
      let all := (List.range (tileRows (frameHeight f))).all fun r => f.whole.contains r
      let d := { d with build := some f, ended := true, needAll := d.needAll && !all }
      let s := (s.setDout k o d).syncStore k o
      if numAt b 4 4 ≠ f.tiles then lost s
      else if d.needAll || !d.need.isEmpty then s
      else if s.guarded k o && s.variant == .eln8 then s.setDout k o { d with scanning := true }
      else s.completeBuild k o

def execFrameEnd (k o : Nat) (s : State) : Result := onForward k o 3 s fun s b => s.sinkEnd k o b

/-- FRAME_ABORT: the frame being built is discarded (R231). -/
def execFrameAbort (k o : Nat) (s : State) : Result :=
  onForward k o 4 s fun s _ => if (s.dout k o).ended then s else s.dropBuild k o

/-- The scan engine of an ELN-8 has written the check words of the frame's records (R373). -/
def execRecordScanDone (k o : Nat) (s : State) : Result :=
  onOutput k o (s.dout k o).scanning s
    (let d := s.dout k o
     let s := (d.recs.filter fun r => !r.2.checked).foldl (fun s r => s.guardRecord k o r.2) s
     (s.setDout k o { d with recs := d.recs.map fun r => (r.1, { r.2 with checked := true }) }).completeBuild k o)

/-- A fetched record fails its check word (R374): the index words of FRONT that name it lose VALID, its row is asked for again. -/
def execRecordCheckFail (k o group row : Nat) (s : State) : Result :=
  onOutput k o (s.guarded k o) s
    (let d := s.dout k o
     match d.front with
     | none => s
     | some f =>
       match f.index.find? fun e => e.1 == 3 * row + group && decide (group < 3) with
       | none => s
       | some e =>
         let s := (s.setDout k o { d with front := some { f with index := f.index.filter fun x => x.2 != e.2 } }).syncStore k o
         ((s.sendRefresh k o f.frame (some (row, 1))).bump (Reg.FS_CHECK_FAIL k o) 1).log k Ev.fstoreCheckFail o [o, f.set, group, row])

end Sys2Proof.Machine
end

