-- ==== Sys2Proof/Machine/Images.lean ====
section
/-! DEFINITION. The rights of the masters (R428, R429), and signed images: how their data is received and what their header must say
(R439, R415, R443). -/

namespace Sys2Proof.Machine

/-! ### Rights -/

/-- Some grant slot that carries a right serves master m (R428). -/
def State.granted (s : State) (m right : Nat) : Bool :=
  (List.range 64).any fun i => attrServes (s.keyAttr i) 4 right m s.lifeCycle

/-- Masters 1 to 4 that hold a right without a grant (Table 14.3). -/
def rightByState (lc right m : Nat) : Bool :=
  match lc with
  | 0 => if right = 10 then decide (m ≤ 3) else decide (m ≤ 4)
  | 1 => (right == 8 || right == 9 || right == 10) && decide (m ≤ 3)
  | _ => false

/-- Rights that grants give in a state (Table 14.3). -/
def rightByGrant (lc right : Nat) : Bool := decide (lc ≤ 2) || !(right == 8 || right == 10)

/-- The refusals of an operation that needs a right, bit 8 to 12 of Table 14.2 (R429). Needles and Hooks hold every right (R428). -/
def State.rightChecks (s : State) (m right : Nat) : List Check :=
  let free := decide (8 ≤ m) || rightByState s.lifeCycle right m
  [(m == 4 && right == 10, .denied, 1), (!free && !s.granted m right, .denied, 2),
   (!free && !rightByGrant s.lifeCycle right, .denied, 3)]

/-! ### Images -/

/-- K0's copy of a firmware slot is valid (FW_STATUS.VALID_A, VALID_B). -/
def State.slotValid (s : State) (slot : Nat) : Bool := (s.images.copies.getD slot 0).testBit 0

/-- The little-endian number in n bytes of an image. -/
def imageNum (bs : List Byte) (i n : Nat) : Nat :=
  (List.range n).foldl (fun a j => a + byteAt bs (i + j) * 256 ^ j) 0

/-- The greatest body of an image of a kind (Table 14.8). -/
def bodyLimit (kind : Nat) : Nat := if kind = 1 then 1572608 else if kind = 2 then 98048 else 261888

/-- The stated size of an image: its header and BODY_LEN. -/
def imageSize (bs : List Byte) : Nat := 256 + imageNum bs 12 4

/-- What is held of an image once a packet's data has joined it; a packet at offset 0 begins anew. -/
def joinImage (held : List Byte) (r : Req) : List Byte :=
  let data := (reqBytes r 24).take (reqWord r 20).toNat
  if (reqWord r 16).toNat = 0 then data else held ++ data

/-- The checks of an image packet (Table 13.10): offset, length, the packet's own length, a BODY_LEN too great, and data beyond the
stated size. -/
def imageChecks (held : List Byte) (kind : Nat) (r : Req) : List Check :=
  let off := (reqWord r 16).toNat
  let len := (reqWord r 20).toNat
  let all := joinImage held r
  [(decide (off ≠ 0) && decide (off ≠ held.length), .badParam, 16),
   (decide (len = 0) || decide (1000 < len) || decide (r.plen ≠ 12 + ceilDiv len 4 * 4), .badParam, 20),
   (decide (off ≤ 12) && decide (16 ≤ all.length) && decide (bodyLimit kind < imageNum all 12 4), .badParam, 36 - off),
   (decide (16 ≤ all.length) && decide (imageSize all < all.length), .badParam, 20)]

/-- The image is whole. -/
def imageDone (bs : List Byte) : Bool := decide (16 ≤ bs.length) && decide (bs.length = imageSize bs)

/-- The body of an image. -/
def imageBody (bs : List Byte) : List Byte := bs.drop 256

/-- A key slot backs the SIGNER of an image of a kind, and the signature over bytes 0 to 71 verifies under its key (R439). -/
def State.signedBy (s : State) (bs : List Byte) (kind slot : Nat) : Bool :=
  attrServes (s.keyAttr slot) 3 (if kind = 3 then 4 else 3) (if kind = 2 then 16 else 8) s.lifeCycle
    && decide (s.keyHash slot = imageNum bs 16 8) && verifies (s.slotKey slot) (bs.take 72) (slice bs 72 96)

/-- In Manufacture a board table with SIGNER zero needs no signature (R439). -/
def State.unsignedOk (s : State) (bs : List Byte) (kind : Nat) : Bool :=
  kind == 3 && decide (imageNum bs 16 8 = 0) && s.lifeCycle == 0

/-- The outcome of R439 for an image: none, or the low byte of the HW_FAULT detail: 3 for the kind, 1 for the signature, the digest, MAGIC or the
length, 2 for the SVN. -/
def State.imageFault (s : State) (bs : List Byte) (kind : Nat) : Option Nat :=
  if imageNum bs 10 2 ≠ kind then some 3
  else if imageNum bs 0 4 ≠ 0x314E4C45 ∨ bs.length ≠ imageSize bs ∨ bodyLimit kind < imageNum bs 12 4 ∨ slice bs 24 48 ≠ sha384 (imageBody bs)
      ∨ !(s.unsignedOk bs kind || (List.range 64).any fun i => s.signedBy bs kind i) then some 1
  else if kind = 1 ∧ imageNum bs 8 2 < s.rf (Reg.SVN_MIN 0) 0 6 then some 2
  else none

end Sys2Proof.Machine
end

