-- ==== Sys2Proof/Machine/PcieCmds.lean ====
section
/-! DEFINITION. The PCIe commands (Table 8.10) and the events of a bridge (R273 to R292) but for TLPs from the X link. -/

namespace Sys2Proof.Machine

/-! ### Into the tunnel (R279 to R281) -/

/-- The bridge's tunnel is Open. -/
def State.bridgeOpen (s : State) (k : Nat) : Bool := (s.adapterOpen? k pcieAdapter).isSome

/-- Credit of a register as headers and data. -/
def credOf (w : Word) : Nat × Nat := (fld w 0 8, fld w 16 12)

/-- Credit taken from a far buffer. -/
def State.spendCred (s : State) (a data : Nat) : State :=
  let c := credOf (s.reg a)
  s.setReg a (packWord [(0, 8, c.1 - 1), (16, 12, c.2 - data)])

/-- Whether a TLP may enter the tunnel now (R279, R280): adapter credit, and for a non-posted one room for its completion and
PCIE_NP_LIMIT. -/
def State.mayEnter (s : State) (k : Nat) (b : List Byte) : Bool :=
  let x := s.bridge k
  match tlpKind b with
  | .completion => true
  | .posted => let c := credOf (s.reg (Reg.PCIE_FAR_CRED_P k)); decide (1 ≤ c.1) && decide (tlpCredits b ≤ c.2)
  | .nonPosted =>
    let c := credOf (s.reg (Reg.PCIE_FAR_CRED_NP k))
    let r := tlpReserve b
    decide (1 ≤ c.1) && decide (tlpCredits b ≤ c.2) && decide (x.np.length + x.raReqs.length < s.rf (Reg.PCIE_NP_LIMIT k) 0 7)
      && decide ((x.np.map (·.resvH)).sum + r.1 ≤ 1024) && decide ((x.np.map (·.resvD)).sum + r.2 ≤ 4096)

/-- A TLP sent into the tunnel. -/
def State.enterTunnel (s : State) (k : Nat) (b : List Byte) : State :=
  let x := s.bridge k
  let s := s.bump (Reg.PCIE_TLP_TX k) 1
  match tlpKind b with
  | .completion => s.emit k pcieAdapter (bridgePacket 3 b)
  | .posted => (s.spendCred (Reg.PCIE_FAR_CRED_P k) (tlpCredits b)).emit k pcieAdapter (bridgePacket 1 b)
  | .nonPosted =>
    let r := tlpReserve b
    let s := s.setNp k (x.np ++ [{
      reqId := tlpReq b, tag := tlpTag b, addr := tlpAddr b, left := if tlpIsMRd b then 4 * tlpLength b else 0,
      resvH := r.1, resvD := r.2, hdr := b.take (tlpHdr b) }])
    (s.spendCred (Reg.PCIE_FAR_CRED_NP k) (tlpCredits b)).emit k pcieAdapter (bridgePacket 2 b)

/-- The place of the first waiting TLP that may go (R281): posted requests pass everything but posted ones, completions pass non-posted
requests, non-posted requests pass nothing. `p` and `c` tell of posted requests and completions left waiting before. -/
def State.nextTlp (s : State) (k : Nat) (p c any : Bool) (i : Nat) : List (List Byte) → Option Nat
  | [] => none
  | b :: l =>
    let free := match tlpKind b with
      | .posted => !p
      | .completion => !p && !c
      | .nonPosted => !any
    if free && s.mayEnter k b then some i
    else s.nextTlp k (p || decide (tlpKind b = .posted)) (c || decide (tlpKind b = .completion)) true (i + 1) l

/-- TLPs from the X link enter the tunnel as far as credit and order allow. -/
def State.pump (s : State) (fuel k : Nat) : State :=
  match fuel with
  | 0 => s
  | fuel + 1 =>
    let l := (s.bridge k).toTunnel
    match s.nextTlp k false false false 0 l with
    | none => s
    | some i =>
      match l[i]? with
      | none => s
      | some b => ((s.setBridge k { s.bridge k with toTunnel := l.eraseIdx i }).enterTunnel k b).pump fuel k

/-- Everything that waits is tried again. -/
def State.pumpAll (s : State) (k : Nat) : State := (s.pump (s.bridge k).toTunnel.length k).flush k pcieAdapter

/-! ### Read-ahead (R285, R286) -/

/-- Byte ranges of read-ahead data held or in flight. -/
def Bridge.raRanges (b : Bridge) : List (Nat × Nat) :=
  b.raHeld.map (fun c => (c.addr, c.addr + c.data.length)) ++ b.raReqs.map fun r => (r.addr, r.addr + r.len)

/-- The end of the run of double words from `a` that no range covers, at most `lim`, split at 4 KiB boundaries. -/
def runEnd (rs : List (Nat × Nat)) (fuel a lim : Nat) : Nat :=
  match fuel with
  | 0 => a
  | fuel + 1 =>
    if lim ≤ a ∨ (rs.any fun r => decide (r.1 ≤ a) && decide (a < r.2)) then a
    else if (a + 4) % 4096 = 0 then a + 4 else runEnd rs fuel (a + 4) lim

/-- Read-ahead requests issued for window w from byte `a` to `lim`, while the buffer has room, credit is held and no TLP waits before
them. -/
def State.raIssue (s : State) (fuel k w a lim : Nat) : State :=
  match fuel with
  | 0 => s
  | fuel + 1 =>
    if lim ≤ a then s
    else
      let x := s.bridge k
      match x.raRanges.find? fun r => decide (r.1 ≤ a) && decide (a < r.2) with
      | some r => s.raIssue fuel k w r.2 lim
      | none =>
        let e := runEnd x.raRanges 1024 a lim
        let used := (x.raRanges.map fun r => r.2 - r.1).sum
        let tag := (List.range 64).find? fun t => !x.raReqs.any fun r => r.tag == t
        let cred := credOf (s.reg (Reg.PCIE_FAR_CRED_NP k))
        match tag with
        | none => s
        | some tag =>
          if 32768 < used + (e - a) ∨ !x.toTunnel.isEmpty ∨ cred.1 = 0 ∨ s.rf (Reg.PCIE_NP_LIMIT k) 0 7 ≤ x.np.length + x.raReqs.length then s
          else
            let s := s.setBridge k { x with
              raNum := x.raNum + 1,
              raReqs := x.raReqs ++ [{ num := x.raNum, tag := tag, addr := a, len := e - a, win := w }] }
            let s := (s.setNp k x.np).bump (Reg.PCIW_RA_ISSUED k) (e - a)
            let s := (s.bump (Reg.PCIE_TLP_TX k) 1).spendCred (Reg.PCIE_FAR_CRED_NP k) 0
            (s.emit k pcieAdapter (bridgePacket 2 (memRead x.downId tag a (e - a)))).raIssue fuel k w e lim

/-- The window in force that holds a range. -/
def Bridge.windowOf? (b : Bridge) (a e : Nat) : Option (Nat × Nat × Nat × Nat) :=
  b.windows.find? fun w => decide (w.2.1 ≤ a) && decide (e ≤ w.2.1 + w.2.2.1)

/-- After a host read in a window, read-ahead is brought up to DEPTH beyond its end (R286). -/
def State.raTopUp (s : State) (k a e : Nat) : State :=
  if !s.rb (Reg.PCIE_CTRL k) 9 then s
  else
    match (s.bridge k).windowOf? a e with
    | none => s
    | some w => s.raIssue 256 k w.1 e (min (e + 4096 * w.2.2.2) (w.2.1 + w.2.2.1))

/-- The byte of read-ahead data held for an address, with its completer. -/
def Bridge.heldByte (b : Bridge) (a : Nat) : Option (Byte × Nat) :=
  (b.raHeld.find? fun c => decide (c.addr ≤ a) && decide (a < c.addr + c.data.length)).map fun c => (c.data.getD (a - c.addr) 0, c.completer)

/-- A piece without the bytes from a to e - 1. -/
def RaPiece.without (c : RaPiece) (a e : Nat) : List RaPiece :=
  let z := c.addr + c.data.length
  if e ≤ c.addr ∨ z ≤ a then [c]
  else (if c.addr < a then [{ c with data := c.data.take (a - c.addr) }] else [])
    ++ (if e < z then [{ c with addr := e, data := c.data.drop (e - c.addr) }] else [])

/-- Max_Payload_Size of a host-end function in bytes (Device Control, PRESUMED). -/
def Bridge.mps (b : Bridge) : Nat := 128 * 2 ^ min 2 (fld (b.cfgWord 0 (Config.pcieCap 0 + 2)) 5 3)

/-- Successful completions with data for a read from a to e, cut at multiples of Max_Payload_Size. -/
def dataCpls (fuel mps completer : Nat) (hdr : List Byte) (a : Nat) (data : List Byte) : List (List Byte) :=
  match fuel with
  | 0 => []
  | fuel + 1 =>
    if data.isEmpty then []
    else
      let n := mps - a % mps
      cplFor hdr 0 completer data.length (a % 128) (some (data.take n)) :: dataCpls fuel mps completer hdr (a + n) (data.drop n)

/-- A host memory read to the far device (R286): served from held data, waiting for data in flight, or forwarded after a discard of what it
partly overlaps. -/
def State.hostRead (s : State) (k : Nat) (b : List Byte) : State :=
  let x := s.bridge k
  let a := tlpAddr b
  let e := a + 4 * tlpLength b
  let ranges := x.raHeld.map fun c => (c.addr, c.addr + c.data.length)
  let bytes := (List.range (e - a)).map fun i => x.heldByte (a + i)
  let hit (r : Nat × Nat) : Bool := decide (r.1 < e) && decide (a < r.2)
  if bytes.all (·.isSome) then
    let data := bytes.filterMap fun y => y.map (·.1)
    let cid := (bytes.filterMap fun y => y.map (·.2)).headD 0
    let s := s.setBridge k { x with raHeld := x.raHeld.flatMap fun c => c.without a e }
    let s := (dataCpls data.length x.mps cid (b.take 16) a data).foldl (fun s c => s.xSend k c) s
    ((s.bump (Reg.PCIW_RA_HIT k) (e - a)).raTopUp k a e)
  else if x.raReqs.any fun r => r.cut == 0 && decide (r.addr ≤ a) && decide (e ≤ r.addr + r.len) then
    s.setBridge k { x with raWait := x.raWait ++ [b] }
  else
    let nums := (x.raHeld.filter fun c => hit (c.addr, c.addr + c.data.length)).map (·.num)
    let s := if ranges.any hit then s.raDrop k 3 fun c => nums.contains c.num else s
    let s := s.setBridge k { s.bridge k with toTunnel := (s.bridge k).toTunnel ++ [b] }
    ((s.pump (s.bridge k).toTunnel.length k).raTopUp k a e)

/-- A host write or AtomicOp over read-ahead data (R287): every request it overlaps is discarded, at once or on arrival. -/
def State.raOverlap (s : State) (k a e : Nat) : State :=
  let x := s.bridge k
  let nums := (x.raHeld.filter fun c => decide (c.addr < e) && decide (a < c.addr + c.data.length)).map (·.num)
    ++ (x.raReqs.filter fun r => decide (r.addr < e) && decide (a < r.addr + r.len)).map (·.num)
  let s := s.raDrop k 2 fun c => nums.contains c.num
  s.setBridge k { s.bridge k with raReqs := (s.bridge k).raReqs.map fun r => if nums.contains r.num ∧ r.cut = 0 then { r with cut := 2 } else r }

/-- Host reads that waited for data in flight are tried again. -/
def State.raRetry (s : State) (k : Nat) : State :=
  let l := (s.bridge k).raWait
  l.foldl (fun s b => s.hostRead k b) (s.setBridge k { s.bridge k with raWait := [] })

/-! ### Commands -/

/-- A PCIe tunnel of the kernel is outside Closed (Table 8.11). -/
def State.pcieUsed (s : State) (k : Nat) : Bool := (s.adapterCtx? k pcieAdapter).isSome

def cmdPcieConfig : Cmd where
  opcode := 0x0701
  minLen := 12
  domain := fun _ => 9
  bad r _ _ :=
    [badSub r 1, (decide (reqField r 12 0 2 = 3) || decide (reqField r 12 2 2 = 3) || decide (reqField r 12 4 3 < 1)
        || decide (5 < reqField r 12 4 3), .badParam, 12),
     (decide (reqField r 16 0 12 < 1) || decide (4000 < reqField r 16 0 12), .badParam, 16),
     (decide (reqField r 20 0 7 < 1) || decide (64 < reqField r 20 0 7), .badParam, 20)]
  act r k s :=
    let w := s.reg (Reg.PCIE_CTRL k)
    let new := reqWord r 12 &&& 0x37F
    .checked [(decide ((w ^^^ new) &&& 0x17F ≠ 0) && s.pcieUsed k, .wrongState, 0x79)] s
      (let s := s.setRegs [(Reg.PCIE_CTRL k, new), (Reg.PCIE_CPL_TIMEOUT k, reqWord r 16 &&& 0xFFF), (Reg.PCIE_NP_LIMIT k, reqWord r 20 &&& 0x7F)]
       .ok ((s.pcieSync k).pumpAll k) [])

def execPcieConfig (r : Req) (s : State) : Result := onCommand cmdPcieConfig r s

/-- A window that R285 and R293 refuse: off the 4 KiB grid, past 2^64, a DEPTH outside 1 to 16, or overlapping another. The byte of the
field is given. -/
def State.windowFault (s : State) (k w base size depth : Nat) : Option Nat :=
  if base % 4096 ≠ 0 then some 16
  else if size % 4096 ≠ 0 ∨ size = 0 ∨ 2 ^ 64 < base + size then some 24
  else if depth < 1 ∨ 16 < depth then some 32
  else if (s.bridge k).windows.any fun x => x.1 != w && decide (x.2.1 < base + size) && decide (base < x.2.1 + x.2.2.1) then some 16
  else none

/-- A window put into force, or made invalid: its data outside the new range is discarded (R287). -/
def State.applyWindow (s : State) (k w : Nat) (valid : Bool) (base size depth : Nat) : State :=
  let x := s.bridge k
  let keep := x.windows.filter fun v => v.1 != w
  let s := s.setBridge k { x with windows := if valid then keep ++ [(w, base, size, depth)] else keep }
  let outside (a e : Nat) : Bool := !valid || decide (a < base) || decide (base + size < e)
  let s := s.raDrop k 5 fun c => c.win == w && outside c.addr (c.addr + c.data.length)
  let y := s.bridge k
  s.setBridge k { y with raReqs := y.raReqs.map fun q => if q.win = w ∧ outside q.addr (q.addr + q.len) ∧ q.cut = 0 then { q with cut := 5 } else q }

def word64 (r : Req) (off : Nat) : Nat := (reqWord r off).toNat + 4294967296 * (reqWord r (off + 4)).toNat

def cmdPcieWindow : Cmd where
  opcode := 0x0702
  minLen := 24
  domain := fun _ => 9
  bad r k s :=
    let f := if reqBit r 12 8 then s.windowFault k (reqField r 12 0 3) (word64 r 16) (word64 r 24) (reqField r 32 0 5) else none
    [badSub r 1, (f.isSome, .badParam, f.getD 0)]
  act r k s :=
    let w := reqField r 12 0 3
    .checked [((s.bridge k).form != 1, .wrongState, 0x78)] s
      (let s := s.setRegs [(Reg.PCIW_BASE_LO k w, reqWord r 16 &&& 0xFFFFF000), (Reg.PCIW_BASE_HI k w, reqWord r 20), (Reg.PCIW_SIZE_LO k w, reqWord r 24 &&& 0xFFFFF000),
         (Reg.PCIW_SIZE_HI k w, reqWord r 28), (Reg.PCIW_CTRL k w, packWord [(0, 1, reqField r 12 8 1), (4, 5, reqField r 32 0 5)])]
       .ok (s.applyWindow k w (reqBit r 12 8) (word64 r 16) (word64 r 24) (reqField r 32 0 5)) [])

def execPcieWindow (r : Req) (s : State) : Result := onCommand cmdPcieWindow r s

/-- A register write to PCIW_CTRL applies the window's registers together; a window that the command would refuse is ignored and counted
(R294). -/
def State.applyPciwCtrl (s : State) (k win : Nat) (w : Word) : State :=
  let base := (s.reg (Reg.PCIW_BASE_LO k win)).toNat / 4096 * 4096 + 4294967296 * (s.reg (Reg.PCIW_BASE_HI k win)).toNat
  let size := (s.reg (Reg.PCIW_SIZE_LO k win)).toNat / 4096 * 4096 + 4294967296 * (s.reg (Reg.PCIW_SIZE_HI k win)).toNat
  if (s.bridge k).form ≠ 1 ∨ (bitAt w 0 ∧ (s.windowFault k win base size (fld w 4 5)).isSome) then s.ignoreWrite k (Reg.PCIW_CTRL k win)
  else (s.setReg (Reg.PCIW_CTRL k win) (w &&& 0x1F1)).applyWindow k win (bitAt w 0) base size (fld w 4 5)

def execPciwCtrlWrite (_via : Via) (k win : Nat) (w : Word) (s : State) : Result :=
  onUnit s (s.hasKernel k && decide (win < 8)) (s.applyPciwCtrl k win w)

def cmdPcieStatus : Cmd where
  opcode := 0x0703
  minLen := 4
  domain := fun _ => 9
  bad r _ _ := [badSub r 1]
  act r k s :=
    let cnt := (List.range 10).map fun j => Reg.PCIE_TLP_TX k + 4 * j
    .ok (if reqBit r 12 0 then s.setRegs (cnt.map fun a => (a, (0 : Word))) else s)
      ([s.reg (Reg.PCIE_STATUS k), s.reg (Reg.PCIE_FAR_CRED_P k), s.reg (Reg.PCIE_FAR_CRED_NP k), s.reg (Reg.PCIE_CPL_RESV k)] ++ cnt.map s.reg)

def execPcieStatus (r : Req) (s : State) : Result := onCommand cmdPcieStatus r s

def cmdPcieReadaheadLog : Cmd where
  opcode := 0x0704
  minLen := 4
  domain := fun _ => 9
  bad r _ _ := [badSub r 1, (decide (reqField r 12 8 6 < 1) || decide (32 < reqField r 12 8 6), .badParam, 13)]
  act r k s :=
    let data := (List.range (reqField r 12 8 6)).flatMap fun i =>
      (List.range 4).map fun j => s.reg (Reg.PCIW_LOG k ((reqField r 12 0 5 + i) % 32) j)
    .ok (if reqBit r 12 31 then
        (s.resetRange (Reg.PCIW_LOG k 0 0) (Reg.PCIW_LOG k 32 0)).setReg (Reg.PCIW_LOG_HEAD k) 0 |>.setBridge k { s.bridge k with logCount := 0 }
      else s) data

def execPcieReadaheadLog (r : Req) (s : State) : Result := onCommand cmdPcieReadaheadLog r s

/-! ### From the tunnel (R283) -/

/-- The oldest packet of a bridge's tunnel, when it has the type named; one that breaks Table 8.5 is a class 8 violation. -/
def onBridge (k ptype n : Nat) (s : State) (f : State → List Byte → Nat → State) : Result :=
  onUnit s (s.hasKernel k)
    (match s.adapterOpen? k pcieAdapter with
     | none => s
     | some t =>
       match s.takeAdapter k t with
       | none => s
       | some (b, s') =>
         if !displayOk b.2 0 || !([1, 2, 3, 0x10, 0x11, 0x12, 0x13].contains (byteAt b.2 0)) then s'.adapterViolation k t
         else if byteAt b.2 0 ≠ ptype then s
         else if b.2.length < 4 + n then s'.adapterViolation k t
         else f s' (b.2.drop 4) t)

/-- A TLP from the tunnel within the credit that the far bridge was given: that credit is used, and freed as the TLP goes on (R279). -/
def State.useLeft (s : State) (k : Nat) (b : List Byte) : Option State :=
  let x := s.bridge k
  let d := tlpCredits b
  match tlpKind b with
  | .completion => some s
  | .posted =>
    if x.leftP.1 = 0 ∨ x.leftP.2 < d then none
    else some (s.setBridge k { x with leftP := (x.leftP.1 - 1, x.leftP.2 - d), freedP := (x.freedP.1 + 1, x.freedP.2 + d) })
  | .nonPosted =>
    if x.leftNp.1 = 0 ∨ x.leftNp.2 < d then none
    else some (s.setBridge k { x with leftNp := (x.leftNp.1 - 1, x.leftNp.2 - d), freedNp := (x.freedNp.1 + 1, x.freedNp.2 + d) })

/-- A TLP packet taken: malformed, of another queue, or beyond its credit, it breaks R283. -/
def State.tlpArrives (s : State) (k t : Nat) (kind : TlpKind) (b : List Byte) (f : State → State) : State :=
  if !tlpOk b || decide (tlpKind b ≠ kind) then s.adapterViolation k t
  else
    match s.useLeft k b with
    | none => s.adapterViolation k t
    | some s => f (s.bump (Reg.PCIE_TLP_RX k) 1)

def execTlpP (k : Nat) (s : State) : Result := onBridge k 1 12 s fun s b t => s.tlpArrives k t .posted b fun s => s.xSend k b

/-- A type 1 configuration request made type 0 (R276). -/
def toType0 (b : List Byte) : List Byte := BitVec.ofNat 8 (tlpFmt b * 32 + 4) :: b.drop 1

/-- A non-posted request from the tunnel goes onto the X link. `toDevice` says that the bus of a configuration request equals the secondary
bus of the virtual downstream port, which the dock end turns into type 0 (R276). -/
def execTlpNp (k : Nat) (toDevice : Bool) (s : State) : Result :=
  onBridge k 2 12 s fun s b t => s.tlpArrives k t .nonPosted b fun s =>
    s.xSend k (if toDevice && tlpType b == 5 && (s.bridge k).form == 2 then toType0 b else b)

/-- A completion that has no requester here (R284). -/
def State.unexpected (s : State) (k : Nat) (b : List Byte) : State :=
  let x := s.bridge k
  let s := s.setBridge k { x with freedCpl := (x.freedCpl.1 + 1, x.freedCpl.2 + tlpCredits b) }
  s.bump (Reg.PCIE_CPL_UNEXPECTED k) 1

/-- A completion of a read-ahead request (R287). -/
def State.raCompletion (s : State) (k : Nat) (q : RaReq) (b : List Byte) : State :=
  let x := s.bridge k
  let rest := x.raReqs.filter fun r => r.num != q.num
  let s := s.setBridge k { x with raReqs := rest }
  if cplStatus b ≠ 0 then (s.raNote k q.addr q.len 1).setNp k x.np |>.raRetry k
  else
    let got := q.got ++ tlpBytes b
    if got.length < q.len then s.setBridge k { x with raReqs := rest ++ [{ q with got := got }] }
    else if q.cut ≠ 0 then (s.raNote k q.addr q.len q.cut).setNp k x.np |>.raRetry k
    else
      let piece : RaPiece := { num := q.num, addr := q.addr, data := got.take q.len, completer := beAt b 4 2, win := q.win }
      ((s.setBridge k { s.bridge k with raHeld := x.raHeld ++ [piece] }).setNp k x.np).raRetry k

/-- A completion delivered to its requester, its reservation released when it was the last. -/
def State.cplArrives (s : State) (k : Nat) (b : List Byte) : State :=
  let x := s.bridge k
  match (if x.form = 1 ∧ tlpReq b = x.downId then x.raReqs.find? fun q => q.tag == tlpTag b else none) with
  | some q => s.raCompletion k q b
  | none =>
    match x.np.find? fun q => q.reqId == tlpReq b && q.tag == tlpTag b with
    | none => s.unexpected k b
    | some q =>
      let n := tlpData b
      let l := x.np.erase q
      let last := decide (cplStatus b ≠ 0) || decide (q.left ≤ n)
      (s.setNp k (if last then l else { q with left := q.left - n } :: l)).xSend k b

def execTlpCpl (k : Nat) (s : State) : Result :=
  onBridge k 3 12 s fun s b t => (s.tlpArrives k t .completion b fun s => s.cplArrives k b).pumpAll k

/-- Credit returned by the far bridge, at most what its buffer holds (R279). -/
def State.addCred (s : State) (a maxH maxD : Nat) (w : Word) : State :=
  let c := credOf (s.reg a)
  s.setReg a (packWord [(0, 8, min maxH (c.1 + fld w 0 8)), (16, 12, min maxD (c.2 + fld w 16 12))])

def execBridgeCredit (k : Nat) (s : State) : Result :=
  onBridge k 0x10 12 s fun s b _ =>
    let w := bytesWords b
    ((s.addCred (Reg.PCIE_FAR_CRED_P k) 64 2048 (w.getD 0 0)).addCred (Reg.PCIE_FAR_CRED_NP k) 64 128 (w.getD 1 0)).pumpAll k

/-- LINK_STATE at the host end: the slot follows (Table 8.7); a link that goes down is a loss of the path (R289). -/
def State.linkStateRx (s : State) (k : Nat) (w : Word) : State :=
  let x := s.bridge k
  let up := bitAt w 0
  let present := bitAt w 1
  let was := s.rb (Reg.PCIE_STATUS k) 12
  let s := s.setBridge k { x with farWidth := fld w 2 3, farSpeed := fld w 5 3, farPme := bitAt w 8 }
  let s := (s.setRb (Reg.PCIE_STATUS k) 10 up).setRb (Reg.PCIE_STATUS k) 11 present
  let s := if was && !up then s.pathLost k 0 else s
  let s := (s.setSlot k present (up && present)).setRb (Reg.PCIE_STATUS k) 12 up
  if was && !up && present then s.surpriseDown k else s

def execLinkState (k : Nat) (s : State) : Result :=
  onBridge k 0x11 4 s fun s b t =>
    if (s.bridge k).form = 1 then s.linkStateRx k ((bytesWords b).getD 0 0) else s.adapterViolation k t

/-- The dock end's X link goes down: its outstanding requests are aborted and what waits is lost (R289). -/
def State.dockReset (s : State) (k : Nat) : State :=
  let s := s.pathLost k 0
  (s.setRf (Reg.PCIE_STATUS k) 0 4 1).setRf (Reg.PCIE_STATUS k) 4 6 0

/-- LINK_CTRL at the dock end (Table 8.8, R290). -/
def State.linkCtrlRx (s : State) (k : Nat) (w : Word) : State :=
  let s := s.setBridge k { s.bridge k with target := fld w 1 3 }
  let s := if bitAt w 0 then (s.setRf (Reg.PCIE_STATUS k) 0 4 1).setRb (Reg.PCIE_STATUS k) 12 false else s
  let s := if bitAt w 4 then (s.dockReset k).bump (Reg.PCIE_HOT_RESETS k) 1 else s
  let s := if bitAt w 5 then ((s.dockReset k).setRb (Reg.PCIE_STATUS k) 13 true).bump (Reg.PCIE_HOT_RESETS k) 1 else s
  let s := if bitAt w 6 then s.setRb (Reg.PCIE_STATUS k) 13 false else s
  if bitAt w 4 || bitAt w 5 then (s.emit k pcieAdapter (s.linkStatePacket k)).flush k pcieAdapter else s

def execLinkCtrl (k : Nat) (s : State) : Result :=
  onBridge k 0x12 4 s fun s b t =>
    if (s.bridge k).form = 2 then s.linkCtrlRx k ((bytesWords b).getD 0 0) else s.adapterViolation k t

/-- WAKE: the host end drives PX_WAKE_N low while its link is in L2 (R273). -/
def execPcieWake (k : Nat) (hostInL2 : Bool) (s : State) : Result :=
  onBridge k 0x13 0 s fun s _ _ =>
    if (s.bridge k).form = 1 ∧ hostInL2 then s.setBridge k { s.bridge k with wakeOut := true } else s

/-- PCIE_CPL_TIMEOUT has passed for an outstanding request (R284); for a read-ahead request its data is discarded. -/
def execCplTimeout (k reqId tag : Nat) (s : State) : Result :=
  onUnit s (s.hasKernel k)
    (let x := s.bridge k
     let note (s : State) (a : Nat) : State :=
       (s.bump (Reg.PCIE_CPL_TIMEOUTS k) 1).log k Ev.pcieCplTimeout 0 [reqId + 65536 * tag, a, a / 2 ^ 32, if x.form = 1 then 0 else 1]
     match x.raReqs.find? fun q => x.form == 1 && reqId == x.downId && q.tag == tag with
     | some q =>
       let s := (s.setBridge k { x with raReqs := x.raReqs.filter fun r => r.num != q.num }).setNp k x.np
       ((note s q.addr).raNote k q.addr q.len 1).raRetry k |>.pumpAll k
     | none =>
       match x.np.find? fun q => q.reqId == reqId && q.tag == tag with
       | none => s
       | some q => ((note (s.setNp k (x.np.erase q)) q.addr).synth k q.hdr true).pumpAll k)

/-- Held read-ahead data of request `num` is older than PCIW_AGE (R287). -/
def execReadAheadAge (k num : Nat) (s : State) : Result := onUnit s (s.hasKernel k) (s.raDrop k 4 fun c => c.num == num)

/-! ### Resets and links (R275, R289 to R292) -/

/-- The host end's function state at its reset values: configuration spaces, windows and queues (Table 8.8). -/
def State.hostReset (s : State) (k : Nat) (perst : Bool) : State :=
  let s := ((s.raClear k 6).setNp k []).clearWindows k
  let x := s.bridge k
  let s := s.setBridge k { x with cfg := [], busN := 0, toTunnel := [], pdc := false, dllsc := false, surprise := false, unsupported := false }
  let s := ((s.setPcieFn k {}).viaDown (.pcie k)).bump (Reg.PCIE_HOT_RESETS k) 1
  (s.emit k pcieAdapter (linkCtrlPacket false 0 (!perst) perst false)).flush k pcieAdapter

def execPxPerstLow (k : Nat) (s : State) : Result :=
  onUnit s (s.hasKernel k)
    (if (s.bridge k).form ≠ 1 ∨ (s.bridge k).perst then s
     else
       let s := (s.hostReset k true).setBridge k { (s.hostReset k true).bridge k with perst := true }
       (s.setRf (Reg.PCIE_STATUS k) 0 4 1).setRf (Reg.PCIE_STATUS k) 4 6 0)

/-- The fundamental reset ends: the link trains with a width and a speed, and the management function's transport is up. -/
def execPxPerstRise (k width speed : Nat) (s : State) : Result :=
  onUnit s (s.hasKernel k)
    (if (s.bridge k).form ≠ 1 then s
     else
       let s := s.setBridge k { s.bridge k with perst := false, xOut := [] }
       let s := ((s.setRf (Reg.PCIE_STATUS k) 0 4 2).setRf (Reg.PCIE_STATUS k) 4 3 width).setRf (Reg.PCIE_STATUS k) 7 3 speed
       let s := if (s.ep (.pcie k)).up then s else s.viaUpNow (.pcie k)
       (s.emit k pcieAdapter (linkCtrlPacket false 0 false false true)).flush k pcieAdapter)

/-- A hot reset of the host link, or its DL_Down. -/
def execHostHotReset (k : Nat) (down : Bool) (s : State) : Result :=
  onUnit s (s.hasKernel k)
    (if (s.bridge k).form ≠ 1 ∨ s.rf (Reg.PCIE_STATUS k) 0 4 ≠ 2 then s
     else
       let s := s.hostReset k false
       if down then (s.setRf (Reg.PCIE_STATUS k) 0 4 1).setRf (Reg.PCIE_STATUS k) 4 6 0 else s.viaUpNow (.pcie k))

/-- The dock end's X link goes down; `present` says that the device is still there. -/
def execDockLinkDown (k : Nat) (present : Bool) (s : State) : Result :=
  onUnit s (s.hasKernel k)
    (if (s.bridge k).form ≠ 2 ∨ s.rf (Reg.PCIE_STATUS k) 0 4 ≠ 3 then s
     else
       let s := s.dockReset k
       let s := s.setBridge k { s.bridge k with present := present }
       (s.emit k pcieAdapter (s.linkStatePacket k)).flush k pcieAdapter)

/-- The dock end's X link has trained (R275): PX_PERST_N is high, and LINK_STATE goes to the host end. -/
def execDockLinkUp (k width speed : Nat) (s : State) : Result :=
  onUnit s (s.hasKernel k)
    (if (s.bridge k).form ≠ 2 ∨ s.rb (Reg.PCIE_STATUS k) 13 ∨ s.rf (Reg.PCIE_STATUS k) 0 4 ≠ 1 then s
     else
       let s := ((s.setRf (Reg.PCIE_STATUS k) 0 4 3).setRf (Reg.PCIE_STATUS k) 4 3 width).setRf (Reg.PCIE_STATUS k) 7 3 speed
       let s := (s.setBridge k { s.bridge k with present := true, xOut := [] }).setRb (Reg.PCIE_STATUS k) 12 (s.bridgeOpen k)
       (s.emit k pcieAdapter (s.linkStatePacket k)).flush k pcieAdapter)

/-- 100 ms after its tunnel went Open the dock end releases PX_PERST_N and trains the link (R275). -/
def execPerstReleaseTimer (k : Nat) (s : State) : Result :=
  onUnit s (s.hasKernel k)
    (if (s.bridge k).form = 2 ∧ s.rb (Reg.PCIE_STATUS k) 13 ∧ s.bridgeOpen k then s.setRb (Reg.PCIE_STATUS k) 13 false else s)

/-- PX_WAKE_N falls at the dock end: a WAKE goes to the host end (R273). -/
def execPxWakeNFall (k : Nat) (s : State) : Result :=
  onUnit s (s.hasKernel k)
    (if (s.bridge k).form = 2 ∧ s.bridgeOpen k then (s.emit k pcieAdapter (bridgePacket 0x13 [])).flush k pcieAdapter else s)

/-- Once a row period a bridge returns the credit that has been freed (R279). -/
def State.bridgeCredit (s : State) (k : Nat) : State :=
  let x := s.bridge k
  if x.freedP = (0, 0) ∧ x.freedNp = (0, 0) ∧ x.freedCpl = (0, 0) then s
  else
    let w (c : Nat × Nat) : Word := packWord [(0, 8, c.1), (16, 12, c.2)]
    let s := s.setBridge k { x with
      freedP := (0, 0), freedNp := (0, 0), freedCpl := (0, 0),
      leftP := (x.leftP.1 + x.freedP.1, x.leftP.2 + x.freedP.2), leftNp := (x.leftNp.1 + x.freedNp.1, x.leftNp.2 + x.freedNp.2) }
    (s.emit k pcieAdapter (bridgePacket 0x10 (wordsBytes [w x.freedP, w x.freedNp, w x.freedCpl]))).flush k pcieAdapter

/-- The bridges whose tunnel leaves by a port. -/
def State.portBridges (s : State) (k p : Nat) : State :=
  s.forCtxs ((s.portCtxsIn k p [2]).filter fun c => s.tunAdapter c.1 c.2 == pcieAdapter) fun s n _ => s.bridgeCredit n

/-- A row boundary of a port. `transitHeld` says that the core held transit traffic back in the row that ends (R173). -/
def execRowBoundary (k p : Nat) (transitHeld : Bool) (s : State) : Result :=
  onPort k p (s.sendsRows k p) s
    (let s := s.moveFlights.rowStart k p
     let s := if s.portState k p = 2 then s else (s.sendCredit k p).portBridges k p
     if transitHeld then s.bump (Reg.CORE_TRANSIT_HOLD k) 1 else s)

end Sys2Proof.Machine
end

