-- ==== Sys2Proof/Machine/Scanout.lean ====
section
/-! DEFINITION. Scan-out (R244 to R268): the commands of Table 7.11, the frame boundary with flips, staged timings, self-refresh and frame
lock, underruns, and the panel's events. -/

namespace Sys2Proof.Machine

/-! ### Timings (R251) -/

/-- Lane rates in kb/s by code (Table 7.11). -/
def laneRate (code : Nat) : Nat :=
  [1620000, 2700000, 5400000, 8100000, 10000000, 13500000, 20000000, 2160000, 2430000, 3240000, 4320000].getD code 0

def rate128 (code : Nat) : Bool := [4, 5, 6].contains code

/-- The limits of Table 7.4 over the words of a timing, each with the byte of the field that it names. -/
def timingChecks (w : Nat → Word) (edp split : Bool) : List (Bool × Nat) :=
  let ha := fld (w 0) 0 13
  let va := fld (w 0) 16 13
  let ht := fld (w 1) 0 14
  let vt := fld (w 1) 16 14
  let hfp := fld (w 2) 0 10
  let hs := fld (w 2) 16 10
  let vfp := fld (w 3) 0 8
  let vs := fld (w 3) 8 8
  let pr := (w 4).toNat
  let depth := depthOf (bitAt (w 5) 0)
  let lanes := fld (w 5) 4 3
  let rate := fld (w 5) 8 4
  let eff := if rate128 rate then 955 else 780
  [(decide (ha < 320) || decide (7680 < ha) || decide (ha % 2 ≠ 0) || (split && decide (ha % 32 ≠ 0)), 12),
   (decide (va < 200) || decide (4320 < va), 14),
   (decide (8192 < ht) || decide (ht < ha + 32), 16), (decide (8192 < vt) || decide (vt ≤ va), 18),
   (decide (hfp < 8), 20), (decide (hs < 8) || decide (ht - ha ≤ hfp + hs), 22),
   (decide (vfp < 1), 24), (decide (vs < 1) || decide (vt - va < vfp + vs + 1), 25),
   (decide (pr < 25000) || decide (1100000 < pr) || decide (pr * 1000 < 23 * (ht * vt)) || decide (240 * (ht * vt) < pr * 1000)
      || ([1, 2, 4].contains lanes && decide (lanes * laneRate rate * eff < pr * 3 * depth * 1000)), 28),
   (!([1, 2, 4].contains lanes), 32),
   (decide (10 < rate) || (edp && rate128 rate) || (!edp && decide (6 < rate)), 33),
   (decide (fld (w 5) 13 2 = 3), 33)]

/-- The bits of word i of a timing that Table 7.11 gives a field; the others are reserved and read 0 (R13). -/
def timingMask (i : Nat) : Word := ([0x1FFF1FFF, 0x3FFF3FFF, 0x03FF03FF, 0x0003FFFF, 0xFFFFFFFF, 0x00007F71] : List Word).getD i 0

/-- TARGET.SUB 1 of DOUT_TIMING_STAGE, FRAME_LOCK_SET and TEST_PATTERN outside INDEPENDENT (R259). -/
def pairForbids (r : Req) (k : Nat) (s : State) : Check := (decide (reqSub r = 1) && s.pairMode k != 3, .wrongState, 0x68)

/-- The output is Off. -/
def offCheck (r : Req) (k : Nat) (s : State) : Check := (!s.rb (Reg.DOUT_CTRL k (reqSub r)) 0, .wrongState, 0x60)

def cmdDoutTimingStage : Cmd where
  opcode := 0x0601
  minLen := 24
  domain := fun _ => 8
  bad r k s :=
    let o := reqSub r
    [badSub r 2, (decide (r.plen ≠ 24) && decide (r.plen ≠ 36), .badParam, 6)]
    ++ ((timingChecks (fun i => reqWord r (12 + 4 * i)) (s.rb (Reg.DOUT_CTRL k o) 1) (s.pairMode k == 0)).map fun c => (c.1, .badParam, c.2))
    ++ [(decide (r.plen = 36) && decide (reqField r 36 0 32 * 65536 + reqField r 40 0 16 ≤ reqField r 44 0 32 * 65536), .badParam, 44)]
  act r k s :=
    let o := reqSub r
    .checked [pairForbids r k s, offCheck r k s] s
      (let s := s.setRegs ((List.range 6).map fun i => (Reg.DOUT_TIM_STAGED k o i, reqWord r (12 + 4 * i) &&& timingMask i))
       let s := s.setRb (Reg.DOUT_STATUS k o) 8 true
       let lock := if r.plen = 36 then some (reqWord r 36, reqWord r 40 &&& 0xFFFF, reqWord r 44) else none
       .ok (s.setDout k o { s.dout k o with lockStaged := lock }) [])

def execDoutTimingStage (r : Req) (s : State) : Result := onCommand cmdDoutTimingStage r s

/-- A display tunnel on DOUT1 is outside Closed (R260). -/
def State.dout1Used (s : State) (k : Nat) : Bool := (s.adapterCtx? k 6).isSome || (s.localOwner? k 1).isSome

def cmdDoutPairSet : Cmd where
  opcode := 0x0602
  minLen := 4
  domain := fun _ => 8
  bad r _ _ := [badSub r 1]
  act r k s :=
    .checked [(decide (reqField r 12 0 2 < 2) && s.dout1Used k, .wrongState, 0x69)] s
      (.ok (s.setDout k 0 { s.dout k 0 with pairStaged := some (reqWord r 12 &&& 0x33) }) [])

def execDoutPairSet (r : Req) (s : State) : Result := onCommand cmdDoutPairSet r s

def cmdFrameLockSet : Cmd where
  opcode := 0x0603
  minLen := 16
  domain := fun _ => 8
  bad r _ _ :=
    [badSub r 2, (decide (reqField r 12 16 11 < 10) || decide (2000 < reqField r 12 16 11), .badParam, 14),
     (decide (reqField r 16 0 32 * 65536 + reqField r 20 0 16 ≤ reqField r 24 0 32 * 65536), .badParam, 24)]
  act r k s :=
    let o := reqSub r
    .checked [pairForbids r k s] s
      (let on := reqBit r 12 0
       let s := s.setDout k o { s.dout k o with jump := on && (reqBit r 12 1), lockRun := 0 }
       .ok (s.setRegs [(Reg.FLOCK_CTRL k o, reqWord r 12 &&& 0x07FF0003), (Reg.FLOCK_PERIOD_NS k o, reqWord r 16),
         (Reg.FLOCK_PERIOD_FRAC k o, reqWord r 20 &&& 0xFFFF), (Reg.FLOCK_PHASE_NS k o, reqWord r 24)]) [])

def execFrameLockSet (r : Req) (s : State) : Result := onCommand cmdFrameLockSet r s

def cmdPsrConfig : Cmd where
  opcode := 0x0604
  minLen := 4
  domain := fun _ => 8
  bad r _ _ := [badSub r 2, (decide (reqField r 12 8 4 < 2), .badParam, 13)]
  act r k s := .ok (s.setReg (Reg.PSR_CTRL k (reqSub r)) (reqWord r 12 &&& 0xF01)) []

def execPsrConfig (r : Req) (s : State) : Result := onCommand cmdPsrConfig r s

/-- A link pattern on a rate that does not carry it (Table 7.10). -/
def badPattern (p rate : Nat) : Bool :=
  p == 7 || decide (11 < p) || (decide (p = 8 ∨ p = 9) && rate128 rate) || (p == 10 && rate != 2 && rate != 3) || (p == 11 && !rate128 rate)

/-- The rate code of the timing in force. -/
def State.rateCode (s : State) (k o : Nat) : Nat := s.rf (Reg.DOUT_TIM_ACTIVE k o 5) 8 4

def cmdTestPattern : Cmd where
  opcode := 0x0605
  minLen := 8
  domain := fun _ => 8
  bad r k s := [badSub r 2, (badPattern (reqField r 12 0 4) (s.rateCode k (reqSub r)), .badParam, 12)]
  act r k s :=
    .checked [pairForbids r k s, offCheck r k s] s
      (.ok (s.setRegs [(Reg.TP_CTRL k (reqSub r), reqWord r 12 &&& 0xF), (Reg.TP_COLOR k (reqSub r), reqWord r 16 &&& 0x3FFFFFFF)]) [])

def execTestPattern (r : Req) (s : State) : Result := onCommand cmdTestPattern r s

def cmdDoutStatus : Cmd where
  opcode := 0x0606
  minLen := 4
  domain := fun _ => 8
  bad r _ _ := [badSub r 2]
  act r k s :=
    let o := reqSub r
    .ok (if reqBit r 12 0 then
        s.setRegs ([Reg.DOUT_UNDERRUN k o, Reg.DOUT_REPEATS k o, Reg.DOUT_FLIPS k o, Reg.DOUT_PSR_ENTRIES k o, Reg.DOUT_RETRAINS k o,
          Reg.DOUT_LOCK_LOSS k o].map fun a => (a, (0 : Word)))
      else s)
      ([s.reg (Reg.DOUT_STATUS k o), s.reg (Reg.FLOCK_ERR k o), s.reg (Reg.FST_SETS k o), s.reg (Reg.FST_FRAMES k o)]
        ++ (List.range 7).map fun j => s.reg (Reg.DOUT_UNDERRUN k o + 4 * j))

def execDoutStatus (r : Req) (s : State) : Result := onCommand cmdDoutStatus r s

/-! ### Outputs and generators (R250, R257, R258) -/

/-- The output is enabled, and in DUAL its half is in service (R257). -/
def State.outputOn (s : State) (k o : Nat) : Bool :=
  s.rb (Reg.DOUT_CTRL k o) 0 && (s.pairMode k != 2 || s.rb (Reg.DOUT_PAIR k 0) (4 + o))

/-- The outputs that a generator drives: that of O0 drives both but in INDEPENDENT. -/
def State.driven (s : State) (k g : Nat) : List Nat := if s.pairMode k = 3 then [g] else if g = 0 then [0, 1] else []

/-- The state of an output with its link up: Showing once it has a frame (Table 7.6). -/
def State.linkUp (s : State) (k o : Nat) : State :=
  s.setDoutState k o (if (s.dout k (s.sourceOf k o)).front.isSome then 4 else 3)

/-- Link training begins: the trained lanes and rate are void (R255). -/
def State.startTraining (s : State) (k o : Nat) : State :=
  ((((s.setDout k o { s.dout k o with up := false }).setDoutState k o 2).setRf (Reg.DOUT_STATUS k o) 12 3 0).setRf (Reg.DOUT_STATUS k o) 16 4 0).bump (Reg.DOUT_RETRAINS k o) 1

/-- Panel self-refresh may be used: PSR_CTRL.ENABLE and the panel's DPCD (R256). -/
def State.psrAllowed (s : State) (k o : Nat) : Bool := s.rb (Reg.PSR_CTRL k o) 0 && s.rb (Reg.DOUT_STATUS k o) 5

def State.enterPsr (s : State) (k o : Nat) : State :=
  ((s.setDoutState k o 5).setDout k o { s.dout k o with psrArmed := false, psrLeaving := false }).bump (Reg.DOUT_PSR_ENTRIES k o) 1

/-- The output begins to leave self-refresh: it trains as the panel asks, and resumes at the next boundary (R256). -/
def State.leavePsr (s : State) (k o : Nat) : State :=
  if (s.dout k o).trainOnExit then s.startTraining k o else s.setDout k o { s.dout k o with psrLeaving := true }

/-! ### The frame boundary -/

/-- READY flips, unless rows named in REFRESH are missing, or FRONT repeats (R232, R241). True beside the state when a frame that sent a
tile flipped. -/
def State.flip (s : State) (k d : Nat) : State × Bool :=
  let x := s.dout k d
  match x.ready with
  | some f =>
    if x.need.isEmpty && !x.needAll then
      let s := (s.setDout k d { x with front := some f, ready := none, flips := x.flips + 1, blanked := false,
                                       idle := if f.tiles = 0 then x.idle + 1 else 0 }).syncStore k d
      (s.bump (Reg.DOUT_FLIPS k d) 1, decide (f.tiles ≠ 0))
    else (s.setDout k d { x with idle := x.idle + 1 }, false)
  | none =>
    let s := s.setDout k d { x with idle := x.idle + 1 }
    if x.front.isSome && ((s.adapterOpen? k (doutAdapter d)).isSome || (s.localOwner? k d).isSome) then
      let x := s.dout k d
      ((s.setDout k d { x with repeats := x.repeats + 1 }).bump (Reg.DOUT_REPEATS k d) 1, false)
    else (s, false)

/-- A staged pair mode takes effect (R259, R260). -/
def State.applyPair (s : State) (k : Nat) : State :=
  match (s.dout k 0).pairStaged with
  | none => s
  | some w =>
    let old := s.pairMode k
    let s := (s.setReg (Reg.DOUT_PAIR k 0) w).setDout k 0 { s.dout k 0 with pairStaged := none }
    if s.pairMode k = 3 ∧ old ≠ 3 then s.log k Ev.doutIndependent 0 [old]
    else if old = 3 ∧ s.pairMode k ≠ 3 then
      let link (o : Nat) : Nat := fld (s.reg (Reg.DOUT_TIM_ACTIVE k o 5)) 4 8
      let retrain := link 0 != link 1 && s.rb (Reg.DOUT_CTRL k 1) 0 && [3, 4, 5].contains (s.doutState k 1)
      let s := s.setRegs ((List.range 6).map fun i => (Reg.DOUT_TIM_ACTIVE k 1 i, s.reg (Reg.DOUT_TIM_ACTIVE k 0 i)))
      if retrain then (s.startTraining k 1).setDout k 1 { s.dout k 1 with changing := true } else s
    else s

/-- The staged timing of generator g applied to one output it drives (R265, R266). `hold` says that self-refresh holds the picture while a new link rate
is trained. -/
def State.retime (s : State) (k o : Nat) (hold : Bool) (old new : Word) : State :=
  let link := fld old 4 8 != fld new 4 8
  let st := s.doutState k o
  if st = 6 then (s.startTraining k o).setDout k o { s.dout k o with changing := true }
  else if [3, 4].contains st && link then
    if hold then
      let s := (s.enterPsr k o).bump (Reg.DOUT_RETRAINS k o) 1
      s.setDout k o { s.dout k o with behind := true, changing := true }
    else (s.startTraining k o).setDout k o { s.dout k o with changing := true }
  else if st = 5 && link then (s.bump (Reg.DOUT_RETRAINS k o) 1).setDout k o { s.dout k o with behind := true, changing := true }
  else if st = 5 then s.leavePsr k o
  else s

/-- The staged timing of generator g, with its P and PHASE, applied to every output it drives; it waits while an earlier change trains. -/
def State.applyTiming (s : State) (k g : Nat) : State :=
  let outs := s.driven k g
  if !s.rb (Reg.DOUT_STATUS k g) 8 || outs.any (fun o => (s.dout k o).changing) then s
  else
    let new := s.reg (Reg.DOUT_TIM_STAGED k g 5)
    let on := outs.filter fun o => s.outputOn k o
    let hold := g == 0 && on.all fun o => s.psrAllowed k o && [3, 4, 5].contains (s.doutState k o)
    let s := on.foldl (fun s o => s.retime k o hold (s.reg (Reg.DOUT_TIM_ACTIVE k o 5)) new) s
    let s := outs.foldl (fun s o =>
      s.setRegs ((List.range 6).map fun i => (Reg.DOUT_TIM_ACTIVE k o i, s.reg (Reg.DOUT_TIM_STAGED k g i)))) s
    let s := match (s.dout k g).lockStaged with
      | some l => s.setRegs [(Reg.FLOCK_PERIOD_NS k g, l.1), (Reg.FLOCK_PERIOD_FRAC k g, l.2.1), (Reg.FLOCK_PHASE_NS k g, l.2.2)]
      | none => s
    (s.setDout k g { s.dout k g with lockStaged := none }).setRb (Reg.DOUT_STATUS k g) 8 false

/-- The test pattern of TP_CTRL shown from this boundary; in SPLIT and MIRROR that of O0 on both halves (R268). -/
def State.applyPattern (s : State) (k o : Nat) : State :=
  let src := s.sourceOf k o
  let p := s.rf (Reg.TP_CTRL k src) 0 4
  (s.setDout k o { s.dout k o with pattern := p, color := s.reg (Reg.TP_COLOR k src) }).setRb (Reg.DOUT_STATUS k o) 10 (p != 0)

/-- An output qualifies for self-refresh (R256). -/
def State.psrQualifies (s : State) (k o : Nat) : Bool :=
  s.psrAllowed k o && s.doutState k o == 4 && (s.dout k o).pattern == 0
    && decide (s.rf (Reg.PSR_CTRL k o) 8 4 ≤ (s.dout k (s.sourceOf k o)).idle)

/-- Outputs whose link has come up, or that have left self-refresh, show their picture again from this boundary (R256, R258). -/
def State.rejoin (s : State) (k : Nat) (outs : List Nat) : State :=
  outs.foldl (fun s o =>
    let d := s.dout k o
    if (s.doutState k o = 5 ∧ d.psrLeaving) ∨ (s.doutState k o = 2 ∧ d.up) then
      (s.setDout k o { d with psrLeaving := false, up := false }).linkUp k o
    else s) s

/-- Self-refresh at a boundary (R256): an entry signalled in the frame that ends takes place, and a reason to leave wakes the links. `flipped` tells of the
outputs whose skein flipped a frame that sent a tile. Both halves of a pair enter and leave together (R258); in INDEPENDENT only O0 can enter. -/
def State.psrBoundary (s : State) (k g : Nat) (flipped : Nat → Bool) : State :=
  let outs := (s.driven k g).filter fun o => s.outputOn k o
  let within (o : Nat) : Bool := s.doutState k o == 5 && !(s.dout k o).behind && !(s.dout k o).psrLeaving
  let go := outs.any fun o => within o && (flipped (s.sourceOf k o) || !s.rb (Reg.PSR_CTRL k o) 0 || (s.dout k o).pattern != 0)
  let s := if go then (outs.filter within).foldl (fun s o => s.leavePsr k o) s else s
  if g = 1 ∨ outs.isEmpty then s
  else if outs.all fun o => s.psrQualifies k o then
    outs.foldl (fun s o =>
      if (s.dout k o).psrArmed then s.enterPsr k o else s.setDout k o { s.dout k o with psrArmed := true }) s
  else outs.foldl (fun s o => s.setDout k o { s.dout k o with psrArmed := false }) s

/-- P in 2^-16 ns (R261). -/
def State.lockPeriod (s : State) (k g : Nat) : Nat := (s.reg (Reg.FLOCK_PERIOD_NS k g)).toNat * 65536 + s.rf (Reg.FLOCK_PERIOD_FRAC k g) 0 16

/-- The error of a boundary now against the nearest target, in 2^-16 ns (R261, R262). -/
def State.lockError (s : State) (k g : Nat) : Int :=
  let p := s.lockPeriod k g
  let t := (s.tai : Int) * 65536 + s.taiFrac - (s.reg (Reg.FLOCK_PHASE_NS k g)).toNat * 65536
  let e := t % p
  if p < 2 * e then e - p else e

/-- P differs from the frame period of the timing in force by more than SLEW (R263). -/
def State.lockMismatch (s : State) (k g : Nat) : Bool :=
  let w := s.reg (Reg.DOUT_TIM_ACTIVE k g 1)
  let frame := fld w 0 14 * fld w 16 14 * 1000000 * 65536
  let p := s.lockPeriod k g * (s.reg (Reg.DOUT_TIM_ACTIVE k g 4)).toNat
  p == 0 || decide (s.rf (Reg.FLOCK_CTRL k g) 16 11 * frame < ((p - frame) + (frame - p)) * 1000000)

/-- The frame-lock measurement at a boundary (R262). The spec bounds the trim by SLEW and gives its direction; its size is open. -/
def State.lockMeasure (s : State) (k g : Nat) : State :=
  let setLock (s : State) (v : Nat) : State := (s.driven k g).foldl (fun s o => s.setRf (Reg.DOUT_STATUS k o) 6 2 v) s
  let d := s.dout k g
  if !s.rb (Reg.FLOCK_CTRL k g) 0 then (setLock s 0).setReg (Reg.FLOCK_TRIM k g) 0
  else
    let mismatch := s.lockMismatch k g
    let e := s.lockError k g
    let ns := e / 65536
    let s := s.setReg (Reg.FLOCK_ERR k g) (satSigned ns)
    if mismatch then (setLock (s.setDout k g { d with lockRun := 0, jump := false }) 3).setReg (Reg.FLOCK_TRIM k g) 0
    else
      let slew := s.rf (Reg.FLOCK_CTRL k g) 16 11
      let size := s.fresh.1.toNat % (10 * slew + 1)
      let s := s.fresh.2
      let trim : Int := if e = 0 ∨ d.jump then 0 else if 0 < e then size else -(size : Int)
      let s := s.setReg (Reg.FLOCK_TRIM k g) (word (BitVec.ofInt 16 trim).toNat)
      let run := if e.natAbs ≤ 100 * 65536 then d.lockRun + 1 else 0
      let was := s.rf (Reg.DOUT_STATUS k g) 6 2
      let s := s.setDout k g { s.dout k g with lockRun := run, jump := false }
      if was = 2 then
        if 1000 * 65536 < e.natAbs then (setLock s 1).bump (Reg.DOUT_LOCK_LOSS k g) 1 else s
      else setLock s (if 8 ≤ run then 2 else 1)

/-- Exact pixels of FRONT do not reach the pins bit for bit (R248). -/
def State.exactAltered (s : State) (k o : Nat) : Bool :=
  let d := s.dout k (s.sourceOf k o)
  match d.front with
  | none => false
  | some f =>
    let t := s.reg (Reg.DOUT_TIM_ACTIVE k o 5)
    let exact := f.index.any fun e => d.recs.any fun r => r.1 == e.2 && r.2.tiles.any fun t => t.1 % 2 == 1
    exact && (!bitAt f.form 8 || bitAt f.form 5 != bitAt t 12 || (bitAt f.form 3 && !bitAt t 0))

/-- A frame boundary of generator g (R250): staged settings and flips take effect. `jumps` is false after an underrun (R264). -/
def State.boundary (s : State) (k g : Nat) : State :=
  let s := if g = 0 then s.applyPair k else s
  let outs := (s.driven k g).filter fun o => s.outputOn k o
  let s := s.rejoin k outs
  let skeins := (outs.map (s.sourceOf k)).eraseDups
  let a := skeins.foldl (fun (a : State × List Nat) d => let r := a.1.flip k d; (r.1, if r.2 then d :: a.2 else a.2)) (s, [])
  let s := a.1
  let s := (s.driven k g).foldl (fun s o => s.applyPattern k o) s
  let s := s.applyTiming k g
  let s := outs.foldl (fun s o => if [3, 4].contains (s.doutState k o) then s.linkUp k o else s) s
  let s := (s.psrBoundary k g fun d => a.2.contains d).lockMeasure k g
  let s := outs.foldl (fun s o => s.setRb (Reg.DOUT_STATUS k o) 9 (s.exactAltered k o)) s
  skeins.foldl (fun s d =>
    let x := s.dout k d
    let s := s.setDout k d { x with frames := x.frames + 1 }
    let s := if x.front.isSome then s.fresh.2.setReg (Reg.PURLD_ROW_TIME k d) s.fresh.1 else s
    if (x.frames + 1) % 64 = 0 then s.sendSinkStatus k d else s) s

/-- A generator runs while an output that it drives is enabled (R252). -/
def State.generatorRuns (s : State) (k g : Nat) : Bool := (s.driven k g).any fun o => s.outputOn k o

def execFrameBoundary (k o : Nat) (s : State) : Result := onOutput k o (s.generatorRuns k o) s (s.boundary k o)

/-- An active line is due without decoded data (R264): the frame is aborted in every output of the generator, and a new boundary starts. -/
def execUnderrun (k o line : Nat) (s : State) : Result :=
  onOutput k o (s.outputOn k o && [3, 4].contains (s.doutState k o) && decide (line < s.rf (Reg.DOUT_TIM_ACTIVE k o 0) 16 13)) s
    (let s := (s.bump (Reg.DOUT_UNDERRUN k o) 1).setReg (Reg.DOUT_UNDERRUN_LINE k o) (word line)
     let s := s.log k Ev.doutUnderrun o [line, s.frontFrame k (s.sourceOf k o), (s.reg (Reg.DOUT_UNDERRUN k o)).toNat]
     let g := if s.pairMode k = 3 then o else 0
     (s.setDout k g { s.dout k g with jump := false }).boundary k g)

/-! ### Transmitters and panels (R254, R255) -/

/-- PANEL and what follows from a change of it (R253, R255). -/
def State.panelChange (s : State) (k o : Nat) (on : Bool) : State := ((s.setRb (Reg.DOUT_STATUS k o) 4 on).sendEdid k o).sendSinkStatus k o

/-- HPD of a panel rises: the transmitter reads its EDID and, when enabled, trains. `selfRefresh` and `trainOnExit` are what its DPCD reports. -/
def execPanelHpdRise (k o : Nat) (edid : List Byte) (selfRefresh trainOnExit : Bool) (s : State) : Result :=
  onOutput k o (!s.rb (Reg.DOUT_STATUS k o) 4) s
    (let s := (s.setDout k o { s.dout k o with edid := edid, trainOnExit := trainOnExit }).setRb (Reg.DOUT_STATUS k o) 5 selfRefresh
     let s := s.panelChange k o true
     if s.rb (Reg.DOUT_CTRL k o) 0 then s.startTraining k o else s)

/-- HPD has been low for more than 2 ms: the main link stops (R255). -/
def execPanelHpdFall (k o : Nat) (s : State) : Result :=
  onOutput k o (s.rb (Reg.DOUT_STATUS k o) 4) s
    (let s := if s.rb (Reg.DOUT_CTRL k o) 0 then s.setDoutState k o 1 else s
     let s := ((s.setRf (Reg.DOUT_STATUS k o) 12 3 0).setRf (Reg.DOUT_STATUS k o) 16 4 0).setRb (Reg.DOUT_STATUS k o) 5 false
     let s := s.setDout k o { s.dout k o with edid := [], psrArmed := false, psrLeaving := false, behind := false, changing := false, up := false }
     s.panelChange k o false)

/-- An HPD pulse of 2 ms or less: the standard's answer is AUX traffic and leaves the part's own state as it is (R255). -/
def execIrqHpd (k o : Nat) (s : State) : Result := onOutput k o true s s

/-- Training runs in the open, or behind self-refresh. -/
def State.training (s : State) (k o : Nat) : Bool := (s.doutState k o == 2 && !(s.dout k o).up) || (s.doutState k o == 5 && (s.dout k o).behind)

/-- Training passes: the output resumes at the next frame boundary (R256, R258, R266). -/
def execDoutTrainPass (k o : Nat) (s : State) : Result :=
  onOutput k o (s.training k o) s
    (let w := s.reg (Reg.DOUT_TIM_ACTIVE k o 5)
     let s := (s.setRf (Reg.DOUT_STATUS k o) 12 3 (fld w 4 3)).setRf (Reg.DOUT_STATUS k o) 16 4 (fld w 8 4)
     let hidden := s.doutState k o == 5
     s.setDout k o { s.dout k o with behind := false, changing := false, psrLeaving := hidden, up := !hidden })

/-- Training fails (R255, R267). -/
def execDoutTrainFail (k o : Nat) (s : State) : Result :=
  onOutput k o (s.training k o) s
    (let w := s.reg (Reg.DOUT_TIM_ACTIVE k o 5)
     let s := s.setDout k o { s.dout k o with behind := false, changing := false, psrLeaving := false }
     (s.setDoutState k o 6).log k Ev.doutTrainFail o [fld w 4 3, fld w 8 4])

/-- Every 1 s in LinkFail the transmitter tries again (R255). -/
def execDoutRetryTimer (k o : Nat) (s : State) : Result := onOutput k o (s.doutState k o == 6) s (s.startTraining k o)

end Sys2Proof.Machine
end

