-- ==== Sys2Proof/Machine/TimeCmds.lean ====
section
/-! DEFINITION. The timebase, PTP and log commands (R346), the events of the timebase and its inputs (R329 to R336, R488, R492), and the PTP
clocks (R337 to R340). Message layouts follow IEEE 1588-2019 (PRESUMED, log entry 30). -/

namespace Sys2Proof.Machine

/-! ### Commands -/

/-- What an entry of a source list may name (Table 10.3, R346). -/
def State.sourceBad (s : State) (w : Word) : Bool :=
  let kind := fld w 0 3
  let k := fld w 4 3
  kind == 0 || decide (4 < kind) || !s.hasKernel k || (kind == 1 && fld w 8 2 == 3) || ((kind == 2 || kind == 4) && k != 0)

/-- The bits of a list word that name its source. -/
def sourceWord (w : Word) : Word := w &&& 0x00000377

/-- The source list replaced: a source that stays keeps its selection, under its new index. -/
def State.setSources (s : State) (l : List Word) : State :=
  let i := s.timeSource
  let cur := sourceWord (s.timeReg (timeSrcOff i))
  let s := (List.range 6).foldl (fun s j => s.setTime (timeSrcOff j) (sourceWord (l.getD j 0))) s
  if 6 ≤ i then s
  else
    match (l.map sourceWord).idxOf? cur with
    | some j => s.putTimeState s.timeState j s.timeKind
    | none => s.moveSource s.bestSource

def cmdTimeSourceList : Cmd where
  opcode := 0x0A01
  minLen := 4
  bad r _ s :=
    let c := reqField r 12 0 3
    [badSub r 1, (decide (6 < c) || decide (r.plen ≠ 4 + 4 * c), .badParam, 12),
     (decide (reqField r 12 8 8 < 1) || decide (60 < reqField r 12 8 8), .badParam, 13)]
      ++ (List.range c).map fun i => (s.sourceBad (reqWord r (16 + 4 * i)), .badParam, 16 + 4 * i)
  act r _ s :=
    .ok ((s.setTime 0x014 (word (reqField r 12 8 8))).setSources (reqWords r 16 (reqField r 12 0 3))) []

def execTimeSourceList (r : Req) (s : State) : Result := onCommand cmdTimeSourceList r s

def cmdTimeRead : Cmd where
  opcode := 0x0A02
  bad r _ _ := [badSub r 1]
  act _ _ s :=
    let e := if s.timeSource = 7 then (0xFFFFFFFF, s) else s.fresh
    .ok e.2 [word s.tai, word (s.tai / 2 ^ 32), packWord [(0, 16, s.taiFrac), (16, 16, 0xA0 + s.timeState)],
      packWord [(0, 16, s.timeSource), (16, 16, fld (s.timeReg timeUtcOff) 0 16)], e.1]

def execTimeRead (r : Req) (s : State) : Result := onCommand cmdTimeRead r s

def cmdTimeSet : Cmd where
  opcode := 0x0A03
  minLen := 16
  bad r _ _ := [badSub r 1]
  act r _ s :=
    .checked [(decide (s.timeState ≠ 0), .wrongState, 0xA0 + s.timeState)] s
      (let s := s.setTaiX (((reqWord r 12).toNat + (reqWord r 16).toNat * 4294967296 : Nat) * 65536 + reqField r 20 0 16)
       .ok (s.setTime timeUtcOff (setFld (s.timeReg timeUtcOff) 0 16 (reqField r 24 0 16))).sendTimeInfos [])

def execTimeSet (r : Req) (s : State) : Result := onCommand cmdTimeSet r s

def cmdPtpConfig : Cmd where
  opcode := 0x0A04
  minLen := 8
  domain := fun _ => 10
  bad r k s :=
    let oc := reqField r 12 16 2
    [badSub r 1, (decide (oc = 3) || (decide (2 ≤ reqField r 12 0 2) && decide (oc = 2) && !s.paired k), .badParam, 14)]
  act r k s :=
    let x := s.net k
    let s := s.setRegs [(Reg.PTP_CTRL k, reqWord r 12 &&& 0x0077FF03), (Reg.PTP_PRIO k, reqWord r 16 &&& 0x0FFFFFFF)]
    let on := decide (2 ≤ reqField r 12 0 2)
    let s := s.setNet k { x with ocState := if on then 4 else 3, master := none, sync := none, good := 0 }
    .ok ([0, 1].foldl (fun s e =>
      s.setRf (Reg.PTP_PORT_STATE k e) 0 4 (if on && (reqField r 12 16 2 == e || reqField r 12 16 2 == 2) then 4 else 3)) s) []

def execPtpConfig (r : Req) (s : State) : Result := onCommand cmdPtpConfig r s

def cmdAsymmetrySet : Cmd where
  opcode := 0x0A05
  minLen := 4
  bad r _ _ := [badSub r 4, (decide (100000000 < (reqWord r 12).toInt.natAbs), .badParam, 12)]
  act r k s := .ok (s.setReg (Reg.LTT_ASYM k (reqSub r)) (reqWord r 12)) []

def execAsymmetrySet (r : Req) (s : State) : Result := onCommand cmdAsymmetrySet r s

/-- The first index that LOG_READ gives, and the entries from it, at most n (R344). -/
def State.logEntries (s : State) (k first n : Nat) : Nat × List LogEntry :=
  let l := (s.kern k).log
  let head := (s.reg (Reg.LOG_HEAD k)).toNat
  if head ≤ first then (head, [])
  else
    let from' := max first (head - l.length)
    (from', (l.reverse.drop (from' - (head - l.length))).take n)

def cmdLogRead : Cmd where
  opcode := 0x0A06
  minLen := 8
  bad r _ _ := let n := (reqWord r 16).toNat; [badSub r 1, (decide (n < 1) || decide (31 < n), .badParam, 16)]
  act r k s :=
    let e := s.logEntries k (reqWord r 12).toNat (reqWord r 16).toNat
    .ok s (word e.1 :: e.2.flatMap entryWords)

def execLogRead (r : Req) (s : State) : Result := onCommand cmdLogRead r s

/-- A black-box entry as BLACKBOX_READ gives it: one that is not valid is zero but for SEVERITY 0xFF. -/
def boxWords (e : Option LogEntry) : List Word :=
  match e with
  | some e => entryWords e
  | none => [0, 0, 0, 0x00FF0000, 0, 0, 0, 0]

def cmdBlackboxRead : Cmd where
  opcode := 0x0A07
  minLen := 8
  bad r _ _ :=
    let n := (reqWord r 16).toNat
    [badSub r 1, (decide (255 < (reqWord r 12).toNat), .badParam, 12), (decide (n < 1) || decide (31 < n), .badParam, 16)]
  act r k s :=
    .ok s ((List.range (reqWord r 16).toNat).flatMap fun i => boxWords (((s.kern k).box.getD ((reqWord r 12).toNat + i) none)))

def execBlackboxRead (r : Req) (s : State) : Result := onCommand cmdBlackboxRead r s

/-- BB_COUNT: valid entries (Table 10.17). -/
def State.boxCount (s : State) (k : Nat) : Nat := ((s.kern k).box.filter Option.isSome).length

/-! ### Sources -/

/-- The timebase moves to source i, or to none (7): at once from a source that is no longer valid, and to a higher one that, as the
environment knows, has stayed valid for TIME_SWITCH_HOLD (R330). -/
def execTimeSourceChange (i : Nat) (s : State) : Result :=
  let cur := s.timeSource
  let valid := decide (cur < 6) && s.sourceValid (s.timeReg (timeSrcOff cur))
  .next (if i = s.bestSource ∧ i ≠ cur ∧ (!valid ∨ i < cur) then s.moveSource i else s)

/-- TIME_HOLDOVER_MAX has passed: Free-run (R331). -/
def execHoldoverExpiry (s : State) : Result :=
  .next (if s.timeState = 3 ∧ s.tb.lostAt + fld (s.timeReg 0x018) 0 16 * 1000000000 ≤ s.now then
      (s.putTimeState 0 s.timeSource s.timeKind).sendTimeInfos
    else s)

/-- REFCLK appears or goes: it sets the frequency in Holdover and Free-run, to a correction that is open (R331). -/
def execRefclkChange (present : Bool) (s : State) : Result :=
  let f : Int := (s.fresh.1.toNat % 400001 : Nat) - (200000 : Int)
  .next (if s.tb.refclk = present then s else (({ s.fresh.2 with tb := { s.tb with refclk := present } } : State).setTime 0x01C (BitVec.ofInt 32 f)))

/-- The timebase is saved once per second while Locked (R492). -/
def execAonLockTimeSave (s : State) : Result :=
  .next (if s.timeState = 2 then s.setRegs [(Reg.AON_LOCK_TIME_LO, word s.tai), (Reg.AON_LOCK_TIME_HI, word (s.tai / 2 ^ 32))] else s)

/-- A read of TIME_NOW_LO captures the other two words (R488). -/
def State.captureTime (s : State) (k : Nat) : State :=
  s.setRegs [(Reg.TIME_NOW_LO k, word s.tai), (Reg.TIME_NOW_HI k, word (s.tai / 2 ^ 32)), (Reg.TIME_NOW_FRAC k, word s.taiFrac)]

def execTimeNowRead (k : Nat) (s : State) : Result := onUnit s (s.hasKernel k) { s.captureTime k with readOut := word s.tai }

/-! ### PPS and IRIG-B (R332, R333) -/

/-- The timebase follows kind 2 while it is the selected source. -/
def State.steerPps (s : State) (o : Int) : State :=
  if s.timeKind = 2 ∧ s.sourceValid (s.timeReg (timeSrcOff s.timeSource)) then s.steer o else s

/-- A rising edge of PPS_IN marks the second that the IRIG frame in progress names. -/
def execPpsEdge (s : State) : Result :=
  let gap := s.now - s.tb.ppsAt.getD 0
  let ok := s.tb.ppsAt.isSome && decide (999000000 ≤ gap) && decide (gap ≤ 1001000000)
  let s : State := { s with tb := { s.tb with ppsAt := some s.now, ppsRun := if ok then s.tb.ppsRun + 1 else 0 } }
  .next (match s.tb.irigSec with
    | some sec => if ok ∧ s.irigGood then s.steerPps (s.taiX - (sec + 1) * 1000000000 * 65536) else s
    | none => s)

/-- An IRIG-B frame ends: whether it decoded, its year where it has one, day of the year and second of the day, and from the IEEE 1344
extension TAI − UTC, the local offset and the leap flags; `age` is the time since its on-time marker. -/
def execIrigFrame (ok : Bool) (year : Option Nat) (day sod : Nat) (ext : Bool) (utc zone : Int) (leaps age : Nat) (s : State) : Result :=
  let tb := s.tb
  if !ok then .next { s with tb := { tb with irigRun := 0, irigSec := none } }
  else
    let use := ext && s.rb (Reg.TIME_CTRL 0) 1
    let off := if use then utc else s.utcOffset
    let z := if use then zone else sfld (s.reg (Reg.TIME_CTRL 0)) 8 6 * 1800
    let y := match year with
      | some y => y
      | none =>
        -- after day 365 or 366 the year of the timebase advances with the frames themselves
        let now := ((s.tai / 1000000000 : Nat) : Int) - s.utcOffset + z
        let base := yearOf now.toNat
        match tb.irigSec with
        | some last => if day = 1 ∧ irigSecond base day sod z off < last then base + 1 else base
        | none => base
    let sec := irigSecond y day sod z off
    let expected := match tb.irigSec with | some l => decide (sec = l + 1) | none => true
    if !expected then
      let bad := tb.irigBad + 1
      .next (({ s with tb := { tb with irigBad := bad, irigSec := if 2 ≤ bad then none else tb.irigSec.map (· + 1),
                                       irigRun := if 2 ≤ bad then 0 else tb.irigRun } } : State).bump (Reg.TIME_IRIG_ERR 0) 1)
    else
      let s : State := { s with tb := { tb with irigSec := some sec, irigAt := s.now, irigRun := tb.irigRun + 1, irigBad := 0 } }
      let s := if use ∧ s.timeKind = 2 then s.setTime timeUtcOff (packWord [(0, 16, (BitVec.ofInt 16 utc).toNat), (16, 2, leaps)]) else s
      .next (if s.rb (Reg.TIME_CTRL 0) 2 ∧ s.tb.ppsRun = 0 ∧ s.irigGood then s.steerPps (s.taiX - (sec * 1000000000 + age) * 65536) else s)

/-! ### Time transfer and TIME_INFO -/

/-- The ROW_INFO blocks of a row marker, lane block 1 of its lanes (R87): on a tight ply whichever passes its check is used (R334, R335). -/
def execRowInfoRx (k p n : Nat) (b0 b1 b2 b3 b4 b5 : Block) (s : State) : Result :=
  onPort k p (s.portOpen k p && s.rf (Reg.LNK_STATE k p) 4 2 != 2) s
    (let q := s.linePort k p
     let lanes := s.laneCount k p
     let x := s.port k q
     let r := (s.setPort k q { x with rxBlk := lanes, rxScr := scrOf lanes lanes }).receive k p ([b0, b1, b2, b3, b4, b5].take n)
     let s := r.2.setPort k q { r.2.port k q with rxBlk := x.rxBlk, rxScr := x.rxScr }
     match (controlsOf r.1).findSome? fun c => match c with | .rowInfo tx er ex _ you _ => some (tx, er, ex, you) | _ => none with
     | some (tx, er, ex, you) => s.rowInfoRx k q tx er ex you
     | none => s)

def execTimeInfoTimer (s : State) : Result := .next s.sendTimeInfos

/-- A TIME_INFO packet: the full time resolves the fields of its port, and the selected link gives the UTC offset and leap flags. A malformed
one is a class 8 violation and quarantines the time tunnel on the port (R336, DEDUCED). -/
def State.takeTimeInfo (s : State) (k p : Nat) (b : List Byte) : State :=
  if b.length ≠ 24 ∨ byteAt b 0 ≠ 1 ∨ byteAt b 1 ≠ 1 then
    (s.violation k p 8 (s.cellLabel k 4 p) (some (k, 4))).quarantineShared k 4 p 8
  else
    let w := bytesWords b
    let f := w.getD 4 0
    let x := s.port k p
    let s := s.setPort k p { x with farTime := some (fld f 24 2, bitAt f 26, fld f 27 4),
                                    farFull := (w.getD 1 0).toNat + (w.getD 2 0).toNat * 4294967296 }
    if s.sourceIsPort k p then s.setTime timeUtcOff (packWord [(0, 16, fld f 0 16), (16, 2, fld f 16 2)]) else s

def execTimeInfo (k p : Nat) (s : State) : Result :=
  onPort k p ([3, 4].contains (s.portState k p)) s
    (let c := s.ctxAt k 4 p
     match c.rxq with
     | [] => s
     | b :: l => (s.setCtxAt k 4 p { c with rxq := l }).takeTimeInfo k p b.2)

/-! ### PTP (R337, R338, R340) -/

/-- The clock identity of a kernel's PTP clocks: the EUI-64 of the MAC address of E0. -/
def State.clockId (s : State) (k : Nat) : List Byte :=
  let m := beBytes 6 (s.macOf k 0)
  m.take 3 ++ [0xFF, 0xFE] ++ m.drop 3

/-- A PTP message: type, flags, correction, port number, sequence number and body after the header. -/
def State.ptpMessage (s : State) (k e type seq flags : Nat) (corr : Int) (body : List Byte) : List Byte :=
  [BitVec.ofNat 8 type, 0x12] ++ beBytes 2 (34 + body.length) ++ [BitVec.ofNat 8 (s.rf (Reg.PTP_CTRL k) 8 8), 0] ++ beBytes 2 flags
    ++ beBytes 8 (BitVec.ofInt 64 corr).toNat ++ [0, 0, 0, 0] ++ s.clockId k ++ beBytes 2 (e + 1) ++ beBytes 2 seq
    ++ [BitVec.ofNat 8 (if type = 0 then 0 else if type = 8 then 2 else 5), 0] ++ body

/-- A PTP timestamp of an instant in 2^-16 ns. -/
def ptpStamp (x : Int) : List Byte := let ns := (x / 65536).toNat; beBytes 6 (ns / 1000000000) ++ beBytes 4 (ns % 1000000000)

/-- The instant that the timestamp at byte i of a message names. -/
def stampAt (m : List Byte) (i : Nat) : Int := ((beNat m i 6 * 1000000000 + beNat m (i + 6) 4 : Nat) : Int) * 65536

/-- correctionField, in 2^-16 ns. -/
def corrOf (m : List Byte) : Int := (BitVec.ofNat 64 (beNat m 8 8)).toInt

/-- A PTP message sent on a port: peer delay messages to 01-80-C2-00-00-0E, others to 01-1B-19-00-00-00; tagged as PTP_CTRL says. PTP
frames carry no RCT (R339). -/
def State.ptpSend (s : State) (k e : Nat) (m : List Byte) : State :=
  let c := s.reg (Reg.PTP_CTRL k)
  let tag := if bitAt c 18 then beBytes 2 0x8100 ++ beBytes 2 (fld c 20 3 * 8192 + s.rf (Reg.PTP_PRIO k) 16 12) else []
  s.ethSend k e (ownFrame (if isPdelay (byteAt m 0 % 16) then 0x0180C200000E else 0x011B19000000) (s.macOf k e) tag 0x88F7 m)

/-- The ports of the ordinary clock. -/
def State.ocPorts (s : State) (k : Nat) : List Nat := let p := s.rf (Reg.PTP_CTRL k) 16 2; if p = 2 then [0, 1] else [p]

def State.ocOn (s : State) (k : Nat) : Bool := decide (2 ≤ s.rf (Reg.PTP_CTRL k) 0 2)

/-- The state of the ordinary clock, shown on its ports. -/
def State.setOc (s : State) (k st : Nat) : State :=
  let s := s.setNet k { s.net k with ocState := st }
  (s.ocPorts k).foldl (fun s e => s.setRf (Reg.PTP_PORT_STATE k e) 0 4 st) s

/-- meanLinkDelay of a port measured (R338). -/
def State.setDelay (s : State) (k e : Nat) (d : Int) : State :=
  let p := (s.net k).eth e
  let s := s.setEth k e { p with delay := some d, pdT1 := none, pdResp := none }
  (s.setRb (Reg.PTP_PORT_STATE k e) 4 true).setReg (Reg.PTP_LINK_DELAY k e) (satSigned (d / 65536))

/-- The data set of an Announce by which clocks are ranked: priority1, class, accuracy, variance, priority2, identity, steps. -/
def rankOf (m : List Byte) : List Nat :=
  [beNat m 47 1, beNat m 48 1, beNat m 49 1, beNat m 50 2, beNat m 52 1, beNat m 53 8, beNat m 61 2]

/-- The same of this part's own clock: clockAccuracy and variance are open. -/
def State.ownRank (s : State) (k acc var : Nat) : List Nat :=
  [s.rf (Reg.PTP_PRIO k) 0 8, s.clockClass k, acc % 256, var % 65536, s.rf (Reg.PTP_PRIO k) 8 8, beNat (s.clockId k) 0 8, 0]

/-- The first difference decides, the smaller value being better. -/
def better : List Nat → List Nat → Bool
  | a :: l, b :: m => if a < b then true else if b < a then false else better l m
  | _, _ => false

/-- An Announce: the best master by the default BMCA (R340); on a tie of the LANs of a pair, LAN A. -/
def State.announceRx (s : State) (k e : Nat) (m : List Byte) : State :=
  let x := s.net k
  let r := rankOf m
  let take := match x.master with
    | none => true
    | some (b, p) => better r b || (r == b && decide (e ≤ p)) || (p == e && r.getD 5 0 == b.getD 5 0)
  let s := if take then
      (s.setNet k { x with master := some (r, e) }).setRegs
        [(Reg.PTP_GM_ID_LO k, word (beNat m 53 8)), (Reg.PTP_GM_ID_HI k, word (beNat m 53 8 / 2 ^ 32))]
    else s
  let f := s.fresh
  let own := f.2.ownRank k (fld f.1 0 8) (fld f.1 8 16)
  let s := f.2
  match (s.net k).master with
  | some (b, _) =>
    if s.rf (Reg.PTP_CTRL k) 0 2 = 3 ∧ better own b then s.setOc k 6
    else if (s.net k).ocState = 9 ∨ (s.net k).ocState = 8 then s
    else s.setOc k 8
  | none => s

/-- A Sync measured against the master: the offset, the count of intervals within 1 µs, and the timebase if it follows this clock. -/
def State.syncDone (s : State) (k e : Nat) (origin t2 corr : Int) : State :=
  let mld := (((s.net k).eth e).delay).getD 0
  let o := t2 - (origin + corr) - mld
  let good := if o.natAbs ≤ 1000 * 65536 then (s.net k).good + 1 else 0
  let s := s.setNet k { s.net k with good := good, sync := none }
  let s := (s.setReg (Reg.PTP_OC_OFFSET k) (satSigned (o / 65536))).setOc k 9
  let w := s.timeReg (timeSrcOff s.timeSource)
  if s.timeKind = 1 ∧ fld w 4 3 = k ∧ s.sourceValid w then s.steer o else s

/-- A PTP message for the clocks of the part: peer delay of its port, and the ordinary clock (R338, R340). -/
def State.ptpRx (s : State) (k e : Nat) (m : List Byte) : State :=
  let type := byteAt m 0 % 16
  let seq := beNat m 30 2
  let p := (s.net k).eth e
  let mine := slice m 44 10 == s.clockId k ++ beBytes 2 (e + 1) && seq == p.pdSeq
  let two := byteAt m 6 / 2 % 2 == 1
  let x := s.net k
  let fromMaster : Bool := match x.master with | some (b, q) => q == e && b.getD 5 0 == beNat m 20 8 | none => false
  match type with
  | 2 =>
    let t2 := s.taiX
    let req := slice m 20 10
    let s := s.ptpSend k e (s.ptpMessage k e 3 seq 0x0200 0 (ptpStamp t2 ++ req))
    s.ptpSend k e (s.ptpMessage k e 10 seq 0 0 (ptpStamp s.taiX ++ req))
  | 3 =>
    match p.pdT1 with
    | some t1 =>
      if !mine then s
      else if two then s.setEth k e { p with pdResp := some (stampAt m 34, s.taiX, corrOf m) }
      else s.setDelay k e ((s.taiX - t1 - corrOf m) / 2)
    | none => s
  | 10 =>
    match p.pdT1, p.pdResp with
    | some t1, some (t2, t4, c) => if mine then s.setDelay k e (((t4 - t1) - (stampAt m 34 - t2) - c - corrOf m) / 2) else s
    | _, _ => s
  | 11 => if s.ocOn k ∧ (s.ocPorts k).contains e ∧ byteAt m 4 = s.rf (Reg.PTP_CTRL k) 8 8 then s.announceRx k e m else s
  | 0 =>
    if s.ocOn k ∧ (x.ocState = 8 ∨ x.ocState = 9) ∧ fromMaster then
      if two then s.setNet k { x with sync := some (syncKey m, s.taiX, corrOf m) } else s.syncDone k e (stampAt m 34) s.taiX (corrOf m)
    else s
  | 8 =>
    match x.sync with
    | some (key, t2, c) => if key = syncKey m then s.syncDone k e (stampAt m 34) t2 (c + corrOf m) else s
    | none => s
  | _ => s

def execPtpMessageRx (k e : Nat) (msg : List Byte) (s : State) : Result :=
  onEth k e s fun s => if s.ethLink k e ∧ s.rf (Reg.PTP_CTRL k) 0 2 ≠ 0 ∧ 44 ≤ msg.length then s.ptpRx k e msg else s

/-- An ordinary clock that follows the selected source never announces itself (R340). -/
def State.mayAnnounce (s : State) (k : Nat) : Bool :=
  s.rf (Reg.PTP_CTRL k) 0 2 == 3
    && !((s.net k).ocState == 9 && s.timeKind == 1 && fld (s.timeReg (timeSrcOff s.timeSource)) 4 3 == k)

/-- A PTP interval ends (R337): kind 0 Pdelay_Req of port e, 1 Sync and 2 Announce of the master, 3 the Announce receipt timeout. -/
def execPtpIntervalTimer (k e kind : Nat) (s : State) : Result :=
  onEth k e s fun s =>
    if s.rf (Reg.PTP_CTRL k) 0 2 = 0 then s
    else
      let x := s.net k
      match kind with
      | 0 =>
        let p := x.eth e
        let seq := (p.pdSeq + 1) % 65536
        if s.ethLink k e then
          (s.setEth k e { p with pdSeq := seq, pdT1 := some s.taiX, pdResp := none }).ptpSend k e
            (s.ptpMessage k e 2 seq 0 0 (List.replicate 20 0))
        else s
      | 1 =>
        if s.ocOn k ∧ x.ocState = 6 ∧ (s.ocPorts k).contains e then
          let s := s.setNet k { x with syncSeq := (x.syncSeq + 1) % 65536 }
          let q := (x.syncSeq + 1) % 65536
          let t := s.taiX
          (s.ptpSend k e (s.ptpMessage k e 0 q 0x0200 0 (List.replicate 10 0))).ptpSend k e (s.ptpMessage k e 8 q 0 0 (ptpStamp t))
        else s
      | 2 =>
        if s.ocOn k ∧ x.ocState = 6 ∧ s.mayAnnounce k ∧ (s.ocPorts k).contains e then
          let s := s.setNet k { x with annSeq := (x.annSeq + 1) % 65536 }
          let f := s.fresh
          let utc := f.2.timeReg timeUtcOff
          let body := ptpStamp f.2.taiX ++ beBytes 2 (fld utc 0 16) ++ [0, BitVec.ofNat 8 (f.2.rf (Reg.PTP_PRIO k) 0 8),
            BitVec.ofNat 8 (f.2.clockClass k)] ++ beBytes 3 (fld f.1 0 24) ++ [BitVec.ofNat 8 (f.2.rf (Reg.PTP_PRIO k) 8 8)]
            ++ s.clockId k ++ beBytes 2 f.2.timeHops ++ [BitVec.ofNat 8 (if f.2.timeHops = 15 then 0xA0 else 0x20)]
          f.2.ptpSend k e (f.2.ptpMessage k e 11 ((x.annSeq + 1) % 65536) (8 + fld utc 16 2) 0 body)
        else s
      | _ =>
        if s.ocOn k ∧ (s.ocPorts k).contains e then
          (s.setNet k { x with master := none, sync := none, good := 0 }).setOc k
            (if s.rf (Reg.PTP_CTRL k) 0 2 = 3 then 6 else 4)
        else s

end Sys2Proof.Machine
end

