-- ==== Sys2Proof/Machine/UsbCmds.lean ====
section
/-! DEFINITION. The USB commands (R317) and the events of a hub and its management function (R295 to R315). -/

namespace Sys2Proof.Machine

/-! ### Commands (Table 9.9) -/

/-- No USB tunnel of the kernel is outside Closed. -/
def State.usbNoTunnel (s : State) (k : Nat) : Bool := (s.adapterCtx? k usbAdapter).isNone

def cmdUsbConfig : Cmd where
  opcode := 0x0801
  minLen := 4
  domain := fun _ => 11
  bad r _ _ :=
    [badSub r 1, (decide (reqField r 12 0 2 = 3), .badParam, 12), (decide (reqField r 12 4 3 < 1) || decide (4 < reqField r 12 4 3), .badParam, 12),
     (decide (reqField r 12 8 3 < 1) || decide (4 < reqField r 12 8 3), .badParam, 13)]
  act r k s :=
    .checked [(decide (reqField r 12 0 2 ≠ s.rf (Reg.USBH_CTRL k) 0 2) && !s.usbNoTunnel k, .wrongState, 0x008A)] s
      (.ok ((s.setReg (Reg.USBH_CTRL k)
        (packWord [(0, 2, reqField r 12 0 2), (4, 3, reqField r 12 4 3), (8, 3, reqField r 12 8 3)])).usbSync k) [])

def execUsbConfig (r : Req) (s : State) : Result := onCommand cmdUsbConfig r s

/-- Offset and size of buffer e of a layout (R313). -/
def layOff (ws : List Word) (e : Nat) : Nat := fld (ws.getD e 0) 0 14
def laySize (ws : List Word) (e : Nat) : Nat := fld (ws.getD e 0) 16 14

/-- R313 for one buffer: byte offsets of its fields that break a rule. -/
def layoutChecks (ws : List Word) (e : Nat) : List Check :=
  let o := layOff ws e
  let z := laySize ws e
  let unit := if e = 0 then 64 else 512
  let least := if e = 0 then 64 else if e = 3 then 512 else 1536
  let clash := (List.range e).any fun f => decide (o < layOff ws f + laySize ws f) && decide (layOff ws f < o + z)
  [(decide (o % 64 ≠ 0), .badParam, 12 + 4 * e), (decide (z % unit ≠ 0) || decide (z < least), .badParam, 14 + 4 * e),
   (decide (16384 < o + z), .badParam, 12 + 4 * e), (clash, .badParam, 12 + 4 * e)]

/-- The management function is Configured. -/
def State.usbConfigured (s : State) (k : Nat) : Bool := s.rf (Reg.USBD_STATUS k) 0 2 == 2

def cmdUsbEpLayout : Cmd where
  opcode := 0x0802
  minLen := 16
  domain := fun _ => 11
  bad r _ _ := badSub r 1 :: (List.range 4).flatMap fun e => layoutChecks (reqWords r 12 4) e
  act r k s :=
    .checked [(s.usbConfigured k, .wrongState, 0x0088)] s
      (.ok (s.setRegs ((List.range 4).map fun e =>
        (Reg.USBD_EP_LAYOUT k e, packWord [(0, 14, layOff (reqWords r 12 4) e), (16, 14, laySize (reqWords r 12 4) e)]))) [])

def execUsbEpLayout (r : Req) (s : State) : Result := onCommand cmdUsbEpLayout r s

/-- What the dock end does when a downstream port loses or gains its power: ACTION 1 and 2 hold it off, which reports no connection and
leaves PORT_POWER as the host last set it. -/
def State.portAction (s : State) (k p a : Nat) : State :=
  let w := s.portStatus k p
  let s := s.setRf (Reg.USBH_PORT_PWR k p) 0 2 a
  if a = 0 then s
  else s.reportPort k p (without w 0x0617) ((w % 2) + (if w.testBit 1 then 2 else 0))

def cmdUsbPortPower : Cmd where
  opcode := 0x0803
  minLen := 4
  domain := fun _ => 11
  bad r _ _ := [badSub r 1, (decide (2 < reqField r 12 8 2), .badParam, 13)]
  act r k s :=
    .checked [(decide ((s.hub k).form ≠ 2), .wrongState, 0x0089)] s
      (.ok ((s.portAction k (reqField r 12 0 2) (reqField r 12 8 2)).flush k usbAdapter) [])

def execUsbPortPower (r : Req) (s : State) : Result := onCommand cmdUsbPortPower r s

def cmdUsbStatus : Cmd where
  opcode := 0x0804
  minLen := 4
  domain := fun _ => 11
  bad r _ _ := [badSub r 1]
  act r k s :=
    let hub := (List.range 13).map fun i => Reg.USBH_FETCH_DISCARD k + 4 * i
    let dev := (List.range 5).map fun i => Reg.USBD_CMD_RX k + 4 * i
    .ok (if reqBit r 12 0 then s.setRegs ((hub ++ dev).map fun a => (a, 0)) else s)
      (s.reg (Reg.USBH_STATUS k) :: (List.range 4).map (fun p => s.reg (Reg.USBH_PORT k p)) ++ [s.reg (Reg.USBD_STATUS k)]
        ++ (hub ++ dev).map s.reg)

def execUsbStatus (r : Req) (s : State) : Result := onCommand cmdUsbStatus r s

/-! ### Tokens at the host end -/

/-- An event at a hub of a form; `f` runs only there, and what it sends goes to the tunnel. -/
def onHub (k form : Nat) (s : State) (f : State → State) : Result :=
  onUnit s (s.hasKernel k) (if (s.hub k).form = form ∧ s.domainOn k 11 then (f s).flush k usbAdapter else s)

def State.hubAnswer (s : State) (k : Nat) (a : UsbAnswer) : State := s.setHub k { s.hub k with answer := a }

/-- Micro-frames from a to b, modulo the 14-bit number. -/
def ufSince (a b : Nat) : Nat := (b + 16384 - a % 16384) % 16384

/-- The host end reaches a new micro-frame: it sends SOF, drops isochronous IN data that no token claimed, and stops endpoints that the host
has not addressed for 8 intervals (R304). -/
def State.hostFrame (s : State) (k uf : Nat) : State :=
  let x := s.hub k
  if x.uf = uf then s
  else
    let lost := x.isoData.filter fun d => (d.2.1 + 1) % 16384 != uf
    let s := s.setHub k { x with uf := uf, isoData := x.isoData.filter fun d => (d.2.1 + 1) % 16384 == uf }
    let s := if lost.isEmpty then s else s.bump (Reg.USBH_ISO_UNCLAIMED k) lost.length
    let s := s.setIso k ((s.hub k).isoAct.filter fun i => decide (ufSince i.last uf ≤ 8 * i.interval))
    if (s.adapterOpen? k usbAdapter).isSome then
      s.emit k usbAdapter (hubPacket 0x10 (wordBytes (packWord [(0, 11, uf / 8), (11, 3, uf)])))
    else s

/-- A token that no context or isochronous slot takes (R303). -/
def State.noContext (s : State) (k : Nat) (t : UsbTok) (dirIn : Bool) : State :=
  let s := (s.bump (Reg.USBH_EP_OVERFLOW k) 1).hubAnswer k .nak
  let x := s.hub k
  if (match x.overLog with | some w => decide (s.now < w + 1000000000) | none => false) then
    s.setHub k { x with overSince := x.overSince + 1 }
  else
    (s.setHub k { x with overSince := 0, overLog := some s.now }).log k Ev.usbEpOverflow 0
      [(packWord [(0, 7, t.addr), (7, 4, t.ep), (11, 1, dirIn.toNat)]).toNat, x.overSince + 1]

/-- A token to a device behind ports 1 to 4. Without a tunnel the ports are empty and nothing answers; a halted endpoint answers STALL and one
that reports an error gives no handshake, once (R301). `open` runs with the tunnel Open, `heldF` while it is Held. -/
def State.deviceToken (s : State) (k : Nat) (t : UsbTok) (dirIn : Bool) (heldF : State → State) (run : State → Nat → UsbEp → State) : State :=
  let s := s.hostFrame k (t.uf % 16384)
  let key := epKey (t.addr % 128) (t.ep % 16) dirIn
  match (s.adapterCtx? k usbAdapter).map (s.tunState k) with
  | some 4 => heldF s
  | some 2 =>
    match s.takeEp k key (upAttr t) with
    | none => s.noContext k t dirIn
    | some e =>
      if e.stall then (s.putEp k key e).hubAnswer k .stall
      else if e.err then ((s.putEp k key { e with err := false }).bump (Reg.USBH_ERR_REPORTED k) 1).hubAnswer k .silent
      else run s key e
  | _ => s.hubAnswer k .silent

/-- The token is for the hub, not suspended, from a connected host. -/
def onToken (k : Nat) (s : State) (f : State → State) : Result :=
  onHub k 1 s fun s => if (s.hub k).conn ∧ s.rf (Reg.USBH_STATUS k) 0 4 = 1 then f s else s

/-- An isochronous endpoint as it becomes active: selected by a request, and one of at most 8 (R304). -/
def State.activeIso (s : State) (k key uf : Nat) : Option (UsbIso × State) :=
  let x := s.hub k
  match x.isoAct.find? fun i => i.key == key with
  | some i =>
    let i' := { i with first := some (i.first.getD uf), last := uf }
    some (i, s.setIso k (x.isoAct.map fun j => if j.key = key then i' else j))
  | none =>
    match x.isoSel.find? fun i => i.key == key with
    | none => none
    | some i =>
      if 8 ≤ x.isoAct.length then none
      else some ({ i with first := none }, s.setIso k (x.isoAct ++ [{ i with first := some uf, last := uf }]))

/-- A SETUP for a device: ACKed at once and sent on; it ends the control transfer before it (R298). -/
def State.setupToken (s : State) (k : Nat) (t : UsbTok) (setup : List Byte) : State :=
  let key := epKey (t.addr % 128) (t.ep % 16) false
  let send (s : State) : State :=
    match s.takeEp k key (upAttr t) with
    | none => s.noContext k t false
    | some e =>
      let s := s.dropData k (fun q => q.1 == key) id
      let s := s.putEp k key { attr := e.attr, credit := e.credit, tog := true, ctl := setup }
      (s.emit k usbAdapter (tokenPacket 1 key (upAttr t) false 8 setup)).hubAnswer k .ack
  let s := s.hostFrame k (t.uf % 16384)
  match (s.adapterCtx? k usbAdapter).map (s.tunState k) with
  | some 4 => send s
  | some 2 => send s
  | _ => s.hubAnswer k .silent

def execSetupToken (k : Nat) (t : UsbTok) (setup : List Byte) (s : State) : Result :=
  onToken k s fun s => if setup.length = 8 then s.setupToken k t setup else s

/-- FETCH, unless a fetch is active: on a bulk endpoint up to FETCH_DEPTH packets, else one (R299). The buffer for fetched data has 32 KiB. -/
def State.fetch (s : State) (k key : Nat) (e : UsbEp) : State :=
  let n := if attrType e.attr = 2 then s.fetchDepth k else 1
  let x := s.hub k
  let held := (x.eps.map fun q => (q.2.held.map List.length).sum + q.2.want * x.maxPkt q.1 (attrType q.2.attr)).sum
  if e.want ≠ 0 ∨ 32768 < held + n * x.maxPkt key (attrType e.attr) then s.putEp k key e
  else (s.putEp k key { e with want := n }).emit k usbAdapter (tokenPacket 2 key e.attr true 0 (wordBytes (word n)))

/-- An isochronous IN: the data of the poll one micro-frame earlier; zero-length data the first time and where no slot is free (R304). -/
def State.isoInToken (s : State) (k key : Nat) (t : UsbTok) : State :=
  match s.activeIso k key (t.uf % 16384) with
  | none => (s.bump (Reg.USBH_EP_OVERFLOW k) 1).hubAnswer k (.data false [])
  | some (i, s) =>
    let x := s.hub k
    match x.isoData.find? fun d => d.1 == key with
    | some d =>
      if i.first.isNone then s.hubAnswer k (.data false [])
      else (s.setHub k { x with isoData := x.isoData.erase d }).hubAnswer k (.data false d.2.2)
    | none => s.hubAnswer k (.data false [])

/-- An IN of a device endpoint (R299). -/
def State.inToken (s : State) (k key : Nat) (e : UsbEp) (t : UsbTok) (ack : Bool) : State :=
  let status := decide (key % 32 = 0) && !ctlIn e.ctl
  let split := attrSplit e.attr
  if e.attr / 64 % 4 = 1 then (s.putEp k key e).isoInToken k key t
  else if split ∧ !t.complete then (s.fetch k key { e with res := none, want := if e.held.isEmpty then e.want else 1 }).hubAnswer k .ack
  else
    match e.held with
    | d :: l =>
      let s := s.hubAnswer k (.data (status || e.tog) d)
      s.putEp k key (if ack then { e with held := l, tog := !e.tog } else e)
    | [] =>
      if split then
        if e.res = some 1 then (s.putEp k key { e with res := none }).hubAnswer k .nak else (s.putEp k key e).hubAnswer k .nyet
      else (s.fetch k key e).hubAnswer k .nak

/-- The bytes of a transfer that the next token of a bulk endpoint of the management function takes: at most the maximum packet. -/
def State.mgmtMax (s : State) (k : Nat) : Nat := if s.rb (Reg.USBH_STATUS k) 4 then 64 else 512

/-- A packet is at its end once a packet shorter than the maximum has gone (R47). -/
def transferEnds (len pos max : Nat) : Bool := decide (len < pos + max)

/-- An IN of EP1 of the management function: the oldest reply, one maximum-size packet a token; once its last packet is ACKed it is
delivered (R47, R64). -/
def State.mgmtReply (s : State) (k : Nat) (ack : Bool) : State :=
  let v := Via.usb k
  let m := s.mgmtMax k
  let cur := match (s.hub k).repTx with
    | some q => some q
    | none => (s.ep v).replies.head?.map fun p => (p, 0)
  match cur with
  | none => s.hubAnswer k .nak
  | some (p, pos) =>
    let b := packetBytes p
    let s := s.hubAnswer k (.data (pos / m % 2 == 1) (slice b pos m))
    if !ack then s.setHub k { s.hub k with repTx := some (p, pos) }
    else if transferEnds b.length pos m then
      let s := s.setHub k { s.hub k with repTx := none }
      let e := s.ep v
      (s.setEp v { e with replies := e.replies.drop 1 }).keep v p
    else s.setHub k { s.hub k with repTx := some (p, pos + m) }

/-- The next event of a USB transport as a packet: the notice of dropped events first (R65). -/
def State.nextUsbEvent (s : State) (k : Nat) : Option ((EventItem × Packet) × State) :=
  let v := Via.usb k
  let e := s.ep v
  match e.events with
  | [] => none
  | i :: l =>
    let n := e.evSeq + 1
    if e.dropped ≠ 0 then
      let i := lostNotice s v e.dropped
      some ((i, eventPacket false n i), s.setEp v { e with evSeq := n, dropped := 0 })
    else some ((i, eventPacket false n i), s.setEp v { e with evSeq := n, events := l })

/-- An IN of EP2 of the management function: the event packets. -/
def State.mgmtEvent (s : State) (k : Nat) (ack : Bool) : State :=
  let m := s.mgmtMax k
  let cur := match (s.hub k).evtTx with
    | some q => some (q, s)
    | none => (s.nextUsbEvent k).map fun (q : (EventItem × Packet) × State) => ((q.1.1, q.1.2, 0), q.2)
  match cur with
  | none => s.hubAnswer k .nak
  | some ((i, p, pos), s) =>
    let b := packetBytes p
    let s := s.hubAnswer k (.data (pos / m % 2 == 1) (slice b pos m))
    let pos' := if ack then pos + m else pos
    s.setHub k { s.hub k with evtTx := if ack && transferEnds b.length pos m then none else some (i, p, pos') }

/-- The status change endpoint of the hub: a bit for each port with a change (R297). -/
def State.statusPoll (s : State) (k : Nat) : State :=
  let m := maskOf 6 fun i =>
    decide (1 ≤ i) && decide ((if i = 5 then fld (s.hub k).port5 16 16 else s.rf (Reg.USBH_PORT k (i - 1)) 16 16) ≠ 0)
  s.hubAnswer k (if m = 0 then .nak else .data false [BitVec.ofNat 8 m])

/-- An IN token: for the management function, the hub, or a device. -/
def execInToken (k : Nat) (t : UsbTok) (ack : Bool) (s : State) : Result :=
  onToken k s fun s =>
    if s.usbConfigured k ∧ t.addr = s.rf (Reg.USBD_STATUS k) 8 7 then
      if t.ep = 1 then s.mgmtReply k ack else if t.ep = 2 then s.mgmtEvent k ack else s.hubAnswer k .stall
    else if (s.hub k).hubConf ≠ 0 ∧ t.addr = (s.hub k).hubAddr then if t.ep = 1 then s.statusPoll k else s.hubAnswer k .stall
    else s.deviceToken k t true (fun s => s.hubAnswer k (if t.ty = 1 then .data false [] else .nak)) fun s key e => s.inToken k key e t ack

/-- An OUT of a device endpoint (R300, R304). -/
def State.outToken (s : State) (k key : Nat) (e : UsbEp) (t : UsbTok) (toggle : Bool) (data : List Byte) : State :=
  let send (s : State) : State := s.emit k usbAdapter (tokenPacket 4 key e.attr false data.length data)
  let split := attrSplit e.attr
  if t.ty = 1 then
    match (s.putEp k key e).activeIso k key (t.uf % 16384) with
    | none => ((s.putEp k key e).bump (Reg.USBH_EP_OVERFLOW k) 1).hubAnswer k .silent
    | some (_, s) =>
      (s.emit k usbAdapter (tokenPacket 7 key e.attr false data.length
        (wordBytes (packWord [(0, 11, t.uf / 8), (11, 3, t.uf)]) ++ data))).hubAnswer k .silent
  else if split ∧ t.complete then
    match e.res with
    | some _ => (s.putEp k key { e with res := none }).hubAnswer k .ack
    | none => (s.putEp k key e).hubAnswer k .nyet
  else if key % 32 = 0 ∧ ctlIn e.ctl then
    if e.res = some 0 then (s.putEp k key { e with res := none, outSent := false }).hubAnswer k .ack
    else if e.outSent then (s.putEp k key e).hubAnswer k .nak
    else ((send s).putEp k key { e with outSent := true }).hubAnswer k .nak
  else if toggle ≠ e.tog then (s.putEp k key e).hubAnswer k .ack
  else if e.credit = 0 then
    ((s.putEp k key e).emit k usbAdapter (tokenPacket 6 key e.attr false 0 [])).hubAnswer k .nak
  else
    ((send s).putEp k key { e with credit := e.credit - 1, tog := !e.tog, res := none }).hubAnswer k
      (if split || decide (1 < e.credit) || s.rb (Reg.USBH_STATUS k) 4 then .ack else .nyet)

def execOutToken (k : Nat) (t : UsbTok) (toggle : Bool) (data : List Byte) (s : State) : Result :=
  onToken k s fun s =>
    s.deviceToken k t false (fun s => s.hubAnswer k (if t.ty = 1 then .silent else .nak)) fun s key e => s.outToken k key e t toggle data

/-- A PING: ACK against credit (R300). -/
def execPingToken (k : Nat) (t : UsbTok) (s : State) : Result :=
  onToken k s fun s =>
    s.deviceToken k t false (fun s => s.hubAnswer k .nak) fun s key e =>
      (s.putEp k key e).hubAnswer k (if e.credit = 0 then .nak else .ack)

/-! ### Requests to the hub and to the management function -/

/-- A request that changes port p of ports 1 to 4 is sent on; its status stage waits for the new state (R297). Where there is no tunnel the
ports are empty, and the mirror follows PORT_POWER alone. -/
def State.portRequest (s : State) (k p cmd sel : Nat) : State :=
  if s.usbNoTunnel k then
    let s := if cmd = 5 ∨ cmd = 6 then s.setUsbPort k (p - 1) (setBit (s.reg (Reg.USBH_PORT k (p - 1))) 8 (cmd == 5)) else s
    s.hubAnswer k .ack
  else
    let s := s.emit k usbAdapter (hubPacket 0x11 (wordBytes (packWord [(0, 3, p), (4, 4, cmd), (8, 8, sel)])))
    let s := if cmd = 1 then s.freeEps k fun e => (s.hub k).portOf e == p else s
    (s.setHub k { s.hub k with waitReq := some (p, cmd) }).hubAnswer k .nak

/-- A bus reset or a reset of port 5 acts on the management function (R314). `cmdPart` says that a command transfer was in progress, `ep0`
a control transfer. -/
def State.mgmtReset (s : State) (k : Nat) (cmdPart ep0 : Bool) : State :=
  let v := Via.usb k
  let x := s.hub k
  let e := s.ep v
  let s := if cmdPart then s.bump (Reg.USBD_CMD_DISCARD k) 1 else s
  let s := if ep0 then s.bump (Reg.USBD_CTRL_ABORT k) 1 else s
  let s := if x.repTx.isSome then s.bump (Reg.USBD_REPLY_ABORT k) 1 else s
  let s := e.replies.foldl (fun s p => s.keep v p) (s.setEp v { e with replies := [] })
  let s := match x.evtTx with
    | some (i, _, _) => let e := s.ep v; (s.setEp v { e with events := i :: e.events }).bump (Reg.USBD_EVT_RESENT k) 1
    | none => s
  (s.setHub k { s.hub k with repTx := none, evtTx := none }).setReg (Reg.USBD_STATUS k) 0

/-- A request about port 5, which acts on the management function locally (R297). -/
def State.port5Request (s : State) (k : Nat) (set : Bool) (feature : Nat) : State :=
  let x := s.hub k
  let put (s : State) (w : Word) : State := (s.setHub k { s.hub k with port5 := w }).hubAnswer k .ack
  let full := s.rb (Reg.USBH_STATUS k) 4
  match set, feature with
  | true, 8 => put s (if bitAt x.port5 8 then x.port5 else 0x00010101)
  | true, 4 => put (s.mgmtReset k false false) (x.port5 ||| (if full then 0x00100002 else 0x00100402))
  | true, 2 => put (s.setRb (Reg.USBD_STATUS k) 2 true) (setBit x.port5 2 true)
  | true, 21 => s.hubAnswer k .stall
  | false, 8 => put (s.usbDetach k) 0
  | false, 1 => put s (setBit x.port5 1 false)
  | false, 2 => put (s.setRb (Reg.USBD_STATUS k) 2 false) (setBit (setBit x.port5 2 false) 18 true)
  | false, n => if 16 ≤ n ∧ n ≤ 20 then put s (setBit x.port5 n false) else s.hubAnswer k .stall
  | _, _ => s.hubAnswer k .stall

/-- A feature of a downstream port set or cleared. -/
def State.portFeature (s : State) (k p : Nat) (set : Bool) (feature sel : Nat) : State :=
  if p = 0 ∨ 5 < p then s.hubAnswer k .stall
  else if p = 5 then s.port5Request k set feature
  else
    match set, feature with
    | true, 4 => s.portRequest k p 1 0
    | true, 2 => s.portRequest k p 2 0
    | true, 8 => s.portRequest k p 5 0
    | true, 21 => s.portRequest k p 7 sel
    | false, 1 => s.portRequest k p 4 0
    | false, 2 => s.portRequest k p 3 0
    | false, 8 => s.portRequest k p 6 0
    | false, n =>
      if 16 ≤ n ∧ n ≤ 20 then (s.setUsbPort k (p - 1) (setBit (s.reg (Reg.USBH_PORT k (p - 1))) n false)).hubAnswer k .ack
      else s.hubAnswer k .stall
    | _, _ => s.hubAnswer k .stall

/-- n bytes the spec does not give. -/
def State.freeBytes (s : State) (n : Nat) : List Byte × State :=
  (List.range n).foldl (fun a _ => let f := a.2.fresh; (a.1 ++ [f.1.setWidth 8], f.2)) ([], s)

/-- The string descriptors that the board table gives a hub, each padded to 4 bytes there (Table 14.15). -/
def usbStrings (fuel : Nat) (bs : List Byte) : List (List Byte) :=
  match fuel with
  | 0 => []
  | fuel + 1 =>
    let n := byteAt bs 0
    if bs.isEmpty ∨ n < 2 then [] else bs.take n :: usbStrings fuel (bs.drop (ceilDiv n 4 * 4))

def State.hubStrings (s : State) (k : Nat) : List (List Byte) := usbStrings 3 (smapGet (fun _ => ([] : List Byte)) s.images.strings k)

/-- A device descriptor with the identities of Tables 9.2 and 9.8. The string indexes count from 1 where the strings are known (`names`, their
number); else they are open, and so is bcdDevice of the hub. -/
def State.deviceDescriptor (s : State) (cls proto vid pid : Nat) (bcd names : Option Nat) : List Byte × State :=
  let f := s.freeBytes 5
  let b (n : Nat) : Byte := BitVec.ofNat 8 n
  let idx := match names with | some n => (List.range 3).map (fun i => if i < n then b (i + 1) else 0) | none => (f.1.drop 2).take 3
  ([18, 1, 0, 2, b cls, 0, b proto, 64, b vid, b (vid / 256), b pid, b (pid / 256)]
    ++ (match bcd with | some n => [b n, b (n / 256)] | none => f.1.take 2) ++ idx ++ [1], f.2)

/-- The hub descriptor (R296): bHubContrCurrent is open. -/
def State.hubDescriptor (s : State) : List Byte × State :=
  let f := s.freeBytes 1
  ([9, 0x29, 5, 0x6D, 0, 50] ++ f.1 ++ [0x20, 0xFF], f.2)

/-- At most n bytes of a descriptor given as the answer. -/
def answerData (k n : Nat) (d : List Byte × State) : State := d.2.hubAnswer k (.data true (d.1.take n))

/-- A request to the hub device: answered from the mirror, or sent on as PORT_CMD (R296, R297). -/
def State.hubRequest (s : State) (k : Nat) (b : List Byte) : State :=
  let x := s.hub k
  let v := setupValue b
  let n := setupLength b
  let port := setupIndex b % 256
  match setupReq b with
  | (0xA0, 0) => s.hubAnswer k (.data true ([0, 0, 0, 0].take n))
  | (0xA3, 0) =>
    if port = 0 ∨ 5 < port then s.hubAnswer k .stall
    else s.hubAnswer k (.data true ((wordBytes (if port = 5 then x.port5 else s.reg (Reg.USBH_PORT k (port - 1)))).take n))
  | (0xA0, 6) => answerData k n s.hubDescriptor
  | (0x20, 1) => s.hubAnswer k (if v ≤ 1 then .ack else .stall)
  | (0x23, 3) => s.portFeature k port true v (setupIndex b / 256)
  | (0x23, 1) => s.portFeature k port false v 0
  | (0x23, 8) =>
    let key := epKey (v / 16 % 128) (v % 16) (decide (32768 ≤ v))
    (s.dropData k (fun e => e.1 == key) fun e => { e with res := none }).hubAnswer k .ack
  | (0x23, 9) =>
    (s.dropData k (fun e => attrSplit e.2.attr && attrPort e.2.attr == port) fun e => { e with res := none }).hubAnswer k .ack
  | (0x00, 5) => (s.setHub k { x with hubAddr := v % 128 }).hubAnswer k .ack
  | (0x00, 9) => (s.setHub k { x with hubConf := v % 256 }).hubAnswer k .ack
  | (0x00, 3) =>
    if v = 1 then (s.setRb (Reg.USBH_STATUS k) 5 true).hubAnswer k .ack else s.hubAnswer k (if v = 2 then .ack else .stall)
  | (0x00, 1) => if v = 1 then (s.setRb (Reg.USBH_STATUS k) 5 false).hubAnswer k .ack else s.hubAnswer k .stall
  | (0x80, 0) => s.hubAnswer k (.data true ([BitVec.ofNat 8 (1 + 2 * (s.rb (Reg.USBH_STATUS k) 5).toNat), 0].take n))
  | (0x80, 8) => s.hubAnswer k (.data true ([BitVec.ofNat 8 x.hubConf].take n))
  | (0x80, 6) =>
    if v / 256 = 1 then answerData k n (s.deviceDescriptor 9 (if s.rb (Reg.USBH_STATUS k) 4 then 0 else 2) 0x1F9E 0x0E31 none (some (s.hubStrings k).length))
    else if v / 256 = 3 ∧ v % 256 ≠ 0 then
      (match (s.hubStrings k)[v % 256 - 1]? with
       | some d => s.hubAnswer k (.data true (d.take n))
       | none => s.hubAnswer k .stall)
    else answerData k n (s.freeBytes n)
  | _ => s.hubAnswer k .stall

/-- A request to the hub device; a new one ends the one before it. -/
def execHubClassRequest (k : Nat) (setup : List Byte) (s : State) : Result :=
  onToken k s fun s => if setup.length = 8 then (s.setHub k { s.hub k with waitReq := none }).hubRequest k setup else s

/-- A standard request to EP0 of the management function (R312, R314): class and vendor requests are answered STALL. -/
def State.mgmtRequest (s : State) (k : Nat) (b : List Byte) : State :=
  let v := setupValue b
  let n := setupLength b
  let st := Reg.USBD_STATUS k
  match setupReq b with
  | (0x00, 5) => ((s.setRf st 8 7 v).setRf st 0 2 (if v % 128 = 0 then 0 else 1)).hubAnswer k .ack
  | (0x00, 9) =>
    if v % 256 = 0 then (s.setRf st 0 2 1).hubAnswer k .ack
    else if v % 256 = 1 then
      let e := s.ep (.usb k)
      ((s.setEp (.usb k) { e with up := true, evSeq := 0 }).setRf st 0 2 2).hubAnswer k .ack
    else s.hubAnswer k .stall
  | (0x00, 3) => if v = 1 then (s.setRb st 3 true).hubAnswer k .ack else s.hubAnswer k .stall
  | (0x00, 1) => if v = 1 then (s.setRb st 3 false).hubAnswer k .ack else s.hubAnswer k .stall
  | (0x01, 11) => s.hubAnswer k (if v = 0 then .ack else .stall)
  | (0x02, 1) => s.hubAnswer k (if v = 0 then .ack else .stall)
  | (0x80, 0) => s.hubAnswer k (.data true ([BitVec.ofNat 8 (1 + 2 * (s.rb st 3).toNat), 0].take n))
  | (0x80, 8) => s.hubAnswer k (.data true ([BitVec.ofNat 8 (if s.usbConfigured k then 1 else 0)].take n))
  | (0x80, 6) =>
    if v / 256 = 1 then answerData k n (s.deviceDescriptor 0xFF 0 0x1F9E 0x0E30 (some 0xB100) none) else answerData k n (s.freeBytes n)
  | _ => s.hubAnswer k .stall

def execManagementEp0Request (k : Nat) (setup : List Byte) (s : State) : Result :=
  onToken k s fun s => if setup.length = 8 ∧ bitAt (s.hub k).port5 1 then s.mgmtRequest k setup else s

/-! ### Bus events at the host end -/

/-- An upstream bus reset (Table 9.5, R314). -/
def State.upstreamReset (s : State) (k : Nat) (full cmdPart ep0 : Bool) : State :=
  let s := s.freeEps k fun _ => true
  let x := s.hub k
  let s := (s.setHub k { x with hubAddr := 0, hubConf := 0, port5 := 0, isoSel := [], isoData := [], devs := [], zeroPort := 0,
                                resuming := false, wake := none, waitReq := none, answer := .silent }).setIso k []
  let s := (s.mgmtReset k cmdPart ep0).bump (Reg.USBH_TOGGLE_RESYNC k) 1
  let s := ((s.setRf (Reg.USBH_STATUS k) 0 4 1).setRb (Reg.USBH_STATUS k) 4 full).setRb (Reg.USBH_STATUS k) 5 false
  let s := s.emit k usbAdapter (hubPacket 0x13 (wordBytes (packWord [(4, 1, 1)])))
  s.bump (Reg.USBH_BUS_RESETS k) 1

/-- A bus reset by the host; a host that was disconnected connects with it. -/
def execUpstreamBusReset (k : Nat) (full cmdPart ep0 : Bool) (s : State) : Result :=
  onHub k 1 s fun s => (s.setHub k { s.hub k with conn := true }).upstreamReset k full cmdPart ep0

/-- The upstream port is disconnected: the management transport goes down (R515). -/
def execUsbUpstreamDisconnect (k : Nat) (s : State) : Result :=
  onHub k 1 s fun s => (s.usbDetach k).setHub k { (s.usbDetach k).hub k with conn := false, wake := none, resuming := false }

/-- The upstream bus has been idle for 3 ms (R307). -/
def execUpstreamIdleSuspend (k : Nat) (s : State) : Result :=
  onToken k s fun s =>
    let s := (s.setRf (Reg.USBH_STATUS k) 0 4 3).setRb (Reg.USBD_STATUS k) 2 true
    (s.setHub k { s.hub k with suspendAt := s.now, resuming := false, wake := none }).emit k usbAdapter
      (hubPacket 0x13 (wordBytes (word 1)))

/-- A remote wake merged into a host resume (R310). -/
def State.mergeWake (s : State) (k p : Nat) : State := (s.bump (Reg.USBH_WAKE_MERGED k) 1).log k Ev.usbWakeMerged p [p]

/-- The host begins or ends a resume (R308); a wake whose upstream K still waits is merged (R310). -/
def execHostResume (k : Nat) (start : Bool) (s : State) : Result :=
  onHub k 1 s fun s =>
    let x := s.hub k
    if s.rf (Reg.USBH_STATUS k) 0 4 ≠ 3 ∨ x.resuming = start then s
    else if start then
      let s := match x.wake with
        | some (p, at') => if s.now < at' then s.mergeWake k p else s
        | none => s
      (s.setHub k { s.hub k with resuming := true, wake := none }).emit k usbAdapter (hubPacket 0x13 (wordBytes (word 2)))
    else
      let s := (s.setRf (Reg.USBH_STATUS k) 0 4 1).setRb (Reg.USBD_STATUS k) 2 (bitAt x.port5 2)
      (s.setHub k { s.hub k with resuming := false }).emit k usbAdapter (hubPacket 0x13 (wordBytes (word 3)))

/-- The hub connects in its new form 100 ms after a change (R295). -/
def execUsbFormReconnect (k : Nat) (s : State) : Result := onHub k 1 s fun s => s.setHub k { s.hub k with conn := true }

/-! ### Packets at the host end -/

/-- The oldest packet of a hub's tunnel, when it has the type named; one that breaks Table 9.7 is a class 8 violation. `tok` says that it
carries a token word; `n` counts its body bytes before the data. -/
def onHubPacket (k form ptype : Nat) (tok : Bool) (n : Nat) (s : State) (f : State → List Byte → Nat → State) : Result :=
  onHub k form s fun s =>
    match s.adapterOpen? k usbAdapter with
    | none => s
    | some t =>
      match s.takeAdapter k t with
      | none => s
      | some (b, s') =>
        let w := (bytesWords (slice b.2 4 4)).getD 0 0
        let known := if form = 1 then [3, 5, 8, 0x12, 0x14] else [1, 2, 4, 6, 7, 0x10, 0x11, 0x13]
        if b.2.length < 4 ∨ byteAt b.2 1 ≠ 1 ∨ !known.contains (byteAt b.2 0) then s'.adapterViolation k t
        else if byteAt b.2 0 ≠ ptype then s
        else if b.2.length < 4 + n then s'.adapterViolation k t
        else if tok ∧ (4 < attrPort (tokAttr w) ∨ (s.hub k).maxPkt (tokKey w) (attrType (tokAttr w)) < fld w 20 12) then s'.adapterViolation k t
        else f s' (b.2.drop 4) t

/-- Data bytes carried behind the body must be as many as the token word says. -/
def dataOk (b : List Byte) (n : Nat) : Bool := decide (fld ((bytesWords (b.take 4)).getD 0 0) 20 12 = b.length - n)

/-- IN data of endpoint 0 belongs to a control transfer: the status stage ends it, the data stage is kept. -/
def State.ctlData (s : State) (k key : Nat) (e : UsbEp) (data : List Byte) : UsbEp × State :=
  if key % 32 ≠ 0 then (e, s)
  else if ctlIn e.ctl then ({ e with got := e.got ++ data }, s)
  else (e, s.ctlDone k key e)

/-- IN_RESULT (R299, R301). `late` says that the host's last complete-split of its schedule has gone by. -/
def State.takeInResult (s : State) (k : Nat) (b : List Byte) (late : Bool) : State :=
  let w := (bytesWords (b.take 4)).getD 0 0
  let key := tokKey w
  let data := b.drop 8
  let res := byteAt b 4 % 8
  match (s.hub k).ep? key with
  | none => if res = 0 then s.countDrop k data.length 1 else s
  | some e =>
    match res with
    | 0 =>
      if attrSplit e.attr ∧ late then (s.putEp k key { e with want := e.want - 1 }).bump (Reg.USBH_ISO_LATE k) 1
      else
        let r := s.ctlData k key e data
        let e' := { r.1 with want := e.want - 1, held := e.held ++ [data] }
        r.2.putEp k key e'
    | 1 => s.putEp k key { e with want := 0, res := if attrSplit e.attr then some 1 else none }
    | 2 => s.putEp k key { e with want := 0, stall := true }
    | _ => s.putEp k key { e with want := 0, err := true }

def execInResult (k : Nat) (late : Bool) (s : State) : Result :=
  onHubPacket k 1 3 true 8 s fun s b t =>
    if 3 < byteAt b 4 % 8 ∨ !dataOk b 8 ∨ (byteAt b 4 % 8 ≠ 0 ∧ b.length ≠ 8) then s.adapterViolation k t else s.takeInResult k b late

/-- OUT_RESULT: a delivery, and credit granted (R300, R301). -/
def execOutResult (k : Nat) (s : State) : Result :=
  onHubPacket k 1 5 true 8 s fun s b t =>
    let w := (bytesWords (b.take 4)).getD 0 0
    let key := tokKey w
    let res := byteAt b 4 % 8
    if b.length ≠ 8 ∨ !([0, 2, 3].contains res) then s.adapterViolation k t
    else
      match (s.hub k).ep? key with
      | none => s
      | some e =>
        let e := { e with credit := e.credit + byteAt b 5 % 8 }
        if res = 2 then s.putEp k key { e with stall := true }
        else if res = 3 then s.putEp k key { e with err := true }
        else
          let s := if key % 32 = 0 ∧ e.outSent then s.ctlDone k key e else s
          s.putEp k key { e with res := if e.outSent || attrSplit e.attr then some 0 else e.res }

/-- ISO_IN: data for the next micro-frame (R304), at most two micro-frames of each endpoint. -/
def execIsoIn (k : Nat) (s : State) : Result :=
  onHubPacket k 1 8 true 8 s fun s b t =>
    let w := (bytesWords (b.take 4)).getD 0 0
    let n := (bytesWords (slice b 4 4)).getD 0 0
    if !dataOk b 8 then s.adapterViolation k t
    else
      let x := s.hub k
      s.setHub k { x with isoData := x.isoData ++ [(tokKey w, fld n 0 11 * 8 + fld n 11 3, b.drop 8)] }

/-- PORT_STATUS: the mirror follows, and the request that waited for it completes (R297, R306, R311). -/
def execPortStatus (k : Nat) (s : State) : Result :=
  onHubPacket k 1 0x12 false 8 s fun s b t =>
    let p := byteAt b 0 % 8
    let w := (bytesWords (slice b 4 4)).getD 0 0
    if p = 0 ∨ 4 < p ∨ b.length ≠ 8 then s.adapterViolation k t
    else
      let old := s.reg (Reg.USBH_PORT k (p - 1))
      let s := s.setUsbPort k (p - 1) (packWord [(0, 16, fld w 0 16), (16, 16, fld (old ||| w) 16 16)])
      let s := if bitAt w 17 then s.dropData k (fun e => (s.hub k).portOf e == p) id else s
      let x := s.hub k
      let s := s.setHub k { x with zeroPort := if bitAt w 20 then p else x.zeroPort }
      match x.waitReq with
      | some (q, c) => if q = p ∧ (c ≠ 1 ∨ bitAt w 20 ∨ !bitAt w 4) then (s.setHub k { s.hub k with waitReq := none }).hubAnswer k .ack else s
      | none => s

/-- WAKE (R309, R310). -/
def execUsbWake (k : Nat) (s : State) : Result :=
  onHubPacket k 1 0x14 false 4 s fun s b t =>
    let p := byteAt b 0 % 8
    let x := s.hub k
    if p = 0 ∨ 4 < p ∨ b.length ≠ 4 then s.adapterViolation k t
    else if s.rf (Reg.USBH_STATUS k) 0 4 = 3 then
      if x.resuming then s.mergeWake k p
      else if s.rb (Reg.USBH_STATUS k) 5 then
        s.setHub k { x with wake := some (x.wake.getD (p, max s.now (x.suspendAt + 5000000))) }
      else s.bump (Reg.USBH_WAKE_IGNORED k) 1
    else if s.rb (Reg.USBH_PORT k (p - 1)) 2 then
      (s.setUsbPort k (p - 1) (setBit (setBit (s.reg (Reg.USBH_PORT k (p - 1))) 2 false) 18 true)).emit k usbAdapter
        (hubPacket 0x11 (wordBytes (packWord [(0, 3, p), (4, 4, 3)])))
    else s.bump (Reg.USBH_WAKE_IGNORED k) 1

/-- An endpoint context idle for 1 s is freed, with the data that the host has not taken (R303, Table 9.3); one with credit or OUT data stays. -/
def execEndpointIdleExpiry (k addr ep : Nat) (dirIn : Bool) (s : State) : Result :=
  onUnit s (s.hasKernel k)
    (let key := epKey addr ep dirIn
     match (s.hub k).ep? key with
     | some e =>
       if s.now < e.used + 1000000000 ∨ e.credit ≠ 0 ∨ e.want ≠ 0 ∨ ((s.hub k).form = 2 ∧ !e.held.isEmpty) then s
       else s.freeEps k fun q => q.1 == key
     | none => s)

/-! ### Packets and devices at the dock end -/

/-- A SETUP from the tunnel: on the bus at once, or next if one is on the bus already (R298). -/
def execSetupPacket (k : Nat) (s : State) : Result :=
  onHubPacket k 2 1 true 12 s fun s b t =>
    let w := (bytesWords (b.take 4)).getD 0 0
    let key := tokKey w
    if b.length ≠ 12 ∨ fld w 20 12 ≠ 8 then s.adapterViolation k t
    else
      let e := (s.takeEp k key (tokAttr w)).getD {}
      let s := s.dropData k (fun q => q.1 == key) id
      if e.onBus then s.putEp k key { e with next := some (b.drop 4), held := [], want := 0 }
      else s.putEp k key { attr := tokAttr w, credit := e.credit, ctl := b.drop 4, onBus := true }

/-- FETCH: the dock end polls the endpoint for the packets wanted (R299). -/
def execFetch (k : Nat) (s : State) : Result :=
  onHubPacket k 2 2 true 8 s fun s b t =>
    let w := (bytesWords (b.take 4)).getD 0 0
    let n := byteAt b 4 % 8
    if b.length ≠ 8 ∨ n = 0 ∨ 4 < n then s.adapterViolation k t
    else
      let e := (s.takeEp k (tokKey w) (tokAttr w)).getD {}
      s.putEp k (tokKey w) { e with attr := tokAttr w, want := n }

/-- Credit that the dock end may still grant an endpoint (R300, Tables 9.2 and 9.4). -/
def State.creditRoom (s : State) (k key : Nat) (e : UsbEp) : Nat :=
  let x := s.hub k
  let own := s.outDepth k - (e.credit + e.held.length)
  let port := if attrSplit e.attr then
      2 - ((x.eps.filter fun q => attrSplit q.2.attr && attrPort q.2.attr == attrPort e.attr).map fun q => q.2.credit + q.2.held.length).sum
    else 4
  let used := (x.eps.map fun q => (q.2.credit + q.2.held.length) * x.maxPkt q.1 (attrType q.2.attr)).sum
  min (min own port) ((32768 - used) / max 1 (x.maxPkt key (attrType e.attr)))

/-- OUT_RESULT with fresh credit. -/
def State.sendOutResult (s : State) (k key : Nat) (e : UsbEp) (res : Nat) (grant : Bool) : State :=
  let s := s.putEp k key e
  let n := if grant then s.creditRoom k key e else 0
  (s.putEp k key { e with credit := e.credit + n }).emit k usbAdapter
    (tokenPacket 5 key e.attr false 0 (wordBytes (packWord [(0, 3, res), (8, 3, n)])))

/-- OUT data for a device: within the credit granted, or a violation; a status-OUT stage needs none (R300, R316). -/
def execOutPacket (k : Nat) (s : State) : Result :=
  onHubPacket k 2 4 true 4 s fun s b t =>
    let w := (bytesWords (b.take 4)).getD 0 0
    let key := tokKey w
    let e := (s.takeEp k key (tokAttr w)).getD {}
    let status := decide (key % 32 = 0) && ctlIn e.ctl
    if !dataOk b 4 ∨ (status ∧ b.length ≠ 4) ∨ (!status ∧ e.credit = 0) then s.adapterViolation k t
    else s.putEp k key { e with held := e.held ++ [b.drop 4], credit := if status then e.credit else e.credit - 1 }

/-- CREDIT_REQ. -/
def execCreditReq (k : Nat) (s : State) : Result :=
  onHubPacket k 2 6 true 4 s fun s b t =>
    let w := (bytesWords (b.take 4)).getD 0 0
    let e := (s.takeEp k (tokKey w) (tokAttr w)).getD {}
    if b.length ≠ 4 then s.adapterViolation k t else s.sendOutResult k (tokKey w) { e with attr := tokAttr w } 0 true

/-- ISO_OUT: data for the next micro-frame (R304). -/
def execIsoOut (k : Nat) (s : State) : Result :=
  onHubPacket k 2 7 true 8 s fun s b t =>
    let w := (bytesWords (b.take 4)).getD 0 0
    let n := (bytesWords (slice b 4 4)).getD 0 0
    if !dataOk b 8 then s.adapterViolation k t
    else
      let x := s.hub k
      s.setHub k { x with isoData := x.isoData ++ [(tokKey w, fld n 0 11 * 8 + fld n 11 3, b.drop 8)] }

/-- SOF: the next downstream micro-frame starts, and takes the isochronous data sent one micro-frame earlier (R304). -/
def execSofPacket (k : Nat) (s : State) : Result :=
  onHubPacket k 2 0x10 false 4 s fun s b t =>
    if b.length ≠ 4 then s.adapterViolation k t
    else
      let w := (bytesWords b).getD 0 0
      let uf := fld w 0 11 * 8 + fld w 11 3
      let x := s.hub k
      let due (d : Nat × Nat × List Byte) : Bool := (d.2.1 + 1) % 16384 == uf
      s.setHub k { x with uf := uf, bus := if x.bus = 1 then 1 else 0, isoSent := (x.isoData.filter due).map fun d => (d.1, d.2.2),
                          isoData := x.isoData.filter fun d => !due d && decide (ufSince d.2.1 uf < 2) }

/-- A downstream transaction ends (R298 to R301). `kind` is 0 SETUP, 1 IN, 2 OUT, 3 isochronous IN; `result` 0 data or ACK, 1 NAK, 2 STALL,
3 no valid response for the third time; `recent` says that the host has issued a token to the endpoint within the last 1 ms. -/
def State.deviceDone (s : State) (k key : Nat) (e : UsbEp) (kind result : Nat) (toggle recent : Bool) (data : List Byte) : State :=
  let inRes (s : State) (e : UsbEp) (r : Nat) (d : List Byte) : State :=
    (s.putEp k key e).emit k usbAdapter (tokenPacket 3 key e.attr true d.length (wordBytes (word r) ++ d))
  match kind with
  | 0 =>
    if !e.onBus then s
    else
      let e' := { e with onBus := e.next.isSome, ctl := e.next.getD e.ctl, next := none, tog := true, got := [], held := [], want := 0 }
      if 3 ≤ result ∧ e.next.isNone then s.sendOutResult k key e' 3 false else s.putEp k key e'
  | 1 =>
    if e.want = 0 ∨ e.onBus then s
    else
      match result with
      | 0 =>
        if toggle ≠ ((decide (key % 32 = 0) && !ctlIn e.ctl) || e.tog) ∨ (s.hub k).maxPkt key (attrType e.attr) < data.length then s
        else
          let r := s.ctlData k key e data
          inRes r.2 { r.1 with want := e.want - 1, tog := !e.tog } 0 data
      | 1 => if attrType e.attr ≠ 3 ∧ recent then s else inRes s { e with want := 0 } 1 []
      | 2 => inRes s { e with want := 0 } 2 []
      | _ => inRes s { e with want := 0 } 3 []
  | 2 =>
    match e.held with
    | [] => s
    | d :: l =>
      let status := decide (key % 32 = 0) && ctlIn e.ctl
      match result with
      | 0 =>
        let s := if status then s.ctlDone k key e else s
        s.sendOutResult k key { e with held := l, tog := !e.tog } 0 (!status)
      | 1 => s
      | 2 =>
        let lost := (e.held.map List.length).sum
        (s.bump (Reg.USBH_OUT_DISCARD k) lost).sendOutResult k key { e with held := [] } 2 false
      | _ => (s.bump (Reg.USBH_OUT_DISCARD k) d.length).sendOutResult k key { e with held := l } 3 true
  | _ =>
    let uf := (s.hub k).uf
    (s.putEp k key e).emit k usbAdapter
      (tokenPacket 8 key e.attr true data.length (wordBytes (packWord [(0, 11, uf / 8), (11, 3, uf)]) ++ data))

def execDeviceTransactionDone (k addr ep kind result : Nat) (toggle recent : Bool) (data : List Byte) (s : State) : Result :=
  onHub k 2 s fun s =>
    let key := epKey (addr % 128) (ep % 16) (kind % 2 == 1)
    if (s.adapterOpen? k usbAdapter).isNone then s
    else if 3 ≤ kind then
      if (s.hub k).isoSel.any fun i => i.key == key then
        s.deviceDone k key (((s.hub k).ep? key).getD { attr := 64 }) kind result toggle recent data
      else s
    else
      match (s.hub k).ep? key with
      | some e => s.deviceDone k key e kind result toggle recent data
      | none => s

/-- PORT_CMD: the dock end changes a port and reports it (R297, R311). -/
def State.portCommand (s : State) (k p cmd sel : Nat) : State :=
  let w := s.portStatus k p
  let on (m : Nat) : Nat := without w m + m
  let live := w.testBit 0 && s.rf (Reg.USBH_PORT_PWR k p) 0 2 == 0
  let behind (s : State) : State := s.freeEps k fun e => (s.hub k).portOf e == p + 1
  match cmd with
  | 1 =>
    if live then
      ((behind s).bump (Reg.USBH_PORT_RESETS k) 1).bump (Reg.USBH_TOGGLE_RESYNC k) 1 |>.reportPort k p (without (on 0x10) 0x0602) 0
    else s.reportPort k p w 0
  | 2 => s.reportPort k p (if w.testBit 1 then on 4 else w) 0
  | 3 => s.reportPort k p (without w 4) (if w.testBit 2 then 4 else 0)
  | 4 => s.reportPort k p (without w 2) 0
  | 5 => s.reportPort k p (on 0x100) 0
  | 6 => (behind s).reportPort k p (without w 0x0F17) 0
  | 7 => let _ := sel; s.reportPort k p (on 0x800) 0
  | _ => s

def execPortCmd (k : Nat) (s : State) : Result :=
  onHubPacket k 2 0x11 false 4 s fun s b t =>
    let p := byteAt b 0 % 8
    let c := byteAt b 0 / 16
    if p = 0 ∨ 4 < p ∨ c = 0 ∨ 7 < c ∨ b.length ≠ 4 then s.adapterViolation k t else s.portCommand k (p - 1) c (byteAt b 1)

/-- BUS_STATE: suspend, resume and reset of the downstream bus (R307, R308, R311). -/
def execBusState (k : Nat) (s : State) : Result :=
  onHubPacket k 2 0x13 false 4 s fun s b t =>
    if b.length ≠ 4 then s.adapterViolation k t
    else if byteAt b 0 / 16 % 2 = 1 then
      let s := (s.freeEps k fun _ => true).bump (Reg.USBH_TOGGLE_RESYNC k) 1
      let s := (s.setHub k { s.hub k with devs := [], isoSel := [], isoData := [], isoSent := [], bus := 0, waking := 0 }).setIso k []
      (List.range 4).foldl (fun s p => s.reportPort k p 0 0) s
    else
      let x := s.hub k
      match byteAt b 0 % 4 with
      | 1 => s.setHub k { x with bus := 1 }
      | 2 => s.setHub k { x with bus := 2 }
      | _ => s.setHub k { x with bus := 0, waking := 0 }

/-- A device signals remote wake: the dock end drives K on the port and sends WAKE (R309). -/
def execDeviceRemoteWake (k p : Nat) (s : State) : Result :=
  onHub k 2 s fun s =>
    let x := s.hub k
    let w := s.portStatus k p
    if p < 4 ∧ w.testBit 0 ∧ w.testBit 1 ∧ (x.bus ≠ 0 ∨ w.testBit 2) ∧ !x.waking.testBit p then
      (s.setHub k { x with waking := x.waking + 2 ^ p }).emit k usbAdapter (hubPacket 0x14 (wordBytes (word (p + 1))))
    else s

/-- Babble: the port is disabled and the data of its devices discarded (R306). -/
def execBabble (k p : Nat) (s : State) : Result :=
  onHub k 2 s fun s =>
    let w := s.portStatus k p
    if p < 4 ∧ w.testBit 1 then
      ((s.dropData k (fun e => (s.hub k).portOf e == p + 1) id).bump (Reg.USBH_BABBLE k) 1).reportPort k p (without w 2) 2
    else s

/-- A port held at its current limit for 8 ms (R500, Table 9.5). -/
def execUsbOverCurrent (k p : Nat) (s : State) : Result :=
  onHub k 2 s fun s =>
    let w := s.portStatus k p
    if p < 4 ∧ w.testBit 8 then (s.bump (Reg.USBH_OVERCURRENT k) 1).reportPort k p (without w 0x0F17 + (if w.testBit 3 then 0 else 8)) 8 else s

/-- The 15 ms reset of a port ends (R311): the port is enabled at the speed found. -/
def execPortResetEnd (k p : Nat) (high low : Bool) (s : State) : Result :=
  onHub k 2 s fun s =>
    let w := s.portStatus k p
    if p < 4 ∧ w.testBit 4 then
      (s.setHub k { s.hub k with zeroPort := p + 1 }).reportPort k p
        (without w 0x0610 + 2 - (w / 2 % 2) * 2 + (if high then 0x400 else if low then 0x200 else 0)) 0x10
    else s

/-- A device connects to or disconnects from a powered port that is not forced off (R297). -/
def execDownstreamConnectChange (k p : Nat) (connected low : Bool) (s : State) : Result :=
  onHub k 2 s fun s =>
    let w := s.portStatus k p
    if p < 4 ∧ w.testBit 8 ∧ s.rf (Reg.USBH_PORT_PWR k p) 0 2 = 0 ∧ w.testBit 0 ≠ connected then
      let s := if connected then s else s.freeEps k fun e => (s.hub k).portOf e == p + 1
      s.reportPort k p (without w 0x0617 + (if connected then 1 + (if low then 0x200 else 0) else 0)) 1
    else s

/-- The off time of a power-cycle ends and the port follows the host again (R317). -/
def execUsbPowerCycleEnd (k p : Nat) (s : State) : Result :=
  onHub k 2 s fun s => if p < 4 ∧ s.rf (Reg.USBH_PORT_PWR k p) 0 2 = 2 then s.setRf (Reg.USBH_PORT_PWR k p) 0 2 0 else s

end Sys2Proof.Machine
end

