-- ==== Sys2Proof/Machine/Domains.lean ====
section
/-! DEFINITION. The power domains of a kernel (R449 to R451): when a domain may go off, what it loses, and writes of PWR_DOM_EN. -/

namespace Sys2Proof.Machine

/-- The port occupies the entropy source and the engines: it is Casting, or Open with a policy MODE other than SKIP (R450). -/
def State.portNeedsSec (s : State) (k p : Nat) : Bool := s.portState k p == 2 || (s.portOpen k p && s.authMode k p != 2)

def State.kernelNeedsSec (s : State) (k : Nat) : Bool := (List.range 4).any (s.portNeedsSec k)

/-- Some unit of a domain is not idle (R450). -/
def State.domainBusy (s : State) (k d : Nat) : Bool :=
  match d with
  | 4 => [0, 1].any fun p => !([0, 1, 5].contains (s.portState k p))
  | 5 => [2, 3].any fun p => !([0, 1, 5].contains (s.portState k p))
  | 7 => [0, 1].any fun i => (s.adapterCtx? k (dinAdapter i)).isSome || s.rb (Reg.DIN_CTRL k i) 0
  | 8 => [0, 1].any fun o => (s.adapterCtx? k (doutAdapter o)).isSome || (s.localOwner? k o).isSome || s.rb (Reg.DOUT_CTRL k o) 0
  | 9 => s.pcieUsed k
  | 10 => s.ethBusy k 0 || s.ethBusy k 1
  | 11 => !s.usbNoTunnel k
  | 12 => if k = 0 then (List.range s.variant.kernels).any s.kernelNeedsSec else s.kernelNeedsSec k
  | _ => true

/-- PWR_DOM_STATE of a domain set. -/
def State.setDomain (s : State) (k d v : Nat) : State := s.setRf (Reg.PWR_DOM_STATE k) (2 * (d - 1)) 2 v

/-- The registers of the blocks of a domain back at their reset words (R451). The key slot table is kept in K0's MRAM. -/
def State.resetDomainRegs (s : State) (k d : Nat) : State :=
  ((List.range 0x40).filter fun b => kernelBlockDomain b == d && b != 0x30).foldl (fun s b => s.resetBlock k b) s

/-- What the units of a domain hold beside their registers goes with its power. -/
def State.dropUnits (s : State) (k d : Nat) : State :=
  match d with
  | 7 => [0, 1].foldl (fun s i => s.setDin k i {}) s
  | 8 => [0, 1].foldl (fun s o =>
      (s.setDout k o {}).setRegs [(Reg.FST_SETS k o, 0x3F), (Reg.FST_FRAMES k o, 0), (Reg.FST_BYTES k o, 0)]) s
  | 9 => ((s.setBridge k {}).setPcieFn k {}).setEp (.pcie k) {}
  | 10 => s.setNet k {}
  | 11 => (s.setHub k {}).setEp (.usb k) {}
  | _ => s

/-- A domain goes off: it keeps no state (R451). -/
def State.domainOff (s : State) (k d : Nat) : State := ((s.resetDomainRegs k d).dropUnits k d).setDomain k d 0

/-- The domains whose enable bit software writes (Table 16.8). -/
def softDomains : List Nat := [4, 5, 7, 8, 9, 10, 11, 12]

/-- A write of PWR_DOM_EN (R450): clearing the bit of a busy domain makes the write ignored; in Run the domains follow. -/
def State.domEnWrite (s : State) (k : Nat) (w : Word) : State :=
  let old := s.reg (Reg.PWR_DOM_EN k)
  let clear := softDomains.filter fun d => bitAt old (d - 1) && !bitAt w (d - 1)
  let raise := softDomains.filter fun d => !bitAt old (d - 1) && bitAt w (d - 1)
  if clear.any (s.domainBusy k) then s.ignoreWrite k (Reg.PWR_DOM_EN k)
  else
    let s := s.setReg (Reg.PWR_DOM_EN k) ((old &&& 0xFFFFF027) ||| (w &&& 0xFD8))
    if s.kernelState k = 2 then raise.foldl (fun s d => s.setDomain k d 3) (clear.foldl (fun s d => s.domainOff k d) s) else s

end Sys2Proof.Machine
end

