-- ==== Sys2Proof/Machine/MapperCmds.lean ====
section
/-! DEFINITION. The commands of the signal mapper, the check units and the seals (R375), and the events of signals, GOOSE, GPIO, HID snoop and
pip frames (R356 to R366, R370). -/

namespace Sys2Proof.Machine

/-! ### Signals (R349, R375) -/

/-- GPIO_OWNED: the pins that are a signal's destination (R360). -/
def State.ownPins (s : State) (k : Nat) : State :=
  s.setReg (Reg.GPIO_OWNED k) (word (maskOf 16 fun pin =>
    (List.range 256).any fun g => s.sigOn k g && s.rf (Reg.SMAP_CTRL k g) 12 2 == 2 && s.rf (Reg.SMAP_DST k g) 0 4 == pin))

/-- Another signal has the pin or the pip channel of a destination (Table 11.4). -/
def State.dstOwned (s : State) (k g kind : Nat) (dst : Word) : Bool :=
  let w := if kind = 1 then fld dst 0 12 else fld dst 0 4
  (kind == 1 || kind == 2) && (List.range 256).any fun h =>
    h != g && s.sigOn k h && s.rf (Reg.SMAP_CTRL k h) 12 2 == kind && s.rf (Reg.SMAP_DST k h) 0 (if kind = 1 then 12 else 4) == w

/-- A publication names the signal (Table 11.4). -/
def State.sigPublished (s : State) (k g : Nat) : Bool :=
  (List.range 4).any fun i => s.rb (Reg.GPUB_CTRL k i) 0 && ((s.mapper k).pub i).members.any fun m => m.1 == g

/-- No snooped report can reach a field: no device, or no Open tunnel (R362). -/
def State.hidDead (s : State) (k f : Nat) : Bool :=
  (s.hub k).form != 2 || !s.rb (Reg.USBH_STATUS k) 6 || !s.rb (Reg.USBH_PORT k (s.rf (Reg.HID_FIELD_A k f) 1 2)) 0

def cmdSmapSignalSet : Cmd where
  opcode := 0x0B01
  domain := fun _ => 2
  minLen := 28
  bad r k s :=
    let src := reqWord r 16
    let types := ((s.mapper k).sub (fld src 0 4)).types
    let on := reqBit r 12 31
    let goose := on && reqField r 12 0 3 == 1
    [badSub r 256, (on && decide (4 < reqField r 12 0 3), .badParam, 12), (on && decide (reqField r 12 4 2 = 3), .badParam, 12),
     (on && decide (reqField r 12 8 2 = 3), .badParam, 13), (on && decide (reqField r 12 12 2 = 3), .badParam, 13),
     (goose && decide (2 < types.getD (fld src 4 6) 9), .badParam, 16), (goose && bitAt src 16 && types.getD (fld src 10 6) 9 != 3, .badParam, 17),
     (goose && bitAt src 23 && types.getD (fld src 17 6) 9 != 4, .badParam, 18)]
  act r k s :=
    let g := reqSub r
    let on := reqBit r 12 31
    .checked [(on && s.dstOwned k g (reqField r 12 12 2) (reqWord r 20), .wrongState, 0xB0), (!on && s.sigPublished k g, .wrongState, 0xB1)] s
      (let s := s.setRegs
         [(Reg.SMAP_CTRL k g, reqWord r 12 &&& 0x80003337), (Reg.SMAP_SRC k g, reqWord r 16 &&& 0x00FFFFFF),
          (Reg.SMAP_DST k g, reqWord r 20 &&& 0x00000FFF), (Reg.SMAP_A k g, reqWord r 24), (Reg.SMAP_B k g, reqWord r 28),
          (Reg.SMAP_DEADBAND k g, reqWord r 32), (Reg.SMAP_TIMEOUT k g, reqWord r 36 &&& 0xFFFF), (Reg.SMAP_IN k g, 0), (Reg.SMAP_OUT k g, 0),
          (Reg.SMAP_QUAL k g, 0), (Reg.SMAP_TIME_LO k g, 0), (Reg.SMAP_TIME_HI k g, 0)]
       let kind := reqField r 12 0 3
       let s := (s.setSig k g { rxAt := if on && kind == 2 then some s.now else none }).ownPins k
       let s := s.setMapper k { s.mapper k with due := (s.mapper k).due.filter fun h => h != g }
       let s := if on && reqField r 12 12 2 == 2 then s.driveGpio k g else s
       .ok (if on && kind == 4 && s.hidDead k (reqField r 16 0 3) then s.sigsInvalid k [g] else s) [])

def execSmapSignalSet (r : Req) (s : State) : Result := onCommand cmdSmapSignalSet r s

def cmdSmapSignalRead : Cmd where
  opcode := 0x0B02
  domain := fun _ => 2
  bad r _ _ := [badSub r 256]
  act r k s :=
    let g := reqSub r
    .ok s ([Reg.SMAP_OUT k g, Reg.SMAP_QUAL k g, Reg.SMAP_TIME_LO k g, Reg.SMAP_TIME_HI k g, Reg.SMAP_IN k g].map s.reg)

def execSmapSignalRead (r : Req) (s : State) : Result := onCommand cmdSmapSignalRead r s

/-! ### GOOSE commands -/

/-- Bytes rounded up to whole words. -/
def up4 (n : Nat) : Nat := (n + 3) / 4 * 4

def cmdGooseSubscribe : Cmd where
  opcode := 0x0B03
  domain := fun _ => 2
  minLen := 16
  bad r _ _ :=
    let on := reqBit r 12 0
    let m := reqField r 24 0 7
    let l := reqField r 24 8 8
    [badSub r 16, (on && decide (reqField r 12 1 2 = 3), .badParam, 12), (on && (decide (m < 1) || decide (64 < m)), .badParam, 24),
     (on && (decide (l < 1) || decide (64 < l)), .badParam, 25), (on && decide (r.plen < 16 + up4 m + up4 l), .badParam, 6)]
      ++ (List.range m).map fun i => (on && decide (4 < byteAt (reqBytes r 28) i), .badParam, 28 + i)
  act r k s :=
    let i := reqSub r
    let on := reqBit r 12 0
    let m := reqField r 24 0 7
    let b := reqBytes r 28
    let s := s.setRegs
      [(Reg.GSUB_CTRL k i, if on then packWord [(0, 3, reqField r 12 0 3), (16, 7, m)] else 0), (Reg.GSUB_APPID k i, reqWord r 16 &&& 0xFFFF),
       (Reg.GSUB_STNUM k i, 0), (Reg.GSUB_SQNUM k i, 0)]
    .ok (s.setSub k i (if on then
        { types := (b.take m).map (·.toNat), gocbRef := slice b (up4 m) (reqField r 24 8 8), confRev := (reqWord r 20).toNat }
      else {})) []

def execGooseSubscribe (r : Req) (s : State) : Result := onCommand cmdGooseSubscribe r s

/-- The big-endian value of MAC bytes 0 to 5 given in two words, byte 0 lowest. -/
def macWords (lo hi : Word) : Nat := beNat (wordBytes lo ++ wordBytes hi) 0 6

def cmdGoosePublishSet : Cmd where
  opcode := 0x0B04
  domain := fun _ => 2
  minLen := 24
  bad r _ _ :=
    let on := reqBit r 12 0
    let m := reqField r 32 0 7
    let out (n : Nat) : Bool := decide (n < 1) || decide (64 < n)
    let ls := [reqField r 32 8 8, reqField r 32 16 8, reqField r 32 24 8]
    [badSub r 4, (on && decide (reqField r 12 1 2 = 3), .badParam, 12), (on && (decide (reqField r 28 0 8 < 1) || decide (100 < reqField r 28 0 8)), .badParam, 28),
     (on && (decide (reqField r 28 16 16 < 100) || decide (60000 < reqField r 28 16 16)), .badParam, 30), (on && decide (64 < m), .badParam, 32),
     (on && out (ls.getD 0 0), .badParam, 33), (on && out (ls.getD 1 0), .badParam, 34), (on && out (ls.getD 2 0), .badParam, 35),
     (on && decide (r.plen < 24 + 4 * m + (ls.map up4).sum), .badParam, 6)]
      ++ (List.range m).map fun i => (on && decide (reqField r (36 + 4 * i) 8 2 = 3), .badParam, 37 + 4 * i)
  act r k s :=
    let i := reqSub r
    let on := reqBit r 12 0
    let m := reqField r 32 0 7
    let b := reqBytes r (36 + 4 * m)
    let l0 := reqField r 32 8 8
    let l1 := reqField r 32 16 8
    let s := s.setRegs
      [(Reg.GPUB_CTRL k i, if on then packWord [(0, 3, reqField r 12 0 3), (16, 7, m)] else 0), (Reg.GPUB_STNUM k i, 0), (Reg.GPUB_SQNUM k i, 0)]
    .ok (s.setPub k i (if on then
        { tag := if reqBit r 12 3 then beBytes 2 0x8100 ++ beBytes 2 (reqField r 12 4 3 * 8192 + reqField r 12 16 12) else [],
          mac := macWords (reqWord r 16) (reqWord r 20), appid := reqField r 20 16 16, confRev := (reqWord r 24).toNat,
          tMin := reqField r 28 0 8, t0 := reqField r 28 16 16,
          members := (List.range m).map fun j => (reqField r (36 + 4 * j) 0 8, reqField r (36 + 4 * j) 8 2),
          gocbRef := b.take l0, datSet := slice b (up4 l0) l1, goId := slice b (up4 l0 + up4 l1) (reqField r 32 24 8) }
      else {})) []

def execGoosePublishSet (r : Req) (s : State) : Result := onCommand cmdGoosePublishSet r s

def cmdHidSnoopSet : Cmd where
  opcode := 0x0B05
  domain := fun _ => 2
  minLen := 8
  bad r _ _ := [badSub r 8, (decide (reqField r 16 16 6 < 1) || decide (32 < reqField r 16 16 6), .badParam, 18)]
  act r k s :=
    let f := reqSub r
    .checked [((s.hub k).form != 2, .wrongState, 0x89)] s
      (let s := s.setRegs [(Reg.HID_FIELD_A k f, reqWord r 12 &&& 0x0001FFF7), (Reg.HID_FIELD_B k f, reqWord r 16 &&& 0x003F01FF)]
       .ok (if s.hidDead k f then s.sigsInvalid k (s.sigsFrom k fun kind w => kind == 4 && fld w 0 3 == f) else s) [])

def execHidSnoopSet (r : Req) (s : State) : Result := onCommand cmdHidSnoopSet r s

/-! ### Check units and seals -/

/-- The scan that runs on a kernel (R370), and on one unit. -/
def State.scanJob (s : State) (k : Nat) : Option Job := s.findRunning fun j => j.opcode == 0x0B07 && j.kernel == k
def State.unitScan (s : State) (k u : Nat) : Option Job := (s.scanJob k).filter fun j => (j.args.getD 0 0).toNat == u

/-- FEED may change to or from 3 only while the skein is idle (R373): unit 2 guards skein 3 and unit 3 skein 4. -/
def State.feedLocked (s : State) (k u feed : Nat) : Bool :=
  let old := s.rf (Reg.CHK_CFG k u) 12 2
  old != feed && (old == 3 || feed == 3) && s.skeinBusy k (u + 1)

/-- The configuration of a unit written: STATE is loaded, with INIT unless a value is given (R368). -/
def State.setUnit (s : State) (k u : Nat) (cfg poly init xorout : Word) (st : Option Word) : State :=
  let a := Reg.CHK_CFG k u
  let s := s.setRegs [(a, (cfg &&& 0x0000F33F) ||| (s.reg a &&& 0x00010000)), (Reg.CHK_POLY k u, poly), (Reg.CHK_INIT k u, init),
    (Reg.CHK_XOROUT k u, xorout)]
  let s := match st with | some w => s.setReg (Reg.CHK_STATE k u) (setFld 0 0 (s.chkWidth k u) w.toNat) | none => s.chkInit k u
  s.chkLatch k u

def cmdCheckUnitSet : Cmd where
  opcode := 0x0B06
  domain := fun _ => 2
  minLen := 20
  bad r _ _ :=
    let w := reqField r 12 0 6
    let wide (off : Nat) : Bool := decide (2 ^ w ≤ (reqWord r off).toNat)
    [badSub r 4, (decide (w < 1) || decide (32 < w), .badParam, 12), (decide (reqField r 12 12 2 = 3) && decide (reqSub r < 2), .badParam, 13),
     (wide 16, .badParam, 16), (wide 20, .badParam, 20), (wide 24, .badParam, 24)]
  act r k s :=
    let u := reqSub r
    .checked [heldBy (s.unitScan k u), (s.feedLocked k u (reqField r 12 12 2), .wrongState, 0x41 + u)] s
      (.ok (s.setUnit k u (reqWord r 12) (reqWord r 16) (reqWord r 20) (reqWord r 24) (if reqBit r 12 16 then some (reqWord r 28) else none))
        [s.reg (Reg.CHK_STATE k u)])

def execCheckUnitSet (r : Req) (s : State) : Result := onCommand cmdCheckUnitSet r s

def cmdCheckScan : Cmd where
  opcode := 0x0B07
  domain := fun _ => 2
  minLen := 12
  bad r k s :=
    let i := reqField r 12 0 3
    let size := (s.reg (Reg.SKEIN_SIZE k i)).toNat
    let off := (reqWord r 16).toNat
    let len := (reqWord r 20).toNat
    [badSub r 4, (!([1, 3, 4, 5].contains i), .badParam, 12), (decide (size ≤ off), .badParam, 16),
     (decide (len < 1) || decide (size < off + len), .badParam, 20)]
  act r k s :=
    let u := reqSub r
    let feed := s.rf (Reg.CHK_CFG k u) 12 2
    let n := ceilDiv (reqWord r 20).toNat 1048576
    .checked [heldBy (s.scanJob k), (feed == 3, .wrongState, 0xB2), (feed != 2, .wrongState, 0xB3), jobLimit s] s
      (let s' := if reqBit r 12 8 then s else (s.chkInit k u).chkLatch k u
       .accepted s.newJobNum (s'.startJob 0x0B07 r k n [word u, reqWord r 20]) [word n])

def execCheckScan (r : Req) (s : State) : Result := onCommand cmdCheckScan r s

/-- One MiB of a scan: the bytes of the stores are not part of the state, so STATE becomes an open value of WIDTH bits. -/
def execScanStep (k : Nat) (s : State) : Result :=
  onUnit s (s.hasKernel k)
    (match s.scanJob k with
     | none => s
     | some j =>
       let u := (j.args.getD 0 0).toNat
       let len := (j.args.getD 1 0).toNat
       let f := s.fresh
       let s := (f.2.setReg (Reg.CHK_STATE k u) (setFld 0 0 (s.chkWidth k u) f.1.toNat)).chkLatch k u
       (s.bump (Reg.CHK_BYTES k u) (min 1048576 (len - (j.step - 1) * 1048576))).nextStep j.num)

def cmdSealSet : Cmd where
  opcode := 0x0B08
  domain := fun _ => 2
  minLen := 8
  bad r _ _ :=
    let t := (reqWord r 12).toNat
    [(decide (t < 8) || decide (511 < t), .badParam, 12), (decide (reqField r 16 1 2 = 3), .badParam, 16)]
  act r k s :=
    let t := (reqWord r 12).toNat
    let act' (s : State) : State := s.setRf (Reg.SEAL_ACT k (t / 16)) (2 * (t % 16)) 2 (reqField r 16 1 2)
    if reqBit r 16 3 then .ok (act' s) []
    else .checked [(s.tunState k t != 0, .wrongState, 0x20 + s.tunState k t)] s (.ok (act' (s.setRb (Reg.TUN_OPTS k t) 4 (reqBit r 16 0))) [])

def execSealSet (r : Req) (s : State) : Result := onCommand cmdSealSet r s

/-! ### GOOSE frames (R356 to R359) -/

/-- The signals that take a subscription. -/
def State.subSignals (s : State) (k i : Nat) : List Nat := s.sigsFrom k fun kind w => kind == 1 && fld w 0 4 == i

/-- The quality and the time that an update of a signal carries (R350, R351). -/
def State.gooseMeta (s : State) (m : GooseMsg) (w : Word) : Nat × Nat :=
  let q := if bitAt w 16 then ((m.members[fld w 10 6]?).filter fun v => v.1 == 3).elim 0 (fun v => v.2 % 8192) else 0
  let t := if bitAt w 23 then ((m.members[fld w 17 6]?).filter fun v => v.1 == 4).elim s.tai (fun v => ((v.2 : Int) + s.utcOffset * 1000000000).toNat)
    else s.tai
  (q, t)

/-- One member of an accepted frame applied to the signals that take it as their value. -/
def State.gooseApply (s : State) (k i : Nat) (m : GooseMsg) (j : Nat) : State :=
  match m.members[j]? with
  | none => s
  | some v =>
    if 2 < v.1 then s
    else
      ((s.subSignals k i).filter fun g => s.rf (Reg.SMAP_SRC k g) 4 6 == j).foldl (fun s g =>
        let x := s.gooseMeta m (s.reg (Reg.SMAP_SRC k g))
        s.sigUpdate k g v.1 (word v.2) x.1 x.2) s

/-- A frame whose APPID a subscription has (R356). -/
def State.gooseRx (s : State) (k i : Nat) (m : GooseMsg) : State :=
  let x := (s.mapper k).sub i
  let st := s.reg (Reg.GSUB_STNUM k i)
  let sq := s.reg (Reg.GSUB_SQNUM k i)
  if m.gocbRef ≠ x.gocbRef then s
  else if m.simulation then s.bump (Reg.GSUB_IGNORED k i) 1
  else if m.confRev ≠ x.confRev ∨ m.members.map (·.1) ≠ x.types then
    let s := s.sigsInvalid k (s.subSignals k i)
    if x.badRev = some m.confRev then s
    else (s.setSub k i { x with badRev := some m.confRev }).log k Ev.gooseConfrev (s.rf (Reg.GSUB_CTRL k i) 1 1) [i, m.confRev]
  else if x.got ∧ word m.stNum = st ∧ word m.sqNum = sq then s
  else
    let s := if x.got ∧ word m.stNum = st ∧ sq.toNat + 1 < m.sqNum then s.bump (Reg.GSUB_SQ_GAPS k i) 1 else s
    let s := (s.setRegs [(Reg.GSUB_STNUM k i, word m.stNum), (Reg.GSUB_SQNUM k i, word m.sqNum)]).setRb (Reg.GSUB_CTRL k i) 31 false
    let s := s.setSub k i { x with got := true, talEnd := some (s.now + m.tal * 1000000) }
    ((List.range m.members.length).foldl (fun s j => s.gooseApply k i m j) s).pipFlush k

/-- A GOOSE frame copied to the mapper from port e, or from the pair (R321). -/
def execGooseFrame (k e : Nat) (msg : GooseMsg) (s : State) : Result :=
  onUnit s (s.hasKernel k && decide (e < 2))
    (((List.range 16).filter fun i =>
        s.rb (Reg.GSUB_CTRL k i) 0 && s.rf (Reg.GSUB_CTRL k i) 1 2 == (if s.paired k then 2 else e)
          && s.reg (Reg.GSUB_APPID k i) == word (msg.appid % 65536)).foldl
      (fun s i => s.gooseRx k i msg) s)

/-- timeAllowedToLive ends with no further frame (R357). -/
def execGooseTalExpiry (k sub : Nat) (s : State) : Result :=
  let x := (s.mapper k).sub sub
  onUnit s (s.hasKernel k && decide (sub < 16))
    (if x.talEnd.isSome then
       let s := (s.setSub k sub { x with talEnd := none }).setRb (Reg.GSUB_CTRL k sub) 31 true
       let s := (s.bump (Reg.GSUB_TAL_EXP k sub) 1).sigsInvalid k (s.subSignals k sub)
       s.log k Ev.gooseTimeout (s.rf (Reg.GSUB_CTRL k sub) 1 1) [sub, s.rf (Reg.GSUB_APPID k sub) 0 16]
     else s)

/-- The 250 µs of a new state end: the changes gathered become one further state (R358). -/
def execGooseGatherEnd (k pub : Nat) (s : State) : Result :=
  onUnit s (s.hasKernel k && decide (pub < 4))
    (match ((s.mapper k).pub pub).gather with | some t => s.gooseNew k pub t | none => s)

/-- The interval to the next transmission ends (R359): sqNum rises and the interval doubles up to T0. -/
def execGooseRetransmit (k pub : Nat) (s : State) : Result :=
  let x := (s.mapper k).pub pub
  onUnit s (s.hasKernel k && decide (pub < 4))
    (if s.rb (Reg.GPUB_CTRL k pub) 0 ∧ x.newAt.isSome then
       let s := s.setReg (Reg.GPUB_SQNUM k pub) (s.reg (Reg.GPUB_SQNUM k pub) + 1)
       (s.setPub k pub { x with interval := min (2 * x.interval) x.t0 }).gooseSend k pub
     else s)

/-! ### GPIO and HID -/

/-- An input level has held for DEBOUNCE and is accepted; `stamp` is the TAI time of its first edge (R351, R360). -/
def execGpioDebounce (k g : Nat) (level : Bool) (stamp : Nat) (s : State) : Result :=
  onUnit s (s.hasKernel k && decide (g < 16))
    (if s.rf (Reg.GPIO_CFG k g) 0 2 = 1 ∨ s.rf (Reg.GPIO_CFG k g) 0 2 = 2 then s
     else
       let s := (s.setRb (Reg.GPIO_IN k) g level).setRb (Reg.GPIO_RAW k) g level
       ((s.sigsFrom k fun kind w => kind == 3 && fld w 0 4 == g).foldl
         (fun s h => s.sigUpdate k h 0 (word level.toNat) 0 stamp) s).pipFlush k)

/-- A field of n bits from bit `off` of a report, as the word it updates a signal with. -/
def hidField (b : List Byte) (off n : Nat) (signed : Bool) : Word :=
  let bit (i : Nat) : Bool := (b.getD ((off + i) / 8) 0).getLsbD ((off + i) % 8)
  word (maskOf 32 fun i => if i < n then bit i else signed && bit (n - 1))

/-- A snooped report of port p, 1 to 4, and endpoint ep (R361). -/
def execHidReport (k p ep : Nat) (data : List Byte) (s : State) : Result :=
  onUnit s (s.hasKernel k && decide (1 ≤ p) && decide (p ≤ 4))
    (((List.range 8).foldl (fun s f =>
      let a := s.reg (Reg.HID_FIELD_A k f)
      let off := s.rf (Reg.HID_FIELD_B k f) 0 9
      let n := s.rf (Reg.HID_FIELD_B k f) 16 6
      let id := fld a 8 8
      let b := if id = 0 then data else data.drop 1
      if bitAt a 0 ∧ fld a 1 2 + 1 = p ∧ fld a 4 4 = ep ∧ (id = 0 ∨ (data ≠ [] ∧ byteAt data 0 = id)) ∧ off + n ≤ 8 * b.length ∧ !s.hidDead k f then
        (s.sigsFrom k fun kind w => kind == 4 && fld w 0 3 == f).foldl
          (fun s g => s.sigUpdate k g (if n = 1 then 0 else 1) (hidField b off n (bitAt a 16)) 0 s.tai) s
      else s) s).pipFlush k)

/-! ### Pip frames (R363 to R366) -/

/-- A correct CRC and anything else wrong is a class 8 violation (R365). -/
def pipBad (b : List Byte) : Bool :=
  let w := bytesWords b
  let n := fld (w.getD 0 0) 24 4
  fld (w.getD 0 0) 0 16 != 0x0101 || n == 0 || decide (8 < n) || b.length != 8 + 16 * n
    || (List.range n).any fun i => fld (w.getD (1 + 4 * i) 0) 10 2 == 3

/-- The entries of an accepted frame. -/
def State.pipEntries (s : State) (k p : Nat) (w : List Word) : State :=
  ((List.range (fld (w.getD 0 0) 24 4)).foldl (fun s i =>
    let h := w.getD (1 + 4 * i) 0
    (s.sigsFrom k fun kind w => kind == 2 && fld w 0 2 == p && fld w 2 10 == fld h 0 10).foldl (fun s g =>
      let s := s.setSig k g { (s.mapper k).sig g with rxAt := some s.now }
      s.sigUpdate k g (fld h 10 2) (w.getD (2 + 4 * i) 0) (fld h 16 13) s.tai) s) s).pipFlush k

/-- EV_PIP_GAP, at most once per second and port. -/
def State.pipGap (s : State) (k p n : Nat) : State :=
  let s := s.bump (Reg.PIP_GAPS k p) n
  let x := s.port k p
  let quiet := match x.pipGapAt with | some a => decide (s.now < a + 1000000000) | none => false
  if quiet then s.setPort k p { x with pipGaps := x.pipGaps + n }
  else (s.setPort k p { x with pipGapAt := some s.now, pipGaps := 0 }).log k Ev.pipGap p [p, x.pipGaps + n]

def State.pipRxFrame (s : State) (k p : Nat) (b : List Byte) : State :=
  let x := s.port k p
  if x.pipFault then s
  else if !crcGood b then s.bump (Reg.PIP_CRC_ERR k p) 1
  else if pipBad b then
    (s.violation k p 8 (s.cellLabel k 5 p) (some (k, 5))).quarantineShared k 5 p 8
  else
    let w := bytesWords b
    let alive := fld (w.getD 0 0) 16 8
    let d := match x.pipRx with | some a => (alive + 256 - a) % 256 | none => 1
    if d = 0 ∨ 129 ≤ d then s.bump (Reg.PIP_REPEATS k p) 1
    else
      let s := s.setPort k p { x with pipRx := some alive }
      let s := if d = 1 then s else s.pipGap k p (d - 1)
      (s.bump (Reg.PIP_RX_FRAMES k p) 1).pipEntries k p w

/-- The oldest pip frame that waits on a port. -/
def execPipFrame (k p : Nat) (s : State) : Result :=
  onPort k p ([3, 4].contains (s.portState k p)) s
    (let c := s.ctxAt k 5 p
     match c.rxq with
     | [] => s
     | b :: l => (s.setCtxAt k 5 p { c with rxq := l }).pipRxFrame k p b.2)

/-- Signal g has a published value for a channel of port p that has not been sent for PIP_HEARTBEAT, in ms (R363). -/
def State.beatDue (s : State) (k p g : Nat) : Bool :=
  let x := (s.mapper k).sig g
  s.sigOn k g && s.rf (Reg.SMAP_CTRL k g) 12 2 == 1 && s.rf (Reg.SMAP_DST k g) 0 2 == p && x.pub.isSome
    && x.sentAt.all fun a => decide (a + s.rf (Reg.PIP_HEARTBEAT k) 0 14 * 1000000 ≤ s.now)

def execPipHeartbeat (k p : Nat) (s : State) : Result :=
  onPort k p (s.pipPort k p) s (s.pipSendAll 32 k p ((List.range 256).filter (s.beatDue k p)))

/-- No entry for a signal's channel within SMAP_TIMEOUT (R366). -/
def execPipTimeout (k g : Nat) (s : State) : Result :=
  let x := (s.mapper k).sig g
  onUnit s (s.hasKernel k && decide (g < 256))
    (if s.sigOn k g ∧ s.rf (Reg.SMAP_CTRL k g) 0 3 = 2 ∧ s.rf (Reg.SMAP_TIMEOUT k g) 0 16 ≠ 0 ∧ x.rxAt.isSome then
       ((s.setSig k g { x with rxAt := none }).sigsInvalid k [g]).log k Ev.pipTimeout g [g, s.rf (Reg.SMAP_SRC k g) 2 10]
     else s)

end Sys2Proof.Machine
end

