-- ==== Sys2Proof/Machine/Power.lean ====
section
/-! DEFINITION. The power path (R377 to R395): feed paths, the LOAD channel, warnings, and the meter. Voltages are in mV. -/

namespace Sys2Proof.Machine

def State.setPath (s : State) (x : PowerPath) : State := { s with path := x }

/-- The power path is unpowered: in Seed (R395), and without VAON (R459). -/
def State.inSeed (s : State) : Bool := s.part.seed || !s.part.vaon

/-! ### Feeds (R378 to R381) -/

def State.feedState (s : State) (f : Nat) : Nat := s.rf (Reg.FEED_STATUS f) 0 3
def State.feedMv (s : State) (f : Nat) : Nat := s.path.feedMv.getD f 0

/-- The feed has risen above UV + 0.5 V and not since fallen below UV. -/
def State.feedOk (s : State) (f : Nat) : Bool := s.path.feedOk.testBit f

/-- The conducting feeds, as mask. -/
def State.conducting (s : State) : Nat := maskOf 4 fun f => s.feedState f == 3

/-- FA or FB conducts into PANEL (R407). -/
def State.feedsSource (s : State) : Bool := s.feedState 0 == 3 || s.feedState 1 == 3

/-- The status of a feed, with PANEL_STATUS; a change of the conducting set is logged at most once per second (R379). -/
def State.setFeedState (s : State) (f st : Nat) (reverse : Bool) : State :=
  let old := s.conducting
  let s := s.setReg (Reg.FEED_STATUS f) (packWord [(0, 3, st), (8, 1, reverse.toNat)])
  let now := s.conducting
  if now = old then s
  else
    let s := s.setRf Reg.PANEL_STATUS 0 4 now
    let soon := match s.path.feedLog with | some a => decide (s.now < a + 1000000000) | none => false
    if soon then s.setPath { s.path with feedDue := true }
    else (s.setPath { s.path with feedLog := some s.now, feedDue := false }).logPower Ev.feedChange 7 [now]

/-- The status that follows from ENABLE and the voltage, of a feed that is not in Over or Fault (R378): a feed that becomes valid conducts
if it is above PANEL. -/
def State.evalFeed (s : State) (f : Nat) : State :=
  if s.inSeed then s
  else if !s.rb (Reg.FEED_CTRL f) 0 then s.setFeedState f 0 false
  else if !s.feedOk f then s.setFeedState f 1 false
  else if s.feedState f = 2 ∨ s.feedState f = 3 then s
  else if s.path.panel < s.feedMv f then s.setFeedState f 3 false else s.setFeedState f 2 true

/-- A new voltage at a feed, measured against its UV; Fault ends below UV (R380). -/
def State.feedVoltage (s : State) (f mv : Nat) : State :=
  let uv := s.rf (Reg.FEED_CTRL f) 4 10 * 100
  let ok := if uv + 500 < mv then true else if mv < uv then false else s.feedOk f
  let x := s.path
  let s := s.setPath { x with feedMv := x.feedMv.set f mv, feedOk := maskOf 4 fun i => if i = f then ok else x.feedOk.testBit i }
  if s.feedState f = 4 ∨ s.inSeed then s
  else if s.feedState f = 5 ∧ ok then s
  else s.evalFeed f

/-- ENABLE and UV of a feed written: ENABLE 0 ends Fault (R380). -/
def State.setFeed (s : State) (f : Nat) (w : Word) : State :=
  let s := s.setReg (Reg.FEED_CTRL f) (w &&& 0x3FF1)
  let uv := fld w 4 10 * 100
  let s := if s.feedMv f < uv then s.setPath { s.path with feedOk := maskOf 4 fun i => i != f && s.path.feedOk.testBit i } else s
  if s.feedState f = 4 ∨ (s.feedState f = 5 ∧ bitAt w 0) then s else s.evalFeed f

/-! ### LOAD (R382 to R388) -/

def State.loadState (s : State) : Nat := s.rf Reg.LOAD_STATUS 0 3
def State.loadEn (s : State) : Bool := s.rb Reg.LOAD_STATUS 3
def State.swEn (s : State) : Bool := s.rb Reg.LOAD_CTRL 0
def State.dropMv (s : State) : Nat := s.rf Reg.PWR_WARN 16 10 * 100
def State.warnMv (s : State) : Nat := s.rf Reg.PWR_WARN 0 10 * 100
def State.hystMv (s : State) : Nat := s.rf Reg.PWR_HOLD 0 6 * 100

/-- SW_EN and its copy in LOAD_STATUS. -/
def State.setSwEn (s : State) (b : Bool) : State := (s.setRb Reg.LOAD_CTRL 0 b).setRb Reg.LOAD_STATUS 4 b

/-- The gate off in a state: LOAD_PG low, the counters of the curve 0, no delay (R385, R390). -/
def State.loadGateOff (s : State) (st : Nat) : State :=
  let s := ((s.setRf Reg.LOAD_STATUS 0 3 st).setRb Reg.LOAD_STATUS 5 false).setRb Reg.LOAD_STATUS 7 false
  s.setRegs ((List.range 8).map fun k => (Reg.BRK_ACC k, 0))

/-- A ramp begins (R383): ILIM and TIMER apply from here on (R388), and the energy restarts at 0 (R384). -/
def State.startRamp (s : State) : State :=
  ((s.setRf Reg.LOAD_STATUS 0 3 1).setReg Reg.LOAD_FET_ENERGY 0).setPath { s.path with inrush := s.reg Reg.LOAD_INRUSH }

/-- LOAD leaves Off where LOAD_EN, SW_EN and PANEL allow it (R382). -/
def State.tryRamp (s : State) : State :=
  if s.loadState = 0 ∧ s.loadEn ∧ s.swEn ∧ s.dropMv < s.path.panel ∧ !s.inSeed then s.startRamp else s

/-- The standing trip cleared: LOAD is Off. -/
def State.clearTrip (s : State) : State :=
  if s.loadState = 4 then (s.setRf Reg.LOAD_STATUS 0 3 0).setRf Reg.LOAD_STATUS 8 7 0 else s

/-- EV_LOAD_TRIP logged from LOAD_LAST_TRIP; LOGGED shows it (R387). -/
def State.logTrip (s : State) (ma mv : Nat) : State :=
  if s.leadUp then
    (s.setRb Reg.LOAD_LAST_TRIP 7 true).logTo s.lead 0 Ev.loadTrip 2 [] 0 [s.rf Reg.LOAD_LAST_TRIP 0 4, s.rf Reg.LOAD_LAST_TRIP 4 3, ma, mv]
  else s

/-- A trip: cause 1 TIMER, 2 SOA, 3 CURVE, 4 SHORT, with the current in mA and the LOAD voltage (R387). -/
def State.tripLoad (s : State) (cause point ma mv : Nat) : State :=
  let s := ((s.loadGateOff 4).setRf Reg.LOAD_STATUS 8 4 cause).setRf Reg.LOAD_STATUS 12 3 point
  let s := s.bump Reg.LOAD_TRIPS 1
  (s.setReg Reg.LOAD_LAST_TRIP (packWord [(0, 4, cause), (4, 3, point), (16, 16, ma / 10)])).logTrip ma mv

/-- SHORT in 10 mA from MULT and I_7 (R386), kept in LOAD_SHORT. -/
def State.syncShort (s : State) : State :=
  s.setRf Reg.LOAD_SHORT 16 16 (min (s.rf Reg.LOAD_SHORT 0 4 * s.rf (Reg.BRK_I 7) 0 12 / 4) 4000)

/-- LOAD turned on by software (R387, R396). -/
def State.loadEnable (s : State) : State := ((s.setSwEn true).setRb Reg.LOAD_STATUS 7 false).tryRamp

/-- LOAD turned off by software after a delay in ms: the latch clears at once. -/
def State.loadDisable (s : State) (delay : Nat) : State :=
  let s := (s.setSwEn false).clearTrip
  if s.loadState = 0 then s
  else if delay = 0 ∨ s.loadState = 3 then s.loadGateOff 0
  else s.setRb Reg.LOAD_STATUS 7 true

/-! ### Warnings (R389 to R391) -/

/-- PFW_N low or released, with WARN of PANEL_STATUS. -/
def State.setPfw (s : State) (b : Bool) : State := (s.setRb Reg.LOAD_STATUS 6 b).setRb Reg.PANEL_STATUS 4 b

def State.pfw (s : State) : Bool := s.rb Reg.LOAD_STATUS 6

/-- PANEL measured. -/
def State.setPanel (s : State) (mv : Nat) : State :=
  let x := s.path
  s.setPath { x with panel := mv, dipLow := if s.pfw then min x.dipLow mv else x.dipLow }

/-- A warning starts: a dip, until PANEL reaches DROP. -/
def State.startWarn (s : State) : State :=
  let x := s.path
  let s := s.setPath { x with warnAt := s.now, dipLow := x.panel, dipDur := none, dropped := false, rising := false }
  ((s.setPfw true).setRb Reg.PANEL_STATUS 5 true).logPower Ev.panelWarn 7 [s.warnMv, x.panel]

/-- The warning ends. -/
def State.endWarn (s : State) : State :=
  ((s.setPfw false).setRb Reg.PANEL_STATUS 5 false).setPath { s.path with dipDur := none, dropped := false, rising := false }

/-- PANEL below WARN: a warning starts, or the one that stands goes on and HOLD stops (R391). -/
def State.panelBelowWarn (s : State) : State :=
  if !s.pfw then s.startWarn else s.setPath { s.path with dipDur := none }

/-! ### Meter (R393, R394) -/

/-- One converter step is 1.25 mV or 1.25 mA. -/
def codeMilli (c : Int) : Int := c * 5 / 4

/-- Energy in mJ of a count in 156.25 pJ. -/
def energyMj (e : Int) : Int := e / 6400000

/-- Samples of the averaging window (R393): 2^N, N at most 12. -/
def State.window (s : State) : Nat := 2 ^ min (s.rf Reg.MTR_AVG 0 4) 12

/-- The registers of a channel from the latest sample and what the meter has accumulated. -/
def State.showChannel (s : State) (c : Nat) : State :=
  let x := s.path
  let w : List (Nat × Int) := (x.samples.take s.window).map fun l => l.getD c (0, 0)
  let v := w.headD (0, 0)
  let n : Int := max 1 w.length
  let i := if c = 5 then 0 else v.2
  let e := BitVec.ofInt 64 (energyMj (x.energy.getD c 0))
  s.setRegs
    [(Reg.MTR_V c, BitVec.ofInt 32 (codeMilli v.1)), (Reg.MTR_I c, BitVec.ofInt 32 (codeMilli i)),
     (Reg.MTR_P c, BitVec.ofInt 32 (v.1 * i * 25 / 16000)),
     (Reg.MTR_VAVG c, BitVec.ofInt 32 ((w.map fun u => (u.1 : Int)).sum * 5 / (4 * n))),
     (Reg.MTR_IAVG c, if c = 5 then 0 else BitVec.ofInt 32 ((w.map (·.2)).sum * 5 / (4 * n))),
     (Reg.MTR_E_LO c, e.setWidth 32), (Reg.MTR_E_HI c, e.extractLsb' 32 32),
     (Reg.MTR_VMIN c, BitVec.ofInt 32 (codeMilli (((x.vmin.getD c none).getD 0 : Nat) : Int))),
     (Reg.MTR_IMAX c, if c = 5 then 0 else BitVec.ofInt 32 (codeMilli ((x.imax.getD c none).getD 0)))]

/-- Every channel, unless HOLD freezes them. -/
def State.showMeter (s : State) : State :=
  if s.rb Reg.MTR_SNAP 0 then s else (List.range 6).foldl (fun s c => s.showChannel c) s

/-- MTR_SNAP.HOLD written (R393). -/
def State.setHold (s : State) (b : Bool) : State :=
  if b then s.setRb Reg.MTR_SNAP 0 true else (s.setRb Reg.MTR_SNAP 0 false).showMeter

/-- A sample: voltage and current codes of the six channels. -/
def State.meterSample (s : State) (l : List (Nat × Int)) : State :=
  let x := s.path
  let at' (c : Nat) : Nat × Int := l.getD c (0, 0)
  s.setPath { x with
    samples := (l :: x.samples).take 4096
    energy := (List.range 5).map fun c => x.energy.getD c 0 + (at' c).1 * (at' c).2
    vmin := (List.range 6).map fun c => some (match x.vmin.getD c none with | some v => min v (at' c).1 | none => (at' c).1)
    imax := (List.range 6).map fun c => some (match x.imax.getD c none with | some i => max i (at' c).2 | none => (at' c).2) }

/-- The breaker curve at a sample (R385): counters move by 0.1 ms, and the highest point that has reached its time trips. -/
def State.curveSample (s : State) (i : Int) (v : Nat) : State :=
  if s.loadState = 1 ∨ s.loadState = 2 then
    let s := s.setRegs ((List.range 8).map fun k =>
      let c := (s.reg (Reg.BRK_ACC k)).toNat
      (Reg.BRK_ACC k, word (if 8 * (s.rf (Reg.BRK_I k) 0 12 : Int) < i then min (c + 1) (2 ^ 23 - 1) else c - 1)))
    match (List.range 8).reverse.find? fun k => decide (s.rf (Reg.BRK_T k) 0 23 ≤ (s.reg (Reg.BRK_ACC k)).toNat) with
    | some k => s.tripLoad 3 k (codeMilli i).toNat (codeMilli v).toNat
    | none => s
  else s

end Sys2Proof.Machine
end

