-- ==== Sys2Proof/Machine/Pd.lean ====
section
/-! DEFINITION. The Hooks (R398 to R415): Type-C roles, contracts, capabilities and their budget, fast role swap, policy images, and the
Alavin alternate mode. Capability objects have the formats of USB PD (PRESUMED, log entry 32). Voltages count in 20 mV, currents in 10 mA
and powers in 10 mW. -/

namespace Sys2Proof.Machine

def State.hook (s : State) (h : Nat) : Hook := smapGet (fun _ => {}) s.hooks h

def State.setHook (s : State) (h : Nat) (x : Hook) : State := { s with hooks := smapPut (fun _ => {}) s.hooks h x }

/-- Messages of a Hook. -/
def State.pdSend (s : State) (h : Nat) (ms : List PdMsg) : State := let x := s.hook h; s.setHook h { x with out := x.out ++ ms }

/-! ### Status words -/

def State.pdState (s : State) (h : Nat) : Nat := s.rf (Reg.PDC_STATUS h) 0 4
def State.pdSource (s : State) (h : Nat) : Bool := s.rb (Reg.PDC_STATUS h) 4

/-- An explicit sink contract, under an image or under the ROM policy (Table 13.4). -/
def State.sinkExplicit (s : State) (h : Nat) : Bool := [4, 8].contains (s.pdState h)

/-- The policy state; an explicit sink contract under the ROM policy shows 0x00D8. -/
def State.setPd (s : State) (h st : Nat) : State := s.setRf (Reg.PDC_STATUS h) 0 4 (if st = 4 ∧ (s.hook h).image = 0 then 8 else st)

def State.setVbus (s : State) (h v : Nat) : State := s.setRf (Reg.VBUS_STATUS h) 16 16 v

/-- An event of a Hook: index 5 or 6 (Table 13.11). -/
def State.logPd (s : State) (h : Nat) (d : EvDef) (ps : List Nat) : State := s.logPower d (5 + h) ps

/-! ### Capability objects -/

/-- Kind of an object: 0 fixed, 1 PPS, 3 EPR AVS; 4 any other. -/
def pdoKind (w : Word) : Nat := if fld w 30 2 = 0 then 0 else if fld w 30 2 = 3 ∧ fld w 28 2 = 0 then 1 else if fld w 30 2 = 3 ∧ fld w 28 2 = 1 then 3 else 4

/-- The least and the greatest voltage, and the greatest current at a voltage. -/
def pdoMin (w : Word) : Nat := if pdoKind w = 0 then fld w 10 10 * 5 / 2 else fld w 8 8 * 5
def pdoMax (w : Word) : Nat := if pdoKind w = 0 then fld w 10 10 * 5 / 2 else if pdoKind w = 1 then fld w 17 8 * 5 else fld w 17 9 * 5
def pdoAmps (w : Word) (v : Nat) : Nat :=
  if pdoKind w = 0 then fld w 0 10 else if pdoKind w = 1 then fld w 0 7 * 5 else min 500 (fld w 0 8 * 5000 / max 1 v)

/-- The greatest power of an object. -/
def pdoPower (w : Word) : Nat := pdoMax w * pdoAmps w (pdoMax w) / 50

/-- PDC_CONTRACT.type of an object: EPR objects stand from index 7 on. -/
def contractType (i : Nat) (w : Word) : Nat := if pdoKind w = 0 ∧ 7 ≤ i then 2 else pdoKind w % 4

/-- PDC_CONTRACT and PDC_CONTRACT_VI of a contract, without EXPLICIT. -/
def contractWords (i : Nat) (w : Word) (v a : Nat) : Word × Word :=
  (packWord [(0, 3, if 7 ≤ i then i - 7 else i), (3, 2, contractType i w), (16, 16, v * a / 50)], packWord [(0, 16, v), (16, 16, a)])

/-- The limits of the cable (R405): current and voltage. -/
def State.cableAmps (s : State) (h : Nat) : Nat := if s.rb (Reg.PDC_CABLE h) 4 ∧ s.rf (Reg.PDC_CABLE h) 6 2 = 1 then 500 else 300
def State.cableVolts (s : State) (h : Nat) : Nat := if s.rb (Reg.PDC_CABLE h) 4 then s.rf (Reg.PDC_CABLE h) 8 8 * 50 else 1000

/-! ### Sink (R401, R406) -/

/-- The offered object of index i. -/
def State.partnerPdo (s : State) (h i : Nat) : Word := s.reg (Reg.PDC_PARTNER_PDO h i)

/-- The best of the offered fixed objects that qualify: highest power, the first on a tie. -/
def State.bestPdo (s : State) (h : Nat) (ok : Nat → Word → Bool) : Option Nat :=
  ((List.range 11).filter fun i => s.partnerPdo h i != 0 && pdoKind (s.partnerPdo h i) == 0 && ok i (s.partnerPdo h i)).foldl
    (fun best i =>
      match best with
      | none => some i
      | some b => if pdoPower (s.partnerPdo h b) < pdoPower (s.partnerPdo h i) then some i else best) none

/-- SNK_VMAX of the power-path section for the ROM policy, 20 V without one. -/
def State.romVmax (s : State) (h : Nat) : Nat :=
  match s.images.powerPath[24 + h]? with | some w => fld w 0 16 | none => 1000

/-- The Request of a sink (R401, R406): index, voltage, current and Capability Mismatch. The lowest current that it needs is open. -/
def State.sinkChoice (s : State) (h : Nat) : (Nat × Nat × Nat × Bool) × State :=
  let x := s.hook h
  let none' : (Nat × Nat × Nat × Bool) × State := ((0, 250, (s.fresh.1.toNat % 301), true), s.fresh.2)
  let ask (i : Nat) (a : Nat) : (Nat × Nat × Nat × Bool) × State :=
    ((i, pdoMax (s.partnerPdo h i), min a (s.cableAmps h), false), s)
  if x.image = 0 then
    match s.bestPdo h fun i w => decide (i < 7) && decide (pdoMax w ≤ s.romVmax h) && decide (fld w 0 10 ≤ s.cableAmps h) with
    | some i => ask i (fld (s.partnerPdo h i) 0 10)
    | none => none'
  else
    match x.named with
    | some (i, v, a) => ((i, v, a, false), s)
    | none =>
      match s.bestPdo h fun i w => decide (x.vmin ≤ pdoMax w) && decide (pdoMax w ≤ x.vmax) && decide (x.pmin * 25 ≤ pdoPower w)
          && decide (pdoMax w ≤ s.cableVolts h) && (decide (i < 7) || (x.epr && s.rb (Reg.PDC_CABLE h) 5)) with
      | some i => ask i (min (fld (s.partnerPdo h i) 0 10) x.imax)
      | none => none'

/-- A Request sent: the contract it asks for waits. -/
def State.sendRequest (s : State) (h : Nat) : State :=
  let c := s.sinkChoice h
  let s := (c.2).setHook h { c.2.hook h with pend := some (contractWords c.1.1 (s.partnerPdo h c.1.1) c.1.2.1 c.1.2.2.1) }
  s.pdSend h [.request c.1.1 c.1.2.1 c.1.2.2.1 c.1.2.2.2]

/-- The sink path joins PANEL or opens (R381). -/
def State.sinkPath (s : State) (h : Nat) (on : Bool) : State :=
  let f := 2 + h
  let s := (s.setRb (Reg.VBUS_STATUS h) 0 on).setRb (Reg.FEED_CTRL f) 0 on
  let s := if s.feedState f = 5 then s.setFeedState f 0 false else s
  s.evalFeed f

/-! ### Source (R407, R408) -/

/-- Contracted source power of a port. -/
def State.sourcePower (s : State) (h : Nat) : Nat := if s.pdSource h ∧ s.rb (Reg.PDC_CONTRACT h) 5 then s.rf (Reg.PDC_CONTRACT h) 16 16 else 0

/-- HOOK_BUDGET (Table 13.14). -/
def State.syncBudget (s : State) : State := s.setRf Reg.HOOK_BUDGET 0 16 (s.sourcePower 0 + s.sourcePower 1)

/-- An object with its current held to a power and to the cable (R405, R408): reduced in 50 mA steps. -/
def capPdo (p amps : Nat) (w : Word) : Word :=
  if pdoKind w = 0 then
    let most := p * 50 / max 1 (pdoMax w)
    let a := fld w 0 10
    let a := if most < a then most / 5 * 5 else a
    setFld w 0 10 (min a amps)
  else setFld w 0 7 (min (fld w 0 7) (min (p * 2 / max 1 (fld w 17 8)) (amps / 5)))

/-- The capabilities that a source offers now. -/
def State.offerOf (s : State) (h : Nat) : List Word :=
  if s.feedsSource then
    (((List.range 7).map fun i => s.reg (Reg.PDC_SRC_PDO h i)).filter fun w => w != 0).map
      (capPdo (min 6000 (10000 - s.sourcePower (1 - h))) (s.cableAmps h))
  else [packWord [(0, 10, 50), (10, 10, 100)]]

def State.sendCaps (s : State) (h : Nat) : State :=
  let l := s.offerOf h
  (s.setHook h { s.hook h with offer := l }).pdSend h [.sourceCaps l]

/-- An attached source whose Hook runs. -/
def State.isSource (s : State) (h : Nat) : Bool := s.pdSource h && [3, 5].contains (s.pdState h) && !s.hooksDown.contains h

/-- New capabilities on every source port whose offer has changed. -/
def State.recaps (s : State) : State :=
  [0, 1].foldl (fun s h => if s.isSource h && s.offerOf h != (s.hook h).offer then s.sendCaps h else s) s

/-- The converter on at a set point, or off with VBUS discharged (Table 13.12). -/
def State.sourceOn (s : State) (h v a : Nat) : State :=
  ((s.setReg (Reg.VBUS_SRC_SET h) (packWord [(0, 16, v), (16, 16, a)])).setRb (Reg.VBUS_STATUS h) 1 true).setRb (Reg.VBUS_STATUS h) 2 false

def State.sourceOff (s : State) (h : Nat) : State :=
  if s.rb (Reg.VBUS_STATUS h) 1 then
    ((s.setReg (Reg.VBUS_SRC_SET h) 0).setRb (Reg.VBUS_STATUS h) 1 false).setRb (Reg.VBUS_STATUS h) 2 true
  else s

/-! ### Contracts -/

/-- A PD_SINK_REQUEST answered. -/
def State.answerAsk (s : State) (h : Nat) (st : Status) (detail : Nat) (data : List Word) : State :=
  match (s.hook h).ask with
  | none => s
  | some r => (s.setHook h { s.hook h with ask := none }).deliver r.via r.slot (replyPacket 0x0D04 r st detail data)

/-- The contract in force is discarded, with whatever was asked for. -/
def State.dropContract (s : State) (h : Nat) : State :=
  let s := s.answerAsk h .partnerTimeout 1 []
  let s := (s.setReg (Reg.PDC_CONTRACT h) 0).setReg (Reg.PDC_CONTRACT_VI h) 0
  (s.setHook h { s.hook h with pend := none, keepDue := false, modeWait := false }).syncBudget

/-- The contract that was asked for takes effect. -/
def State.takeContract (s : State) (h role : Nat) : State :=
  match (s.hook h).pend with
  | none => s
  | some c =>
    let v := fld c.2 0 16
    let s := (s.setReg (Reg.PDC_CONTRACT h) (setBit c.1 5 true)).setReg (Reg.PDC_CONTRACT_VI h) c.2
    let s := ((s.setHook h { s.hook h with pend := none }).setVbus h v).syncBudget
    s.logPd h Ev.pdContract [role, v * 20, fld c.2 16 16 * 10]

/-! ### Policy images (R401, R414, R415) -/

/-- The running tables reloaded from an image; what an image's body holds is open. -/
def State.loadTables (s : State) (h : Nat) : State :=
  let f (i : Nat) : Nat := (Config.freeWord (s.free + i)).toNat
  let s := { s with free := s.free + 24 }
  let s := s.setRegs
    ([(Reg.PDC_CTRL h, packWord [(0, 3, f 0 % 5), (4, 2, f 1), (8, 3, f 2)]),
      (Reg.PDC_KEEPALIVE h, packWord [(0, 4, 1 + f 3 % 9), (16, 5, 10 + f 4 % 11)])]
     ++ ((List.range 7).map fun i => (Reg.PDC_SRC_PDO h i, word (f (5 + i)))) ++ (List.range 7).map fun i => (Reg.PDC_SNK_PDO h i, word (f (12 + i))))
  s.setHook h { s.hook h with vmin := f 19 % 65536, vmax := f 20 % 65536, imax := f 21 % 1024, pmin := f 22 % 1024,
                              epr := decide (f 23 % 2 = 1), ufpSwap := decide (f 23 / 2 % 2 = 1) }

/-- The newest valid image: 1 slot A, 2 slot B, 0 none. -/
def State.bestImage (s : State) : Nat :=
  let a := (s.reg Reg.HOOK_VER_A).toNat
  let b := (s.reg Reg.HOOK_VER_B).toNat
  if a = 0 ∧ b = 0 then 0 else if a < b then 2 else 1

/-- A Hook changes to an image, with its tables. -/
def State.runImage (s : State) (h i : Nat) : State :=
  let s := (s.setHook h { s.hook h with image := i, newImage := false }).setRf Reg.HOOK_STATUS 0 2 i
  let s := s.setRb Reg.HOOK_STATUS 2 ((s.hook 0).newImage || (s.hook 1).newImage)
  let v := if i = 1 then s.reg Reg.HOOK_VER_A else if i = 2 then s.reg Reg.HOOK_VER_B else Config.romPolicyVersion
  let s := s.logPd h Ev.pdPolicy [i, v.toNat]
  if i = 0 then s else s.loadTables h

/-- A new image that waits is taken once its port is Unattached. -/
def State.imageDue (s : State) (h : Nat) : State :=
  if (s.hook h).newImage ∧ s.pdState h = 0 then s.runImage h s.bestImage else s

/-- Soft_Reset, and the negotiation begins again. -/
def State.renegotiate (s : State) (h : Nat) : State :=
  let s := s.answerAsk h .partnerTimeout 1 []
  let s := s.setHook h { s.hook h with pend := none }
  let s := if s.pdState h = 6 then
      s.setPd h (if s.rb (Reg.PDC_CONTRACT h) 5 then (if s.pdSource h then 5 else 4) else if s.pdSource h then 3 else 2)
    else s
  let s := s.pdSend h [.softReset]
  if s.isSource h then s.sendCaps h else s

/-! ### Fast role swap (R411, R412) -/

/-- FRS_ARMED of a sink. -/
def State.armFrs (s : State) (h : Nat) : State :=
  s.setRb (Reg.PDC_STATUS h) 8 (!s.pdSource h && [2, 4, 6, 8].contains (s.pdState h) && s.rb (Reg.PDC_CTRL h) 8 && (s.hook h).partnerFrs
    && s.feedsSource)

/-- What a change of the conducting feeds asks of the Hooks. -/
def State.hookFeeds (s : State) : State := ((s.armFrs 0).armFrs 1).recaps

/-- TRIGGER 0, the start of a warning, or 1, the drop: source ports signal. -/
def State.frsTrigger (s : State) (t : Nat) : State :=
  [0, 1].foldl (fun s h =>
    if s.pdSource h ∧ [3, 5, 6].contains (s.pdState h) ∧ s.rb (Reg.PDC_CTRL h) 8 ∧ s.rf (Reg.PDC_CTRL h) 10 1 = t ∧ (s.hook h).partnerFrs
        ∧ !s.hooksDown.contains h then
      (((s.dropContract h).sourceOff h).setPd h 7).pdSend h [.frsSignal]
    else s) s

/-! ### The alternate mode (R103) -/

/-- The port leaves the alternate mode, which ends its link as a detach does. -/
def State.leaveMode (s : State) (h : Nat) : State :=
  if s.rb (Reg.PDC_STATUS h) 10 then
    let s := s.setRb (Reg.PDC_STATUS h) 10 false
    let s := if s.portState 0 h = 6 ∨ s.portState 0 h = 0 then s else s.portLost 0 h true
    (s.setRf (Reg.LNK_BACKOFF 0 h) 16 8 0).setPort 0 h { s.port 0 h with ready := false, backoffEnd := 0 }
  else s

/-- NO_MODE (R103): the port stays Detached, logged once per attach. -/
def State.modeMissing (s : State) (h : Nat) : State :=
  let x := s.port 0 h
  let s := if s.portState 0 h = 2 then
      (((s.setPortState 0 h 1).castReason 0 h 0x02).endPortJob 0 h 0x0102 .failed (statusCode .wrongState) 1)
    else s.castReason 0 h 0x02
  if x.noMode then s else (s.setPort 0 h { s.port 0 h with noMode := true }).log 0 Ev.noAlavinMode h []

/-- A port at step 2 whose partner is in the mode goes on to step 3 with the row of its cable (R102). -/
def State.modeEntered (s : State) (h : Nat) : State :=
  let s := s.setRb (Reg.PDC_STATUS h) 10 true
  let s := s.setPort 0 h { s.port 0 h with ready := true }
  if s.castAt 0 h 2 then ((s.useRow 0 h (s.eqRow 0 h 0)).castTo 0 h 3).castJobStep 0 h else s

/-- The first discovery of a DFP, or the mode wait of a UFP, at an explicit contract (R403). -/
def State.startModes (s : State) (h : Nat) : State :=
  let x := s.hook h
  if x.image = 0 ∨ x.modesBegun ∨ s.rb (Reg.PDC_STATUS h) 10 then s
  else
    let s := s.setHook h { x with modesBegun := true, modeWait := !s.rb (Reg.PDC_STATUS h) 5 }
    if s.rb (Reg.PDC_STATUS h) 5 then s.pdSend h [.discover 0] else s

end Sys2Proof.Machine
end

