-- ==== Sys2Proof/Machine/PowerCmds.lean ====
section
/-! DEFINITION. The power-path commands (R396), register writes with effects of their own (R393, R397), and the events of feeds, LOAD, PANEL
and the meter (R378 to R394). -/

namespace Sys2Proof.Machine

/-- A command of the power die: unit 0xF only. -/
def powerCmd (opcode minLen : Nat) (bad : Req → State → List Check) (act : Req → State → Res) : Cmd where
  opcode := opcode
  kernelUnit := false
  powerUnit := true
  minLen := minLen
  bad r _ s := badSub r 1 :: bad r s
  act r _ s := act r s

/-- The Hooks follow a change of FA or FB. -/
def State.feedsFrom (s t : State) : State := if s.feedsSource = t.feedsSource then t else t.hookFeeds

/-! ### Commands -/

def cmdPwrFeedStatus : Cmd :=
  powerCmd 0x0C01 0 (fun _ _ => []) fun _ s =>
    .ok s (((List.range 4).map fun f => s.reg (Reg.FEED_STATUS f)) ++ [s.reg Reg.PANEL_STATUS, s.reg Reg.LOAD_STATUS, s.reg Reg.LOAD_LAST_TRIP])

def execPwrFeedStatus (r : Req) (s : State) : Result := onCommand cmdPwrFeedStatus r s

/-- PWR_LOAD_ENABLE is refused on a Tripped channel and while SW_EN is 1 (R387, Table 12.7). -/
def State.enableRefused (s : State) : Bool := s.loadState == 4 || s.swEn

def cmdPwrLoadEnable : Cmd :=
  powerCmd 0x0C02 0 (fun _ _ => []) fun _ s => .checked [(s.enableRefused, .wrongState, 0xC0 + s.loadState)] s (.ok s.loadEnable [])

def execPwrLoadEnable (r : Req) (s : State) : Result := onCommand cmdPwrLoadEnable r s

def cmdPwrLoadDisable : Cmd :=
  powerCmd 0x0C03 4 (fun r _ => [(decide (10000 < (reqWord r 12).toNat), .badParam, 12)]) fun r s => .ok (s.loadDisable (reqWord r 12).toNat) []

def execPwrLoadDisable (r : Req) (s : State) : Result := onCommand cmdPwrLoadDisable r s

/-- A field of a parameter word outside lo to hi. -/
def outside (v lo hi : Nat) : Bool := decide (v < lo) || decide (hi < v)

def cmdPwrBreakerSet : Cmd :=
  powerCmd 0x0C04 76
    (fun r _ =>
      let i (k : Nat) : Nat := reqField r (24 + 8 * k) 0 12
      let t (k : Nat) : Nat := reqField r (28 + 8 * k) 0 23
      [(outside (reqField r 12 0 10) 25 1000, .badParam, 12), (outside (reqField r 12 16 10) 1 1000, .badParam, 14),
       (outside (reqField r 16 0 7) 10 120, .badParam, 16), (outside (reqField r 16 16 10) 10 800, .badParam, 18),
       (outside (reqField r 20 0 4) 6 12, .badParam, 20)]
      ++ (List.range 8).flatMap fun k =>
        [(outside (i k) 25 (if k = 0 then 1000 else 2000) || (decide (0 < k) && decide (i k ≤ i (k - 1))), .badParam, 24 + 8 * k),
         (outside (t k) 1 6000000 || (decide (0 < k) && decide (t (k - 1) ≤ t k)), .badParam, 28 + 8 * k)])
    fun r s =>
      let s := s.setRegs
        ([(Reg.LOAD_INRUSH, reqWord r 12 &&& 0x03FF03FF), (Reg.LOAD_SOA, reqWord r 16 &&& 0x03FF007F), (Reg.LOAD_SHORT, reqWord r 20 &&& 0xF)]
         ++ (List.range 8).flatMap fun k =>
           [(Reg.BRK_I k, reqWord r (24 + 8 * k) &&& 0xFFF), (Reg.BRK_T k, reqWord r (28 + 8 * k) &&& 0x7FFFFF)])
      .ok s.syncShort []

def execPwrBreakerSet (r : Req) (s : State) : Result := onCommand cmdPwrBreakerSet r s

/-- PWR_WARN and PWR_HOLD written: a WARN above the present PANEL starts a warning at once (R391). -/
def State.setWarn (s : State) (warn hold : Word) : State :=
  let s := (s.setReg Reg.PWR_WARN (warn &&& 0x03FF03FF)).setReg Reg.PWR_HOLD (hold &&& 0x03FF003F)
  if s.path.panel < s.warnMv ∧ !s.pfw ∧ !s.inSeed then s.startWarn.frsTrigger 0 else s

def cmdPwrWarnSet : Cmd :=
  powerCmd 0x0C05 8
    (fun r _ =>
      let w := reqField r 12 0 10
      let d := reqField r 12 16 10
      [(outside w 80 580 || decide (w < d + 10), .badParam, 12), (outside d 80 580, .badParam, 14),
       (outside (reqField r 16 0 6) 1 50, .badParam, 16), (outside (reqField r 16 16 10) 1 1000, .badParam, 18)])
    fun r s => .ok (s.setWarn (reqWord r 12) (reqWord r 16)) []

def execPwrWarnSet (r : Req) (s : State) : Result := onCommand cmdPwrWarnSet r s

def cmdPwrMeterRead : Cmd :=
  powerCmd 0x0C06 4 (fun _ _ => []) fun r s =>
    .ok s (((List.range 6).filter fun c => reqBit r 12 c).flatMap fun c => (List.range 9).map fun i => s.reg (Reg.MTR_V c + 4 * i))

def execPwrMeterRead (r : Req) (s : State) : Result := onCommand cmdPwrMeterRead r s

def cmdPwrEnergyClear : Cmd :=
  powerCmd 0x0C07 4 (fun _ _ => []) fun r s =>
    let cs := (List.range 5).filter fun c => reqBit r 12 c
    let words := cs.flatMap fun c => let e := BitVec.ofInt 64 (energyMj (s.path.energy.getD c 0)); [e.setWidth 32, e.extractLsb' 32 32]
    let x := s.path
    let t := s.setPath { x with energy := (List.range 5).map fun c => if cs.contains c then 0 else x.energy.getD c 0 }
    .ok (if s.rb Reg.MTR_SNAP 0 then t else t.setRegs (cs.flatMap fun c => [(Reg.MTR_E_LO c, 0), (Reg.MTR_E_HI c, 0)])) words

def execPwrEnergyClear (r : Req) (s : State) : Result := onCommand cmdPwrEnergyClear r s

/-! ### Register writes -/

/-- LOAD_CTRL.SW_EN written (R397): what the command would refuse is ignored and counted. -/
def execLoadSwEnWrite (_via : Via) (on : Bool) (s : State) : Result :=
  .next (if !on then s.loadDisable 0 else if s.enableRefused then s.ignoreWrite s.lead Reg.LOAD_CTRL else s.loadEnable)

def execMtrSnapWrite (_via : Via) (hold : Bool) (s : State) : Result := .next (s.setHold hold)

/-! ### Feeds -/

/-- An event of the power path, which is unpowered in Seed. -/
def onPath (present : Bool) (s f : State) : Result := onUnit s present (if s.inSeed then s else f)

def execFeedVoltageChange (f mv : Nat) (s : State) : Result := onUnit s (decide (f < 4)) (s.feedsFrom (s.feedVoltage f mv))

/-- PANEL is 20 mV above a conducting feed, or the feed is forward once more (R379). -/
def execFeedReverse (f : Nat) (reverse : Bool) (s : State) : Result :=
  onPath (decide (f < 4)) s
    (s.feedsFrom
      (if reverse ∧ s.feedState f = 3 then (s.setFeedState f 2 true).bump (Reg.FEED_REV_OFF f) 1
       else if !reverse ∧ s.feedState f = 2 then s.setFeedState f 3 false
       else s))

/-- SOURCE index of a feed path (Table 12.8). -/
def feedIndex (f : Nat) : Nat := if f < 2 then f else f + 1

def execFeedOverVoltage (f peak : Nat) (s : State) : Result :=
  onPath (decide (f < 4)) s
    (if s.feedState f = 4 then s
     else s.feedsFrom (((s.setFeedState f 4 false).bump (Reg.FEED_OV_EVENTS f) 1).logPower Ev.feedOv (feedIndex f) [peak, f]))

/-- The feed has stayed below 61 V for 10 ms: it leaves Over for what its ENABLE and its voltage give. -/
def execFeedOvRecover (f : Nat) (s : State) : Result :=
  onPath (decide (f < 4)) s (if s.feedState f = 4 then s.feedsFrom ((s.setFeedState f 0 false).evalFeed f) else s)

def execFeedFault (f ma : Nat) (s : State) : Result :=
  onPath (decide (f < 4)) s
    (if s.feedState f = 3 then
       s.feedsFrom (((s.setFeedState f 5 false).bump (Reg.FEED_FAULTS f) 1).logPower Ev.feedFault (feedIndex f) [ma, f])
     else s)

/-! ### LOAD -/

/-- The debounced level of LOAD_EN (R382): low turns LOAD off without a trip; high ends a standing trip and lets LOAD ramp. -/
def execLoadEnChange (level : Bool) (s : State) : Result :=
  let s' := s.setRb Reg.LOAD_STATUS 3 level
  .next (if s.loadEn = level then s
    else if level then s'.clearTrip.tryRamp
    else if s.loadState = 4 then s' else s'.loadGateOff 0)

/-- The ramp ends (R383): LOAD is On and LOAD_PG rises, which releases PFW_N after a drop (R390). -/
def execRampComplete (us mj : Nat) (s : State) : Result :=
  onPath true s
    (if s.loadState = 1 then
       let s := ((s.setRf Reg.LOAD_STATUS 0 3 2).setRb Reg.LOAD_STATUS 5 true).setRegs [(Reg.LOAD_FET_ENERGY, word mj), (Reg.LOAD_RAMP_TIME, word us)]
       let s := s.logPower Ev.loadOn 2 [us, mj]
       if s.path.dropped then s.endWarn else s
     else s)

def execRampTimer (ma mv mj : Nat) (s : State) : Result :=
  onPath true s (if s.loadState = 1 then (s.setReg Reg.LOAD_FET_ENERGY (word mj)).tripLoad 1 0 ma mv else s)

/-- The FET energy reaches EMAX (R384). -/
def execSoaTrip (ma mv : Nat) (s : State) : Result :=
  onPath true s (if s.loadState = 1 then (s.setReg Reg.LOAD_FET_ENERGY (word (s.rf Reg.LOAD_SOA 16 10 * 10))).tripLoad 2 0 ma mv else s)

/-- LOAD current exceeds SHORT while the gate is not off (R386). -/
def execShortTrip (ma mv : Nat) (s : State) : Result :=
  onPath true s
    (if (s.loadState = 1 ∨ s.loadState = 2) ∧ s.rf Reg.LOAD_SHORT 16 16 * 10 < ma then s.tripLoad 4 0 ma mv else s)

def execLoadDisableDelayEnd (s : State) : Result := .next (if s.rb Reg.LOAD_STATUS 7 then s.loadGateOff 0 else s)

/-! ### Meter -/

/-- One sample of the six channels in converter codes: voltage of 16 bits, signed current of 16 bits (R393, R394, R385). -/
def execMeterSample (codes : List (Nat × Int)) (s : State) : Result :=
  onPath true s
    (let l := (List.range 6).map fun c => let v := codes.getD c (0, 0); (v.1 % 65536, (BitVec.ofInt 16 v.2).toInt)
     let s := ((s.meterSample l).setPanel (codeMilli (l.getD 5 (0, 0)).1).toNat).showMeter
     let s := s.curveSample (l.getD 4 (0, 0)).2 (l.getD 4 (0, 0)).1
     -- the newest set of conducting feeds, held back for the rest of a second (R379)
     if s.path.feedDue ∧ (s.path.feedLog.getD 0) + 1000000000 ≤ s.now then
       (s.setPath { s.path with feedLog := some s.now, feedDue := false }).logPower Ev.feedChange 7 [s.conducting]
     else s)

/-! ### PANEL -/

/-- PANEL falls below WARN (R389, R391), the trigger of a fast role swap (R411). -/
def execPanelWarn (mv : Nat) (s : State) : Result :=
  onPath true s
    (let new := !s.pfw
     let s := (s.setPanel mv).panelBelowWarn
     if new then s.frsTrigger 0 else s)

/-- PANEL falls below DROP (R390): LOAD is Dropped, or Off where SW_EN is 0 already. -/
def execPanelDrop (mv : Nat) (s : State) : Result :=
  onPath true s
    (let s := (s.setPanel mv).panelBelowWarn
     if s.path.dropped then s
     else
       let s := (s.setPath { s.path with dropped := true, rising := false }).setRb Reg.PANEL_STATUS 5 false
       let s := if s.loadState = 1 ∨ s.loadState = 2 then s.loadGateOff (if s.swEn then 3 else 0) else s
       ((s.bump Reg.DROP_COUNT 1).logPower Ev.panelDrop 7 [s.path.dipLow]).frsTrigger 1)

/-- PANEL rises above WARN + HYST, and HOLD starts (R391). -/
def execPanelRise (mv : Nat) (s : State) : Result :=
  onPath true s
    (let s := s.setPanel mv
     if s.pfw ∧ s.path.dipDur = none then s.setPath { s.path with dipDur := some ((s.now - s.path.warnAt) / 1000) } else s)

/-- PANEL has stayed above WARN + HYST for HOLD: a dip is over, or a dropped LOAD ramps again (R390, R391). -/
def execPanelHoldExpiry (s : State) : Result :=
  onPath true s
    (match s.path.dipDur with
     | none => s
     | some d =>
       if s.path.dropped then
         (if s.loadState = 3 then (s.setRf Reg.LOAD_STATUS 0 3 0).tryRamp else s.tryRamp)
       else if s.path.rising then s.endWarn
       else
         let low := s.path.dipLow
         let s := (s.setRegs [(Reg.DIP_LAST_MIN, word low), (Reg.DIP_LAST_DUR, word d)]).bump Reg.DIP_COUNT 1
         s.endWarn.logPower Ev.panelDip 7 [low, d])

/-- PANEL rises above DROP while LOAD waits in Off (R382). Below WARN, PFW_N stays low while LOAD runs. -/
def execPanelAboveDrop (mv : Nat) (s : State) : Result :=
  onPath true s
    (let s := s.setPanel mv
     let s := if mv < s.warnMv ∧ !s.pfw then (s.setPfw true).setPath { s.path with warnAt := s.now, dipLow := mv, dipDur := none, rising := true } else s
     s.tryRamp)

/-- PANEL falls below 8.0 V: the source converters turn off (R409). -/
def execPanelBelow8v (mv : Nat) (s : State) : Result :=
  onPath true s (((s.setPanel mv).sourceOff 0).sourceOff 1)

end Sys2Proof.Machine
end

