-- ==== Sys2Proof/Machine/PdCmds.lean ====
section
/-! DEFINITION. The cable power commands (R416) and the events of the Type-C ports (R398 to R415, R468). -/

namespace Sys2Proof.Machine

/-- A command of group 0x0D: unit 0xF, TARGET.SUB the port. -/
def cableCmd (opcode minLen : Nat) (bad : Req → Nat → State → List Check) (act : Req → Nat → State → Res) : Cmd where
  opcode := opcode
  kernelUnit := false
  powerUnit := true
  minLen := minLen
  bad r _ s := badSub r 2 :: bad r (reqSub r) s
  act r _ s := act r (reqSub r) s

/-- WRONG_STATE with the state code of Table 13.4. -/
def State.pdRefusal (s : State) (h : Nat) (c : Bool) : Check := (c, .wrongState, 0xD0 + s.pdState h)

/-! ### Commands -/

def cmdPdStatus : Cmd :=
  cableCmd 0x0D01 0 (fun _ _ _ => []) fun _ h s =>
    .ok s ([s.reg (Reg.PDC_STATUS h), s.reg (Reg.PDC_CONTRACT h)] ++ ((List.range 11).map fun i => s.reg (Reg.PDC_PARTNER_PDO h i))
      ++ [s.reg (Reg.VBUS_STATUS h)])

def execPdStatus (r : Req) (s : State) : Result := onCommand cmdPdStatus r s

def cmdPdRolePrefSet : Cmd :=
  cableCmd 0x0D02 4 (fun r _ _ => [(decide (4 < reqField r 12 0 3), .badParam, 12)]) fun r h s =>
    .ok (s.setReg (Reg.PDC_CTRL h) ((s.reg (Reg.PDC_CTRL h) &&& ~~~ 0x37) ||| (reqWord r 12 &&& 0x37))) []

def execPdRolePrefSet (r : Req) (s : State) : Result := onCommand cmdPdRolePrefSet r s

/-- An object that the source converter can serve (Table 13.5) within 60 W. -/
def sourcePdo (w : Word) : Bool :=
  decide (pdoPower w ≤ 6000)
    && ((pdoKind w == 0 && [250, 450, 750, 1000].contains (pdoMax w))
      || (pdoKind w == 1 && decide (165 ≤ pdoMin w) && decide (pdoMin w ≤ pdoMax w) && decide (pdoMax w ≤ 1050) && decide (20 ≤ fld w 0 7)
          && decide (fld w 0 7 ≤ 60)))

def cmdPdSourceCapsSet : Cmd :=
  cableCmd 0x0D03 8
    (fun r _ _ =>
      let c := (reqWord r 12).toNat
      (outside c 1 7 || decide (r.plen ≠ 4 + 4 * c), .badParam, 12)
        :: (List.range (min c 7)).map fun i => (!sourcePdo (reqWord r (16 + 4 * i)), .badParam, 16 + 4 * i))
    fun r h s =>
      let st := s.pdState h
      let c := (reqWord r 12).toNat
      let t := s.setRegs ((List.range 7).map fun i => (Reg.PDC_SRC_PDO h i, if i < c then reqWord r (16 + 4 * i) else 0))
      .checked
        [s.pdRefusal h (decide (st = 6 ∨ st = 7)),
         ((s.hook h).image == 0 || s.rf (Reg.PDC_CTRL h) 0 3 == 4, .wrongState, 0xDA)] s
        (.ok (if t.isSource h then t.sendCaps h else t) [])

def execPdSourceCapsSet (r : Req) (s : State) : Result := onCommand cmdPdSourceCapsSet r s

/-- The object that a request with MODE 1 names; EPR objects stand from index 7 on. -/
def namedPdo (r : Req) : Nat := reqField r 12 1 3 + (if reqBit r 12 4 then 7 else 0)

def cmdPdSinkRequest : Cmd :=
  cableCmd 0x0D04 8
    (fun r h s =>
      let i := namedPdo r
      let w := s.partnerPdo h i
      let v := reqField r 16 0 16
      let a := reqField r 16 16 16
      let m := reqBit r 12 0
      [(m && (decide (10 < i) || w == 0 || (reqBit r 12 4 && !s.rb (Reg.PDC_CABLE h) 5)), .badParam, 12),
       (m && (outside v (pdoMin w) (pdoMax w) || decide (s.cableVolts h < v)), .badParam, 16),
       (m && decide (min (pdoAmps w v) (s.cableAmps h) < a), .badParam, 18)])
    fun r h s =>
      let named := if reqBit r 12 0 then some (namedPdo r, reqField r 16 0 16, reqField r 16 16 16) else none
      .checked [s.pdRefusal h (decide (s.pdState h ≠ 4)), ((s.hook h).ask.isSome, .busy, 0)] s
        { status := .done, detail := 0, data := [], later := true
          state := (s.setHook h { s.hook h with named := named, ask := some r, askKernel := s.lead }).sendRequest h }

def execPdSinkRequest (r : Req) (s : State) : Result := onCommand cmdPdSinkRequest r s

def cmdPdFrsSet : Cmd :=
  cableCmd 0x0D05 4 (fun _ _ _ => []) fun r h s =>
    .ok ((s.setRf (Reg.PDC_CTRL h) 8 3 (reqField r 12 0 3)).armFrs h) []

def execPdFrsSet (r : Req) (s : State) : Result := onCommand cmdPdFrsSet r s

def cmdCableIdRead : Cmd :=
  cableCmd 0x0D07 0 (fun _ _ _ => []) fun _ h s =>
    .checked [s.pdRefusal h (decide (s.pdState h ≤ 1))] s
      (.ok s (packWord [(0, 4, s.rf (Reg.PDC_CABLE h) 0 4)] :: (List.range 4).map fun i => s.reg (Reg.PDC_CABLE_VDO h i)))

def execCableIdRead (r : Req) (s : State) : Result := onCommand cmdCableIdRead r s

/-- HOOK_POLICY_UPDATE: the packet that completes the image starts the job. -/
def cmdHookPolicyUpdate : Cmd :=
  { cableCmd 0x0D06 16 (fun r _ s => imageChecks s.images.hook 2 r)
      (fun r _ s =>
        let bs := joinImage s.images.hook r
        let apply := if (reqWord r 16).toNat = 0 then reqBit r 12 0 else s.images.apply
        let t := { s with images := { s.images with hook := bs, apply := apply } }
        .checked [heldBy (s.findRunning fun j => j.opcode == 0x0D06)] s
          (if imageDone bs then
             .checked [jobLimit s] s (.accepted s.newJobNum (t.startJob 0x0D06 r s.lead 3 []) [3])
           else .ok t [])) with
    denied := fun r _ s => s.rightChecks (master r.via) 9 }

def execHookPolicyUpdate (r : Req) (s : State) : Result := onCommand cmdHookPolicyUpdate r s

/-! ### Policy images (R415) -/

/-- The slot that a policy image is written to: the one that does not run. -/
def State.spareSlot (s : State) : Nat := if s.rf Reg.HOOK_STATUS 0 2 = 1 then 1 else 0

def hookVerReg (slot : Nat) : Nat := if slot = 0 then Reg.HOOK_VER_A else Reg.HOOK_VER_B

/-- A Hook in a transition or a swap changes to its new image when that ends; under APPLY 1 it changes at once, and negotiates again. -/
def State.applyImage (s : State) (h : Nat) : State :=
  let st := s.pdState h
  if !(s.hook h).newImage ∨ st = 6 ∨ st = 7 then s
  else if st = 0 then s.runImage h s.bestImage
  else if s.images.apply then
    let s := s.runImage h s.bestImage
    let s := if st = 8 then s.setPd h 4 else s
    s.renegotiate h
  else s

def State.newImageFor (s : State) (h : Nat) : State :=
  ((s.setHook h { s.hook h with newImage := true }).setRb Reg.HOOK_STATUS 2 true).applyImage h

/-- A step of HOOK_POLICY_UPDATE completes. -/
def execPolicyImageStep (s : State) : Result :=
  .next
    (match s.findRunning fun j => j.opcode == 0x0D06 with
     | none => s
     | some j =>
       let slot := s.spareSlot
       let bs := s.images.hook
       if j.step = 1 then (s.setReg (hookVerReg slot) 0).nextStep j.num
       else if j.step = 2 then
         (match s.imageFault bs 2 with
          | some _ => (s.log 0 Ev.fwVerifyFail 0 [2, slot, 0x0D01]).endJob j.num .failed (statusCode .hwFault) 0x0D01
          | none => s.nextStep j.num)
       else
         let s := (s.setReg (hookVerReg slot) (word (imageNum bs 4 4))).nextStep j.num
         (s.newImageFor 0).newImageFor 1)

/-! ### Events -/

/-- A Hook that runs: started since VAON rose, not stopped by its watchdog, and not in Seed. -/
def State.hookUp (s : State) (h : Nat) : Bool := decide (h < 2) && !s.inSeed && !s.part.romDue.testBit h && !s.hooksDown.contains h

/-- An event at a Hook: it takes effect where the Hook runs and the condition holds. -/
def onHook (h : Nat) (c : Bool) (s f : State) : Result := onUnit s (decide (h < 2)) (if s.hookUp h && c then f else s)

def State.attachedPd (s : State) (h : Nat) : Bool := decide (2 ≤ s.pdState h)

/-- VCONN sourced by this port. -/
def State.setVconn (s : State) (h : Nat) (b : Bool) : State := (s.setRb (Reg.PDC_STATUS h) 7 b).setRb (Reg.VBUS_STATUS h) 4 b

/-- The cable is read on SOP′ (R404). -/
def State.askCable (s : State) (h : Nat) : State := (s.setHook h { s.hook h with cableAsked := true }).pdSend h [.cableIdentity]

/-- A source with an implicit contract at 5 V (R398, R407). -/
def State.startSource (s : State) (h amps : Nat) : State :=
  let s := s.sourceOn h 250 (if s.feedsSource then amps else 50)
  ((s.setVbus h 250).setRb (Reg.PDC_STATUS h) 4 true |>.setPd h 3).sendCaps h

/-- ROLE_PREF allows the role (Table 13.1); the ROM policy is sink only (R401). -/
def State.roleAllowed (s : State) (h : Nat) (source : Bool) : Bool :=
  if source then (s.hook h).image != 0 && s.rf (Reg.PDC_CTRL h) 0 3 != 4 else (s.hook h).image == 0 || s.rf (Reg.PDC_CTRL h) 0 3 != 3

/-- The fields of PDC_STATUS that an attach begins with; DEAD_BATTERY stands. -/
def State.clearPd (s : State) (h : Nat) : State := s.setReg (Reg.PDC_STATUS h) (s.reg (Reg.PDC_STATUS h) &&& 0x800)

/-- A debounced attach. The cable class of the last attach goes, and K0.Ph may cast on (R99, R105). -/
def State.attachPd (s : State) (h : Nat) (source cc2 : Bool) : State :=
  let s := (s.clearPd h).setRb (Reg.PDC_STATUS h) 6 cc2
  let s := s.setRegs ((Reg.PDC_CABLE h, 0) :: ((List.range 4).map fun i => (Reg.PDC_CABLE_VDO h i, 0))
    ++ (List.range 11).map fun i => (Reg.PDC_PARTNER_PDO h i, 0))
  let s := s.setHook h { s.hook h with out := [], pend := none, named := none, partnerFrs := false, modeWait := false, drAsked := false,
                                       vconnAsked := !source, keepDue := false, cableAsked := false, modesBegun := false, hardDue := false }
  let s := if source then (((s.setVconn h true).setRb (Reg.PDC_STATUS h) 5 true).startSource h 300).askCable h
    else ((s.setVbus h 250).setPd h 2).pdSend h [.vconnSwap]
  let s := s.setPort 0 h { s.port 0 h with attached := true, ready := false, noMode := false }
  if s.kernelState 0 = 2 ∧ [0, 1].contains (s.portState 0 h) ∧ s.rb (Reg.LNK_CTRL 0 h) 6 then s.startCast 0 h 2 none else s

def execTypecAttach (h : Nat) (source cc2 : Bool) (accessory : Nat) (s : State) : Result :=
  onHook h (decide (s.pdState h ≤ 1)) s
    (if accessory ≠ 0 then s.logPd h Ev.pdAccessory [if accessory = 1 then 0 else 1]
     else if s.roleAllowed h source then s.attachPd h source cc2 else s)

/-- The Hook side of a detach (R399, R413): the VBUS paths open, every contract is discarded, the cable class stays. -/
def State.endAttach (s : State) (h : Nat) : State :=
  let s := (((s.dropContract h).sinkPath h false).sourceOff h).setVconn h false
  let s := (s.setRb (Reg.VBUS_STATUS h) 3 false).clearPd h
  let s := s.setHook h { s.hook h with named := none, partnerFrs := false, modeWait := false, drAsked := false, vconnAsked := false,
                                       cableAsked := false, modesBegun := false, hardDue := false }
  (s.imageDue h).recaps

/-- The voltage of the contract in force, in mV. -/
def State.contractMv (s : State) (h : Nat) : Nat := if s.rb (Reg.PDC_CONTRACT h) 5 then s.rf (Reg.PDC_CONTRACT_VI h) 0 16 * 20 else 5000

def execTypecDetach (h vbus : Nat) (s : State) : Result :=
  onUnit s (decide (h < 2))
    (if s.inSeed ∨ s.pdState h = 0 then s
     else
       let st := s.pdState h
       let target := match (s.hook h).pend with | some c => fld c.2 0 16 * 20 | none => 5000
       let s := s.setVbus h (vbus / 20)
       let s := if st = 6 ∨ st = 7 then
           (s.bump (Reg.PDC_PULL_TRANS h) 1).logPd h Ev.pdPullInTransition [s.contractMv h, target, vbus]
         else s
       (s.endAttach h).detachPort 0 h)

/-- The first Request of a sink waits until the cable is known (R404). -/
def State.requestDue (s : State) (h : Nat) : State :=
  let x := s.hook h
  if !s.pdSource h ∧ [2, 4, 8].contains (s.pdState h) ∧ !x.vconnAsked ∧ !x.cableAsked ∧ x.pend.isNone ∧ s.partnerPdo h 0 ≠ 0 then
    s.sendRequest h
  else s

def execPdSourceCapabilities (h : Nat) (pdos : List Word) (frs epr : Bool) (s : State) : Result :=
  onHook h (!s.pdSource h && [2, 4, 8].contains (s.pdState h)) s
    (let s := s.setRegs ((List.range 11).map fun i => (Reg.PDC_PARTNER_PDO h i, pdos.getD i 0))
     let s := s.setHook h { s.hook h with partnerFrs := frs, pend := none }
     -- the revision that the partner speaks is not among the operands
     let r := s.fresh
     let s := if epr then (s.setRf (Reg.PDC_STATUS h) 12 2 2).setRb (Reg.PDC_STATUS h) 9 true
       else if s.rf (Reg.PDC_STATUS h) 12 2 = 0 then r.2.setRf (Reg.PDC_STATUS h) 12 2 (1 + r.1.toNat % 2) else s
     (s.armFrs h).requestDue h)

/-- The object, voltage and current of a Request lie within the offer (R405, R407). -/
def State.requestFits (s : State) (h i v a : Nat) : Bool :=
  match (s.hook h).offer[i]? with
  | some w => decide (pdoMin w ≤ v) && decide (v ≤ pdoMax w) && decide (a ≤ pdoAmps w v)
  | none => false

/-- A Request is answered Reject. -/
def State.rejectRequest (s : State) (h : Nat) : State := (s.bump (Reg.PDC_REJECTS h) 1).pdSend h [.reject]

def execPdRequest (h index volts amps : Nat) (frs : Bool) (s : State) : Result :=
  onHook h (s.pdSource h && [3, 5].contains (s.pdState h)) s
    (let s := s.setHook h { s.hook h with partnerFrs := frs }
     let p := volts * amps / 50
     let other := s.sourcePower (1 - h)
     if 10000 < p + other then (s.rejectRequest h).logPd h Ev.pdBudgetReject [p * 10, (10000 - other) * 10]
     else if !s.requestFits h index volts amps then s.rejectRequest h
     else
       let w := ((s.hook h).offer[index]?).getD 0
       let s := (s.setHook h { s.hook h with pend := some (contractWords index w volts amps) }).setPd h 6
       (s.sourceOn h volts amps).pdSend h [.accept])

/-- The keep-alive of the contract in force (Table 13.7). -/
def State.keepAlive (s : State) (h : Nat) : State :=
  let c := s.reg (Reg.PDC_CONTRACT h)
  let vi := s.reg (Reg.PDC_CONTRACT_VI h)
  match fld c 3 2 with
  | 0 => s
  | 1 => (s.setHook h { s.hook h with pend := some (c, vi) }).pdSend h [.request (fld c 0 3) (fld vi 0 16) (fld vi 16 16) false]
  | _ => s.pdSend h [.eprKeepAlive]

/-- A transition or a swap has ended: a keep-alive that fell due is sent, and a new image applies. -/
def State.afterTransition (s : State) (h : Nat) : State :=
  let s := if (s.hook h).keepDue then (s.setHook h { s.hook h with keepDue := false }).keepAlive h else s
  (s.applyImage h).recaps

/-- A fast role swap completes (R412): the roles have changed places. -/
def State.frsDone (s : State) (h : Nat) : State :=
  let was := s.pdSource h
  let s := (s.bump (Reg.PDC_FRS h) 1).logPd h Ev.pdFrs [was.toNat, 1]
  if was then ((s.setRb (Reg.PDC_STATUS h) 4 false).setPd h 2).armFrs h
  else ((((s.setRb (Reg.PDC_STATUS h) 4 true).setPd h 3).pdSend h [.psRdy]).sendCaps h)

def execPdPsRdy (h : Nat) (s : State) : Result :=
  onHook h true s
    (if s.pdState h = 7 then (s.frsDone h).afterTransition h
     else if s.pdState h = 6 ∧ !s.pdSource h then
       let rom := (s.hook h).image == 0
       let s := ((s.takeContract h 0).setPd h 4).setRb (Reg.VBUS_STATUS h) 3 false
       let s := (s.sinkPath h true).armFrs h
       let s := s.answerAsk h .done 0 [s.reg (Reg.PDC_CONTRACT h)]
       if rom ∧ s.bestImage ≠ 0 then ((s.runImage h s.bestImage).setPd h 4).sendRequest h
       else (s.startModes h).afterTransition h
     else s)

/-- An answer to DR_Swap, to VCONN_Swap, or to a Request; Wait counts as a refusal. -/
def execPdAcceptOrReject (h : Nat) (accepted : Bool) (s : State) : Result :=
  onHook h true s
    (let x := s.hook h
     if x.drAsked then
       let s := s.setHook h { x with drAsked := false, modesBegun := false }
       if accepted then (s.setRb (Reg.PDC_STATUS h) 5 true).startModes h else s.modeMissing h
     else if x.vconnAsked then
       let s := s.setHook h { x with vconnAsked := false }
       if accepted then (s.setVconn h true).askCable h else s.requestDue h
     else if x.pend.isNone ∨ s.pdSource h ∨ !([2, 4, 8].contains (s.pdState h)) then s
     else if accepted then s.setPd h 6
     else
       let s := s.setHook h { x with pend := none, named := if x.ask.isSome then none else x.named }
       (s.bump (Reg.PDC_REJECTS h) 1).answerAsk h .partnerRefused 0 [])

/-- As source, VBUS has reached the contracted level. -/
def execVbusTransitionComplete (h : Nat) (s : State) : Result :=
  onHook h (s.pdSource h && s.pdState h == 6) s
    ((((((s.takeContract h 1).setPd h 5).pdSend h [.psRdy]).startModes h)).afterTransition h)

/-- Both ends return to their implicit contracts, data roles and VCONN roles after a Hard_Reset. -/
def State.hardReset (s : State) (h : Nat) (received : Bool) : State :=
  let s := (s.bump (Reg.PDC_HARD_RESETS h) 1).logPd h Ev.pdHardReset [received.toNat]
  let src := s.pdSource h
  let s := ((s.dropContract h).leaveMode h).sinkPath h false
  let s := s.setHook h { s.hook h with named := none, drAsked := false, vconnAsked := false, cableAsked := false, modesBegun := false, hardDue := false }
  let s := ((s.setVconn h src).setRb (Reg.PDC_STATUS h) 5 src).setRb (Reg.PDC_STATUS h) 9 false
  let s := if src then (s.sourceOff h).startSource h 300 else (s.setPd h 2).armFrs h
  s.recaps

def execPdHardReset (h : Nat) (s : State) : Result :=
  onUnit s (decide (h < 2))
    (if !s.attachedPd h ∨ s.inSeed then s
     else if s.hookUp h then s.hardReset h true
     else if s.hooksDown.contains h then s.setHook h { s.hook h with hardDue := true }
     else s)

/-- A PR_Swap that the policy allows: the roles change places, with an implicit contract (R402). -/
def State.swapPower (s : State) (h : Nat) : State :=
  let src := s.pdSource h
  let s := (s.pdSend h [.accept]).dropContract h
  let s := s.setHook h { s.hook h with named := none, modesBegun := false }
  let s := if src then (((s.sourceOff h).setRb (Reg.PDC_STATUS h) 4 false).setPd h 2).pdSend h [.psRdy]
    else ((s.sinkPath h false).pdSend h [.psRdy]).startSource h 300
  (s.armFrs h).recaps

/-- Swaps (R401, R402, R412): kind 0 PR_Swap, 1 DR_Swap, 2 VCONN_Swap, 3 FR_Swap. -/
def execPdSwapRequest (h kind : Nat) (s : State) : Result :=
  onHook h (s.attachedPd h) s
    (let st := s.pdState h
     let rom := (s.hook h).image == 0
     let idle := decide (st ≠ 6 ∧ st ≠ 7)
     match kind with
     | 0 => if idle && !rom && decide (s.rf (Reg.PDC_CTRL h) 0 3 < 3) then s.swapPower h else s.pdSend h [.reject]
     | 1 =>
       if s.rb (Reg.PDC_STATUS h) 10 then (s.pdSend h [.hardReset]).hardReset h false
       else if idle && !rom && s.rb (Reg.PDC_CTRL h) 4 then
         let s := (s.pdSend h [.accept]).setRb (Reg.PDC_STATUS h) 5 (!s.rb (Reg.PDC_STATUS h) 5)
         let s := s.setHook h { s.hook h with modesBegun := false, modeWait := false }
         if s.rb (Reg.PDC_CONTRACT h) 5 then s.startModes h else s
       else s.pdSend h [.reject]
     | 2 => if idle && s.rb (Reg.PDC_CTRL h) 5 then (s.pdSend h [.accept]).setVconn h (!s.rb (Reg.PDC_STATUS h) 7) else s.pdSend h [.reject]
     | 3 => if st = 7 ∧ s.pdSource h then s.pdSend h [.accept, .psRdy] else s.pdSend h [.reject]
     | _ => s.pdSend h [.notSupported])

/-- Discovery and Enter Mode (R103, R402, R403): kind 0 Discover Identity, 1 SVIDs, 2 Modes, 3 Enter Mode; reply 0 the partner's request,
1 its ACK, 2 its NAK; `mode` is the mode index that an Enter Mode names. -/
def execDiscoverMessage (h kind : Nat) (object : VdmObject) (reply : Nat) (s : State) : Result :=
  onHook h (s.attachedPd h && decide (kind < 4)) s
    (let dfp := s.rb (Reg.PDC_STATUS h) 5
     if reply = 0 then
       if !dfp ∧ (s.hook h).image ≠ 0 ∧ (kind ≤ 1 ∨ object.svid = 0x2E4D) ∧ (kind ≠ 3 ∨ object.mode = 1) then
         let s := s.pdSend h [.vdmAck kind]
         if kind = 3 then s.setHook h { s.hook h with modeWait := false } else s
       else s.pdSend h [.vdmNak kind]
     else if !dfp ∨ !(s.hook h).modesBegun ∨ s.rb (Reg.PDC_STATUS h) 10 then s
     else if reply = 1 ∧ (kind = 0 ∨ object.svid = 0x2E4D) then (if kind < 2 then s.pdSend h [.discover (kind + 1)] else if kind = 2 then s.pdSend h [.enterMode 0x2E4D 1] else s)
     else s.modeMissing h)

def execAlavinModeEnter (h : Nat) (ok : Bool) (s : State) : Result :=
  onHook h (s.rb (Reg.PDC_CONTRACT h) 5 && (s.hook h).image != 0 && !s.rb (Reg.PDC_STATUS h) 10) s
    (if ok then (s.setHook h { s.hook h with modeWait := false, modesBegun := true }).modeEntered h else s.modeMissing h)

def execAlavinModeExit (h : Nat) (s : State) : Result := onHook h (s.rb (Reg.PDC_STATUS h) 10) s (s.leaveMode h)

/-- 500 ms without Enter Mode (R403): one DR_Swap where the image has it. -/
def execUfpModeWaitExpiry (h : Nat) (s : State) : Result :=
  onHook h (s.hook h).modeWait s
    (let s := s.setHook h { s.hook h with modeWait := false }
     if (s.hook h).ufpSwap then (s.setHook h { s.hook h with drAsked := true }).pdSend h [.drSwap] else s.modeMissing h)

/-! ### Cable (R404, R405) -/

/-- The class of Table 13.3 from the ID Header, the Cable VDO and the second VDO of an active cable (PRESUMED places, log entry 32). -/
def cableClass (vdos : List Word) : Nat :=
  let id := vdos.getD 0 0
  let c := vdos.getD 3 0
  let speed := fld c 0 3
  let latency := fld c 13 4
  if vdos = [] then 0
  else if fld id 27 3 = 4 then
    let v := vdos.getD 4 0
    if bitAt v 11 then 13 else if bitAt v 10 then 12 else 11
  else if 3 ≤ speed then max 1 (min latency 4)
  else if speed = 2 then 4 + max 1 (min latency 4)
  else if latency ≤ 2 then 9 else 10

/-- PDC_CABLE of an e-marker's answer. -/
def cableWord (vdos : List Word) : Word :=
  let c := vdos.getD 3 0
  if vdos = [] then 0
  else packWord [(0, 4, cableClass vdos), (4, 1, 1), (5, 1, fld c 17 1), (6, 2, if fld c 5 2 = 2 then 1 else 0), (8, 8, 20 + 10 * fld c 9 2)]

/-- The answer on SOP′, or none after the retries. -/
def execCableDiscoverIdentity (h : Nat) (vdos : List Word) (s : State) : Result :=
  onHook h (s.hook h).cableAsked s
    (let s := (s.setReg (Reg.PDC_CABLE h) (cableWord vdos)).setRegs ((List.range 4).map fun i => (Reg.PDC_CABLE_VDO h i, vdos.getD i 0))
     let s := s.setHook h { s.hook h with cableAsked := false }
     (s.requestDue h).recaps)

/-! ### Keep-alive (R410) -/

def execPdKeepaliveTimer (h : Nat) (s : State) : Result :=
  onHook h (!s.pdSource h && s.rb (Reg.PDC_CONTRACT h) 5 && s.rf (Reg.PDC_CONTRACT h) 3 2 != 0) s
    (if s.pdState h = 6 ∨ s.pdState h = 7 then s.setHook h { s.hook h with keepDue := true } else s.keepAlive h)

def execPdKeepaliveLost (h : Nat) (s : State) : Result :=
  onHook h (s.pdSource h && s.pdState h == 5 && s.rf (Reg.PDC_CONTRACT h) 3 2 == 1) s
    (((s.bump (Reg.PDC_KEEPALIVE_LOST h) 1).logPd h Ev.pdKeepaliveLost [1]).pdSend h [.hardReset] |>.hardReset h false)

/-! ### Fast role swap, dead battery, watchdog -/

def execFrsSignal (h : Nat) (s : State) : Result :=
  onHook h (s.attachedPd h && !s.pdSource h) s
    (if s.rb (Reg.PDC_STATUS h) 8 then
       let s := ((s.dropContract h).sinkPath h false).setRb (Reg.PDC_STATUS h) 8 false
       ((s.sourceOn h 250 (if s.rb (Reg.PDC_CTRL h) 9 then 300 else 150)).setPd h 7).pdSend h [.frSwap]
     else s.logPd h Ev.pdFrs [0, 0])

/-- vSafe5V on the clamp of a part without VAON: the start path joins VBUS to PANEL (R400). -/
def execDeadBatteryStart (h : Nat) (s : State) : Result :=
  onUnit s (decide (h < 2)) (if s.part.vaon then s else (s.setRb (Reg.VBUS_STATUS h) 3 true).setVbus h 250)

/-- A Hook has started from its ROM (R400, R401): a port on its start path is an attached sink under the ROM policy, and any other runs
the newest valid image at once (R414). -/
def execHookRomStart (h : Nat) (s : State) : Result :=
  onUnit s (decide (h < 2))
    (if s.inSeed ∨ !s.part.romDue.testBit h then s
     else
       let s := { s with part := { s.part with romDue := maskOf 2 fun i => i != h && s.part.romDue.testBit i } }
       if s.rb (Reg.VBUS_STATUS h) 3 then ((s.runImage h 0).setRb (Reg.PDC_STATUS h) 11 true).attachPd h false false
       else s.runImage h s.bestImage)

/-- A Hook stops (R468); the lead breaks its locks. -/
def State.stopHook (s : State) (h : Nat) (count : Bool) : State :=
  let n := s.rf Reg.HOOK_STATUS 8 8
  let s := if !count then s
    else if n < 255 then s.setRf Reg.HOOK_STATUS 8 8 (n + 1)
    else s.fresh.2.setRf Reg.HOOK_STATUS 8 8 (s.fresh.1.toNat % 256)
  let s := ({ s with hooksDown := h :: s.hooksDown } : State).logPd h Ev.hookRestart [h]
  if s.leadUp then s.breakLocks (8 + s.lead) fun _ _ o => o == 16 + h else s

def execHookWatchdog (h : Nat) (s : State) : Result := onHook h true s (s.stopHook h true)

def execHookRestarted (h : Nat) (s : State) : Result :=
  onUnit s (decide (h < 2))
    (if s.inSeed ∨ !s.hooksDown.contains h then s
     else
       let s := { s with hooksDown := s.hooksDown.filter fun x => x ≠ h }
       if !s.attachedPd h then s
       else
         let s := if s.pdState h = 7 then s else s.renegotiate h
         if (s.hook h).hardDue then s.hardReset h true else s)

end Sys2Proof.Machine
end

