-- ==== Sys2Proof/Machine/RegAccess.lean ====
section
/-! DEFINITION. Register reads and writes (R10 to R13, R67, R68, R475 to R482): the word a register shows, what a read does, what a write
does as its command would, and the commands and accesses that use them. -/

namespace Sys2Proof.Machine

/-! ### The word a register shows -/

/-- KID_CAPS (Table 16.5). -/
def kidCaps (k : Nat) : Word := packWord [(0, 1, decide (k = 0) |>.toNat), (1, 1, decide (k = 0) |>.toNat), (2, 1, decide (k = 0) |>.toNat),
  (3, 1, decide (k < 2) |>.toNat)]

/-- Recoveries of a kernel in the last 60 s (R470). -/
def State.recoveryCount (s : State) (k : Nat) : Nat :=
  (s.part.recoveries.filter fun e => e.1 == k && decide (s.now < e.2 + 60000000000)).length

/-- KERNEL_STATE (Table 16.10). -/
def State.kernelStateWord (s : State) (k : Nat) : Word :=
  packWord [(0, 4, s.kernelState k), (8, 3, s.lead), (12, 1, (s.lead == k).toNat), (16, 2, min (s.recoveryCount k) 3)]

/-- SEAM_STATE (Table 16.17). -/
def State.seamWord (s : State) (k i : Nat) : Word :=
  match seamPeer s.variant k i with
  | some n => packWord [(0, 2, s.seamState k i), (4, 3, n), (8, 1, 1)]
  | none => 0

/-- TIME_CTRL: in the other kernels the fields but LINK_UNAUTH read as K0's (Table 16.16). -/
def State.timeCtrlWord (s : State) (k : Nat) : Word :=
  (s.reg (Reg.TIME_CTRL k) &&& 8) ||| (s.reg (Reg.TIME_CTRL 0) &&& 0x3F07)

/-- Buckets of the loose ply headed by Kn.P3 that name a member: the flows pinned to it (R190, R193, log entry 105). -/
def State.pinnedTo (s : State) (n m : Nat) : Nat := ((List.range 256).filter fun b => s.bucketMember (Reg.HASH_PLY n 0) b == m).length

/-- PLY_LOOSE: the ply of the kernel's P3, else the one that its P2 belongs to, with the flows pinned to this kernel's member. -/
def State.looseWord (s : State) (k : Nat) : Word :=
  let w := s.reg (Reg.PLY_LOOSE k)
  if w ≠ 0 then setFld w 16 16 (if fld w 0 2 = 1 then 0 else s.pinnedTo k 0)
  else match s.loosePeer k 2 with
    | some (n, _) => packWord [(0, 2, s.rf (Reg.PLY_LOOSE n) 0 2), (4, 3, n), (16, 16, s.pinnedTo n 1)]
    | none => 0

/-- DIN_EDID: four bytes of the presented EDID (Table 6.14). -/
def State.edidWord (s : State) (k i j : Nat) : Word := (bytesWords (((s.presented k i).2.drop (4 * j)).take 4)).getD 0 0

/-- The word that a register of a kernel shows; most hold it, the others are views of other state. -/
def State.kernelWord (s : State) (k blk off : Nat) : Word :=
  let w := s.reg (regAddr k blk off)
  match blk with
  | 0x00 =>
    if off = 0 then kidPart s k else if off = 4 then seamsWord s.variant k else if off = 8 then dieLo k
    else if off = 0xC then dieHi k else if off = 0x18 then kidCaps k else w
  | 0x01 => if off = 0x10C then s.kernelStateWord k else w
  | 0x02 => if off = 0x2000 then s.reg (Reg.DB_PEND k) else w
  | 0x03 =>
    if off = 4 then s.timeCtrlWord k else if off = 0x20 then word s.tai
    else if 0x30 ≤ off ∧ off < 0x48 then setBit w 31 (s.sourceValid w) else w
  | 0x04 => if off = 8 then word (s.boxCount k) else w
  | 0x08 | 0x09 | 0x0A | 0x0B =>
    if off = 0x1C then s.backoffWord k (blk - 8)
    else if s.portState k (blk - 8) = 6 ∧ (off = 0x40 ∨ off = 0x60) then setFld w 16 6 ((Config.freeWord s.free).toNat % 33)
    else if s.portState k (blk - 8) = 6 ∧ (off = 0x44 ∨ off = 0x64) then Config.freeWord s.free
    else w
  | 0x0C => if off = 8 then s.looseWord k else w
  | 0x0D => if off % 64 = 0 ∧ off < 0xC0 then s.seamWord k (off / 64) else w
  | 0x10 =>
    if off < 0x8000 then s.ctxWord k (off / 64) (off % 64 / 4)
    else if off = 0x8030 then word (s.openCtxs k).length else w
  | 0x11 =>
    if 0x8000 ≤ off ∧ off < 0x8080 ∧ off % 32 = 8 then
      let p := (off - 0x8000) / 32
      if s.rowPort k p = p then packWord [(0, 11, s.reserved false k p), (16, 11, s.reserved true k p)] else 0
    else w
  | 0x12 => if off = 0x3100 then Config.freeWord s.free &&& 0xFFFF else if 0x1000 ≤ off ∧ off < 0x1200 then setBit w 31 (s.subInUse k ((off - 0x1000) / 4)) else w
  | 0x13 => if off % 16 = 12 then s.tokenWord k (off / 16) else w
  | 0x14 =>
    if off < 0x60 ∧ off % 16 = 12 then s.skeinUse k (off / 16)
    else if off = 0x100 then word (s.bufTotal k) else if off = 0x104 then word (s.bufUsed k)
    else if off = 0x108 then word (s.bufReserved k) else if off = 0x10C then word (s.bufFree k)
    else if off = 0x114 then word (s.bufReplay k) else w
  | 0x15 =>
    if off < 0x1200 ∧ off % 8 = 0 then s.qThresh k (off / 8)
    else if 0x4000 ≤ off ∧ off < 0x4900 then word (s.qDepth k ((off - 0x4000) / 4))
    else if 0x7000 ≤ off ∧ off < 0x7800 then word (s.rxDepth k ((off - 0x7000) / 4)) else w
  | 0x18 | 0x19 => if 0x400 ≤ off then s.edidWord k (blk - 0x18) ((off - 0x400) / 4) else w
  | 0x20 => if off = 8 then 0x0E201F9E else w
  | 0x24 => if off = 8 then 0x0E311F9E else w
  | 0x25 => if off = 4 then 0x0E301F9E else w
  | 0x30 =>
    let w := s.reg (regAddr 0 blk off)
    if off < 0x200 then w
    else if off < 0x400 then word (s.keyHash ((off - 0x200) / 8) / 2 ^ (32 * (off / 4 % 2)))
    else if off = 0x404 then setBit w 2 s.engineUp
    else if off = 0x40C then setBit (setBit w 5 (s.slotValid 0)) 6 (s.slotValid 1)
    else if off < 0x410 then w
    else if off = 0x410 then packWord [(0, 1, (s.drbgUp k).toNat), (8, 8, (s.kern k).entropyFails)]
    else s.reg (regAddr k blk off)
  | 0x38 => if 0x100 ≤ off ∧ off < 0x11C then Config.freeWord s.free else w
  | _ => w

/-- The word that a register of the power die shows. -/
def State.powerWord (s : State) (blk off : Nat) : Word :=
  let w := s.reg (regAddr 15 blk off)
  match blk with
  | 0x00 => if off = 0 then 0xB10F else if off = 4 then dieLo 15 else if off = 8 then dieHi 15 else if off = 0xC then Config.romPolicyVersion else w
  | _ => w

/-- The word at a mapped address, without the effects of a read; reserved addresses read as zero (R476). -/
def State.peek (s : State) (a : Nat) : Word :=
  match regDescAt? a with
  | none => 0
  | some _ => if addrUnit a = 15 then s.powerWord (addrBlock a) (addrOff a) else s.kernelWord (addrUnit a) (addrBlock a) (addrOff a)

/-! ### Reads -/

/-- What a read of an RC register clears (R12): the register, and for the meter the extremes it shows (R394). -/
def State.clearRc (s : State) (a : Nat) : State :=
  let s := s.setReg a 0
  if addrUnit a = 15 ∧ addrBlock a = 3 then
    let c := addrOff a / 64
    let x := s.path
    if addrOff a % 64 = 0x1C then s.setPath { x with vmin := (List.range 6).map fun i => if i = c then none else x.vmin.getD i none }
    else s.setPath { x with imax := (List.range 6).map fun i => if i = c then none else x.imax.getD i none }
  else s

/-- LOG_WIN holds the newest entry of the ring from a read of its word 0 on (R347). -/
def State.captureLog (s : State) (k : Nat) : State :=
  match (s.kern k).log with
  | [] => s
  | e :: _ => s.setRegs ((List.range 8).map fun j => (Reg.LOG_WIN k j, (entryWords e).getD j 0))

/-- Registers of a kernel that show what its core, its sensors and the lanes of a port in Test measure: open values (log entries 5, 100). -/
def State.openReg (s : State) (a : Nat) : Bool :=
  let off := addrOff a
  decide (addrUnit a < 8) && match addrBlock a with
    | 0x08 | 0x09 | 0x0A | 0x0B => s.portState (addrUnit a) (addrBlock a - 8) == 6 && [0x40, 0x44, 0x60, 0x64].contains off
    | 0x12 => off == 0x3100
    | 0x38 => decide (0x100 ≤ off) && decide (off < 0x11C)
    | _ => false

/-- A read of one register by a master: the word, and the state after its effects (R10, R70, R73, R478). -/
def State.readReg (s : State) (via : Via) (a : Nat) : Word × State :=
  let k := addrUnit a
  let off := addrOff a
  let w := s.peek a
  match regDescAt? a with
  | none => (0, s)
  | some d =>
    if s.openReg a then (w, s.fresh.2)
    else if d.acc = .rc then (w, s.clearRc a)
    else if k = 15 then (w, s)
    else match addrBlock a with
      | 0x02 =>
        if off < 0x1000 ∧ off % 256 = 252 then (w, s.mboxConsume k (off / 256))
        else if 0x1000 ≤ off ∧ off < 0x1100 ∧ off % 16 = 8 then s.lockRead via k ((off - 0x1000) / 16)
        else (w, s)
      | 0x03 => if off = 0x20 then (w, s.captureTime k) else (w, s)
      | 0x04 => if off = 0x100 then ((s.captureLog k).peek a, s.captureLog k) else (w, s)
      | _ => (w, s)

/-- Registers read in order of their addresses (R68). -/
def State.readRegs (s : State) (via : Via) : List Nat → List Word × State
  | [] => ([], s)
  | a :: l =>
    let r := s.readReg via a
    let t := r.2.readRegs via l
    (r.1 :: t.1, t.2)

/-! ### Writes -/

/-- The fields of a register that software writes, replaced; the other bits stay. -/
def mergeFields (fs : List RwField) (old w : Word) : Word := fs.foldl (fun o f => setFld o f.lo f.width (fld w f.lo f.width)) old

/-- Every field is within the range stated for it (R479). -/
def fieldsOk (fs : List RwField) (w : Word) : Bool := fs.all fun f => decide (f.min ≤ fld w f.lo f.width) && decide (fld w f.lo f.width ≤ f.max)

/-- A write that sets the fields, unless one is out of range: then it is ignored and counted (R479). -/
def State.plainWrite (s : State) (k a : Nat) (fs : List RwField) (w : Word) : State :=
  if fieldsOk fs w then s.setReg a (mergeFields fs (s.reg a) w) else s.ignoreWrite k a

/-- The request that a register write stands for: parameter words from byte 12. -/
def writeReq (via : Via) (k sub : Nat) (ws : List Word) : Req where
  via := via
  tag := 0
  flags := 0
  target := k + 16 * sub
  plen := 4 * ws.length
  received := 4 * ws.length + 16
  crcOk := true
  slot := 0
  params := ws

/-- A write that takes effect as a command, or is ignored and counted where the command would be refused (R206, R236, R479). -/
def State.asCommand (s : State) (via : Via) (c : Cmd) (k a sub : Nat) (ws : List Word) : State :=
  let r := writeReq via k sub ws
  let ek := if k = 15 then s.lead else k
  match firstFail (c.bad r k s) with
  | some _ => s.ignoreWrite ek a
  | none =>
    let res := c.act r k s
    if res.status = .done then res.state else s.ignoreWrite ek a

/-- MBOX (Table 2.11, R487). -/
def State.writeMbox (s : State) (via : Via) (k off : Nat) (w : Word) : State :=
  let a := regAddr k 0x02 off
  let badOwner := (decide (4 < fld w 0 5) && decide (fld w 0 5 < 8)) || decide (17 < fld w 0 5)
  if off < 0x1000 then s.mboxDataWrite via k (off / 256) (off % 256 / 4) w
  else if off < 0x1100 then
    let m := (off - 0x1000) / 16
    match off % 16 with
    | 0 => if bitAt w 1 then s.setRb a 1 false else s
    | 4 =>
      if badOwner || (s.lockOwner k m != 0 && s.lockOwner k m != master via) || s.isStale k m (master via) then s.ignoreWrite k a
      else s.setReg a (word (fld w 0 5))
    | 8 => s.lockWrite via k m w
    | _ => s
  else if off = 0x2000 then s.ringDoorbells k w
  else if off = 0x2004 then s.setReg a (s.reg a &&& ~~~ w)
  else if 0x2080 ≤ off ∧ off < 0x2100 then (if badOwner then s.ignoreWrite k a else s.setReg a (word (fld w 0 5)))
  else s.plainWrite k a [⟨0, 6, 1, 60⟩] w

/-- TIME (Tables 16.14 and 16.16): the limits and the UTC offset belong to the one timebase (R328). -/
def State.writeTime (s : State) (k off : Nat) (w : Word) : State :=
  let a := regAddr k 0x03 off
  match off with
  | 0x004 =>
    if sfld w 8 6 < -24 ∨ 24 < sfld w 8 6 then s.ignoreWrite k a
    else if k = 0 then s.setReg a (w &&& 0x3F0F) else s.setReg a (w &&& 8)
  | 0x008 => (s.setTime off (w &&& 0x3FFFF)).sendTimeInfos
  | 0x00C =>
    let v := fld w 0 30
    if 1000000000 < v ∨ (0 < v ∧ v < 1000) then s.ignoreWrite k a else s.setTime off (word v)
  | 0x010 => if fieldsOk [⟨0, 10, 10, 1000⟩] w then s.setTime off (word (fld w 0 10)) else s.ignoreWrite k a
  | 0x014 => if fieldsOk [⟨0, 6, 1, 60⟩] w then s.setTime off (word (fld w 0 6)) else s.ignoreWrite k a
  | 0x018 => if fieldsOk [⟨0, 16, 1, 65535⟩] w then s.setTime off (word (fld w 0 16)) else s.ignoreWrite k a
  | _ => if 100000000 < w.toInt.natAbs then s.ignoreWrite k a else s.setReg a w

/-- A link port: PWR_POLICY acts at once, and a new EQ_ROW field of LNK_EQ_SEL in Test (R113, Table 3.16). -/
def State.writeLnk (s : State) (k p off : Nat) (fs : List RwField) (w : Word) : State :=
  let a := regAddr k (8 + p) off
  if off = 4 then
    if fieldsOk fs w then (s.setReg a (mergeFields [⟨2, 2, 0, 3⟩, ⟨4, 2, 0, 3⟩, ⟨6, 1, 0, 1⟩] (s.reg a) w)).setPolicy k p (fld w 0 2)
    else s.ignoreWrite k a
  else if off = 0x10 then
    let t := s.plainWrite k a fs w
    if s.portState k p = 6 ∧ bitAt w 8 then t.useRow k p (fld w 12 4) else t
  else s.plainWrite k a fs w

/-- ROW_SHADOW (R147, Table 4.18). -/
def State.writeRows (s : State) (k off : Nat) (w : Word) : State :=
  let p := off / 0x2000
  let e := (off % 0x1000) / 4 * 2
  if s.swapArmed k p || s.rowHeld k p then s.ignoreWrite k (regAddr k 0x11 off)
  else if s.rowLen k p ≤ e ∨ s.rowPort k p ≠ p then s
  else (s.setRowEntry true k p e (fld w 0 16)).setRowEntry true k p (e + 1) (fld w 16 16)

/-- SCHED (Table 5.9). -/
def State.writeSched (s : State) (via : Via) (k off : Nat) (w : Word) : State :=
  let a := regAddr k 0x12 off
  if off < 0x400 then s.asCommand via cmdSchedNodeSet k a 0 [word (704 + 16 * (off / 256) + off % 256 / 8), w &&& 0x00FFFF03]
  else if off < 0x1200 then
    s.asCommand via cmdSchedNodeSet k a 0 [word (576 + (off - 0x1000) / 4), (w &&& 0xFF00) ||| ((w &&& 3) <<< 24)]
  else if off < 0x2900 then s.asCommand via cmdSchedNodeSet k a 0 [word ((off - 0x2000) / 4), (w &&& 0xFF) <<< 8]
  else s.setReg a w

/-- SHAPE (Table 5.10). -/
def State.writeShape (s : State) (via : Via) (k off : Nat) (w : Word) : State :=
  let n := off / 16
  let w3 (i : Nat) : Word := if off % 16 = 4 * i then w else s.reg (regAddr k 0x13 (16 * n + 4 * i))
  s.asCommand via cmdShaperSet k (regAddr k 0x13 off) 0
    [word n, w3 0 &&& 0x0FFFFFFF, w3 1 &&& 0x01FFFFFF, if n < 576 ∨ off % 16 = 8 then w3 2 &&& 0xFF else 0]

/-- A bucket table word written: every bucket whose member changes moves behind a fence (R191, R193). -/
def State.writeHash (s : State) (k set w0 : Nat) (w : Word) : State :=
  (List.range 32).foldl (fun s j => s.moveBucket k set (32 * w0 + j) (bitAt w j).toNat) s

/-- Table 1.3 gives two paths from kernel k to kernel d. -/
def twoPaths (v : Variant) (k d : Nat) : Bool :=
  match v with
  | .eln2 => decide (d < 2) && d != k
  | .eln4 => decide (d < 4) && (d + 4 - k) % 4 == 2
  | .eln8 => (d + 8 - k) % 8 == 3 || (d + 8 - k) % 8 == 5

/-- CONG (Table 5.12). -/
def State.writeCong (s : State) (via : Via) (k off : Nat) (fs : List RwField) (w : Word) : State :=
  let a := regAddr k 0x15 off
  if off < 0x1200 then
    let q := off / 8
    if off % 8 = 0 then
      s.asCommand via cmdQueueThresholdSet k a 0 [word q, w &&& 0xFF0F, s.reg (Reg.Q_MARK k q)]
    else if s.noQueue k q then s.ignoreWrite k a else s.setReg a (w &&& 0xFFFFF)
  else if 0x2000 ≤ off ∧ off < 0x2020 then
    s.asCommand via cmdQueueThresholdSet k a 0 [0x80000000 ||| word ((off - 0x2000) / 4), w &&& 0xFF0F, 0]
  else if 0x2200 ≤ off ∧ off < 0x2220 then s.writeHash k 0 ((off - 0x2200) / 4) w
  else if 0x2300 ≤ off ∧ off < 0x2400 then
    let d := (off - 0x2300) / 32
    if twoPaths s.variant k d then s.writeHash k (1 + d) ((off - 0x2300) % 32 / 4) w else s.ignoreWrite k a
  else s.plainWrite k a fs w

/-- DIN and PURLE (Tables 6.14 and 6.16). -/
def State.writeDin (s : State) (via : Via) (k i : Nat) (w : Word) : State :=
  let a := Reg.DIN_CTRL k i
  let t := s.asCommand via cmdDinConfig k a i [w &&& 0xF73, fld w 16 4 |> word]
  if firstFail (cmdDinConfig.bad (writeReq via k i [w &&& 0xF73, word (fld w 16 4)]) k s) = none then
    t.dinApply k i ((t.reg a &&& 0xFCFFFFFF) ||| (w &&& 0x03000000))
  else t

def State.writePurl (s : State) (via : Via) (k off : Nat) (w : Word) : State :=
  let i := off / 0x400
  let a := regAddr k 0x1A off
  if off % 0x400 = 0 then s.asCommand via cmdPurlModeSet k a i [w &&& 0x001F3F33] else s.asCommand via cmdDamageConfig k a i [w &&& 0x3FF]

/-- ENABLE of a display output written (R255): with a panel it trains, without one it waits for it. -/
def State.enableOut (s : State) (k o : Nat) (on : Bool) : State :=
  if on = s.rb (Reg.DOUT_CTRL k o) 0 then s
  else
    let s := s.setRb (Reg.DOUT_CTRL k o) 0 on
    if !on then
      let d := s.dout k o
      (s.setDout k o { d with psrArmed := false, psrLeaving := false, behind := false, changing := false, up := false }).setDoutState k o 0
    else if s.rb (Reg.DOUT_STATUS k o) 4 then s.startTraining k o else s.setDoutState k o 1

/-- DOUT (Table 7.13). -/
def State.writeDout (s : State) (via : Via) (k o off : Nat) (fs : List RwField) (w : Word) : State :=
  let a := regAddr k (0x1C + o) off
  match off with
  | 0x00 => (s.setReg a (mergeFields [⟨1, 1, 0, 1⟩, ⟨2, 1, 0, 1⟩] (s.reg a) w)).enableOut k o (bitAt w 0)
  | 0x50 => if o = 1 then s.ignoreWrite k a else s.asCommand via cmdDoutPairSet k a 0 [w &&& 0x33]
  | 0x60 | 0x64 | 0x68 | 0x6C =>
    let f (x : Nat) : Word := if off = x then w else s.reg (regAddr k (0x1C + o) x)
    s.asCommand via cmdFrameLockSet k a o [f 0x60 &&& 0x07FF0003, f 0x64, f 0x68 &&& 0xFFFF, f 0x6C]
  | 0x80 => s.asCommand via cmdPsrConfig k a o [w &&& 0xF01]
  | 0x90 | 0x94 =>
    let f (x : Nat) : Word := if off = x then w else s.reg (regAddr k (0x1C + o) x)
    s.asCommand via cmdTestPattern k a o [f 0x90 &&& 0xF, f 0x94 &&& 0x3FFFFFFF]
  | _ => s.plainWrite k a fs w

/-- FST_CTRL.LAYOUT changes only while the skein is idle (R243). -/
def State.writeFstore (s : State) (k off : Nat) (w : Word) : State :=
  let o := off / 256
  let a := regAddr k 0x1E off
  if s.skeinBusy k (3 + o) then s.ignoreWrite k a else s.setReg a (w &&& 1)

/-- PCIE (Tables 8.12, 8.13): IDLE_FORM 3 acts as 0 and MAX_WIDTH 3 as 2, and the field keeps what was written. -/
def State.writePcie (s : State) (via : Via) (k off : Nat) (w : Word) : State :=
  let a := regAddr k 0x20 off
  let f (x : Nat) : Word := if off = x then w else s.reg (regAddr k 0x20 x)
  let c := f 0 &&& 0x37F
  let acts := setFld (setFld (setFld c 0 2 (if fld c 0 2 = 3 then 0 else fld c 0 2)) 2 2 (if fld c 2 2 = 3 then 2 else fld c 2 2)) 4 3
    (if fld c 4 3 < 1 ∨ 5 < fld c 4 3 then 5 else fld c 4 3)
  let ws (x : Word) : List Word := [x, f 0x10 &&& 0xFFF, f 0x14 &&& 0x7F]
  if firstFail (cmdPcieConfig.bad (writeReq via k 0 (ws acts)) k s) = none then
    let res := cmdPcieConfig.act (writeReq via k 0 (ws c)) k s
    if res.status = .done then res.state else s.ignoreWrite k a
  else s.ignoreWrite k a

/-- USBH (Tables 9.11, 9.12): IDLE_FORM 3 acts as 0, the depths as 1 to 4, and the fields keep what was written. -/
def State.writeUsbh (s : State) (via : Via) (k off : Nat) (w : Word) : State :=
  let a := regAddr k 0x24 off
  if off = 0 then
    let res := cmdUsbConfig.act (writeReq via k 0 [w &&& 0x773]) k s
    if res.status = .done then res.state else s.ignoreWrite k a
  else s.asCommand via cmdUsbPortPower k a 0 [packWord [(0, 2, (off - 0x20) / 4), (8, 2, fld w 0 2)]]

/-- PRP and PTP (Table 10.16). -/
def State.writePrp (s : State) (via : Via) (k off : Nat) (w : Word) : State :=
  let f (x m : Nat) : Word := (if off = x then w else s.reg (regAddr k 0x2A x)) &&& word m
  s.asCommand via cmdPrpPairSet k (regAddr k 0x2A off) 0 [f 0 3, f 4 0x3FFF, f 8 0x3FFF]

def State.writePtp (s : State) (via : Via) (k off : Nat) (w : Word) : State :=
  let a := regAddr k 0x2B off
  let f (x m : Nat) : Word := (if off = x then w else s.reg (regAddr k 0x2B x)) &&& word m
  if off = 8 then s.setReg a (w &&& 0xFFFF) else s.asCommand via cmdPtpConfig k a 0 [f 0 0x0077FF03, f 4 0x0FFFFFFF]

def State.writeEth (s : State) (via : Via) (k e : Nat) (w : Word) : State :=
  let r (m : Nat) : Req := writeReq via k e [setFld (w &&& 0x337) 0 3 m, word (fld w 16 14)]
  let res := cmdEthConfig.act (r (fld w 0 3)) k s
  if firstFail (cmdEthConfig.bad (r (actsMedium (fld w 0 3))) k s) = none ∧ res.status = .done then res.state
  else s.ignoreWrite k (Reg.ETH_CTRL k e)

/-- CHK (R368, Table 11.7): what CHECK_UNIT_SET would refuse of the field written is ignored; STATE is loaded anew. -/
def State.writeChk (s : State) (k off : Nat) (w : Word) : State :=
  let a := regAddr k 0x2D off
  let u := off / 64
  if 0x100 ≤ off then s.setReg a w
  else
    let cfg := s.reg (Reg.CHK_CFG k u)
    let poly := s.reg (Reg.CHK_POLY k u)
    let init := s.reg (Reg.CHK_INIT k u)
    let xo := s.reg (Reg.CHK_XOROUT k u)
    let wide := decide (2 ^ s.chkWidth k u ≤ w.toNat)
    if (s.unitScan k u).isSome then s.ignoreWrite k a
    else match off % 64 with
      | 0x00 =>
        let s := if bitAt w 16 then s.setRb a 16 false else s
        if (fld w 12 2 = 3 ∧ u < 2) ∨ s.feedLocked k u (fld w 12 2) then s.ignoreWrite k a
        else if (w ^^^ cfg) &&& 0xF33F = 0 then s
        else s.setUnit k u w poly init xo none
      | 0x04 => if wide then s.ignoreWrite k a else s.setUnit k u cfg w init xo none
      | 0x08 => if wide then s.ignoreWrite k a else s.setUnit k u cfg poly w xo none
      | 0x0C => if wide then s.ignoreWrite k a else s.setUnit k u cfg poly init w none
      | _ => s.setUnit k u cfg poly init xo (some w)

/-- GPIO (R360, Table 11.8): bits of pins that the mapper owns ignore writes, and an owned pin follows a new configuration. -/
def State.writeGpio (s : State) (k off : Nat) (w : Word) : State :=
  let own := s.reg (Reg.GPIO_OWNED k)
  if off = 8 then s.setReg (Reg.GPIO_OUT k) ((s.reg (Reg.GPIO_OUT k) &&& own) ||| (w &&& ~~~ own &&& 0xFFFF))
  else
    let g := (off - 0x40) / 4
    let s := s.setReg (Reg.GPIO_CFG k g) (w &&& 0xFF1F)
    if bitAt own g then
      match (List.range 256).find? fun i => s.rf (Reg.SMAP_CTRL k i) 12 2 == 2 && s.rf (Reg.SMAP_DST k i) 0 4 == g with
      | some i => s.driveGpio k i
      | none => s
    else s

/-- KCTL (Table 16.7). -/
def State.writeKctl (s : State) (k off : Nat) (fs : List RwField) (w : Word) : State :=
  if off = 0x100 then s.domEnWrite k w else s.plainWrite k (regAddr k 0x01 off) fs w

/-- A register of a kernel written. -/
def State.writeKernel (s : State) (via : Via) (k blk off : Nat) (fs : List RwField) (w : Word) : State :=
  let a := regAddr k blk off
  match blk with
  | 0x01 => s.writeKctl k off fs w
  | 0x02 => s.writeMbox via k off w
  | 0x03 => s.writeTime k off w
  | 0x08 | 0x09 | 0x0A | 0x0B => s.writeLnk k (blk - 8) off fs w
  | 0x11 => s.writeRows k off w
  | 0x12 => s.writeSched via k off w
  | 0x13 => s.writeShape via k off w
  | 0x15 => s.writeCong via k off fs w
  | 0x16 => if 64 < fld w 0 7 ∨ fld w 8 8 = 0 then s.ignoreWrite k a else s.latSet k (off / 128) (fld w 0 7) (fld w 8 8)
  | 0x18 | 0x19 => s.writeDin via k (blk - 0x18) w
  | 0x1A => s.writePurl via k off w
  | 0x1C | 0x1D => s.writeDout via k (blk - 0x1C) off fs w
  | 0x1E => s.writeFstore k off w
  | 0x20 => s.writePcie via k off w
  | 0x21 => if off % 32 = 0x10 ∧ off < 0x100 then s.applyPciwCtrl k (off / 32) w else s.plainWrite k a fs w
  | 0x24 => s.writeUsbh via k off w
  | 0x28 | 0x29 => s.writeEth via k (blk - 0x28) w
  | 0x2A => s.writePrp via k off w
  | 0x2B => s.writePtp via k off w
  | 0x2D => s.writeChk k off w
  | 0x3C => s.writeGpio k off w
  | _ => s.plainWrite k a fs w

/-- The curve and limits of LOAD with one word replaced, in the order of PWR_BREAKER_SET. -/
def State.breakerWords (s : State) (off : Nat) (w : Word) : List Word :=
  ([0x08, 0x0C, 0x10] ++ (List.range 16).map fun i => 0x20 + 4 * i).map fun x => if x = off then w else s.reg (regAddr 15 0x02 x)

/-- A register of the power die written (R397, R417). -/
def State.writePower (s : State) (via : Via) (blk off : Nat) (fs : List RwField) (w : Word) : State :=
  let a := regAddr 15 blk off
  match blk with
  | 0x01 =>
    if 0x40 ≤ off then s
    else if fieldsOk fs w then s.feedsFrom (s.setFeed (off / 32) w) else s.ignoreWrite s.lead a
  | 0x02 =>
    if off = 0 then
      (if bitAt w 0 = s.swEn then s
       else if !bitAt w 0 then s.loadDisable 0 else if s.enableRefused then s.ignoreWrite s.lead a else s.loadEnable)
    else if off = 0x60 then s.asCommand via cmdPwrWarnSet 15 a 0 [w, s.reg Reg.PWR_HOLD]
    else if off = 0x64 then s.asCommand via cmdPwrWarnSet 15 a 0 [s.reg Reg.PWR_WARN, w]
    else s.asCommand via cmdPwrBreakerSet 15 a 0 (s.breakerWords off w)
  | 0x03 => if off = 0x204 then s.setHold (bitAt w 0) else s.plainWrite s.lead a fs w
  | 0x06 | 0x07 =>
    if off = 0 then
      (if 4 < fld w 0 3 then s.ignoreWrite s.lead a else (s.setReg a (w &&& 0x737)).armFrs (blk - 6))
    else s.plainWrite s.lead a fs w
  | _ => s.plainWrite s.lead a fs w

/-- A word written to a mapped address: registers with nothing to write ignore it without a count (R10, R13). -/
def State.writeReg (s : State) (via : Via) (a : Nat) (w : Word) : State :=
  match regDescAt? a with
  | none => s
  | some d =>
    if d.acc ≠ .rw then s
    else if addrUnit a = 15 then s.writePower via (addrBlock a) (addrOff a) d.fields w
    else s.writeKernel via (addrUnit a) (addrBlock a) (addrOff a) d.fields w

/-- Words written in order of their addresses (R68). -/
def State.writeRegs (s : State) (via : Via) (a : Nat) : List Word → State
  | [] => s
  | w :: l => (s.writeReg via a w).writeRegs via (a + 4) l

/-! ### What an access may reach (R68, R476 to R482) -/

/-- UNIT 0xE resolved (R477). -/
def resolveAddr (via : Via) (w : Word) : Nat :=
  if addrUnit w.toNat = 14 then localKernel via * 0x10000000 + w.toNat % 0x10000000 else w.toNat

/-- The size of a block (Tables 16.2 and 16.3); 0 where there is none. -/
def blockSize (u blk : Nat) : Nat := if u = 15 then powerBlockSize blk else kernelBlockSize blk

/-- An address inside the span of a block that exists for the master (R476, R482). -/
def State.mapped (s : State) (via : Via) (a : Nat) : Bool :=
  let u := addrUnit a
  (decide (u = 15) || s.hasKernel u) && decide (addrOff a < blockSize u (addrBlock a))
    && (match via with | .hook _ => decide (u = 15) || (decide (u < 2) && addrBlock a == 2) | _ => true)

/-- Table 16.4. -/
def writeAllowed (m u blk : Nat) : Bool :=
  if u = 15 then
    if m = 4 then false
    else if m < 16 then true
    else blk == 8 || blk == 4 + (m - 16) || blk == 6 + (m - 16)
  else if m = 4 then blk != 1 && blk != 0x38
  else if m < 16 then true
  else blk == 2

/-- R481: the kernel that serves the access runs, and the domain of the block is on. -/
def State.reachChecks (s : State) (a : Nat) : List Check :=
  let u := addrUnit a
  let d := kernelBlockDomain (addrBlock a)
  if u = 15 then [(!s.kernelRuns s.lead, .wrongState, 0xFFFF)]
  else [(!s.kernelRuns u, .wrongState, 0xFFFF), (decide (1 < d) && !s.domainOn u d, .wrongState, d)]

/-- A single read of KERNEL_STATE, which the lead answers for a kernel that does not run (R481). -/
def State.leadAnswers (s : State) (a c : Nat) : Bool :=
  c == 1 && decide (addrUnit a < 8) && addrBlock a == 1 && addrOff a == 0x10C && s.kernelRuns s.lead

/-- R68 for a range of c words from the address at byte 12. -/
def State.rangeChecks (s : State) (via : Via) (w : Word) (c limit : Nat) : List Check :=
  let a := resolveAddr via w
  [(decide (a % 4 ≠ 0) || !s.mapped via a, .badParam, 12),
   (decide (c < 1) || decide (limit < c) || decide (blockSize (addrUnit a) (addrBlock a) < addrOff a + 4 * c), .badParam, 16)]

/-! ### Commands -/

/-- A register command names its unit by address. -/
def regCmd (opcode minLen : Nat) (bad : Req → State → List Check) (denied : Req → State → List Check) (act : Req → State → Res) : Cmd where
  opcode := opcode
  unitInTarget := false
  needsKernel := false
  minLen := minLen
  bad r _ s := bad r s
  denied r _ s := denied r s
  act r _ s := act r s

def regAddrOf (r : Req) : Nat := resolveAddr r.via (reqWord r 12)

def cmdRegRead : Cmd :=
  regCmd 0x1F01 8 (fun r s => s.rangeChecks r.via (reqWord r 12) (reqWord r 16).toNat 256) (fun _ _ => []) fun r s =>
    let a := regAddrOf r
    let c := (reqWord r 16).toNat
    .checked (if s.leadAnswers a c then [] else s.reachChecks a) s
      (let x := s.readRegs r.via ((List.range c).map fun i => a + 4 * i)
       .ok x.2 x.1)

def execRegRead (r : Req) (s : State) : Result := onCommand cmdRegRead r s

/-- R482. -/
def permChecks (r : Req) : List Check :=
  let a := regAddrOf r
  [(!writeAllowed (master r.via) (addrUnit a) (addrBlock a), .denied, 1)]

def cmdRegWrite : Cmd :=
  regCmd 0x1F02 0
    (fun r s =>
      let c := (reqWord r 16).toNat
      s.rangeChecks r.via (reqWord r 12) c 254 ++ [(decide (r.plen ≠ 8 + 4 * c), .badParam, 16)])
    (fun r _ => permChecks r) fun r s =>
    let a := regAddrOf r
    .checked (s.reachChecks a) s (.ok (s.writeRegs r.via a (r.params.drop 2)) [])

def execRegWrite (r : Req) (s : State) : Result := onCommand cmdRegWrite r s

/-- The bits of a register that act only where 1 is written (R480): W1C and W1S fields. -/
def oneBits (a : Nat) : Word :=
  let off := addrOff a
  if addrUnit a = 15 then 0
  else match addrBlock a with
    | 0x02 => if 0x1000 ≤ off ∧ off < 0x1100 ∧ off % 16 = 0 then 2 else if off = 0x2000 ∨ off = 0x2004 then 0xFFFFFFFF else 0
    | 0x2D => if off < 0x100 ∧ off % 64 = 0 then 0x10000 else 0
    | _ => 0

/-- The word that REG_MODIFY writes over `old` (R67, R480). -/
def modifyWord (a : Nat) (old mask value : Word) : Word :=
  (((old &&& ~~~ mask) ||| (value &&& mask)) &&& ~~~ oneBits a) ||| (value &&& mask &&& oneBits a)

/-- A read-modify-write by a master: the old word, the new one, and the state after it. -/
def State.modifyReg (s : State) (via : Via) (a : Nat) (mask value : Word) : Word × Word × State :=
  let x := s.readReg via a
  let t := x.2.writeReg via a (modifyWord a x.1 mask value)
  (x.1, t.peek a, t)

/-- The address names an RC register. -/
def isRc (a : Nat) : Bool := match regDescAt? a with | some d => decide (d.acc = .rc) | none => false

def cmdRegModify : Cmd :=
  regCmd 0x1F03 12
    (fun r s =>
      let a := regAddrOf r
      [(decide (a % 4 ≠ 0) || !s.mapped r.via a || isRc a, .badParam, 12)])
    (fun r _ => permChecks r) fun r s =>
    let a := regAddrOf r
    .checked (s.reachChecks a) s
      (let x := s.modifyReg r.via a (reqWord r 16) (reqWord r 20)
       .ok x.2.2 [x.1, x.2.1])

def execRegModify (r : Req) (s : State) : Result := onCommand cmdRegModify r s

/-! ### Single accesses -/

/-- A read of word 0 of LOG_WIN (R347). -/
def execLogWinRead (k : Nat) (s : State) : Result :=
  onUnit s (s.hasKernel k) (if s.kernelRuns k then { s.captureLog k with readOut := (s.captureLog k).peek (Reg.LOG_WIN k 0) } else s)

/-- A read of an RC field (R12). -/
def execRcFieldRead (a : Nat) (s : State) : Result :=
  onUnit s (decide (addrUnit a = 15) || s.hasKernel (addrUnit a))
    (if isRc a ∧ firstFail (s.reachChecks a) = none then (if s.openReg a then { s.fresh.2 with readOut := s.peek a } else { s.clearRc a with readOut := s.peek a }) else s)

/-- A register write by a master that may make it (R479 to R482). -/
def execRegisterWrite (via : Via) (a : Nat) (w : Word) (s : State) : Result :=
  onUnit s (decide (addrUnit a = 15) || s.hasKernel (addrUnit a))
    (if a % 4 = 0 ∧ s.mapped via a ∧ writeAllowed (master via) (addrUnit a) (addrBlock a) ∧ firstFail (s.reachChecks a) = none then
       s.writeReg via a w
     else s)

/-! ### Diagnostic commands (R83) -/

/-- Elements of an array of registers, as distances from its base, in address order. -/
def dimsOffsets : List (Nat × Nat) → List Nat
  | [] => [0]
  | (stride, count) :: rest => (List.range count).flatMap fun i => (dimsOffsets rest).map fun d => i * stride + d

/-- The offsets of the RC words of a block, in address order. -/
def rcOffsets (u blk : Nat) : List Nat :=
  (((if u = 15 then powerBlockRegs blk else kernelBlockRegs blk).filter fun d => decide (d.acc = .rc)).flatMap fun d =>
    (dimsOffsets d.dims).map fun x => d.base + x).mergeSort (fun a b => decide (a ≤ b))

/-- Counters shown in order without a clear; each open one takes a value of its own. -/
def State.showCounters (s : State) (l : List Nat) : List Word × State :=
  l.foldl (fun acc a => (acc.1 ++ [acc.2.peek a], if acc.2.openReg a then acc.2.fresh.2 else acc.2)) ([], s)

def cmdDiagCountersRead : Cmd where
  opcode := 0x1101
  powerUnit := true
  minLen := 8
  bad r u _ :=
    let blk := reqField r 12 0 8
    let n := (rcOffsets u blk).length
    [badSub r 1, (blockSize u blk == 0, .badParam, 12), (decide (0 < reqField r 16 0 16) && decide (n ≤ reqField r 16 0 16), .badParam, 16)]
  act r u s :=
    let blk := reqField r 12 0 8
    let d := if u = 15 then 1 else kernelBlockDomain blk
    let l := rcOffsets u blk
    let part := ((l.drop (reqField r 16 0 16)).take 255).map fun o => regAddr u blk o
    .checked [(decide (1 < d) && !s.domainOn u d, .wrongState, d)] s
      (let x := s.showCounters part
       .ok (if reqBit r 12 31 then part.foldl (fun s a => s.clearRc a) x.2 else x.2)
        (packWord [(0, 16, l.length), (16, 16, part.length)] :: x.1))

def execDiagCountersRead (r : Req) (s : State) : Result := onCommand cmdDiagCountersRead r s

def cmdDiagLoopback : Cmd where
  opcode := 0x1102
  minLen := 4
  bad r _ _ := [badSub r 4, (decide (reqField r 12 0 2 = 3), .badParam, 12)]
  act r k s :=
    let p := reqSub r
    let m := reqField r 12 0 2
    .checked [(!s.domainOn k (4 + p / 2), .wrongState, 4 + p / 2), (decide (s.portState k p ≠ 6), .wrongState, s.portState k p)] s
      (.ok ((s.setRb (Reg.DIAG_LOOP k) p (m == 1)).setRb (Reg.DIAG_LOOP k) (4 + p) (m == 2)) [])

def execDiagLoopback (r : Req) (s : State) : Result := onCommand cmdDiagLoopback r s

/-- Open values drawn in turn. -/
def State.freshList (s : State) (n : Nat) : List Word × State :=
  ((List.range n).map fun i => Config.freeWord (s.free + i), { s with free := s.free + n })

def cmdDiagSensors : Cmd where
  opcode := 0x1103
  powerUnit := true
  bad r _ _ := [badSub r 1]
  act _ u s :=
    if u = 15 then
      let x := s.freshList 2
      .ok x.2 (x.1 ++ [word s.path.panel])
    else let x := s.freshList 7; .ok x.2 x.1

def execDiagSensors (r : Req) (s : State) : Result := onCommand cmdDiagSensors r s

end Sys2Proof.Machine
end

