-- ==== Sys2Proof/Machine/Board.lean ====
section
/-! DEFINITION. The body of a board table (R446 to R448): its sections, the check of BOARD_TABLE_LOAD and of a start, and how a kernel and
the power die apply it. -/

namespace Sys2Proof.Machine

/-! ### Sections -/

/-- One section: TYPE, VERSION, the offset of its header in the body, and its data. -/
structure Section where
  type : Nat
  version : Nat
  at' : Nat
  data : List Byte
  deriving DecidableEq, Repr

/-- A fault of a body: the section TYPE and the offset in the body (EV_BOARD_TABLE_FAIL). -/
abbrev BodyFault := Option (Nat × Nat)

/-- The sections of a body in order, and the fault that ends the walk, if one does (R446). -/
def parseSections (fuel pos : Nat) (bs : List Byte) : List Section × BodyFault :=
  match fuel with
  | 0 => ([], some (0xFFFF, pos))
  | fuel + 1 =>
    if bs.length < 8 then ([], some (0xFFFF, pos))
    else
      let ty := imageNum bs 0 2
      let len := imageNum bs 4 4
      if ty = 0xFFFF then ([], if len = 0 ∧ bs.length = 8 then none else some (ty, pos))
      else if len % 4 ≠ 0 ∨ bs.length < 8 + len then ([], some (ty, pos))
      else
        let r := parseSections fuel (pos + 8 + len) (bs.drop (8 + len))
        ({ type := ty, version := imageNum bs 2 2, at' := pos, data := (bs.drop 8).take len } :: r.1, r.2)

/-- Word i of a section's data. -/
def Section.word (x : Section) (i : Nat) : Word := (imageNum x.data (4 * i) 4 : Nat) |> BitVec.ofNat 32

def Section.kernel (x : Section) : Nat := fld (x.word 0) 0 3

/-- What a section is for within its TYPE (Table 14.15): its kernel, input, port or slot. -/
def Section.key (x : Section) : Nat :=
  match x.type with
  | 4 => 2 * x.kernel + fld (x.word 0) 8 1
  | 6 => 4 * x.kernel + fld (x.word 0) 8 2
  | 7 => fld (x.word 0) 0 6
  | 9 => 0
  | _ => x.kernel

/-- An equalisation row within the ranges of Tables 3.4 and 3.5; an invalid row may hold anything. -/
def rowGood (a b : Word) : Bool :=
  let pre := fld a 0 5
  let post := fld a 8 5
  let main := fld a 16 7
  !bitAt b 24 || (decide (pre ≤ 16) && decide (post ≤ 24) && decide (24 ≤ main) && decide (pre + main + post ≤ 64) && decide (fld b 0 5 ≤ 24)
    && decide (fld b 8 5 ≤ 15))

/-- The string descriptors of IDENTITY fill n strings of the bytes, each padded to 4 bytes. -/
def stringsGood (n : Nat) (bs : List Byte) : Bool :=
  match n with
  | 0 => bs.isEmpty
  | n + 1 =>
    let len := byteAt bs 0
    let full := ceilDiv len 4 * 4
    decide (2 ≤ len) && len % 2 == 0 && byteAt bs 1 == 3 && decide (full ≤ bs.length) && stringsGood n (bs.drop full)

/-- The three words of LINK_AUTH_POLICY hold values in range (R432). -/
def policyGood (a b c : Word) : Bool :=
  decide (fld a 0 2 ≤ 2) && ((List.range 4).all fun i => decide (fld b (8 * i) 8 < 64) || fld b (8 * i) 8 == 0xFF)
    && decide (1 ≤ fld c 0 17) && decide (fld c 0 17 ≤ 86400)

/-- The power-path words 0 to 23 are in the ranges of their registers (Tables 12.9 and 12.10). -/
def powerWordsGood (w : Nat → Word) : Bool :=
  let i (k : Nat) : Nat := fld (w (6 + 2 * k)) 0 12
  let t (k : Nat) : Nat := fld (w (7 + 2 * k)) 0 23
  !outside (fld (w 0) 4 10) 80 580 && !outside (fld (w 1) 4 10) 80 580 && !outside (fld (w 3) 0 10) 25 1000 && !outside (fld (w 3) 16 10) 1 1000
    && !outside (fld (w 4) 0 7) 10 120 && !outside (fld (w 4) 16 10) 10 800 && !outside (fld (w 5) 0 4) 6 12
    && ((List.range 8).all fun k => !outside (i k) 25 (if k = 0 then 1000 else 2000) && !outside (t k) 1 6000000
        && (k == 0 || (decide (i (k - 1) < i k) && decide (t k < t (k - 1)))))
    && !outside (fld (w 22) 16 10) 80 580 && !outside (fld (w 22) 0 10) 80 580 && decide (fld (w 22) 16 10 + 10 ≤ fld (w 22) 0 10)
    && !outside (fld (w 23) 0 6) 1 50 && !outside (fld (w 23) 16 10) 1 1000

/-- The counts, the LENGTH and the values of a section (R448); a TYPE that the part does not know passes. -/
def Section.good (x : Section) : Bool :=
  let n := x.data.length
  let w := x.word
  (decide (9 < x.type) || x.type == 0 || x.version == 1) &&
  match x.type with
  | 1 => decide ((w 1).toNat ≤ 4096) && n == 8 + 12 * (w 1).toNat
  | 2 =>
    decide (552 ≤ n) && decide ((w 137).toNat ≤ 64) && n == 552 + 16 * (w 137).toNat
      && (List.range 4).all fun p => (List.range 16).all fun r => rowGood (w (1 + 34 * p + 2 * r)) (w (2 + 34 * p + 2 * r))
  | 3 => n == 16 && decide (32 ≤ (w 1).toNat) && decide ((w 1).toNat ≤ 704) && decide ((w 2).toNat ≤ 704) && decide ((w 3).toNat ≤ 704)
  | 4 => n == 4 + 128 * (fld (w 0) 16 2 + 1)
  | 5 => decide (24 ≤ n) && decide (byteAt x.data 20 ≤ 3) && stringsGood (byteAt x.data 20) (x.data.drop 24)
  | 6 => n == 16 && policyGood (w 1) (w 2) (w 3)
  | 7 => decide (8 ≤ n) && decide ((w 1).toNat ≤ 3072) && n == 8 + ceilDiv (w 1).toNat 4 * 4
  | 8 => n == 20 && (((List.range 4).flatMap fun e => layoutChecks ((List.range 4).map fun i => w (1 + i)) e).all fun c => !c.1)
  | 9 => n == 112 && powerWordsGood w
  | _ => true

/-- A section that appears more often than its Count allows. -/
def firstRepeat : List Section → Option Section
  | [] => none
  | x :: l =>
    if x.type ≠ 0 ∧ x.type ≤ 9 then
      match l.find? fun y => y.type == x.type && y.key == x.key with
      | some y => some y
      | none => firstRepeat l
    else firstRepeat l

/-- The check of a body (R448). -/
def bodyFault (body : List Byte) : BodyFault :=
  let r := parseSections (body.length / 8 + 1) 0 body
  match r.2 with
  | some f => some f
  | none =>
    match r.1.find? fun x => !x.good with
    | some x => some (x.type, x.at')
    | none => (firstRepeat r.1).map fun x => (x.type, x.at')

/-- The sections of a good body. -/
def bodySections (body : List Byte) : List Section := (parseSections (body.length / 8 + 1) 0 body).1

/-! ### Application in a kernel (R448) -/

/-- The bits of a register that a preset may set. -/
def writableBits (a : Nat) : Word :=
  match regDescAt? a with
  | none => 0
  | some d =>
    if d.acc ≠ .rw then 0
    else (d.fields.foldl (fun m f => m ||| fldMask f.lo f.width) 0) ||| oneBits a
      ||| (if addrBlock a = 2 ∧ 0x1000 ≤ addrOff a ∧ addrOff a < 0x1100 ∧ addrOff a % 16 = 8 then 0x1F else 0)

/-- One preset, as a REG_MODIFY from the kernel's Needle; what it cannot set is skipped and counted. -/
def State.preset (s : State) (k : Nat) (addr mask value : Word) : State :=
  let a := k * 0x10000000 + addr.toNat % 0x10000000
  if a % 4 ≠ 0 ∨ !s.mapped (.needle k) a ∨ mask &&& writableBits a = 0 then s.ignoreWrite k a
  else (s.modifyReg (.needle k) a mask value).2.2

/-- The presets of a section for the blocks of `inScope`. -/
def State.applyPresets (s : State) (k : Nat) (inScope : Nat → Bool) (x : Section) : State :=
  (List.range (x.word 1).toNat).foldl (fun s i =>
    let a := x.word (2 + 3 * i)
    if inScope (addrBlock a.toNat) then s.preset k a (x.word (3 + 3 * i)) (x.word (4 + 3 * i)) else s) s

/-- CARVE, as SKEIN_CARVE would. -/
def State.applyCarve (s : State) (k : Nat) (x : Section) : State :=
  let res := cmdSkeinCarve.act (writeReq (.needle k) k 0 [x.word 1, x.word 2, x.word 3]) k s
  if res.status = .done then res.state else s

/-- LINK_EQ for the ports of `inScope`, with the match list. -/
def State.applyLinkEq (s : State) (k : Nat) (inScope : Nat → Bool) (x : Section) : State :=
  let s := (List.range 4).foldl (fun s p =>
    if inScope (8 + p) then
      let b := 1 + 34 * p
      let s := (List.range 16).foldl (fun s r =>
        (s.setReg (Reg.EQ_ROW_W0 k p r) (x.word (b + 2 * r))).setReg (Reg.EQ_ROW_W1 k p r) (x.word (b + 2 * r + 1))) s
      (s.setReg (Reg.EQ_CLASS_MAP_LO k p) (x.word (b + 32))).setReg (Reg.EQ_CLASS_MAP_HI k p) (x.word (b + 33))
    else s) s
  { s with images := { s.images with modules := smapPut (fun _ => []) s.images.modules k (x.data.drop 552) } }

/-- IDENTITY. -/
def State.applyIdentity (s : State) (k : Nat) (inScope : Nat → Bool) (x : Section) : State :=
  let s := if inScope 0x20 then s.setReg (Reg.PCIE_SUBSYS k) (x.word 1) else s
  let mac (i : Nat) : List (Nat × Word) :=
    [(Reg.ETH_MAC_LO k i, word (imageNum x.data (8 + 6 * i) 4)), (Reg.ETH_MAC_HI k i, word (imageNum x.data (12 + 6 * i) 2))]
  let s := if inScope 0x28 then s.setRegs (mac 0 ++ mac 1) else s
  { s with images := { s.images with strings := smapPut (fun _ => []) s.images.strings k (x.data.drop 24) } }

/-- One section that names kernel k, but for PRESETS, applied to the blocks of `inScope`. -/
def State.applySection (s : State) (k : Nat) (inScope : Nat → Bool) (x : Section) : State :=
  match x.type with
  | 3 => if inScope 0x14 then s.applyCarve k x else s
  | 2 => s.applyLinkEq k inScope x
  | 4 =>
    { s with images := { s.images with edids := smapPut (fun _ => []) s.images.edids (2 * k + fld (x.word 0) 8 1) (x.data.drop 4) } }
  | 5 => s.applyIdentity k inScope x
  | 6 =>
    let p := fld (x.word 0) 8 2
    if inScope 0x31 then
      s.setRegs [(Reg.CRYPT_POLICY k p, x.word 1 &&& 0x3F07), (Reg.CRYPT_ANCHORS k p, x.word 2), (Reg.CRYPT_PHASE_S k p, x.word 3 &&& 0x1FFFF)]
    else s
  | 8 =>
    if inScope 0x25 then s.setRegs ((List.range 4).map fun e => (Reg.USBD_EP_LAYOUT k e, x.word (1 + e) &&& 0x3FFF3FFF)) else s
  | _ => s

/-- The sections of the table in force that name kernel k, in the order of R448, for the blocks of `inScope`. -/
def State.applyBoard (s : State) (k : Nat) (inScope : Nat → Bool) : State :=
  let l := (bodySections (imageBody s.images.board)).filter fun x => [1, 2, 3, 4, 5, 6, 8].contains x.type && x.kernel == k
  let of (ts : List Nat) : List Section := l.filter fun x => ts.contains x.type
  let s := (of [3] ++ of [2] ++ of [4, 5, 6, 8]).foldl (fun s x => s.applySection k inScope x) s
  (of [1]).foldl (fun s x => s.applyPresets k inScope x) s

/-- The certificate chains of the table in force. -/
def boardChains (body : List Byte) : List (Nat × List Byte) :=
  ((bodySections body).filter fun x => x.type == 7).foldl (fun m x =>
    smapPut (fun _ => []) m x.key ((x.data.drop 8).take (x.word 1).toNat)) []

/-! ### Application in the power die (R397, R443) -/

/-- The POWER_PATH section of a body as words; none without one. -/
def boardPower (body : List Byte) : List Word :=
  match (bodySections body).find? fun x => x.type == 9 with
  | some x => (List.range 28).map x.word
  | none => []

/-- The power-path registers at their reset values, from the section where there is one (R397). -/
def State.loadPowerPath (s : State) : State :=
  let s := ((s.resetRange (Reg.FEED_CTRL 0) (Reg.FEED_CTRL 0 + 4)).resetRange (Reg.FEED_CTRL 1) (Reg.FEED_CTRL 1 + 4)).resetRange
    (regAddr 15 2 8) (regAddr 15 2 0x68)
  let w (i : Nat) : Word := s.images.powerPath.getD i 0
  let s := if s.images.powerPath.isEmpty then s
    else s.setRegs
      ([(Reg.FEED_CTRL 0, w 0 &&& 0x3FF1), (Reg.FEED_CTRL 1, w 1 &&& 0x3FF1), (Reg.LOAD_INRUSH, w 3 &&& 0x03FF03FF), (Reg.LOAD_SOA, w 4 &&& 0x03FF007F),
        (Reg.LOAD_SHORT, w 5 &&& 0xF), (Reg.PWR_WARN, w 22 &&& 0x03FF03FF), (Reg.PWR_HOLD, w 23 &&& 0x03FF003F)]
       ++ (List.range 8).flatMap fun k => [(Reg.BRK_I k, w (6 + 2 * k) &&& 0xFFF), (Reg.BRK_T k, w (7 + 2 * k) &&& 0x7FFFFF)])
  (s.setReg Reg.PID_BT (if s.images.powerPath.isEmpty then 0 else packWord [(0, 1, 1), (16, 16, s.images.powerVersion.toNat)])).syncShort

end Sys2Proof.Machine
end

