-- ==== Sys2Proof/Machine/KeyCmds.lean ====
section
/-! DEFINITION. The commands and events of the key store, the life cycle and link security (R418 to R438, R444, R445). -/

namespace Sys2Proof.Machine

/-! ### Key slots -/

/-- A command that K0 executes whatever kernel its target names (R444). -/
def keyCmd (opcode minLen right : Nat) (bad : Req → State → List Check) (act : Req → State → Res) : Cmd where
  opcode := opcode
  minLen := minLen
  bad r _ s := badSub r 1 :: bad r s
  denied r _ s := if right = 0 then [] else s.rightChecks (master r.via) right
  domain := fun _ => 12
  inK0 := true
  act r _ s := act r s

/-- A public key as reply words, padded to 100 bytes. -/
def keyWords (pub : List Byte) : List Word := bytesWords ((pub ++ List.replicate 100 0).take 100)

/-- The key hash of a slot as two words. -/
def State.hashWords (s : State) (slot : Nat) : List Word := [word (s.keyHash slot), word (s.keyHash slot / 2 ^ 32)]

def cmdKeySlotInfo : Cmd :=
  keyCmd 0x0E01 4 0 (fun _ _ => []) fun r s =>
    let i := reqField r 12 0 6
    .ok s ([s.keyAttr i, s.reg (Reg.KEY_INFO 0 i)] ++ s.hashWords i
      ++ if s.keyKind i = 2 ∨ s.keyKind i = 3 then keyWords (s.slotKey i) else [])

def execKeySlotInfo (r : Req) (s : State) : Result := onCommand cmdKeySlotInfo r s

/-- The bits of an attribute word that have a meaning (Table 14.2). -/
def attrBits : Word := 0x7FFF1F1F

/-- The usage bits that a KIND may carry (R422). -/
def usageBits (kind : Nat) : Word :=
  match kind with
  | 1 => 0x0001
  | 2 => 0x0002
  | 3 => 0x001C
  | 4 => 0x1F00
  | _ => 0

/-- A slot that a port policy names while its port is Casting or Open (R427). -/
def State.slotInUse (s : State) (slot : Nat) : Bool :=
  (List.range s.variant.kernels).any fun k => (List.range 4).any fun p =>
    (s.portState k p == 2 || s.portState k p == 3)
      && (fld (s.reg (Reg.CRYPT_POLICY k p)) 8 6 == slot || fld (s.policyWord k p 0) 8 6 == slot
        || (List.range 4).any fun i =>
            fld (s.reg (Reg.CRYPT_ANCHORS k p)) (8 * i) 8 == slot || fld (s.policyWord k p 1) (8 * i) 8 == slot)

/-- EV_KEY_CHANGED. -/
def State.keyChanged (s : State) (slot how m : Nat) : State := s.log 0 Ev.keyChanged slot [slot, how, m]

/-- The value of a parent: the root, or a KIND 1 slot (R425). -/
def State.parentValue (s : State) (parent : Nat) : List Byte := if parent = 0xFF then Config.rootSecret else (s.keySlot parent).secret

/-- The fields of KEY_DERIVE (Table 14.10). -/
def deriveKind (r : Req) : Nat := reqField r 12 16 3
def deriveParent (r : Req) : Nat := reqField r 12 8 8
def deriveLabel (r : Req) : List Byte := (reqBytes r 24).take (reqField r 12 24 6)
def deriveContext (r : Req) : List Byte := ((reqBytes r 24).drop (ceilDiv (reqField r 12 24 6) 4 * 4)).take (reqField r 20 0 7)
def importKey (r : Req) : List Byte := (reqBytes r 24).take 97

/-- A secret comes from the engine: KIND 1 or 2. -/
def derives (r : Req) : Bool := deriveKind r == 1 || deriveKind r == 2

/-- The attribute word of a request without its reserved bits (Table 14.2, R13). -/
def attrWord (r : Req) : Word := reqWord r 16 &&& 0x7FFF1F1F

/-- The checks of KEY_DERIVE on its fields, in the order of their bytes. -/
def State.deriveBad (s : State) (r : Req) : List Check :=
  let kind := deriveKind r
  let parent := deriveParent r
  let label := reqField r 12 24 6
  let w := attrWord r
  let pw := s.keyAttr parent
  let slotParent := derives r && parent != 0xFF && s.keyKind parent != 0
  let ctx := reqField r 20 0 7
  [(derives r && parent != 0xFF && (decide (63 < parent) || (slotParent && !(s.keyKind parent == 1 && bitAt pw 0))), .badParam, 13),
   (kind == 0 || decide (4 < kind), .badParam, 14),
   (derives r && (label == 0 || decide (32 < label)), .badParam, 15),
   (fld w 28 3 != kind || w &&& ~~~ attrBits != 0 || w &&& 0x1F1F &&& ~~~ usageBits kind != 0
     || (slotParent && w &&& ~~~ pw &&& 0x0F400000 != 0), .badParam, 16),
   (derives r && decide (64 < ctx), .badParam, 20),
   (derives r && decide (r.plen ≠ 12 + ceilDiv label 4 * 4 + ceilDiv ctx 4 * 4), .badParam, 15),
   ((kind == 3 && r.plen != 112) || (kind == 4 && r.plen != 12), .badParam, 14),
   (kind == 3 && !keyGood (importKey r), .badParam, 24)]

/-- A parent slot must serve the master (R423, R425): detail 3 where only the life-cycle state withholds it. In Decommission derivation is
disabled (Table 14.5). -/
def State.parentDenied (s : State) (r : Req) : List Check :=
  let parent := deriveParent r
  let pw := s.keyAttr parent
  let m := master r.via
  let asked := derives r && parent != 0xFF && s.keyKind parent != 0
  [(asked && !(bitAt pw (masterBit m) && (bitAt pw 22 || decide (8 ≤ m))), .denied, 2),
   (asked && !bitAt pw (24 + s.lifeCycle), .denied, 3), (derives r && s.lifeCycle == 3, .denied, 3)]

/-- A slot filled as KEY_DERIVE states. -/
def State.fillSlot (s : State) (r : Req) : State :=
  let i := reqField r 12 0 6
  let kind := deriveKind r
  let parent := deriveParent r
  let code := if derives r then parent else if kind = 3 then 0xFE else 0xFD
  let s := s.setReg (Reg.KEY_ATTR 0 i) (attrWord r)
  let s := s.setRf (Reg.KEY_INFO 0 i) 0 8 code
  let out := kdf (s.parentValue parent) (deriveLabel r) (deriveContext r) (if kind = 1 then 256 else 448)
  let x : KeySlot :=
    match kind with
    | 1 => { label := deriveLabel r, context := deriveContext r, secret := out }
    | 2 => { label := deriveLabel r, context := deriveContext r, secret := out, pub := publicKey (privateKey out) }
    | 3 => { pub := importKey r }
    | _ => {}
  (s.setKeySlot i x).keyChanged i (if derives r then 1 else kind - 1) (master r.via)

def cmdKeyDerive : Cmd :=
  { keyCmd 0x0E02 12 8 (fun r s => s.deriveBad r) fun r s =>
      let i := reqField r 12 0 6
      let parent := deriveParent r
      let t := s.fillSlot r
      .checked
        [(derives r && !s.engineUp, .wrongState, 0xFFFF), (!s.domainOn 0 12, .wrongState, 12),
         (derives r && parent != 0xFF && s.keyKind parent == 0, .wrongState, 0xE0),
         (s.keyKind i != 0 || bitAt (s.keyAttr i) 23, .wrongState, 0xE2)] s
        (.ok t (if deriveKind r = 2 then keyWords (t.slotKey i) ++ t.hashWords i else [])) with
    denied := fun r _ s => s.rightChecks (master r.via) 8 ++ s.parentDenied r
    domain := fun _ => 1 }

def execKeyDerive (r : Req) (s : State) : Result := onCommand cmdKeyDerive r s

/-- GEN of a slot goes up by 1 (R427). -/
def State.bumpGen (s : State) (slot : Nat) : State :=
  s.setRf (Reg.KEY_INFO 0 slot) 16 16 ((s.rf (Reg.KEY_INFO 0 slot) 16 16 + 1) % 65536)

/-- A slot emptied: KIND 0, no attributes, no recipe and no key. -/
def State.clearSlot (s : State) (slot : Nat) : State :=
  ((s.setReg (Reg.KEY_ATTR 0 slot) 0).setRf (Reg.KEY_INFO 0 slot) 0 8 0xFD |>.bumpGen slot).setKeySlot slot {}

def cmdKeyErase : Cmd :=
  keyCmd 0x0E03 4 8 (fun _ _ => []) fun r s =>
    let i := reqField r 12 0 6
    .checked [(s.keyKind i == 0, .wrongState, 0xE0), (bitAt (s.keyAttr i) 23, .wrongState, 0xE2), (s.slotInUse i, .wrongState, 0xE1)] s
      (.ok ((s.clearSlot i).keyChanged i 4 (master r.via)) [])

def execKeyErase (r : Req) (s : State) : Result := onCommand cmdKeyErase r s

/-- A new attribute word only narrows the old one (R427): KIND and PERMANENT stay, usage, MASTERS and LIFECYCLE_OK bits may go, and WORLD may
turn secure. -/
def narrows (old w : Word) : Bool :=
  w &&& ~~~ old == 0 && fld w 28 3 == fld old 28 3 && bitAt w 23 == bitAt old 23

def cmdKeyAttrSet : Cmd :=
  keyCmd 0x0E04 8 8 (fun r s => [(!narrows (s.keyAttr (reqField r 12 0 6)) (attrWord r), .badParam, 16)]) fun r s =>
    let i := reqField r 12 0 6
    .checked [(s.keyKind i == 0, .wrongState, 0xE0), (s.slotInUse i, .wrongState, 0xE1)] s
      (.ok (((s.setReg (Reg.KEY_ATTR 0 i) (attrWord r)).bumpGen i).keyChanged i 5 (master r.via)) [])

def execKeyAttrSet (r : Req) (s : State) : Result := onCommand cmdKeyAttrSet r s

/-! ### Life cycle (R430, R431) -/

/-- An Open port told to bind off as R114 states; a Casting one stops at once. -/
def State.bindOff (s : State) (k p : Nat) : State :=
  match s.portState k p with
  | 2 => s.castOff k p 1
  | 3 => ((s.endPortJob k p 0x0102 .failed (statusCode .wrongState) 0).startBind k p 1 10).sendMsg k p 0x0181 [10]
  | _ => s

/-- LC_STATE of a state (Table 14.5): the JTAG port is closed in Field, and derivation disabled in Decommission. -/
def lifeWord (lc : Nat) : Word := packWord [(0, 2, lc), (4, 1, (lc != 2).toNat), (5, 1, (lc != 3).toNat)]

/-- The rules of the life-cycle state that the fuses give (R431). -/
def State.applyLife (s : State) : State :=
  let old := s.lifeCycle
  let new := s.part.fuses
  if old = new then s
  else
    let s := s.setReg (Reg.LC_STATE 0) (lifeWord new)
    let s := if new = 3 then
        let s := (List.range 64).foldl (fun s i => if s.keyKind i = 0 then s else s.clearSlot i) s
        (s.allPorts.filter fun kp => s.portOpen kp.1 kp.2 && s.rb (Reg.LNK_STATE kp.1 kp.2) 7).foldl (fun s kp => s.bindOff kp.1 kp.2) s
      else s
    s.log 0 Ev.lifecycle 0x1FF [old, new, s.part.fuseMaster]

/-- Some grant with FW_UPDATE allows Field (R431). -/
def State.fieldGrant (s : State) : Bool :=
  (List.range 64).any fun i => s.keyKind i == 4 && bitAt (s.keyAttr i) 9 && bitAt (s.keyAttr i) 26

def cmdLifecycleAdvance : Cmd :=
  { keyCmd 0x0E05 4 10
      (fun r s => [(s.lifeCycle != 3 && reqField r 12 0 2 != s.lifeCycle + 1, .badParam, 12), (reqField r 12 16 16 != 0x4C43, .badParam, 14)])
      fun r s =>
        .checked
          [(s.lifeCycle == 3, .wrongState, 0xE3), (s.lifeCycle == 1 && !s.fieldGrant, .wrongState, 0xE4), jobLimit s,
           heldBy (s.findRunning fun j => j.opcode == 0x0E05)] s
          (.accepted s.newJobNum (s.startJob 0x0E05 r 0 2 []) [2]) with domain := fun _ => 1 }

def execLifecycleAdvance (r : Req) (s : State) : Result := onCommand cmdLifecycleAdvance r s

/-- The antifuses of the new state are blown; step 2 applies its rules, unless an abort stops the job between the steps. -/
def execLifecycleFuseStep (s : State) : Result :=
  .next
    (match s.findRunning fun j => j.opcode == 0x0E05 with
     | none => s
     | some j =>
       let s := { s with part := { s.part with fuses := s.lifeCycle + 1, fuseMaster := (j.via.map master).getD 0 } }
       if j.abort then s.nextStep j.num else ((s.nextStep j.num).applyLife).nextStep j.num)

/-! ### Link security (R432, R419, R437) -/

def cmdLinkAuthPolicy : Cmd where
  opcode := 0x0E06
  minLen := 12
  inK0 := true
  domain := fun _ => 12
  bad r _ s :=
    let id := s.keyAttr (reqField r 12 8 6)
    let anchor (i : Nat) : Nat := reqField r 16 (8 * i) 8
    [badSub r 4, (reqField r 12 0 2 == 3, .badParam, 12),
     (fld id 28 3 != 0 && !(fld id 28 3 == 2 && bitAt id 1 && bitAt id 20), .badParam, 13)]
      ++ ((List.range 4).map fun i =>
        let w := s.keyAttr (anchor i)
        (anchor i != 0xFF && (decide (63 < anchor i) || (fld w 28 3 != 0 && !(fld w 28 3 == 3 && bitAt w 2))), .badParam, 16 + i))
      ++ [(outside (reqField r 20 0 17) 1 86400, .badParam, 20)]
  denied r _ s := s.rightChecks (master r.via) 8
  act r k s :=
    let p := reqSub r
    let slots := reqField r 12 8 6 :: ((List.range 4).map fun i => reqField r 16 (8 * i) 8).filter fun a => a != 0xFF
    .checked [(!s.kernelRuns k, .wrongState, 0xFFFF), (slots.any fun i => s.keyKind i == 0, .wrongState, 0xE0)] s
      (.ok (s.setRegs [(Reg.CRYPT_POLICY k p, reqWord r 12 &&& 0x3F07), (Reg.CRYPT_ANCHORS k p, reqWord r 16),
        (Reg.CRYPT_PHASE_S k p, reqWord r 20 &&& 0x1FFFF)]) [])

def execLinkAuthPolicy (r : Req) (s : State) : Result := onCommand cmdLinkAuthPolicy r s

/-- A continuous health test of a kernel's entropy source fails: its DRBG stops (R419). -/
def execDrbgHealthFail (k test : Nat) (s : State) : Result :=
  onUnit s (s.hasKernel k)
    (if [0, 6].contains (s.kernelState k) || !s.domainOn k 12 then s
     else
       let x := s.kern k
       (s.setKern k { x with drbgStop := true, entropyFails := min (x.entropyFails + 1) 255 }).log k Ev.entropyFail 0x1FF [test])

/-- The traffic keys of a port exist. -/
def State.cryptActive (s : State) (k p : Nat) : Bool := s.rb (Reg.CRYPT_STATUS k p) 0

/-- PHASE_S has passed in the present phase of the sender (R437). -/
def execPhaseChange (k p : Nat) (s : State) : Result := onPort k p (s.cryptActive k p && s.portOpen k p) s (s.nextPhase k p)

/-- 16 row periods after the first packet of a phase, the keys of the phase before are discarded (R437). -/
def execOldPhaseDiscard (k p : Nat) (s : State) : Result :=
  onPort k p (s.port k p).oldKeys s (s.setPort k p { s.port k p with oldKeys := false })

end Sys2Proof.Machine
end

