-- ==== Sys2Proof/Machine/FwCmds.lean ====
section
/-! DEFINITION. Firmware slots and board tables (R439 to R443), the black box and the breaking of locks by command (R345, R76, R78). -/

namespace Sys2Proof.Machine

/-! ### Firmware slots -/

def State.setImages (s : State) (x : Images) : State := { s with images := x }

/-- The first 256 bytes of a firmware slot in K0. -/
def State.fwHeader (s : State) (slot : Nat) : List Byte :=
  let h := s.images.headers.getD slot []
  if h = [] then Config.factoryFw slot else h

def State.fwVersion (s : State) (slot : Nat) : Nat := imageNum (s.fwHeader slot) 4 4
def State.fwSvn (s : State) (slot : Nat) : Nat := imageNum (s.fwHeader slot) 8 2

/-- The selection record (R441): the slot that runs, SELECTED, and TRIAL (0 none, 1 A, 2 B). -/
def State.fwRunning (s : State) : Nat := s.rf (Reg.FW_STATUS 0) 0 1
def State.fwSelected (s : State) : Nat := s.rf (Reg.FW_STATUS 0) 1 1
def State.fwTrial (s : State) : Nat := s.rf (Reg.FW_STATUS 0) 2 2

/-- The slot that a write session opens: the one that does not run. -/
def State.fwSpare (s : State) : Nat := 1 - s.fwRunning

def State.fwOpen (s : State) : Bool := s.rb (Reg.FW_STATUS 0) 8
def State.fwOwner (s : State) : Nat := s.rf (Reg.FW_STATUS 0) 12 4

/-- WRITE_OPEN and the owner set. -/
def State.setFwSession (s : State) (isOpen : Bool) (owner : Nat) : State :=
  (s.setRb (Reg.FW_STATUS 0) 8 isOpen).setRf (Reg.FW_STATUS 0) 12 4 owner

/-- The valid bits of a slot over the kernels. -/
def State.setCopies (s : State) (slot mask : Nat) : State := { s with images := { s.images with copies := s.images.copies.set slot mask } }

def State.markCopy (s : State) (slot k : Nat) : State := s.setCopies slot (s.images.copies.getD slot 0 ||| 2 ^ k)

/-- A command of group 0x0F: K0 executes it (R444). -/
def fwCmd (opcode minLen right : Nat) (bad : Req → State → List Check) (act : Req → State → Res) : Cmd where
  opcode := opcode
  minLen := minLen
  bad r _ s := badSub r 1 :: bad r s
  denied r _ s := if right = 0 then [] else s.rightChecks (master r.via) right
  inK0 := true
  act r _ s := act r s

def cmdFwInfo : Cmd :=
  fwCmd 0x0F01 0 0 (fun _ _ => []) fun _ s =>
    .ok s ([s.peek (Reg.FW_STATUS 0), s.reg (Reg.SVN_MIN 0)]
      ++ [0, 1].flatMap fun i => (List.range 18).map fun j => word (imageNum (s.fwHeader i) (4 * j) 4))

def execFwInfo (r : Req) (s : State) : Result := onCommand cmdFwInfo r s

/-- The commit that runs. -/
def State.commitJob (s : State) : Option Job := s.findRunning fun j => j.opcode == 0x0F04

def cmdFwWriteBegin : Cmd :=
  fwCmd 0x0F02 4 9 (fun r _ => [(outside (reqWord r 12).toNat 257 1572864, .badParam, 12)]) fun r s =>
    let i := s.fwSpare
    .checked [(s.fwSelected == i || s.fwTrial == i + 1 || s.fwOpen, .wrongState, 0xE5), heldBy s.commitJob] s
      (let s := (s.setCopies i 0).setFwSession true (master r.via)
       .ok { s with images := { s.images with fw := [], fwLen := (reqWord r 12).toNat, fwLast := s.now } } [])

def execFwWriteBegin (r : Req) (s : State) : Result := onCommand cmdFwWriteBegin r s

/-- The session belongs to the master that opened it (R440). Without a session no master owns it: owner 0. -/
def notOwner (r : Req) (s : State) : Check :=
  (!s.fwOpen || s.fwOwner != master r.via, .lockedByOther, if s.fwOpen then s.fwOwner else 0)

/-- Data written to K0's copy of the slot; its first 256 bytes are the header that FW_INFO shows. -/
def State.writeFw (s : State) (data : List Byte) : State :=
  let i := s.fwSpare
  let fw := s.images.fw ++ data
  let old := s.fwHeader i
  let hdr := (fw ++ old.drop fw.length).take 256
  { s with images := { s.images with fw := fw, fwLast := s.now, headers := s.images.headers.set i hdr } }

def cmdFwWriteData : Cmd :=
  fwCmd 0x0F03 8 9
    (fun r s =>
      let len := (reqWord r 16).toNat
      [(s.fwOpen && decide ((reqWord r 12).toNat ≠ s.images.fw.length), .badParam, 12),
       (outside len 4 1016 || len % 4 != 0 || r.plen != 8 + len || (s.fwOpen && decide (s.images.fwLen < s.images.fw.length + len)), .badParam, 16)])
    fun r s => .checked [notOwner r s] s (.ok (s.writeFw ((reqBytes r 20).take (reqWord r 16).toNat)) [])

def execFwWriteData (r : Req) (s : State) : Result := onCommand cmdFwWriteData r s

def cmdFwWriteCommit : Cmd :=
  fwCmd 0x0F04 0 9 (fun _ _ => []) fun r s =>
    .checked [(s.fwOpen && decide (s.images.fw.length ≠ s.images.fwLen), .wrongState, 0xE6), notOwner r s, jobLimit s] s
      (let n := s.variant.kernels + 1
       .accepted s.newJobNum ((s.setFwSession false 0).startJob 0x0F04 r 0 n [word s.fwSpare]) [word n])

def execFwWriteCommit (r : Req) (s : State) : Result := onCommand cmdFwWriteCommit r s

/-- A write session with no packet for 60 s closes; its slot stays invalid (R440). -/
def execFwSessionIdle (s : State) : Result := .next (if s.fwOpen then s.setFwSession false 0 else s)

/-- A step of FW_WRITE_COMMIT completes (R440). `good` says that the copy to a further kernel came out whole. -/
def execFwCommitStep (good : Bool) (s : State) : Result :=
  .next
    (match s.commitJob with
     | none => s
     | some j =>
       let i := (j.args.getD 0 0).toNat
       if j.step = 1 then
         match s.imageFault s.images.fw 1 with
         | some d => (s.log 0 Ev.fwVerifyFail 0 [1, i, 0x0F00 + d]).endJob j.num .failed (statusCode .hwFault) (0x0F00 + d)
         | none => s.nextStep j.num
       else if j.step = 2 then (s.markCopy i 0).nextStep j.num
       else if !good then s.endJob j.num .failed (statusCode .hwFault) 0x0F04
       else
         let s := s.markCopy i (j.step - 2)
         let s := if j.step = j.steps then s.log 0 Ev.fwCommitted 0 [i, s.fwVersion i, s.fwSvn i] else s
         s.nextStep j.num)

def cmdFwSlotSelect : Cmd :=
  fwCmd 0x0F05 4 9 (fun r _ => [(decide (3 < reqField r 12 8 2), .badParam, 13)]) fun r s =>
    let i := reqField r 12 0 1
    let run := s.fwRunning
    match reqField r 12 8 2 with
    | 2 => .ok (((s.setRf (Reg.FW_STATUS 0) 1 1 run).setRf (Reg.FW_STATUS 0) 2 2 0).setRb (Reg.FW_STATUS 0) 4 false) []
    | 3 =>
      .checked [(s.fwSelected != run, .wrongState, 0xE9)] s
        (let old := s.rf (Reg.SVN_MIN 0) 0 6
         let new := max old (s.fwSvn run)
         .ok (if new = old then s else (s.setReg (Reg.SVN_MIN 0) (word new)).log 0 Ev.svnRaised 0 [old, new]) [])
    | a =>
      .checked [(!s.slotValid i, .wrongState, 0xE7), (decide (s.fwSvn i < s.rf (Reg.SVN_MIN 0) 0 6), .wrongState, 0xE8)] s
        (.ok (if a = 0 then s.setRf (Reg.FW_STATUS 0) 1 1 i else s.setRf (Reg.FW_STATUS 0) 2 2 (i + 1)) [])

def execFwSlotSelect (r : Req) (s : State) : Result := onCommand cmdFwSlotSelect r s

/-! ### Board tables (R443) -/

def cmdBoardTableLoad : Cmd :=
  fwCmd 0x0F06 16 9 (fun r s => imageChecks s.images.table 3 r) fun r s =>
    let bs := joinImage s.images.table r
    let t := { s with images := { s.images with table := bs } }
    .checked [heldBy (s.findRunning fun j => j.opcode == 0x0F06)] s
      (if imageDone bs then .checked [jobLimit s] s (.accepted s.newJobNum (t.startJob 0x0F06 r 0 3 []) [3]) else .ok t [])

def execBoardTableLoad (r : Req) (s : State) : Result := onCommand cmdBoardTableLoad r s

/-- A board table passes R439 and R448; else the HW_FAULT detail. -/
def State.tableFault (s : State) (bs : List Byte) : Option Nat :=
  match s.imageFault bs 3 with
  | some d => some (0x0F00 + d)
  | none => (bodyFault (imageBody bs)).map fun _ => 0x0F05

/-- A step of BOARD_TABLE_LOAD completes: the check, the staging copies, and the mark that they are pending. -/
def execBoardTableStep (s : State) : Result :=
  .next
    (match s.findRunning fun j => j.opcode == 0x0F06 with
     | none => s
     | some j =>
       let bs := s.images.table
       if j.step = 1 then
         match s.tableFault bs with
         | some d =>
           let t := if d = 0x0F05 then s else s.log 0 Ev.fwVerifyFail 0 [3, 0, d]
           t.endJob j.num .failed (statusCode .hwFault) d
         | none => s.nextStep j.num
       else if j.step = 2 then
         (s.setImages { s.images with staged := bs, stagedDue := false, powerStaged := none }).nextStep j.num
       else
         let st := s.images.staged
         let power := some (boardPower (imageBody st), word (imageNum st 4 4))
         (s.setImages { s.images with stagedDue := true, powerStaged := power }).nextStep j.num)

/-! ### Black box and locks -/

def cmdBlackboxClear : Cmd where
  opcode := 0x0A08
  bad r _ _ := [badSub r 1]
  denied r _ s := s.rightChecks (master r.via) 12
  act _ u s := .ok (s.setKern u { s.kern u with box := [] }) []

def execBlackboxClear (r : Req) (s : State) : Result := onCommand cmdBlackboxClear r s

/-- LOCK_BREAK (R76 to R78): the lead Needle may break any lock; every other master only that of an owner in Fault (log entry 35). -/
def cmdLockBreak : Cmd where
  opcode := 0x1006
  minLen := 4
  bad r _ _ := [badSub r 16]
  denied r _ s := s.rightChecks (master r.via) 11
  act r u s :=
    let m := reqSub r
    let o := s.lockOwner u m
    .checked [(o == 0, .wrongState, 0), (master r.via != 8 + s.lead && !s.ownerInFault u o, .wrongState, o)] s
      (let t := s.breakLock u m (master r.via) (reqBit r 12 0)
       .ok t [packWord [(0, 16, t.lockGen u m), (16, 5, o)]])

def execLockBreak (r : Req) (s : State) : Result := onCommand cmdLockBreak r s

end Sys2Proof.Machine
end

