-- ==== Sys2Proof/Machine/SeamEvents.lean ====
section
/-! DEFINITION. Seams that fail and return (R23, R191), and the seam and store tests (R83). -/

namespace Sys2Proof.Machine

/-- Every ordered pair of different kernels. -/
def State.kernelPairs (s : State) : List (Nat × Nat) :=
  let n := s.variant.kernels
  (List.range n).flatMap fun a => (List.range n).filterMap fun b => if a = b then none else some (a, b)

/-- The members of a seam hash set that still lead by a shortest path. -/
def State.aliveMembers (s : State) (a b : Nat) : List Nat :=
  let h := nominalHops s.variant a b
  (List.range h.length).filter fun i => (s.firstHops a b).contains (h.getD i 0)

/-- Flows re-pinned after the set of paths changed (R23, R191): a lost member's buckets move to the survivor and its fences lift, or where `behind` says that
the old path still drains, behind fences; a member that returns gets its default buckets back behind fences. `was` is the state before. -/
def State.repin (s was : State) (behind : Bool) : State :=
  s.kernelPairs.foldl (fun s x =>
    if (nominalHops s.variant x.1 x.2).length = 2 then
      let now := s.aliveMembers x.1 x.2
      let old := was.aliveMembers x.1 x.2
      if now = old then s
      else match now with
        | [m] =>
          if behind then (List.range 256).foldl (fun s b => s.moveBucket x.1 (1 + x.2) b m) s
          else
            let y := s.kern x.1
            (s.setKern x.1 { y with fences := y.fences.filter fun f => f.set ≠ 1 + x.2 }).allBuckets (Reg.HASH_SEAM x.1 x.2 0)
              (Reg.SEAM_MOVES x.1) m
        | [_, _] => s.defaultBuckets x.1 (1 + x.2)
        | _ => s
    else s) s

/-- A tunnel that lost its seam path goes Closed at once, and its far end is asked to close where it can know of the tunnel (R23). -/
def State.seamLostTun (s : State) (k t : Nat) : State :=
  let e := s.ctxPort k t
  let s := s.gaugeTunLost k t
  let s := if !(s.ctx k t).unknown && s.portOpen e.1 e.2 then s.sendMsg e.1 e.2 0x0284 [word (s.outLabel k t), 1] else s
  s.loseTun k t

/-- Kernel a loses reach of kernel b (R23). -/
def State.loseReach (s : State) (a b : Nat) : State :=
  let ts := s.liveCtxs.filter fun c => c.1 == a && decide (8 ≤ c.2) && (s.egress a c.2 0).1 == b
  let rs := s.routes.filter fun r => r.1 == a && s.routeOutK r.1 r.2 == b
  let s := s.forCtxs ts fun s n t => s.seamLostTun n t
  let s := rs.foldl (fun s r => s.dropRoute r.1 r.2) s
  s.log a Ev.kernelUnreachable 0 [b, ts.length, rs.length]

/-- What a change of the seams brings: reach lost and regained, and the re-pinning of flows (R23). -/
def State.seamsChanged (s was : State) : State :=
  let s := s.repin was false
  let s := (s.kernelPairs.filter fun x => was.reaches x.1 x.2 && !s.reaches x.1 x.2).foldl (fun s x => s.loseReach x.1 x.2) s
  (s.kernelPairs.filter fun x => !was.reaches x.1 x.2 && s.reaches x.1 x.2).foldl (fun s x => s.log x.1 Ev.kernelReachable 0 [x.2]) s

/-- Both ends of a seam moved to a state. -/
def State.seamTo (s : State) (k i n st : Nat) : State := (s.setSeam k i st).setSeam n (seamFarIface s.variant i) st

/-- The loose plies whose members lie in two kernels, by the kernel of P3. -/
def State.pliesBetween (s : State) (a b : Nat) : List Nat :=
  ([(a, b), (b, a)].filter fun x => s.loosePeer x.1 3 == some (x.2, 2)).map (·.1)

/-- A seam that was Up fails (R23). A loose ply that it joins stays formed and logs it (Table 3.11). -/
def State.failSeam (s : State) (k i : Nat) : State :=
  match seamPeer s.variant k i with
  | none => s
  | some n =>
    let was := s
    let s := s.seamTo k i n 3
    let s := (s.log k Ev.seamFailed i [n]).log n Ev.seamFailed (seamFarIface s.variant i) [k]
    let s := (s.pliesBetween k n).foldl (fun s a => s.log a Ev.plyDegraded 3 [2, 4 * (k + n - a) + 2, 5]) s
    s.seamsChanged was

/-- A seam comes Up at both ends; a return counts as another training and is logged at both (R23). -/
def State.seamBack (s : State) (k i n : Nat) (again : Bool) : State :=
  let j := seamFarIface s.variant i
  let s := s.seamTo k i n 2
  if again then
    let s := (s.bump (Reg.SEAM_RETRAINS k i) 1).bump (Reg.SEAM_RETRAINS n j) 1
    (s.log k Ev.seamUp i [n]).log n Ev.seamUp j [k]
  else s

/-- A seam has trained (R23). -/
def State.raiseSeam (s : State) (k i : Nat) : State :=
  match seamPeer s.variant k i with
  | none => s
  | some n =>
    let was := s
    (s.seamBack k i n (s.seamState k i == 3)).seamsChanged was

def execSeamFailed (k i : Nat) (s : State) : Result :=
  onUnit s (s.hasKernel k && decide (i < 3)) (if s.seamState k i = 2 then s.failSeam k i else s)

def execSeamUp (k i : Nat) (s : State) : Result :=
  onUnit s (s.hasKernel k && decide (i < 3)) (if s.seamState k i = 3 then s.raiseSeam k i else s)

/-! ### Seam test (R83) -/

/-- DIAG_TEST shows the test that runs. -/
def State.showTest (s : State) (k n : Nat) : State := s.setRf (Reg.DIAG_TEST k) 0 16 n

/-- A seam or store test ends: its error count as detail, FAILED when it is not 0. -/
def State.endTest (s : State) (k n errs : Nat) : State :=
  ((s.showTest k 0).setRb (Reg.DIAG_TEST k) 16 (errs != 0)).endJob n .done 0 (min errs 0xFFFF)

def cmdDiagSeamTest : Cmd where
  opcode := 0x1104
  domain := fun _ => 6
  minLen := 4
  bad r _ _ := [badSub r 3, (decide (reqField r 12 0 14 < 1) || decide (10000 < reqField r 12 0 14), .badParam, 12)]
  act r k s :=
    let i := reqSub r
    .checked [((seamPeer s.variant k i).isNone || s.seamState k i != 2, .wrongState, 0x110), heldBy (s.diagJob k), jobLimit s] s
      (let n := s.newJobNum
       let was := s
       let s := s.startJob 0x1104 r k 3 [word i]
       let out := s.jobStep n 2
       if s.kernelPairs.any fun x => was.reaches x.1 x.2 && !out.reaches x.1 x.2 then
         .accepted n (s.endJob n .failed (statusCode .wrongState) 0x111) [3]
       else .accepted n ((out.repin was true).showTest k n) [3])

def execDiagSeamTest (r : Req) (s : State) : Result := onCommand cmdDiagSeamTest r s

/-- The duration of a seam test ends (R83): the errors of both ends, and the buckets return behind fences. -/
def execSeamTestEnd (k i errNear errFar : Nat) (s : State) : Result :=
  onUnit s (s.hasKernel k && decide (i < 3))
    (match s.findRunning fun j => j.opcode == 0x1104 && j.kernel == k && (j.args.getD 0 0).toNat == i && j.step == 2 with
     | none => s
     | some j =>
       let was := s
       if j.abort then ((s.showTest k 0).endJob j.num .aborted 0 0).repin was false
       else
         let s := s.jobStep j.num 3
         let s := if errNear + errFar = 0 then s else s.log k Ev.diagSeamFail i [errNear, errFar]
         (s.endTest k j.num (errNear + errFar)).repin was false)

/-! ### Store test (R83) -/

def cmdDiagStoreTest : Cmd where
  opcode := 0x1105
  domain := fun _ => 3
  minLen := 12
  bad r k s :=
    let i := reqField r 12 0 3
    let off := (reqWord r 16).toNat
    let len := (reqWord r 20).toNat
    let size := (s.reg (Reg.SKEIN_SIZE k i)).toNat
    [badSub r 1, (decide (i < 2) || decide (5 < i), .badParam, 12), (decide (2 < reqField r 12 8 2), .badParam, 13),
     (decide (off % 65536 ≠ 0) || decide (size ≤ off), .badParam, 16),
     (decide (len % 65536 ≠ 0) || decide (len = 0) || decide (size < off + len), .badParam, 20)]
  act r k s :=
    let i := reqField r 12 0 3
    let n := ceilDiv (reqWord r 20).toNat 0x100000
    .checked [(i != 5 && s.skeinBusy k i, .wrongState, 0x40 + i), heldBy (s.diagJob k), jobLimit s] s
      (let j := s.newJobNum
       .accepted j ((s.startJob 0x1105 r k n [word i, reqWord r 16, reqWord r 20, 0, 0]).showTest k j) [word n])

def execDiagStoreTest (r : Req) (s : State) : Result := onCommand cmdDiagStoreTest r s

/-- One MiB of a store test: `fails` failing 64-bit words, the first at `firstOffset`. -/
def execStoreTestStep (k fails firstOffset : Nat) (s : State) : Result :=
  onUnit s (s.hasKernel k)
    (match s.findRunning fun j => j.opcode == 0x1105 && j.kernel == k with
     | none => s
     | some j =>
       let old := (j.args.getD 3 0).toNat
       let first := if old = 0 then word firstOffset else j.args.getD 4 0
       let sum := min (old + fails) 0xFFFFFFFF
       let s := s.mapJob j.num fun x => { x with args := x.args.take 3 ++ [word sum, first] }
       if j.step = j.steps then
         let s := if sum = 0 then s else s.log k Ev.diagStoreFail 0 [(j.args.getD 0 0).toNat, first.toNat, sum]
         s.endTest k j.num sum
       else if j.abort then (s.showTest k 0).endJob j.num .aborted 0 0
       else s.jobStep j.num (j.step + 1))

end Sys2Proof.Machine
end

