-- ==== Sys2Proof/Machine/Parts.lean ====
section
/-! DEFINITION. Resets of the part, of a kernel and of a unit (R459 to R465), the start of a kernel (Table 15.5), the lead (R471), and what a
kernel that leaves takes with it (R469). -/

namespace Sys2Proof.Machine

def State.setPart (s : State) (x : PartState) : State := { s with part := x }

/-! ### What a kernel holds -/

/-- The entries of a sparse map with keys outside lo to hi - 1. -/
def dropRange {α : Type} (l : List (Nat × α)) (lo hi : Nat) : List (Nat × α) := l.filter fun e => !(decide (lo ≤ e.1) && decide (e.1 < hi))

/-- A register of K0's MRAM and fuses: the key slot table, the life cycle, the root, SVN_MIN and the selection record (Table 15.7). -/
def keptReg (a : Nat) : Bool := addrUnit a == 0 && addrBlock a == 0x30 && decide (addrOff a < 0x410)

/-- What a port keeps of its attach. -/
def Port.attach (x : Port) : Port := { attached := x.attached, ready := x.ready, media := x.media, slowIdle := x.slowIdle }

/-- Everything a kernel holds cleared, but for its MRAM and, where `gens` says so, the generations of its mailboxes (Table 15.7). -/
def State.clearKernel (s : State) (k : Nat) (gens : Bool) : State :=
  let gen := (List.range 16).map fun m => (Reg.MBOX_LOCK k m, s.reg (Reg.MBOX_LOCK k m) &&& 0xFFFF0000)
  let att := (List.range 4).map fun p => ((s.port k p).attach)
  let s : State :=
    { s with
      regs := s.regs.filter fun e => addrUnit e.1 != k || keptReg e.1
      ends := s.ends.filter fun e =>
        !(e.1 == 16 + k || e.1 == 32 + k || e.1 == 128 + k || (decide (64 + 4 * k ≤ e.1) && decide (e.1 < 68 + 4 * k)) || (k == 0 && e.1 == 0))
      pcieFns := dropRange s.pcieFns k (k + 1)
      irqs := dropRange s.irqs (8 + k) (9 + k)
      ports := dropRange s.ports (4 * k) (4 * k + 4)
      ctxs := dropRange s.ctxs (ctxKey k 0 0) (ctxKey (k + 1) 0 0)
      routeCtxs := dropRange s.routeCtxs (2048 * k) (2048 * k + 2048)
      flights := s.flights.filter fun f => !f.touches k
      localRx := dropRange s.localRx (2 * k) (2 * k + 2)
      outbox := dropRange s.outbox (16 * k) (16 * k + 16)
      dins := dropRange s.dins (2 * k) (2 * k + 2)
      douts := dropRange s.douts (2 * k) (2 * k + 2)
      bridges := dropRange s.bridges k (k + 1)
      hubs := dropRange s.hubs k (k + 1)
      nets := dropRange s.nets k (k + 1)
      maps := dropRange s.maps k (k + 1)
      spi := if k = 0 then {} else s.spi
      images := { s.images with edids := dropRange s.images.edids (2 * k) (2 * k + 2), strings := dropRange s.images.strings k (k + 1),
                                modules := dropRange s.images.modules k (k + 1) } }
  let s := s.setKern k { box := (s.kern k).box }
  let s := (List.range 4).foldl (fun s p => s.setPort k p (att.getD p {})) s
  if gens then s.setRegs gen else s

/-! ### The lead (R471) -/

/-- The lead passes to a kernel. While K1 leads, the SPI transport is down (R43). -/
def State.passLead (s : State) (k : Nat) : State :=
  if s.lead = k then s
  else
    let old := s.lead
    let s : State := { s with lead := k }
    let s := if k = 0 then s else s.viaDown .spi
    s.logTo k k Ev.leadChange 0 [] 0 [old, k]

/-- The lead can pass from a kernel: only K1 takes it, while it runs. -/
def State.canPassLead (s : State) (k : Nat) : Bool := s.lead != k || (k == 0 && s.kernelRuns 1)

/-! ### Resets of the whole part (R463, R464) -/

/-- A reset of all kernels, of code 1 to 6: every kernel is held, and everything but MRAM, fuses and the power die is lost. -/
def State.partReset (s : State) (cause : Nat) : State :=
  let gens := cause == 2 || cause == 4 || cause == 5
  let s := (List.range s.variant.kernels).foldl (fun s k => s.clearKernel k gens) s
  let lock := (s.reg Reg.AON_LOCK_TIME_LO).toNat + 4294967296 * (s.reg Reg.AON_LOCK_TIME_HI).toNat
  let s : State :=
    { s with
      jobs := [], lastJob := 0, gaugeWaits := [], lead := 0, ends := [], taiOff := (lock : Int) - s.now, taiFrac := 0
      tb := { refclk := s.tb.refclk }
      images := { s.images with hook := [], apply := false, table := [], fw := [], chains := [] }
      part := { s.part with kept := 0, wake := false, seedDue := false, recoveries := [], resetWait := [], cause := cause, quietLog := [],
                            deniedAt := none, rom := false, spiSeen := false } }
  let s := (List.range 2).foldl (fun s h => s.setHook h { s.hook h with ask := none }) s
  let s := ((s.setFwSession false 0).setRf Reg.AON_STATE 0 2 0).setRb Reg.AON_STATE 7 true
  let s := s.setRf Reg.AON_RESET_CAUSE 0 4 cause
  if cause = 5 then s.bumpSat Reg.AON_RESET_CAUSE 8 8 1 else s

/-- The power-path settings taken anew from the board table, a pending section first (R443). -/
def State.reloadPowerPath (s : State) : State :=
  let s := match s.images.powerStaged with
    | some (ws, v) => s.setImages { s.images with powerPath := ws, powerVersion := v, powerStaged := none }
    | none => s
  s.loadPowerPath

/-- The power die back at its reset values (R459). What stands at its pins stays, as do the policy slots. -/
def State.powerDieReset (s : State) : State :=
  let vers := [(Reg.HOOK_VER_A, s.reg Reg.HOOK_VER_A), (Reg.HOOK_VER_B, s.reg Reg.HOOK_VER_B)]
  let pins := (List.range 2).map fun h => (Reg.VBUS_STATUS h, s.reg (Reg.VBUS_STATUS h) &&& 8)
  let s := (s.resetRange (regAddr 15 0 0) (regAddr 16 0 0)).setRegs (vers ++ pins)
  let x := s.path
  { s with path := { panel := x.panel, feedMv := x.feedMv, feedOk := x.feedOk }, hooks := [], hooksDown := [],
           part := { s.part with seed := false, romDue := 3 }, irqs := s.irqs.filter fun e => decide (e.1 < 16) }

/-! ### The start of a kernel (Table 15.5) -/

/-- A firmware slot is valid in K0 and its SVN is not below SVN_MIN; `good` is the outcome of its check (R439, R441). -/
def State.bootable (s : State) (slot : Nat) (good : Bool) : Bool :=
  s.slotValid slot && good && decide (s.rf (Reg.SVN_MIN 0) 0 6 ≤ s.fwSvn slot)

/-- A slot that fails its check at a start is invalid. -/
def State.failSlot (s : State) (slot : Nat) (good : Bool) : State :=
  if !s.slotValid slot ∨ s.bootable slot good then s
  else
    let m := s.images.copies.getD slot 0
    (s.setCopies slot (m - m % 2)).log 0 Ev.fwVerifyFail 0 [1, slot, if good then 0x0F02 else 0x0F01]

/-- K0 chooses its slot (R441); none leaves it in ROM recovery. -/
def State.chooseSlot (s : State) (goodA goodB bootSlot : Bool) : State × Bool :=
  let good (i : Nat) : Bool := if i = 0 then goodA else goodB
  let trial := s.fwTrial
  let byTrial := !bootSlot && trial != 0
  let first := if bootSlot then 1 - s.fwSelected else if trial ≠ 0 then trial - 1 else s.fwSelected
  let was := s.fwRunning
  let tried := s.rb (Reg.FW_STATUS 0) 4
  let s := s.setRb (Reg.FW_STATUS 0) 7 bootSlot
  let s := s.failSlot first (good first)
  let s := if s.bootable first (good first) then s else s.failSlot (1 - first) (good (1 - first))
  let run := if s.bootable first (good first) then some first else if s.bootable (1 - first) (good (1 - first)) then some (1 - first) else none
  match run with
  | none => (s, false)
  | some i =>
    let t := byTrial && i == first
    let s := (s.setRf (Reg.FW_STATUS 0) 0 1 i).setRb (Reg.FW_STATUS 0) 4 t
    let s := if byTrial then s.setRf (Reg.FW_STATUS 0) 2 2 0 else s
    let s := s.log 0 Ev.fwBoot 0 [i, s.fwVersion i, t.toNat, bootSlot.toNat]
    (if tried && !t && i != was then s.log 0 Ev.fwRevert 0 [was, i] else s, true)

/-- A kernel's own copy of the running slot, repaired from K0's where it fails (R441). -/
def State.repairCopy (s : State) (k : Nat) (good : Bool) : State :=
  let i := s.fwRunning
  if (s.images.copies.getD i 0).testBit k && good then s else (s.markCopy i k).log k Ev.fwCopyRepaired 0 [k, i]

/-- K0's ROM with its fuses and its root (R418, R430): false leaves it in ROM recovery. A root that the bank lacks is generated, in
Manufacture, in `attempts` attempts. -/
def State.romStart (s : State) (attempts : Nat) (rootOk : Bool) : State × Bool :=
  let s := s.applyLife
  if s.rb (Reg.ROOT_STATUS 0) 0 then (s.setRb (Reg.ROOT_STATUS 0) 1 rootOk, rootOk)
  else if rootOk then
    (((s.setRb (Reg.ROOT_STATUS 0) 0 true).setRb (Reg.ROOT_STATUS 0) 1 true).log 0 Ev.rootGenerated 0x1FF [max 1 (min attempts 3)], true)
  else
    let f := s.fresh
    (f.2.logBoxed 0 Ev.entropyFail 0x1FF [f.1.toNat % 2 + 1], false)

/-- A pending board table becomes the active one at a start of all kernels (R443). -/
def State.swapBoard (s : State) : State :=
  let s := if s.images.stagedDue then s.setImages { s.images with board := s.images.staged, staged := [], stagedDue := false } else s
  let body := imageBody s.images.board
  s.setImages { s.images with chains := if s.images.board = [] ∨ (bodyFault body).isSome then [] else boardChains body }

/-- Step 5: the seams of a kernel train with every neighbour that runs. When the kernel returns alone, so do its seams, those that had failed too (R23). -/
def State.trainSeams (s : State) (k : Nat) (again : Bool) : State :=
  let was := s
  let s := (List.range 3).foldl (fun s i =>
    match seamPeer s.variant k i with
    | some n =>
      if [2, 3].contains (s.kernelState n) ∧ s.seamState k i ≠ 3 then
        s.seamBack k i n again
      else s
    | none => s) s
  if again then s.seamsChanged was else s

/-- Step 6: the board table is checked and applied to a kernel. -/
def State.startBoard (s : State) (k : Nat) : State :=
  if s.images.board = [] then s
  else
    match bodyFault (imageBody s.images.board) with
    | some f => s.log k Ev.boardTableFail 0 [k, f.1, f.2]
    | none => (s.applyBoard k fun _ => true).setReg (Reg.KID_BT_VER k) (word (imageNum s.images.board 4 4))

/-- The timebase of a kernel that starts alone follows the running kernels (R328). -/
def State.followTime (s : State) (k : Nat) : State :=
  s.setRegs (([0x000, 0x008, 0x00C, 0x010, 0x014, 0x018, 0x01C] ++ (List.range 6).map timeSrcOff).map fun o => (regAddr k 0x03 o, s.timeReg o))

/-- The domains of a kernel as PWR_DOM_EN has them. -/
def State.startDomains (s : State) (k : Nat) : State :=
  (softDomains.filter fun d => !s.rb (Reg.PWR_DOM_EN k) (d - 1)).foldl (fun s d => s.domainOff k d) s

/-- Step 7 in the lead: events of the power die that waited, and a trip not yet logged (R387, R396). -/
def State.leadStarts (s : State) : State :=
  let owed := s.path.owed
  let s := owed.foldl (fun s e => s.logPower e.1 e.2.1 e.2.2) (s.setPath { s.path with owed := [] })
  let w := s.reg Reg.LOAD_LAST_TRIP
  if fld w 0 4 ≠ 0 ∧ !bitAt w 7 then
    let f := s.fresh
    f.2.logTrip (fld w 16 16 * 10) f.1.toNat
  else s

/-- Steps 5 to 8: a kernel whose firmware runs joins the part. `alone` says that it starts after a reset of itself alone. -/
def State.startKernel (s : State) (k : Nat) (alone : Bool) : State :=
  let s := (s.setRf (Reg.KERNEL_STATE k) 0 4 1).setReg (Reg.KID_FW_VER k) (word (s.fwVersion s.fwRunning))
  let s := (List.range 12).foldl (fun s d => s.setDomain k (d + 1) 1) s
  let s := if alone then s.followTime k else s
  let s := ((s.trainSeams k alone).startBoard k).startDomains k
  let s := (s.setRf (Reg.KERNEL_STATE k) 0 4 2).viaUpNow (.needle k)
  let s := if k = 0 then (s.setPart { s.part with spiSeen := true }).passLead 0 |>.viaUpNow .spi else s
  let s := if k = 0 ∧ !alone then s.leadStarts else s
  let s := if k = 0 ∨ alone then
      s.log k Ev.start 0 [s.rf (Reg.RESET_CAUSE k) 0 4, s.fwRunning, (s.reg Reg.AON_WAKE_SRC).toNat]
    else s
  let s := (s.pcieSync k).usbSync k
  (List.range 4).foldl (fun s p => s.autoCast k p) s

/-! ### A kernel that leaves (R60, R469) -/

/-- A job that holds something of a kernel: it runs there, or names a tunnel, a port or a seam of it, or is a change of the part's state. -/
def State.jobNeeds (s : State) (k : Nat) (j : Job) : Bool :=
  let a := (j.args.getD 0 0).toNat
  j.kernel == k || j.opcode == 0x0002
    || (match j.gauge with
        | some g => g.linkK == k || g.items.any fun i => i.kernel == k || (!i.far && i.k == k)
        | none => false)
    || ((j.opcode == 0x0201 || j.opcode == 0x0202) && s.rf (Reg.TUN_PATH j.kernel a) 4 3 == k)
    || (j.opcode == 0x0109 && (j.args.getD 1 0) == 1 && (j.args.getD 2 0).toNat == k)
    || (j.opcode == 0x1104 && seamPeer s.variant j.kernel a == some k)

/-- The jobs that hold something of a kernel end Aborted, a re-gauge Partial. -/
def State.abortJobs (s : State) (k keep : Nat) : State :=
  (s.running.filter fun j => j.num != keep && j.opcode != 0x0009 && s.jobNeeds k j).foldl (fun s j =>
    if j.gauge.isSome then s.stopGauge j.num
    else
      let s := if j.opcode = 0x1104 ∨ j.opcode = 0x1105 then s.showTest j.kernel 0 else s
      s.endJob j.num .aborted 0 0) s

/-- The commands that wait on a kernel are answered HW_FAULT, detail 0xFFFF (R60). -/
def State.answerWaits (s : State) (k : Nat) : State :=
  let s := ((List.range 2).filter fun h => (s.hook h).askKernel == k).foldl (fun s h => s.answerAsk h .hwFault 0xFFFF []) s
  let mine := s.gaugeWaits.filter fun w => reqTarget w.req == k
  mine.foldl (fun s w => s.deliver w.req.via w.req.slot (replyPacket w.opcode w.req .hwFault 0xFFFF []))
    { s with gaugeWaits := s.gaugeWaits.filter fun w => reqTarget w.req != k }

/-- The cells on their way that step 2 discards: queued toward the kernel, or from it in its neighbours' ingress buffers. -/
def State.seamLost (s : State) (k : Nat) (f : Flight) : Bool :=
  decide (f.here ≠ k) && (f.dst == k || (decide (0 < f.hops) && f.prevK == k)
    || ((s.hopIface f.here f.dst f.bucket).bind (seamPeer s.variant f.here)) == some k)

/-- A cell that its queue has sent over seams toward an egress buffer, and that is lost on the way, leaves the queue. -/
def State.loseFetch (s : State) (x : Src) (c : Cell) : State :=
  let y := s.ctxAt x.n x.t x.m
  let i := (y.txq.findIdx? fun z => z == c && z.legs.testBit x.leg).getD y.txq.length
  if x.raw then s
  else s.setCtxAt x.n x.t x.m { y with txq := (y.txq.modify i fun z => { z with legs := z.legs - 2 ^ x.leg }).filter fun z => z.legs ≠ 0 }

/-- The context to which a cell on its way belongs. -/
def Flight.owner (f : Flight) : Option (Nat × Nat) :=
  match f.fin with
  | .rx _ _ n t _ _ _ _ _ => some (n, t)
  | .egress _ _ x => if x.raw then none else some (x.n, x.t)
  | .route _ _ _ _ => none

/-- Cells on their way are lost with a kernel (R469): those that stand elsewhere are counted, and a lossless tunnel with a cell among them goes to Fault,
because a seam keeps no replay copy. -/
def State.dropWithKernel (s : State) (k : Nat) : State × Nat :=
  let lost := s.flights.filter (s.seamLost k)
  let gone (f : Flight) : Bool := s.seamLost k f || f.here == k
  let hurt := (((s.flights.filter gone).filter fun f => lossless f.cell.cls).filterMap (·.owner)).dedup.filter fun c =>
    c.1 != k && decide (8 ≤ c.2) && [2, 3].contains (s.tunState c.1 c.2)
  let s := (s.flights.filter gone).foldl (fun s f => match f.fin with | .egress _ _ x => s.loseFetch x f.cell | _ => s) s
  let s := lost.foldl (fun s f => s.bump (Reg.FAULT_SEAM_LOST f.here) 1) (s.dropFlights gone)
  (s.forCtxs hurt fun s n t => s.faultCtx n t portEvent, lost.length)

/-- Step 2: the seams of a kernel drain. Its neighbours' pools are whole again, flows are pinned to what is left, and cells queued toward
it are counted in FAULT_SEAM_LOST of the kernel that held them. The number is the total. -/
def State.drainSeams (s : State) (k : Nat) : State × Nat :=
  let was := s
  let d := s.dropWithKernel k
  let s := (List.range 3).foldl (fun s i =>
    match seamPeer s.variant k i with
    | some n => if s.seamState k i = 2 then (s.seamTo k i n 1).seamCredits n (seamFarIface s.variant i) 256 else s
    | none => s) d.1
  let s := s.repin was false
  let s := (s.kernelPairs.filter fun x => x.1 != k && x.2 != k && was.reaches x.1 x.2 && !s.reaches x.1 x.2).foldl
    (fun s x => s.loseReach x.1 x.2) s
  let lost (n : Nat) : Nat :=
    ((s.liveCtxs.filter fun c => c.1 == n && decide (8 ≤ c.2) && s.rf (Reg.TUN_PATH c.1 c.2) 4 3 == k).map fun c =>
      ([0, 1].map fun m => (s.ctxAt c.1 c.2 m).txq.length + (s.ctxAt c.1 c.2 m).waitq.length).sum).sum
  let ns := (List.range s.variant.kernels).filter fun n => n != k
  (ns.foldl (fun s n => if lost n = 0 then s else s.bump (Reg.FAULT_SEAM_LOST n) (lost n)) s, d.2 + (ns.map lost).sum)

/-- Step 3: what leaves by a kernel's ports, or enters there, goes down; the stitches that its own tunnels held elsewhere are free. -/
def State.dropThrough (s : State) (k : Nat) : State :=
  let s := (List.range 4).foldl (fun s p =>
    let s := if [3, 4].contains (s.portState k p) then s.degradePly k p else s
    (((s.gaugePortLost k p).dropRemotes k p).dropWaits k p).releaseFar k p) s
  let out := s.liveCtxs.filter fun c => c.1 != k && decide (8 ≤ c.2) && s.rf (Reg.TUN_PATH c.1 c.2) 4 3 == k
  let s := s.forCtxs out fun s n t => (s.gaugeTunLost n t).loseTun n t
  let s := (s.routes.filter fun r => r.1 == k || s.routeOutK r.1 r.2 == k).foldl (fun s r => s.dropRoute r.1 r.2) s
  let s := s.dropFetched fun x => (if x.raw then x.n / 2048 else x.n) == k
  let own := s.liveCtxs.filter fun c => c.1 == k && decide (8 ≤ c.2) && s.rf (Reg.TUN_PATH c.1 c.2) 4 3 != k
  s.forCtxs own fun s n t => s.releaseRows (s.gaugePort n t).1 (s.gaugePort n t).2 (s.outLabel n t)

/-- A kernel reset (R464), in a state of KERNEL_STATE. -/
def State.kernelReset (s : State) (k st : Nat) : State :=
  ((s.clearKernel k true).setRf (Reg.KERNEL_STATE k) 0 4 st).setReg (Reg.RESET_CAUSE k) 7

/-! ### Recovery (R469 to R471) -/

/-- The recovery job of a kernel. -/
def State.recovery? (s : State) (k : Nat) : Option Job :=
  s.findRunning fun j => j.opcode == 0x0009 && (j.args.getD 0 0).toNat == k

/-- Steps 1 to 4 on a kernel: it enters Fault, and the part lets go of it; the words of the job keep the cells lost and the locks broken. -/
def State.faultSteps (s : State) (k cause n : Nat) : State :=
  let s := ((s.setRf (Reg.KERNEL_STATE k) 0 4 4).answerWaits k).abortJobs k n
  let s := s.logTo s.lead k Ev.kernelFault 0 [] 0 [k, cause]
  let d := (s.jobStep n 2).drainSeams k
  let s := ((d.1.jobStep n 3).dropThrough k).jobStep n 4
  let pcie := (s.ep (.pcie k)).up
  let usb := (s.ep (.usb k)).up
  let mine (o : Nat) : Bool := o == 8 + k || (o == 2 && pcie) || (o == 3 && usb)
  let locks := ((List.range s.variant.kernels).flatMap fun a => (List.range 16).map fun m => s.lockOwner a m).filter mine
  let s := s.breakLocks (8 + s.lead) fun _ _ o => mine o
  s.mapJob n fun j => { j with args := [word k, word d.2, word locks.length, word cause] }

/-- Step 5: the kernel is reset, and its restart begins; after three recoveries in 60 s it stays in reset, Disabled (R470). -/
def State.faultReset (s : State) (k n : Nat) : State :=
  let s := s.jobStep n 5
  if 3 ≤ s.recoveryCount k then
    let s := (s.kernelReset k 6).logTo s.lead k Ev.kernelDisabled 0 [] 0 [k]
    s.endJob n .failed (statusCode .hwFault) 0x0F00
  else
    let s := s.kernelReset k 5
    s.setPart { s.part with recoveries := (k, s.now) :: s.part.recoveries.filter fun e => decide (s.now < e.2 + 60000000000) }

/-- A kernel is declared faulty (R467): the lead, which passes to K1 where K0 held it, starts the recovery job. -/
def State.declareFault (s : State) (k cause : Nat) : State :=
  let s := if s.lead = k then s.passLead 1 else s
  let n := s.newJobNum
  let s := s.addJob { num := n, opcode := 0x0009, tag := 0, via := none, kernel := s.lead, target := k, steps := 5, args := [word k] }
  (s.faultSteps k cause n).faultReset k n

/-- A kernel reset by command (R464, R60): the lead has passed, and no recovery runs. -/
def State.commandReset (s : State) (k : Nat) : State :=
  if !s.canPassLead k then s.partReset 4
  else
    let s := (if s.lead = k then s.passLead 1 else s).setRf (Reg.KERNEL_STATE k) 0 4 1
    let s := (s.answerWaits k).abortJobs k 0
    ((s.drainSeams k).1.dropThrough k).kernelReset k 1

end Sys2Proof.Machine
end

