-- ==== Sys2Proof/Machine/PartCmds.lean ====
section
/-! DEFINITION. The part-state, reset and recovery commands (Table 15.10), JOB_ABORT (R63), and the events of pins, timers and Needles that
chapter 15 describes. -/

namespace Sys2Proof.Machine

/-! ### Quiet (R453 to R456) -/

/-- AON_STATE.STATE: 0 Run, 1 Quiet, 2 Seed pending (Table 16.21). -/
def State.partState (s : State) : Nat := s.rf Reg.AON_STATE 0 2

/-- KERNEL_STATE of every kernel that runs. -/
def State.setKernels (s : State) (st : Nat) : State :=
  ((List.range s.variant.kernels).filter s.kernelRuns).foldl (fun s k => s.setRf (Reg.KERNEL_STATE k) 0 4 st) s

/-- The CORE registers that R456 does not save: they come back from their reset words and the board table. -/
def unsavedRegs (k : Nat) : List Nat :=
  [Reg.TUN_ACCEPT k, Reg.TUN_VIOL_LIMIT k, Reg.CONG_FENCE_HOLD k] ++ (List.range 4).map (Reg.TUN_RESUME k) ++ (List.range 32).map (Reg.SEAL_ACT k)
    ++ (List.range 4).flatMap fun u => (List.range 9).map fun i => Reg.CHK_CFG k u + 4 * i

/-- A kept port of the kernel with AUTH 1 needs its traffic keys (Table 15.3). -/
def State.keptAuth (s : State) (mask k : Nat) : Bool :=
  (List.range 4).any fun p => mask.testBit (portKey k p) && s.portAuth k p

/-- Domains of one kernel at step 3 of Quiet entry (Table 15.3): kept ports hold LINKA and LINKB, their keys hold SEC, STORE goes into
retention, USB goes off with its state saved. -/
def State.quietKernel (s : State) (mask k : Nat) : State :=
  let any := (List.range s.variant.kernels).any (s.keptAuth mask)
  let link (d : Nat) : Bool := (List.range 2).any fun i => mask.testBit (portKey k (2 * (d - 4) + i))
  let gone := [4, 5, 7, 8, 9, 10, 12].filter fun d =>
    s.domainState k d != 0 && !((d < 6 && link d) || (d == 12 && (if k = 0 then any else s.keptAuth mask k)))
  let s := gone.foldl (fun s d => s.domainOff k d) s
  let s := (unsavedRegs k).foldl (fun s a => s.setReg a (resetWord a)) s
  let s := (s.domainOff k 6).setDomain k 2 0
  let s := (s.setDomain k 3 2).setDomain k 11 0
  s.setKern k { s.kern k with fences := [] }

/-- Step 3 of Quiet entry. -/
def State.enterQuiet (s : State) (mask m : Nat) : State :=
  let s := (List.range s.variant.kernels).foldl (fun s k => s.quietKernel mask k) s
  let s := (s.setKernels 3).setRf Reg.AON_STATE 0 2 1
  (s.setPart { s.part with kept := mask, wake := false }).log s.lead Ev.state 0 [0, 1, m]

/-- One kernel on return to Run: its saved state stands, its other domains come up as PWR_DOM_EN has them, tokens and samplers restart (R456). -/
def State.wakeKernel (s : State) (k : Nat) : State :=
  let t := s.applyBoard k fun b => b == 0x10 || b == 0x15 || b == 0x2D
  let s := s.setRegs ((unsavedRegs k).map fun a => (a, t.reg a))
  let s := [2, 3].foldl (fun s d => s.setDomain k d 1) s
  let s := (s.setDomain k 6 1).applyBoard k fun b => b == 0x0D
  let s := [4, 5, 7, 8, 9, 10, 11, 12].foldl (fun s d =>
    if s.rb (Reg.PWR_DOM_EN k) (d - 1) ∧ s.domainState k d = 0 then
      if d = 11 then s.setDomain k d 1 else (s.setDomain k d 1).applyBoard k fun b => kernelBlockDomain b == d && b != 0x30
    else if !s.rb (Reg.PWR_DOM_EN k) (d - 1) ∧ s.domainState k d = 1 then s.domainOff k d
    else s) s
  let s := (List.range 161).foldl (fun s n => if s.tokens k n = 0 ∧ s.reg (Reg.SHP_BURST k n) = 0 then s else s.resetTokens k n) s
  (List.range 576).foldl (fun s q => if s.rf (Reg.LAT_CTRL k q) 0 7 = 0 then s else s.latClear k q) s

/-- The log entries that waited in CTRL (R454): those dropped are reported. -/
def State.flushQuiet (s : State) (k : Nat) : State :=
  let q := s.quietOf k
  let s := s.setQuiet k (0, 0)
  if q.2 = 0 then s else s.log k { Ev.eventsLost with kind := 0 } 0 [q.2, 1]

/-- The part returns from Quiet to Run (R455); `src` is what AON_WAKE_SRC shows and `m` the master that EV_STATE names. -/
def State.leaveQuiet (s : State) (src m : Nat) : State :=
  let ks := List.range s.variant.kernels
  let s := (ks.foldl (fun s k => s.wakeKernel k) s).setRf Reg.AON_STATE 0 2 0
  let s := (s.setKernels 2).setReg Reg.AON_WAKE_SRC (word src)
  let s := ks.foldl (fun s k => s.trainSeams k false) s
  let s := (s.setPart { s.part with kept := 0 }).log s.lead Ev.state 0 [1, 0, m]
  let s := ks.foldl (fun s k => ((s.flushQuiet k).pcieSync k).usbSync k) s
  (s.allPorts.filter fun kp => [0, 1].contains (s.portState kp.1 kp.2)).foldl (fun s kp => s.autoCast kp.1 kp.2) s

/-- The conditions of Table 15.4, in its order. -/
def State.quietChecks (s : State) (mask : Nat) : List Check :=
  let ks := List.range s.variant.kernels
  let used (a : Nat) : Bool := ks.any fun k => (s.adapterCtx? k a).isSome
  let shown := ks.any fun k => [0, 1].any fun i => s.rb (Reg.DIN_CTRL k i) 0 || s.rb (Reg.DOUT_CTRL k i) 0
  let awake := ks.any fun k => (s.hub k).form == 1 && (s.adapterCtx? k usbAdapter).isSome && s.rf (Reg.USBH_STATUS k) 0 4 != 3
  [(s.partState != 0, .wrongState, 0xF0 + s.partState), (ks.any fun k => s.kernelState k != 2, .wrongState, 0xFFFF),
   (s.portsActive mask, .wrongState, 0xF8), ([3, 4, 5, 6, 7, 9, 10].any used || shown, .wrongState, 0xF9), (awake, .wrongState, 0xFA)]

/-- No other job may run. -/
def anyJob (s : State) : Check := heldBy s.running.head?

/-- The code with which a kept port refuses Husk: its own state, or the condition of R111 that fails. -/
def State.keptRefusal (s : State) (k p : Nat) : Option Nat :=
  if !s.portOpen k p then some (s.portState k p)
  else if s.rf (Reg.LNK_STATE k p) 4 2 = 2 then none else s.huskRefusal k p

/-- Step 1 of Quiet entry begins: each kept port asks for Husk. -/
def State.askKept (s : State) (n mask : Nat) : State :=
  let l := s.allPorts.filter fun kp => mask.testBit (portKey kp.1 kp.2)
  match l.findSome? fun kp => s.keptRefusal kp.1 kp.2 with
  | some c => s.endJob n .failed (statusCode .wrongState) c
  | none =>
    (l.foldl (fun s kp => if s.rf (Reg.LNK_STATE kp.1 kp.2) 4 2 = 2 ∨ (s.port kp.1 kp.2).huskAsked then s else s.askHusk kp.1 kp.2) s).quietStep

/-- Step 1 of Seed entry (R457): the ports bind off, and the Hooks end their contracts and present Rd. -/
def State.startSeed (s : State) (m : Nat) : State :=
  let s := if s.partState = 1 then s.leaveQuiet 0x20 m else s
  let s := s.allPorts.foldl (fun s kp => s.bindOff kp.1 kp.2) s
  ((s.endAttach 0).endAttach 1).seedStep

def cmdSysStateSet : Cmd where
  opcode := 0x0002
  minLen := 12
  bad r _ s :=
    [badSub r 1, (reqField r 12 0 2 == 3, .badParam, 12), (decide (2 ^ (4 * s.variant.kernels) ≤ (reqWord r 16).toNat), .badParam, 16),
     (decide (1000 < reqField r 20 0 10), .badParam, 20)]
  act r k s :=
    let mask := (reqWord r 16).toNat
    let m := master r.via
    let n := s.newJobNum
    let job (steps : Nat) : State := s.startJob 0x0002 r k steps [word (reqField r 12 0 2), reqWord r 16, word (reqField r 20 0 10)]
    match reqField r 12 0 2 with
    | 0 =>
      .checked [(s.partState != 1, .wrongState, 0xF0 + s.partState), jobLimit s] s
        (.accepted n (((job 1).leaveQuiet 0x20 m).endJob n .done 0 0) [1])
    | 1 =>
      .checked (s.quietChecks mask ++ [anyJob s]) s
        (let s := job 3
         let s := (List.range s.variant.kernels).foldl (fun s k => s.setReg (Reg.QUIET_PORTS k) (word (mask / 16 ^ k % 16))) s
         .accepted n ((s.setPart { s.part with wake := false }).askKept n mask) [3])
    | _ => .checked [(decide (1 < s.partState), .wrongState, 0xF0 + s.partState), anyJob s] s (.accepted n ((job 2).startSeed m) [2])

def execSysStateSet (r : Req) (s : State) : Result := onCommand cmdSysStateSet r s

/-- The queues have emptied, or 10 ms have passed, in step 2 of Quiet entry (R454). -/
def execQuietDrainEnd (s : State) : Result :=
  .next
    (match s.stateJob 1 with
     | some j =>
       if j.step = 2 then
         if s.part.wake ∨ j.abort then s.quietBoundary j.num
         else ((s.jobStep j.num 3).enterQuiet (j.args.getD 1 0).toNat (match j.via with | some v => master v | none => 8 + s.lead)).nextStep j.num
       else s
     | none => s)

/-- Whether a wake of kernel k counts (R455): sources 0 to 31 are the bits of PWR_WAKE_MASK; 32 is a kept port that leaves Husk, 33 a wake
event whose notice needs a domain. -/
def State.wakeAllowed (s : State) (k src : Nat) : Bool := decide (src = 32) || decide (src = 33) || s.rb (Reg.PWR_WAKE_MASK k) src

/-- A wake in Quiet returns the part to Run; during steps 1 and 2 of Quiet entry it ends the job at its next boundary (R455). -/
def State.wakePart (s : State) (src : Nat) : State :=
  if s.partState = 1 then s.leaveQuiet (if src = 0 then 1 else 0x20) (8 + s.lead)
  else if (s.stateJob 1).isSome then s.setPart { s.part with wake := true } else s

def execQuietWake (k src : Nat) (s : State) : Result :=
  onUnit s (s.hasKernel k && decide (src < 34)) (if s.wakeAllowed k src then s.wakePart src else s)

/-! ### Husk (R111, R112) -/

def execHuskAck (k p : Nat) (s : State) : Result :=
  onMsg k p s fun s => if (s.port k p).huskAsked then s.enterHusk k p else s.violation k p 10 0 none

/-- HUSK_NAK: the port stays as it is; a Quiet entry that waits for it ends with the code that it carries (R454). -/
def execHuskNak (k p code : Nat) (s : State) : Result :=
  onMsg k p s fun s =>
    if (s.port k p).huskAsked then
      let s := s.setPort k p { s.port k p with huskAsked := false }
      match s.stateJob 1 with
      | some j =>
        if j.step = 1 ∧ (j.args.getD 1 0).toNat.testBit (portKey k p) then s.endJob j.num .failed (statusCode .wrongState) code else s
      | none => s
    else s.violation k p 10 0 none

/-- An end leaves Husk (R112): rows resume and T4 sends TIME_INFO at once (R336). In Quiet it wakes the part first (R455). -/
def execHuskExit (k : Nat) (wake : HuskWake) (s : State) : Result :=
  onPort k wake.port (s.portOpen k wake.port && s.rf (Reg.LNK_STATE k wake.port) 4 2 == 2) s ((s.wakePart 32).leaveHusk k wake.port wake.far)

/-! ### Seed (R457, R458) -/

/-- LOAD and the feed paths off, the kernels without rails. -/
def State.enterSeed (s : State) : State :=
  let s := if s.loadState = 4 then s else s.loadGateOff 0
  let s := s.setRegs ((List.range 4).map fun f => (Reg.FEED_STATUS f, (0 : Word)))
  let s := (s.setRf Reg.PANEL_STATUS 0 4 0).bumpSat Reg.AON_SEED_COUNT 0 32 1
  let s := s.partReset 6
  { s with hooksDown := [], part := { s.part with seed := true } }

/-- SEED_DELAY ends (R457). -/
def execSeedDelayExpiry (s : State) : Result := .next (if s.part.seedDue then s.enterSeed else s)

/-- A wake of R458, sources as AON_WAKE_SRC has them. Before LOAD is off it only cancels the entry. -/
def execSeedWake (sources : Nat) (s : State) : Result :=
  .next
    (let src := sources % 32
     if src = 0 ∨ !s.part.vaon then s
     else if s.part.seedDue then
       ((s.setPart { s.part with seedDue := false }).setRf Reg.AON_STATE 0 2 0).log s.lead Ev.seedAbort 0 [src]
     else if s.part.seed then
       let s := (s.setPart { s.part with seed := false }).setReg Reg.AON_WAKE_SRC (word src)
       ((List.range 4).foldl (fun s f => s.evalFeed f) s).tryRamp
     else s)

/-! ### Pins and resets of the part (R459, R460, R463) -/

def execPowerOn (s : State) : Result :=
  .next (if s.part.vaon then s
         else
           let s := (s.setPart { s.part with vaon := true }).reloadPowerPath
           let s := s.setSwEn (s.images.powerPath.isEmpty || bitAt (s.images.powerPath.getD 2 0) 0)
           ((List.range 4).foldl (fun s f => s.evalFeed f) s).tryRamp)

def execVaonFall (s : State) : Result :=
  .next (if !s.part.vaon then s
         else
           let s := (s.partReset 1).powerDieReset
           { s with taiOff := -(s.now : Int), part := { s.part with vaon := false } })

def execSysPwrokRise (s : State) : Result := .next (if s.part.vaon then s.setRb Reg.AON_STATE 4 true else s)

def execSysPwrokFall (s : State) : Result :=
  .next (if s.part.vaon then (s.partReset (if s.part.seed then 6 else 3)).setRb Reg.AON_STATE 4 false else s)

def execResetNLow (s : State) : Result :=
  .next (if s.inSeed then s else ((s.reloadPowerPath).partReset 2).setRb Reg.AON_STATE 5 false)

/-- R472. -/
def execLeadLost (s : State) : Result := .next (if s.inSeed ∨ s.rb Reg.AON_STATE 7 then s else s.partReset 5)

/-- A kernel released from reset starts (R460, R461): K0 with its ROM, its slot and the pending board table, the others after it. -/
def State.release (s : State) (k attempts : Nat) (rootOk goodA goodB bootSlot : Bool) : State :=
  let alone := s.rf (Reg.RESET_CAUSE k) 0 4 == 7
  let s := (s.setRb Reg.AON_STATE 7 false).setRb Reg.AON_STATE 5 true
  let s := if alone then s else (s.setReg (Reg.RESET_CAUSE k) (word s.part.cause)).setRf Reg.AON_RESET_CAUSE 0 4 s.part.cause
  if k = 0 then
    let a := s.romStart attempts rootOk
    let b := if !a.2 then a else if alone then a else a.1.chooseSlot goodA goodB bootSlot
    if !b.2 then ((b.1.setPart { b.1.part with rom := true, spiSeen := true }).setRf (Reg.KERNEL_STATE 0) 0 4 1).viaUpNow .spi
    else (if alone then b.1 else b.1.swapBoard).startKernel 0 alone
  else (s.repairCopy k (if s.fwRunning = 0 then goodA else goodB)).startKernel k alone

def execKernelRelease (k attempts : Nat) (rootOk goodA goodB bootSlot : Bool) (s : State) : Result :=
  onUnit s (s.hasKernel k)
    (if !s.inSeed && s.rb Reg.AON_STATE 4 && decide (s.kernelState k ≤ 1) && !s.part.rom && (k == 0 || s.kernelRuns s.lead) then
       s.release k attempts rootOk goodA goodB bootSlot
     else s)

/-! ### Domains (R451) -/

/-- A domain that was changing is on: its registers hold their reset words and what the board table gives. -/
def execDomainPowerUp (k d : Nat) (s : State) : Result :=
  onUnit s (s.hasKernel k && decide (1 ≤ d) && decide (d ≤ 12))
    (if s.domainState k d = 3 ∧ s.kernelState k = 2 then
       let s := (s.setDomain k d 1).applyBoard k fun b => kernelBlockDomain b == d && b != 0x30
       if d = 4 ∨ d = 5 then
         ([2 * (d - 4), 2 * (d - 4) + 1].filter fun p => [0, 1].contains (s.portState k p)).foldl (fun s p => s.autoCast k p) s
       else if d = 9 then s.pcieSync k
       else if d = 11 then s.usbSync k
       else if d = 12 then
         (s.allPorts.filter fun kp => s.castAt kp.1 kp.2 5 && (s.port kp.1 kp.2).helloDue).foldl (fun s kp => s.startAuth kp.1 kp.2) s
       else s
     else s)

/-! ### Unit reset (R465, Table 15.8) -/

/-- The domain of a unit code of a kernel, 0 where the code names none. -/
def unitDomain (code : Nat) : Nat :=
  if code = 0x10 ∨ code = 0x11 then 4 else if code = 0x12 ∨ code = 0x13 then 5 else if code = 0x20 ∨ code = 0x21 then 7
  else if code = 0x28 ∨ code = 0x29 then 8 else if code = 0x30 then 9 else if code = 0x38 then 11 else if code = 0x40 ∨ code = 0x41 then 10
  else if code = 0x48 ∨ (0x50 ≤ code ∧ code ≤ 0x53) then 2 else 0

/-- The registers of a unit, n bytes from an address, back at their reset words and what the board table gives. -/
def State.resetUnit (s : State) (k a n : Nat) : State :=
  let s := s.resetRange a (a + n)
  let t := s.applyBoard k fun b => b == addrBlock a || (addrBlock a == 0x29 && b == 0x28)
  s.setRegs (t.regs.filter fun e => decide (a ≤ e.1) && decide (e.1 < a + n))

/-- The tunnel of an adapter closed, as TUN_CLOSE with DRAIN_MS 1 closes an Open one (R142). -/
def State.unitClose (s : State) (k a : Nat) : State :=
  match s.adapterCtx? k a with
  | none => s
  | some t =>
    match s.tunState k t with
    | 2 =>
      let s := ((s.gaugeTunLost k t).adapterDrain k t).sendCloseReq k t 1
      (s.moveCtx k t 3 0x0003).closeProgress k t
    | 3 => s
    | _ => (s.endCtxJob k t .aborted .done 0).closeCtx k t 0x0003

def State.resetPort (s : State) (k p : Nat) : State :=
  let s := match s.portState k p with
    | 2 => (s.setPortState k p 0).endPortJob k p 0x0102 .failed (statusCode .wrongState) 0
    | _ => s.portLost k p false
  let s := s.resetUnit k (regAddr k (8 + p) 0) 0x2000
  let x := s.port k p
  let s := s.setPort k p { x with lineOut := [], role := none, helloDue := false, authGot := 0, newTok := none, newFarTok := none, backoffEnd := 0,
                                  prbs := 0, hunting := 0 }
  ((s.setRb (Reg.DIAG_LOOP k) p false).setRb (Reg.DIAG_LOOP k) (4 + p) false).autoCast k p

def State.resetDin (s : State) (k i : Nat) : State :=
  ((((s.unitClose k (dinAdapter i)).setDin k i {}).resetUnit k (regAddr k (0x18 + i) 0) 0x2000).resetUnit k (regAddr k 0x1A (0x400 * i)) 0x400)

/-- The skein keeps what it holds. -/
def State.resetDout (s : State) (k o : Nat) : State :=
  let d := s.dout k o
  let s := (s.unitClose k (doutAdapter o)).setDout k o { front := d.front, ready := d.ready, recs := d.recs, edid := [] }
  (s.resetUnit k (regAddr k (0x1C + o) 0) 0x1000).resetUnit k (regAddr k 0x1B (0x100 * o)) 0x100

def State.resetPcie (s : State) (k : Nat) : State :=
  let queued := match s.adapterCtx? k pcieAdapter with | some t => s.postedQueued k t | none => 0
  let s := (s.pathLost k queued).unitClose k pcieAdapter
  let x := s.bridge k
  let s := (s.resetUnit k (regAddr k 0x20 0) 0x1000).resetUnit k (regAddr k 0x21 0) 0x1000
  ((s.setBridge k { form := x.form, present := x.present }).dropX k x.form).pcieSync k

/-- What the hub shows of its ports and its host stays. -/
def State.resetUsb (s : State) (k : Nat) : State :=
  let s := (s.upstreamReset k (s.rb (Reg.USBH_STATUS k) 4) false false).unitClose k usbAdapter
  let live := [Reg.USBH_STATUS k, Reg.USBD_STATUS k] ++ (List.range 4).map (Reg.USBH_PORT k)
  ((s.resetUnit k (regAddr k 0x24 0) 0x1000).resetUnit k (regAddr k 0x25 0) 0x1000).setRegs (live.map fun a => (a, s.reg a))

def State.resetEth (s : State) (k e : Nat) : State :=
  let pair := s.paired k
  let one (s : State) (e : Nat) : State :=
    let s := ((s.unitClose k (ethAdapter e)).ethDown k e).setEth k e {}
    (s.resetUnit k (regAddr k (0x28 + e) 0) 0x1000).setRb (Reg.ETH_STATUS k e) 6 pair
  if pair then (one (one s 0) 1).setReg (Reg.PRP_STATUS k) 0 else one s e

def State.resetMapper (s : State) (k : Nat) : State :=
  let pins := (List.range 16).filter fun g => s.rb (Reg.GPIO_OWNED k) g
  let s := pins.foldl (fun s g => s.setRf (Reg.GPIO_CFG k g) 0 2 0) s
  ((s.setMapper k {}).resetUnit k (regAddr k 0x2C 0) 0x10000).setReg (Reg.GPIO_OWNED k) 0

def State.resetCheck (s : State) (k u : Nat) : State :=
  let s := match s.unitScan k u with
    | some j => s.endJob j.num .aborted 0 0
    | none => s
  s.resetUnit k (Reg.CHK_CFG k u) 0x40

/-- A unit reset; RESET_CAUSE shows it. -/
def State.unitReset (s : State) (k code : Nat) : State :=
  if k = 15 then s.stopHook (code - 5) false
  else
    let s := s.setReg (Reg.RESET_CAUSE k) (packWord [(0, 4, 8), (8, 8, code)])
    if code < 0x14 then s.resetPort k (code - 0x10)
    else if code < 0x22 then s.resetDin k (code - 0x20)
    else if code < 0x2A then
      if s.pairMode k < 2 then (s.resetDout k 0).resetDout k 1 else s.resetDout k (code - 0x28)
    else if code = 0x30 then s.resetPcie k
    else if code = 0x38 then s.resetUsb k
    else if code < 0x42 then s.resetEth k (code - 0x40)
    else if code = 0x48 then s.resetMapper k
    else s.resetCheck k (code - 0x50)

/-! ### SYS_RESET (R465) -/

/-- A reply to SYS_RESET has not been delivered yet. -/
def State.resetReplyWaits (s : State) : Bool :=
  let waits (p : Packet) : Bool := p.opcode == 0x0003 && p.status == 0
  (s.ends.any fun e => e.2.replies.any waits || (match e.2.reading with | some p => waits p | none => false))
    || s.hubs.any fun h => match h.2.repTx with | some p => waits p.1 | none => false

/-- One reset that SYS_RESET asked for. -/
def State.doReset (s : State) (scope k unit : Nat) : State :=
  match scope with
  | 0 => s.partReset 4
  | 1 => if s.kernelRuns k then s.commandReset k else s
  | _ => if k = 15 ∨ s.kernelRuns k then s.unitReset k unit else s

/-- Resets whose reply has been delivered, or has waited 10 ms, begin (R465). -/
def State.dueResets (s : State) : State :=
  let go := s.part.resetWait.filter fun x => !s.resetReplyWaits || decide (x.2.2.2 ≤ s.now)
  let s := s.setPart { s.part with resetWait := s.part.resetWait.filter fun x => !(!s.resetReplyWaits || decide (x.2.2.2 ≤ s.now)) }
  go.foldl (fun s x => s.doReset x.1 x.2.1 x.2.2.1) s

def cmdSysReset : Cmd where
  opcode := 0x0003
  powerUnit := true
  minLen := 4
  bad r u s :=
    let scope := reqField r 12 0 2
    let code := reqField r 12 8 8
    [badSub r 1, (scope == 3, .badParam, 12), (decide (scope < 2) && u == 15, .badParam, 4),
     (scope == 2 && (if u = 15 then code != 5 && code != 6 else unitDomain code == 0), .badParam, 12),
     (scope == 2 && s.hasKernel u && code == 0x29 && decide (s.pairMode u < 2), .badParam, 12)]
  act r u s :=
    let scope := reqField r 12 0 2
    let code := reqField r 12 8 8
    .checked
      [(scope == 1 && !s.canPassLead u, .wrongState, 0xFFFF),
       (scope == 2 && u != 15 && !s.domainOn u (unitDomain code), .wrongState, unitDomain code)] s
      (.ok (s.setPart { s.part with resetWait := s.part.resetWait ++ [(scope, u, code, s.now + 10000000)] }) [])

def execSysReset (r : Req) (s : State) : Result :=
  match onCommand cmdSysReset r s with
  | .next s => .next s.dueResets
  | o => o

/-! ### Faults and recovery (R466 to R472) -/

def cmdKernelRecover : Cmd where
  opcode := 0x0009
  needsKernel := false
  bad r _ _ := [badSub r 1]
  act r k s :=
    let st := s.kernelState k
    .checked
      [(!s.kernelRuns s.lead || decide (st < 2) || (st == 4) || !s.canPassLead k, .wrongState, 0xFFFF), jobLimit s, heldBy (s.recovery? k)] s
      (let n := s.newJobNum
       let s := if s.lead = k then s.passLead 1 else s
       let s := s.startJob 0x0009 r s.lead 5 [word k, 0, 0, 4]
       if st = 6 then
         .accepted n ((s.setPart { s.part with recoveries := s.part.recoveries.filter fun e => e.1 != k }).faultReset k n) [5]
       else .accepted n ((s.faultSteps k 4 n).faultReset k n) [5])

def execKernelRecover (r : Req) (s : State) : Result := onCommand cmdKernelRecover r s

/-- A Needle's watchdog expires (R466): it halts, and the expiry reaches the lead. -/
def execWatchdogExpiry (k : Nat) (s : State) : Result :=
  onUnit s (s.hasKernel k)
    (if s.kernelRuns k then
       let pass := s.canPassLead k
       let ring := if s.lead = k ∧ pass then 1 else s.lead
       let s := s.bump (Reg.WDT_COUNT k) 1
       let s := s.logTo ring k Ev.wdt 0 [] 0 [k, (s.reg (Reg.WDT_COUNT k)).toNat]
       if pass then s.declareFault k 1 else s.setRf (Reg.KERNEL_STATE k) 0 4 4
     else s)

/-- The lead has seen no heartbeat from a Needle for HEARTBEAT_TIMEOUT (R467). -/
def execHeartbeatTimeout (k : Nat) (s : State) : Result :=
  onUnit s (s.hasKernel k) (if s.kernelRuns k && s.kernelRuns s.lead && k != s.lead then s.declareFault k 2 else s)

def execInternalFault (k : Nat) (s : State) : Result :=
  onUnit s (s.hasKernel k) (if s.kernelRuns k && s.canPassLead k then s.declareFault k 3 else s)

/-- K1 has seen no heartbeat of K0, which holds the lead (R471). -/
def execLeadTakeover (s : State) : Result :=
  .next (if s.lead = 0 ∧ s.kernelRuns 1 ∧ 2 ≤ s.kernelState 0 ∧ s.kernelState 0 ≠ 6 then s.declareFault 0 2 else s)

/-- A kernel in recovery has restarted: it rejoins the part, and its job ends DONE (R469). `good` is the outcome of the check of its own
firmware copy, which for K0 has no other source. -/
def execKernelRejoin (k : Nat) (good : Bool) (s : State) : Result :=
  onUnit s (s.hasKernel k)
    (if s.kernelState k = 5 ∧ s.kernelRuns s.lead then
       if k = 0 ∧ !good then s.log 0 Ev.fwVerifyFail 0 [1, s.fwRunning, 0x0F01]
       else
         let job := s.recovery? k
         let s := (if k = 0 then s else s.repairCopy k good).startKernel k true
         match job with
         | some j =>
           let s := s.logTo s.lead k Ev.kernelRecovered 0 [] 0 [k, (j.args.getD 1 0).toNat, (j.args.getD 2 0).toNat]
           s.endJob j.num .done 0 0
         | none => s
     else s)

/-- The kernel has not rejoined within 2 s: its job fails and recovery begins again (R470). -/
def execRejoinTimeout (k : Nat) (s : State) : Result :=
  onUnit s (s.hasKernel k)
    (if s.kernelState k = 5 ∧ s.kernelRuns s.lead then
       match s.recovery? k with
       | some j => (s.endJob j.num .failed (statusCode .hwFault) 0x0F00).declareFault k (j.args.getD 3 0).toNat
       | none => s.declareFault k 4
     else s)

/-! ### JOB_ABORT (R63) -/

/-- A Running job that JOB_ABORT may not stop. -/
def Job.unstoppable (j : Job) : Bool := j.opcode == 0x0102 || j.opcode == 0x0103 || j.opcode == 0x0009

/-- A job stopped at its next step boundary; an open that waits for its partner stops at once. In its last step nothing stops it. -/
def State.abortJob (s : State) (j : Job) : State :=
  if j.steps ≤ j.step then s
  else if j.opcode = 0x0201 then
    let t := (j.args.getD 0 0).toNat
    (s.endJob j.num .aborted 0 0).closeCtx j.kernel t 0x0201
  else s.mapJob j.num fun x => { x with abort := true }

def cmdJobAbort : Cmd where
  opcode := 0x0007
  minLen := 4
  bad r _ s := [badSub r 1, ((s.job? (reqField r 12 0 16)).isNone, .badParam, 12)]
  act r _ s :=
    match s.job? (reqField r 12 0 16) with
    | none => .fail .badParam 12 s
    | some j =>
      .checked [(decide (j.state ≠ .running), .wrongState, 0x100 + jobStateCode j.state), (j.unstoppable, .wrongState, 0x100)] s (.ok (s.abortJob j) [])

def execJobAbort (r : Req) (s : State) : Result := onCommand cmdJobAbort r s

end Sys2Proof.Machine
end

