-- ==== Sys2Proof/Machine/Transports.lean ====
section
/-! DEFINITION. Packets on the transports (R43 to R52): the opcode index, the SPI target, the USB and PCIe management functions, and
remote requests and their replies. -/

namespace Sys2Proof.Machine

/-- The opcode index (Table 2.9). -/
def commands : List Cmd :=
  [cmdSysInfo, cmdSysStateSet, cmdSysReset, cmdGetReply, cmdEventSubscribe, cmdJobStatus, cmdJobAbort, cmdNop, cmdKernelRecover] ++
  [cmdPortInfo, cmdPortCastOn, cmdPortBindOff, cmdPortPowerState, cmdPortEqSelect, cmdPortAlignMode, cmdPortBitSlip,
    cmdPortPrbs, cmdPlyForm, cmdPlySplit, cmdRoleSwapRequest] ++
  [cmdTunOpen, cmdTunClose, cmdTunInfo, cmdTunModify, cmdTunRelease, cmdResumeWindowSet, cmdRawRouteSet] ++
  [cmdRowTableRead, cmdRowShadowWrite, cmdRowSwap, cmdRegauge, cmdRegaugeRollback, cmdGaugeCeilingSet, cmdRawRouteRead] ++
  [cmdSkeinCarve, cmdSkeinInfo, cmdQueueThresholdSet, cmdSchedNodeSet, cmdShaperSet, cmdMcastListSet, cmdLatSampleSet,
    cmdLatSampleRead] ++
  [cmdDinConfig, cmdEdidProxySet, cmdPurlModeSet, cmdExactRegionSet, cmdDamageConfig, cmdPurlFrameReport] ++
  [cmdDoutTimingStage, cmdDoutPairSet, cmdFrameLockSet, cmdPsrConfig, cmdTestPattern, cmdDoutStatus] ++
  [cmdPcieConfig, cmdPcieWindow, cmdPcieStatus, cmdPcieReadaheadLog] ++
  [cmdUsbConfig, cmdUsbEpLayout, cmdUsbPortPower, cmdUsbStatus] ++
  [cmdEthConfig, cmdPrpPairSet, cmdEthStatus] ++
  [cmdTimeSourceList, cmdTimeRead, cmdTimeSet, cmdPtpConfig, cmdAsymmetrySet, cmdLogRead, cmdBlackboxRead, cmdBlackboxClear] ++
  [cmdSmapSignalSet, cmdSmapSignalRead, cmdGooseSubscribe, cmdGoosePublishSet, cmdHidSnoopSet, cmdCheckUnitSet, cmdCheckScan,
    cmdSealSet] ++
  [cmdPwrFeedStatus, cmdPwrLoadEnable, cmdPwrLoadDisable, cmdPwrBreakerSet, cmdPwrWarnSet, cmdPwrMeterRead, cmdPwrEnergyClear] ++
  [cmdPdStatus, cmdPdRolePrefSet, cmdPdSourceCapsSet, cmdPdSinkRequest, cmdPdFrsSet, cmdHookPolicyUpdate, cmdCableIdRead] ++
  [cmdKeySlotInfo, cmdKeyDerive, cmdKeyErase, cmdKeyAttrSet, cmdLifecycleAdvance, cmdLinkAuthPolicy] ++
  [cmdFwInfo, cmdFwWriteBegin, cmdFwWriteData, cmdFwWriteCommit, cmdFwSlotSelect, cmdBoardTableLoad] ++
  [cmdMboxWrite, cmdMboxRead, cmdDoorbellRing, cmdLockAcquire, cmdLockRelease, cmdLockBreak, cmdLockStatus] ++
  [cmdDiagCountersRead, cmdDiagLoopback, cmdDiagSensors, cmdDiagSeamTest, cmdDiagStoreTest] ++
  [cmdRegRead, cmdRegWrite, cmdRegModify]

/-- The command of an opcode (R66). -/
def command? (opcode : Nat) : Option Cmd := commands.find? fun c => c.opcode == opcode

/-- A request with an opcode that Table 2.9 does not list (R66); one with REMOTE set is the far part's to refuse (log entry 8). -/
def runUnknown (opcode : Nat) (r : Req) (s : State) : State :=
  let k := localKernel r.via
  match firstFail (earlyChecks r s) with
  | some (.badCheck, _) => (countReject k (master r.via) .badCheck s).deliver r.via r.slot (badCheckReply opcode r)
  | some f => refuse opcode k r f.1 f.2 s
  | none =>
    if isForward r then
      match firstFail (flagChecks r s ++ routeChecks r s) with
      | some f => refuse opcode k r f.1 f.2 s
      | none => s.forward opcode r
    else refuse opcode k r .unknownOpcode 0 s

/-- A request read from a packet, run. -/
def runRequest (q : Nat × Req) (s : State) : State :=
  match command? q.1 with
  | some c => runCmd c q.2 s
  | none => runUnknown q.1 q.2 s

/-! ### SPI (R44 to R46) -/

/-- MG_CS_N falls (R78), and MG_MISO carries the status byte and what follows it. Only the bytes that the spec states are kept. -/
def State.spiTransaction (s : State) (rest : List Byte) : State :=
  { s with spi := { s.spi with lastFall := s.now, miso := s.spiStatus :: rest } }

def State.setFrameErr (s : State) (b : Bool) : State := { s with spi := { s.spi with frameErr := b } }

/-- WRITE_PACKET (R45). With CMD_SPACE 0 it is discarded: without STAT_FRAME_ERR before step 7 of the start sequence of the part, and with it
afterwards, while K1 holds the lead or K0 restarts alone. -/
def execSpiWritePacket (bytes : List Byte) (s : State) : Result :=
  let s := s.spiTransaction []
  .next
    (if !s.spiSpace then (if s.part.spiSeen then s.setFrameErr true else s)
     else if bytes.length < 12 ∨ 1040 < bytes.length then s.setFrameErr true
     else (runRequest (parseRequest .spi 0 bytes) s).dueResets)

/-- Whether a packet is the transport's own notice of dropped events (R65). -/
def isNotice (pk : Packet) : Bool := pk.opcode == Ev.eventsLost.code && (pk.data.getD 5 0 == 0)

/-- The packet that READ_PACKET gives: the one already begun, else the oldest reply, else the notice of dropped events, else the oldest
event (R46, R65); with the endpoint as its reading begins. True marks a reply. -/
def State.spiNext (s : State) : Option (Packet × Bool × Endpoint) :=
  let e := s.ep .spi
  match e.reading with
  | some pk => some (pk, false, e)
  | none =>
    match e.replies, e.events with
    | pk :: _, _ => some (pk, true, e)
    | [], [] => none
    | [], i :: _ =>
      let n := e.evSeq + 1
      if e.dropped ≠ 0 then
        let pk := eventPacket false n (lostNotice s .spi e.dropped)
        some (pk, false, { e with evSeq := n, dropped := 0, reading := some pk })
      else
        let pk := eventPacket false n i
        some (pk, false, { e with evSeq := n, reading := some pk })

/-- READ_PACKET with `clocked` bytes clocked out after the instruction: a dummy byte, the length, the packet. The packet is removed only
with its last byte (R46); a reply is then delivered (R64). -/
def execSpiReadPacket (clocked : Nat) (s : State) : Result :=
  match s.spiNext with
  | none => .next (s.spiTransaction ((half 0).take (clocked - 1)))
  | some (pk, reply, e) =>
    let b := packetBytes pk
    let s := s.spiTransaction ((half b.length ++ b).take (clocked - 1))
    .next
      (if clocked < 3 + b.length then s.setEp .spi e
       else if reply then ((s.setEp .spi { e with replies := e.replies.drop 1 }).keep .spi pk).dueResets
       else s.setEp .spi { e with reading := none, events := if isNotice pk then e.events else e.events.drop 1 })

/-- READ_STATUS: the status byte again, then STAT_FRAME_ERR is cleared. -/
def execSpiReadStatus (s : State) : Result := .next ((s.spiTransaction [s.spiStatus]).setFrameErr false)

/-- Any other instruction byte (R44). One of Table 2.5 is not a bad instruction. -/
def execSpiBadInstruction (instruction : Byte) (s : State) : Result :=
  .next (if instruction = 1 ∨ instruction = 2 ∨ instruction = 3 then s else (s.spiTransaction []).setFrameErr true)

/-! ### USB (R47) -/

/-- A whole transfer on EP1 OUT. -/
def execUsbCommandTransfer (k : Nat) (bytes : List Byte) (s : State) : Result :=
  onUnit s (s.hasKernel k) (if s.viaUp (.usb k) then (runRequest (parseRequest (.usb k) 0 bytes) (s.bump (Reg.USBD_CMD_RX k) 1)).dueResets else s)

/-! ### PCIe (R48, R49) -/

/-- Bytes written over the start of a slot. -/
def PcieFn.writeSlot (f : PcieFn) (slot at' : Nat) (bytes : List Byte) : PcieFn :=
  let old := smapGet (fun _ => ([] : List Byte)) f.slots slot
  let old := old ++ List.replicate (at' - old.length) 0
  if bytes.isEmpty then f else { f with slots := smapInsert f.slots slot (old.take at' ++ bytes ++ old.drop (at' + bytes.length)) }

/-- The request that a slot holds: its length is taken from PLEN (R49). -/
def PcieFn.request (f : PcieFn) (k slot : Nat) : Nat × Req :=
  let b := smapGet (fun _ => ([] : List Byte)) f.slots slot
  let b := b ++ List.replicate (2048 - b.length) 0
  let n := halfAt b 6 + 16
  let q := parseRequest (.pcie k) slot (b.take n)
  (q.1, { q.2 with received := n })

/-- A write of a slot number to CMD_POST (R49). -/
def State.postSlot (s : State) (k slot : Nat) : State :=
  let f := s.pcieFn k
  if f.busy.testBit slot then s.log k Ev.cmdPostIgnored 2 [slot]
  else (runRequest (f.request k slot) (s.setPcieFn k { f with busy := f.busy ||| 2 ^ slot })).dueResets

/-- A write to CMD_POST, the slot's packet written before it where `bytes` gives one. -/
def execCmdPost (k slot : Nat) (bytes : List Byte) (s : State) : Result :=
  onUnit s (s.hasKernel k && decide (slot < 8))
    (if s.viaUp (.pcie k) then (s.setPcieFn k ((s.pcieFn k).writeSlot slot 0 (bytes.take 2048))).postSlot k slot else s)

/-- A write to RSP_READY: each bit that is set and written 1 is cleared, and its slot is free (R48). -/
def State.freeSlots (s : State) (k m : Nat) : State :=
  let f := s.pcieFn k
  let go := f.ready &&& m
  s.setPcieFn k { f with ready := f.ready - go, busy := f.busy - (f.busy &&& go) }

def execRspReadyWrite (k : Nat) (w : Word) (s : State) : Result :=
  onUnit s (s.hasKernel k) (if s.viaUp (.pcie k) then s.freeSlots k (fld w 0 8) else s)

/-- A write to EVT_TAIL (R49). -/
def State.setEvTail (s : State) (k n : Nat) : State := s.setPcieFn k { s.pcieFn k with evTail := n % 256 }

def execEvtTailWrite (k : Nat) (w : Word) (s : State) : Result :=
  onUnit s (s.hasKernel k) (if s.viaUp (.pcie k) then s.setEvTail k (fld w 0 8) else s)

/-! ### Remote link (R50 to R53, R143) -/

/-- The opcodes of link messages (Table 4.9). -/
def isLinkOpcode (opcode : Nat) : Bool :=
  decide (0x0181 ≤ opcode ∧ opcode ≤ 0x018A) || decide (0x0281 ≤ opcode ∧ opcode ≤ 0x028A)

/-- The length and the CRC of a packet on a control tunnel are good (R143). -/
def ctrlGood (b : List Byte) : Bool :=
  crcGood b && decide (16 ≤ b.length) && decide (halfAt b 6 ≤ 1024) && decide (halfAt b 6 % 4 = 0) && decide (b.length = halfAt b 6 + 16)

/-- A remote request arrives: a bad CRC or length is a class 9 violation and gets no reply; otherwise master 4 executes it from check 3
of Table 2.7 on (R143). A link message or a reply is not one. -/
def execRemoteRequestRx (k p : Nat) (bytes : List Byte) (s : State) : Result :=
  onMsg k p s fun s =>
    if !ctrlGood bytes then s.violation k p 9 0 none
    else if isLinkOpcode (halfAt bytes 0) || byteAt bytes 3 % 2 == 1 || !s.viaUp (.link k p) then s
    else (runRequest (parseRequest (.link k p) 0 bytes) s).dueResets

/-- A reply to a remote request (R50, R52): given to its requester with the requester's own tag, taken by the re-gauge it serves, logged
when it is late, and otherwise a class 10 violation. -/
def execRemoteReplyRx (k p : Nat) (pk : Packet) (s : State) : Result :=
  onMsg k p s fun s =>
    match (s.port k p).remote.find? fun q => q.linkTag == pk.tag with
    | some q =>
      let s := s.freeRemote k p q.linkTag
      match q.job, q.wait with
      | some n, _ => s.farGaugeReply n pk.status pk.data
      | none, some id => s.gaugeWaitReply id pk.status pk.detail pk.data
      | none, none => s.deliver q.via q.slot { pk with tag := q.tag }
    | none =>
      match (s.port k p).late.find? fun l => l.1 == pk.tag with
      | some l => s.log k Ev.lateReply p [l.2.1 + 65536 * l.2.2, pk.status + 65536 * pk.detail, 4 * k + p]
      | none => s.violation k p 10 0 none

/-- REMOTE_TIMEOUT has passed for an outstanding request (R51): PARTNER_TIMEOUT, detail 0. A re-gauge whose request it was ends with it. -/
def execRemoteTimeout (k p linkTag : Nat) (s : State) : Result :=
  onPort k p true s
    (match (s.port k p).remote.find? fun q => q.linkTag == linkTag with
     | none => s
     | some q =>
       let s := s.timeoutRemote k p 0 q
       match q.job, q.wait with
       | some n, _ => (s.farUnreached n).stopGauge n
       | none, some id =>
         match s.gaugeWaits.find? fun w => w.id == id with
         | some w => s.endGaugeWait w (statusCode .partnerTimeout) 0 []
         | none => s
       | none, none => s)

end Sys2Proof.Machine
end

