-- ==== Sys2Proof/Machine/HostTlp.lean ====
section
/-! DEFINITION. TLPs from the X link (R274 to R281, R284, R290): the ELN functions' configuration space and management window, and what goes
into the tunnel. The places of standard registers are PRESUMED (PCI Express 5.0, log entry 27). -/

namespace Sys2Proof.Machine

/-! ### Byte enables -/

/-- Byte enables of double word i of n of a request (byte 7). -/
def tlpBe (b : List Byte) (i n : Nat) : Nat :=
  if i = 0 then byteAt b 7 % 16 else if i + 1 = n then byteAt b 7 / 16 else 15

/-- The bits of a word whose bytes are enabled. -/
def beMask (be : Nat) : Word :=
  (List.range 4).foldl (fun m i => if be.testBit i then m ||| ((0xFF : Word) <<< (8 * i)) else m) 0

/-! ### Configuration space (R276, R290) -/

/-- Link Capabilities and Slot Capabilities of the virtual downstream port (R290): the fields that the spec states over an open word. -/
def linkCaps (free : Word) : Word := setFld (setFld (setFld free 0 4 5) 4 6 4) 19 2 3
def slotCaps (free : Word) : Word := setFld (setFld free 0 7 0x60) 17 1 0

/-- Link Status: speed and width of the dock-end X link, and Data Link Layer Link Active. -/
def Bridge.linkStatus (b : Bridge) : Word := packWord [(16, 4, b.farSpeed), (20, 6, b.farWidth), (29, 1, b.dll.toNat)]

/-- Slot Status: Presence Detect Changed, Presence Detect State, Data Link Layer State Changed. -/
def Bridge.slotStatus (b : Bridge) : Word := packWord [(19, 1, b.pdc.toNat), (22, 1, b.pds.toNat), (24, 1, b.dllsc.toNat)]

/-- A read of word w of an ELN function. Words of capabilities that the spec does not give are open. -/
def State.cfgRead (s : State) (k fn w : Nat) : Word × State :=
  let b := s.bridge k
  let c := Config.pcieCap fn
  let a := Config.aerCap fn
  if w < 16 ∧ w ≠ 13 then
    (if fn = 1 ∧ w = 11 then s.reg (Reg.PCIE_SUBSYS k) else b.cfgWord fn w, s)
  else if w = c + 2 ∨ w = c + 12 ∨ w = a + 2 ∨ w = a + 3 then (b.cfgWord fn w, s)
  else if fn = 2 ∧ w = c + 3 then (linkCaps s.fresh.1, s.fresh.2)
  else if fn = 2 ∧ w = c + 4 then (b.cfgWord fn w ||| b.linkStatus, s)
  else if fn = 2 ∧ w = c + 5 then (slotCaps s.fresh.1, s.fresh.2)
  else if fn = 2 ∧ w = c + 6 then (b.cfgWord fn w ||| b.slotStatus, s)
  else if w = a + 1 then
    (packWord [(5, 1, if fn = 2 then b.surprise.toNat else 0), (20, 1, if fn = 0 then b.unsupported.toNat else 0)], s)
  else s.fresh

/-- The writable bits of a word of an ELN function. -/
def cfgWritable (fn w : Nat) : Word :=
  let c := Config.pcieCap fn
  let a := Config.aerCap fn
  if w < 16 then cfgMask fn w
  else if w = c + 2 ∨ w = c + 12 then 0x0000FFFF
  else if fn = 2 ∧ w = c + 4 then 0x0000FFDF
  else if fn = 2 ∧ w = c + 6 then 0x0000FFFF
  else if w = a + 2 ∨ w = a + 3 then 0xFFFFFFFF
  else 0

/-- A Secondary Bus Reset of the virtual downstream port: path lost, windows kept, and the dock end hot-resets its link, at once or on
resume (R291, Table 8.8). -/
def State.secondaryReset (s : State) (k : Nat) : State :=
  let s := s.pathLost k 0
  if s.bridgeOpen k then (s.emit k pcieAdapter (linkCtrlPacket false 0 true false false)).flush k pcieAdapter
  else s.setBridge k { s.bridge k with heldReset := true }

/-- A write of the bits `m` of word w. -/
def State.cfgWrite (s : State) (k fn w : Nat) (v m : Word) : State :=
  let b := s.bridge k
  let c := Config.pcieCap fn
  let old := b.cfgWord fn w
  let mask := cfgWritable fn w &&& m
  let new := (old &&& ~~~mask) ||| (v &&& mask)
  let on (i : Nat) : Bool := bitAt (v &&& m) i
  let s := s.setBridge k { b with cfg := smapPut cfgReset b.cfg (1024 * fn + w) new }
  if fn ≠ 1 ∧ w = 15 ∧ bitAt new 22 ∧ !bitAt old 22 then s.secondaryReset k
  else if fn = 2 ∧ w = c + 4 ∧ on 5 then
    (s.emit k pcieAdapter (linkCtrlPacket true (fld (b.cfgWord 2 (c + 12)) 0 3) false false false)).flush k pcieAdapter
  else if fn = 2 ∧ w = c + 12 ∧ bitAt m 0 then
    (s.emit k pcieAdapter (linkCtrlPacket false (fld new 0 3) false false false)).flush k pcieAdapter
  else if fn = 2 ∧ w = c + 6 then
    let x := s.bridge k
    s.setBridge k { x with pdc := x.pdc && !on 19, dllsc := x.dllsc && !on 24 }
  else if w = Config.aerCap fn + 1 then
    let x := s.bridge k
    s.setBridge k { x with surprise := x.surprise && !(fn == 2 && on 5), unsupported := x.unsupported && !(fn == 0 && on 20) }
  else s

/-- The ID with which an ELN function completes. -/
def Bridge.fnId (b : Bridge) (fn : Nat) : Nat := if fn = 2 then b.downId else b.upId + fn

/-- A configuration request to an ELN function, answered at once (R276). A Type 0 write gives the upstream port its bus number. -/
def State.cfgAnswer (s : State) (k fn : Nat) (b : List Byte) : State :=
  let w := tlpCfgWord b
  if tlpHasData b then
    let s := if tlpType b = 4 then s.setBridge k { s.bridge k with busN := tlpCfgId b / 256 } else s
    let s := s.cfgWrite k fn w ((bytesWords (tlpBytes b)).getD 0 0) (beMask (byteAt b 7 % 16))
    s.xSend k (cplFor b 0 ((s.bridge k).fnId fn) 4 0 none)
  else
    let r := s.cfgRead k fn w
    r.2.xSend k (cplFor b 0 ((s.bridge k).fnId fn) 4 0 (some (wordBytes r.1)))

/-! ### What goes below the virtual downstream port (R276, R279, R284) -/

/-- The path below the virtual downstream port is up: LINK_UP 1 and the tunnel Open (Table 8.6). -/
def State.pathUp (s : State) (k : Nat) : Bool := s.bridgeOpen k && s.rb (Reg.PCIE_STATUS k) 10

/-- An Unsupported Request for a request that wants a completion; a posted one is dropped (Table 8.6). -/
def State.answerUr (s : State) (k : Nat) (b : List Byte) : State := if tlpKind b = .nonPosted then s.synth k b false else s

/-- A TLP that waits for the tunnel, sent as far as credit and order allow. -/
def State.toFar (s : State) (k : Nat) (b : List Byte) : State :=
  let x := s.bridge k
  (s.setBridge k { x with toTunnel := x.toTunnel ++ [b] }).pumpAll k

/-- The bytes that a write or an AtomicOp covers; a compare and swap carries two operands. -/
def tlpSpan (b : List Byte) : Nat := if tlpType b = 14 then tlpData b / 2 else tlpData b

/-- A request for the far device: forwarded while the path is up (R286, R287), else UR at once. -/
def State.hostDown (s : State) (k : Nat) (b : List Byte) : State :=
  if !s.pathUp k then s.answerUr k b
  else if tlpIsMRd b then (s.hostRead k b).flush k pcieAdapter
  else if tlpIsMem b || tlpIsAtomic b then (s.raOverlap k (tlpAddr b) (tlpAddr b + tlpSpan b)).toFar k b
  else s.toFar k b

/-! ### The management window (Table 2.6) -/

/-- A byte of a packet slot, zero beyond what it holds. -/
def slotByte (m : List (Nat × List Byte)) (i o : Nat) : Byte := (smapGet (fun _ => ([] : List Byte)) m i).getD o 0

def packetSlot (m : List (Nat × Packet)) (i : Nat) : List Byte := ((m.find? fun e => e.1 == i).map fun e => packetBytes e.2).getD []

/-- The word at an offset of BAR0. -/
def PcieFn.window (f : PcieFn) (o : Nat) : Word :=
  let bytes (l : List Byte) (i : Nat) : Word := (bytesWords ((List.range 4).map fun j => l.getD (i + j) 0)).getD 0 0
  if o < 0x4000 then bytes (smapGet (fun _ => ([] : List Byte)) f.slots (o / 0x800)) (o % 0x800)
  else if o < 0x8000 then bytes (packetSlot f.rsp ((o - 0x4000) / 0x800)) (o % 0x800)
  else if o = 0x8004 then word f.ready
  else if o = 0x8008 then word f.busy
  else if o = 0x8010 then word f.evHead
  else if o = 0x8014 then word f.evTail
  else if o = 0x8018 then word f.evLost
  else if 0xC000 ≤ o then bytes (packetSlot f.ring ((o - 0xC000) / 0x40)) (o % 0x40)
  else 0

/-- A read of n double words of BAR0, EVT_LOST cleared where it is among them (R48). -/
def State.windowRead (s : State) (k o n : Nat) : List Byte × State :=
  let f := s.pcieFn k
  let at' := (List.range n).map fun i => (o + 4 * i) % 0x10000
  (wordsBytes (at'.map f.window), if at'.contains 0x8018 then s.setPcieFn k { f with evLost := 0 } else s)

/-- A write of one double word of BAR0 under byte enables. -/
def State.windowWrite (s : State) (k o be : Nat) (w : Word) : State :=
  let v := w &&& beMask be
  if o < 0x4000 then
    (List.range 4).foldl (fun s i =>
      if be.testBit i then s.setPcieFn k ((s.pcieFn k).writeSlot (o / 0x800) (o % 0x800 + i) [BitVec.ofNat 8 (fld w (8 * i) 8)]) else s) s
  else if o = 0x8000 ∧ be.testBit 0 then s.postSlot k (fld v 0 3)
  else if o = 0x8004 then s.freeSlots k (fld v 0 8)
  else if o = 0x8014 ∧ be.testBit 0 then s.setEvTail k (fld v 0 8)
  else s

/-- Max_Payload_Size of a function. -/
def Bridge.mpsOf (b : Bridge) (fn : Nat) : Nat := 128 * 2 ^ min 2 (fld (b.cfgWord fn (Config.pcieCap fn + 2)) 5 3)

/-- An offset in BAR0 of the management function, while its memory space is enabled. -/
def Bridge.barOffset (b : Bridge) (a : Nat) : Option Nat :=
  let base := (b.cfgWord 1 4).toNat / 65536 * 65536
  if bitAt (b.cfgWord 1 1) 1 && decide (base ≤ a) && decide (a < base + 65536) then some (a - base) else none

/-- A memory request to the management function; an AtomicOp is refused (Table 8.6). -/
def State.barAccess (s : State) (k o : Nat) (b : List Byte) : State :=
  if tlpIsAtomic b then s.answerUr k b
  else if tlpHasData b then
    let ws := bytesWords (tlpBytes b)
    (List.range ws.length).foldl (fun s i => s.windowWrite k ((o + 4 * i) % 0x10000) (tlpBe b i ws.length) (ws.getD i 0)) s
  else
    let x := s.bridge k
    let r := s.windowRead k o (tlpLength b)
    (dataCpls r.1.length (x.mpsOf 1) (x.fnId 1) (b.take 16) (tlpAddr b) r.1).foldl (fun s c => s.xSend k c) r.2

/-! ### Sorting -/

/-- A configuration request from the host (R276). -/
def State.hostConfig (s : State) (k : Nat) (b : List Byte) : State :=
  let x := s.bridge k
  let id := tlpCfgId b
  let bus := id / 256
  let dev := id / 8 % 32
  let fn := id % 8
  if tlpType b = 4 then (if dev = 0 ∧ fn < 2 then s.cfgAnswer k fn b else s.answerUr k b)
  else if bus = x.secBus 0 then (if dev = 0 ∧ fn = 0 then s.cfgAnswer k 2 b else s.answerUr k b)
  else if x.secBus 2 ≤ bus ∧ bus ≤ x.subBus 2 then s.hostDown k b
  else s.answerUr k b

/-- A message from the host: broadcast messages and those routed below the virtual downstream port go on; a vendor-defined message of type
0 to an ELN function is an Unsupported Request (Table 8.6), and others end here. -/
def State.hostMessage (s : State) (k : Nat) (b : List Byte) : State :=
  let x := s.bridge k
  let route := tlpType b % 8
  let bus := beAt b 8 2 / 256
  if route = 3 ∨ (route = 2 ∧ x.secBus 2 ≤ bus ∧ bus ≤ x.subBus 2) then s.hostDown k b
  else if byteAt b 7 = 0x7E then s.setBridge k { x with unsupported := true }
  else s

/-- A TLP from the host. -/
def State.fromHost (s : State) (k : Nat) (b : List Byte) : State :=
  let x := s.bridge k
  let io := tlpIsIo b
  let a := tlpAddr b
  if tlpIsCpl b then (if s.bridgeOpen k then s.toFar k b else s.bump (Reg.PCIE_CPL_UNEXPECTED k) 1)
  else if tlpIsCfg b then s.hostConfig k b
  else if tlpIsMsg b then s.hostMessage k b
  else if tlpIsLocked b then
    let s := (s.setBridge k { x with unsupported := true }).bump (Reg.PCIE_LOCKED k) 1
    s.synth k b false
  else
    match (if io then none else x.barOffset a) with
    | some o => s.barAccess k o b
    | none => if x.inWindow 0 io a && x.inWindow 2 io a then s.hostDown k b else s.answerUr k b

/-- A TLP from the device at the dock end (R278, Table 8.6). -/
def State.fromDevice (s : State) (k : Nat) (b : List Byte) : State :=
  if tlpIsLocked b then (s.bump (Reg.PCIE_LOCKED k) 1).synth k b false
  else if s.bridgeOpen k then s.toFar k b
  else
    match tlpKind b with
    | .nonPosted => s.synth k b false
    | .posted => s.bump (Reg.PCIE_POSTED_LOST k) 1
    | .completion => s.bump (Reg.PCIE_CPL_UNEXPECTED k) 1

/-- A host link that trains again after its DL_Down is up with the first TLP; its width and speed are open. -/
def State.hostLinkUp (s : State) (k : Nat) : State :=
  if s.rf (Reg.PCIE_STATUS k) 0 4 = 1 then
    let v := s.fresh.1.toNat
    let s := ((s.fresh.2.setRf (Reg.PCIE_STATUS k) 0 4 2).setRf (Reg.PCIE_STATUS k) 4 3 (2 ^ (v % 3))).setRf (Reg.PCIE_STATUS k) 7 3 (1 + v / 4 % 5)
    if (s.ep (.pcie k)).up then s else s.viaUpNow (.pcie k)
  else s

/-- A TLP from the X link. A malformed one is dropped. -/
def execHostTlp (k : Nat) (bytes : List Byte) (s : State) : Result :=
  onUnit s (s.hasKernel k)
    (if !tlpOk bytes || !s.domainOn k 9 then s
     else if (s.bridge k).form = 1 ∧ !(s.bridge k).perst then (s.hostLinkUp k).fromHost k bytes
     else if (s.bridge k).form = 2 ∧ s.rf (Reg.PCIE_STATUS k) 0 4 = 3 then s.fromDevice k bytes
     else s)

end Sys2Proof.Machine
end

