-- ==== Sys2Proof/Machine/Dispatch.lean ====
section
/-! DEFINITION. One arm for each command: the meaning it calls. -/

namespace Sys2Proof.Machine

def exec (i : Instr) (s : State) : Host.Outcome State Fault Refusal :=
  match i with
  | .spiWritePacket bytes => Sys2Proof.Machine.execSpiWritePacket bytes s
  | .spiReadPacket clocked => Sys2Proof.Machine.execSpiReadPacket clocked s
  | .spiReadStatus => Sys2Proof.Machine.execSpiReadStatus s
  | .spiBadInstruction instruction => Sys2Proof.Machine.execSpiBadInstruction instruction s
  | .usbCommandTransfer k bytes => Sys2Proof.Machine.execUsbCommandTransfer k bytes s
  | .cmdPost k slot bytes => Sys2Proof.Machine.execCmdPost k slot bytes s
  | .rspReadyWrite k w => Sys2Proof.Machine.execRspReadyWrite k w s
  | .evtTailWrite k w => Sys2Proof.Machine.execEvtTailWrite k w s
  | .sysInfo r => Sys2Proof.Machine.execSysInfo r s
  | .sysStateSet r => Sys2Proof.Machine.execSysStateSet r s
  | .sysReset r => Sys2Proof.Machine.execSysReset r s
  | .getReply r => Sys2Proof.Machine.execGetReply r s
  | .eventSubscribe r => Sys2Proof.Machine.execEventSubscribe r s
  | .jobStatus r => Sys2Proof.Machine.execJobStatus r s
  | .jobAbort r => Sys2Proof.Machine.execJobAbort r s
  | .nop r => Sys2Proof.Machine.execNop r s
  | .kernelRecover r => Sys2Proof.Machine.execKernelRecover r s
  | .portInfo r => Sys2Proof.Machine.execPortInfo r s
  | .portCastOn r => Sys2Proof.Machine.execPortCastOn r s
  | .portBindOff r => Sys2Proof.Machine.execPortBindOff r s
  | .portPowerState r => Sys2Proof.Machine.execPortPowerState r s
  | .portEqSelect r => Sys2Proof.Machine.execPortEqSelect r s
  | .portAlignMode r => Sys2Proof.Machine.execPortAlignMode r s
  | .portBitSlip r => Sys2Proof.Machine.execPortBitSlip r s
  | .portPrbs r => Sys2Proof.Machine.execPortPrbs r s
  | .plyForm r => Sys2Proof.Machine.execPlyForm r s
  | .plySplit r => Sys2Proof.Machine.execPlySplit r s
  | .roleSwapRequest r => Sys2Proof.Machine.execRoleSwapRequest r s
  | .tunOpen r => Sys2Proof.Machine.execTunOpen r s
  | .tunClose r => Sys2Proof.Machine.execTunClose r s
  | .tunInfo r => Sys2Proof.Machine.execTunInfo r s
  | .tunModify r => Sys2Proof.Machine.execTunModify r s
  | .tunRelease r => Sys2Proof.Machine.execTunRelease r s
  | .resumeWindowSet r => Sys2Proof.Machine.execResumeWindowSet r s
  | .rawRouteSet r => Sys2Proof.Machine.execRawRouteSet r s
  | .rowTableRead r => Sys2Proof.Machine.execRowTableRead r s
  | .rowShadowWrite r => Sys2Proof.Machine.execRowShadowWrite r s
  | .rowSwap r => Sys2Proof.Machine.execRowSwap r s
  | .regauge r => Sys2Proof.Machine.execRegauge r s
  | .regaugeRollback r => Sys2Proof.Machine.execRegaugeRollback r s
  | .gaugeCeilingSet r => Sys2Proof.Machine.execGaugeCeilingSet r s
  | .rawRouteRead r => Sys2Proof.Machine.execRawRouteRead r s
  | .skeinCarve r => Sys2Proof.Machine.execSkeinCarve r s
  | .skeinInfo r => Sys2Proof.Machine.execSkeinInfo r s
  | .queueThresholdSet r => Sys2Proof.Machine.execQueueThresholdSet r s
  | .schedNodeSet r => Sys2Proof.Machine.execSchedNodeSet r s
  | .shaperSet r => Sys2Proof.Machine.execShaperSet r s
  | .mcastListSet r => Sys2Proof.Machine.execMcastListSet r s
  | .latSampleSet r => Sys2Proof.Machine.execLatSampleSet r s
  | .latSampleRead r => Sys2Proof.Machine.execLatSampleRead r s
  | .dinConfig r => Sys2Proof.Machine.execDinConfig r s
  | .edidProxySet r => Sys2Proof.Machine.execEdidProxySet r s
  | .purlModeSet r => Sys2Proof.Machine.execPurlModeSet r s
  | .exactRegionSet r => Sys2Proof.Machine.execExactRegionSet r s
  | .damageConfig r => Sys2Proof.Machine.execDamageConfig r s
  | .purlFrameReport r => Sys2Proof.Machine.execPurlFrameReport r s
  | .doutTimingStage r => Sys2Proof.Machine.execDoutTimingStage r s
  | .doutPairSet r => Sys2Proof.Machine.execDoutPairSet r s
  | .frameLockSet r => Sys2Proof.Machine.execFrameLockSet r s
  | .psrConfig r => Sys2Proof.Machine.execPsrConfig r s
  | .testPattern r => Sys2Proof.Machine.execTestPattern r s
  | .doutStatus r => Sys2Proof.Machine.execDoutStatus r s
  | .pcieConfig r => Sys2Proof.Machine.execPcieConfig r s
  | .pcieWindow r => Sys2Proof.Machine.execPcieWindow r s
  | .pcieStatus r => Sys2Proof.Machine.execPcieStatus r s
  | .pcieReadaheadLog r => Sys2Proof.Machine.execPcieReadaheadLog r s
  | .usbConfig r => Sys2Proof.Machine.execUsbConfig r s
  | .usbEpLayout r => Sys2Proof.Machine.execUsbEpLayout r s
  | .usbPortPower r => Sys2Proof.Machine.execUsbPortPower r s
  | .usbStatus r => Sys2Proof.Machine.execUsbStatus r s
  | .ethConfig r => Sys2Proof.Machine.execEthConfig r s
  | .prpPairSet r => Sys2Proof.Machine.execPrpPairSet r s
  | .ethStatus r => Sys2Proof.Machine.execEthStatus r s
  | .timeSourceList r => Sys2Proof.Machine.execTimeSourceList r s
  | .timeRead r => Sys2Proof.Machine.execTimeRead r s
  | .timeSet r => Sys2Proof.Machine.execTimeSet r s
  | .ptpConfig r => Sys2Proof.Machine.execPtpConfig r s
  | .asymmetrySet r => Sys2Proof.Machine.execAsymmetrySet r s
  | .logRead r => Sys2Proof.Machine.execLogRead r s
  | .blackboxRead r => Sys2Proof.Machine.execBlackboxRead r s
  | .blackboxClear r => Sys2Proof.Machine.execBlackboxClear r s
  | .smapSignalSet r => Sys2Proof.Machine.execSmapSignalSet r s
  | .smapSignalRead r => Sys2Proof.Machine.execSmapSignalRead r s
  | .gooseSubscribe r => Sys2Proof.Machine.execGooseSubscribe r s
  | .goosePublishSet r => Sys2Proof.Machine.execGoosePublishSet r s
  | .hidSnoopSet r => Sys2Proof.Machine.execHidSnoopSet r s
  | .checkUnitSet r => Sys2Proof.Machine.execCheckUnitSet r s
  | .checkScan r => Sys2Proof.Machine.execCheckScan r s
  | .sealSet r => Sys2Proof.Machine.execSealSet r s
  | .pwrFeedStatus r => Sys2Proof.Machine.execPwrFeedStatus r s
  | .pwrLoadEnable r => Sys2Proof.Machine.execPwrLoadEnable r s
  | .pwrLoadDisable r => Sys2Proof.Machine.execPwrLoadDisable r s
  | .pwrBreakerSet r => Sys2Proof.Machine.execPwrBreakerSet r s
  | .pwrWarnSet r => Sys2Proof.Machine.execPwrWarnSet r s
  | .pwrMeterRead r => Sys2Proof.Machine.execPwrMeterRead r s
  | .pwrEnergyClear r => Sys2Proof.Machine.execPwrEnergyClear r s
  | .pdStatus r => Sys2Proof.Machine.execPdStatus r s
  | .pdRolePrefSet r => Sys2Proof.Machine.execPdRolePrefSet r s
  | .pdSourceCapsSet r => Sys2Proof.Machine.execPdSourceCapsSet r s
  | .pdSinkRequest r => Sys2Proof.Machine.execPdSinkRequest r s
  | .pdFrsSet r => Sys2Proof.Machine.execPdFrsSet r s
  | .hookPolicyUpdate r => Sys2Proof.Machine.execHookPolicyUpdate r s
  | .cableIdRead r => Sys2Proof.Machine.execCableIdRead r s
  | .keySlotInfo r => Sys2Proof.Machine.execKeySlotInfo r s
  | .keyDerive r => Sys2Proof.Machine.execKeyDerive r s
  | .keyErase r => Sys2Proof.Machine.execKeyErase r s
  | .keyAttrSet r => Sys2Proof.Machine.execKeyAttrSet r s
  | .lifecycleAdvance r => Sys2Proof.Machine.execLifecycleAdvance r s
  | .linkAuthPolicy r => Sys2Proof.Machine.execLinkAuthPolicy r s
  | .fwInfo r => Sys2Proof.Machine.execFwInfo r s
  | .fwWriteBegin r => Sys2Proof.Machine.execFwWriteBegin r s
  | .fwWriteData r => Sys2Proof.Machine.execFwWriteData r s
  | .fwWriteCommit r => Sys2Proof.Machine.execFwWriteCommit r s
  | .fwSlotSelect r => Sys2Proof.Machine.execFwSlotSelect r s
  | .boardTableLoad r => Sys2Proof.Machine.execBoardTableLoad r s
  | .mboxWrite r => Sys2Proof.Machine.execMboxWrite r s
  | .mboxRead r => Sys2Proof.Machine.execMboxRead r s
  | .doorbellRing r => Sys2Proof.Machine.execDoorbellRing r s
  | .lockAcquire r => Sys2Proof.Machine.execLockAcquire r s
  | .lockRelease r => Sys2Proof.Machine.execLockRelease r s
  | .lockBreak r => Sys2Proof.Machine.execLockBreak r s
  | .lockStatus r => Sys2Proof.Machine.execLockStatus r s
  | .diagCountersRead r => Sys2Proof.Machine.execDiagCountersRead r s
  | .diagLoopback r => Sys2Proof.Machine.execDiagLoopback r s
  | .diagSensors r => Sys2Proof.Machine.execDiagSensors r s
  | .diagSeamTest r => Sys2Proof.Machine.execDiagSeamTest r s
  | .diagStoreTest r => Sys2Proof.Machine.execDiagStoreTest r s
  | .regRead r => Sys2Proof.Machine.execRegRead r s
  | .regWrite r => Sys2Proof.Machine.execRegWrite r s
  | .regModify r => Sys2Proof.Machine.execRegModify r s
  | .mboxLockRead via k m => Sys2Proof.Machine.execMboxLockRead via k m s
  | .mboxLockWrite via k m w => Sys2Proof.Machine.execMboxLockWrite via k m w s
  | .mboxWord63Write via k m w => Sys2Proof.Machine.execMboxWord63Write via k m w s
  | .mboxWord63Read via k m => Sys2Proof.Machine.execMboxWord63Read via k m s
  | .dbRingWrite via k w => Sys2Proof.Machine.execDbRingWrite via k w s
  | .dbPendWrite via k w => Sys2Proof.Machine.execDbPendWrite via k w s
  | .timeNowRead k => Sys2Proof.Machine.execTimeNowRead k s
  | .logWinRead k => Sys2Proof.Machine.execLogWinRead k s
  | .rcFieldRead a => Sys2Proof.Machine.execRcFieldRead a s
  | .latCtrlWrite via k q w => Sys2Proof.Machine.execLatCtrlWrite via k q w s
  | .pciwCtrlWrite via k win w => Sys2Proof.Machine.execPciwCtrlWrite via k win w s
  | .loadSwEnWrite via on => Sys2Proof.Machine.execLoadSwEnWrite via on s
  | .mtrSnapWrite via hold => Sys2Proof.Machine.execMtrSnapWrite via hold s
  | .registerWrite via a w => Sys2Proof.Machine.execRegisterWrite via a w s
  | .remoteRequestRx k p bytes => Sys2Proof.Machine.execRemoteRequestRx k p bytes s
  | .remoteReplyRx k p pk => Sys2Proof.Machine.execRemoteReplyRx k p pk s
  | .remoteTimeout k p linkTag => Sys2Proof.Machine.execRemoteTimeout k p linkTag s
  | .badControlPacket k path => Sys2Proof.Machine.execBadControlPacket k path s
  | .moduleAttach k p => Sys2Proof.Machine.execModuleAttach k p s
  | .moduleReady k p mtype len maker => Sys2Proof.Machine.execModuleReady k p mtype len maker s
  | .moduleDetach k p => Sys2Proof.Machine.execModuleDetach k p s
  | .typecAttach h source cc2 accessory => Sys2Proof.Machine.execTypecAttach h source cc2 accessory s
  | .typecDetach h vbus => Sys2Proof.Machine.execTypecDetach h vbus s
  | .alavinModeEnter h ok => Sys2Proof.Machine.execAlavinModeEnter h ok s
  | .ufpModeWaitExpiry h => Sys2Proof.Machine.execUfpModeWaitExpiry h s
  | .trainRx k p lanes stream0 stream1 stream2 stream3 => Sys2Proof.Machine.execTrainRx k p lanes stream0 stream1 stream2 stream3 s
  | .laneLockLoss k p shown => Sys2Proof.Machine.execLaneLockLoss k p shown s
  | .relockTimeout k p => Sys2Proof.Machine.execRelockTimeout k p s
  | .castOnStepTimeout k p => Sys2Proof.Machine.execCastOnStepTimeout k p s
  | .backoffExpiry k p => Sys2Proof.Machine.execBackoffExpiry k p s
  | .ident k p blocks => Sys2Proof.Machine.execIdent k p blocks s
  | .authHello k p blocks => Sys2Proof.Machine.execAuthHello k p blocks s
  | .authCert k p leaf anchor signed valid => Sys2Proof.Machine.execAuthCert k p leaf anchor signed valid s
  | .authSig k p good => Sys2Proof.Machine.execAuthSig k p good s
  | .authDone k p good => Sys2Proof.Machine.execAuthDone k p good s
  | .roleMsg k p blocks => Sys2Proof.Machine.execRoleMsg k p blocks s
  | .rateGo k p blocks => Sys2Proof.Machine.execRateGo k p blocks s
  | .prbsWindowEnd k p err0 err1 bits => Sys2Proof.Machine.execPrbsWindowEnd k p err0 err1 bits s
  | .rateResult k p blocks => Sys2Proof.Machine.execRateResult k p blocks s
  | .rowSync k p blocks => Sys2Proof.Machine.execRowSync k p blocks s
  | .rowMarkRx k p first others => Sys2Proof.Machine.execRowMarkRx k p first others s
  | .rowInfoRx k p n b0 b1 b2 b3 b4 b5 => Sys2Proof.Machine.execRowInfoRx k p n b0 b1 b2 b3 b4 b5 s
  | .shellIdleExpiry k p => Sys2Proof.Machine.execShellIdleExpiry k p s
  | .shellEnterRx k rx => Sys2Proof.Machine.execShellEnterRx k rx s
  | .shellExit k p => Sys2Proof.Machine.execShellExit k p s
  | .huskIdleExpiry k p => Sys2Proof.Machine.execHuskIdleExpiry k p s
  | .huskReq k p tag => Sys2Proof.Machine.execHuskReq k p tag s
  | .huskAck k p => Sys2Proof.Machine.execHuskAck k p s
  | .huskNak k p code => Sys2Proof.Machine.execHuskNak k p code s
  | .huskEnterRx k rx => Sys2Proof.Machine.execHuskEnterRx k rx s
  | .huskExit k wake => Sys2Proof.Machine.execHuskExit k wake s
  | .bindReq k p tag drain => Sys2Proof.Machine.execBindReq k p tag drain s
  | .bindAck k p => Sys2Proof.Machine.execBindAck k p s
  | .bindTimeout k p => Sys2Proof.Machine.execBindTimeout k p s
  | .bindDrainEnd k p => Sys2Proof.Machine.execBindDrainEnd k p s
  | .bindEndRx k rx => Sys2Proof.Machine.execBindEndRx k rx s
  | .plyReq k p tag kind => Sys2Proof.Machine.execPlyReq k p tag kind s
  | .plyNak k p status => Sys2Proof.Machine.execPlyNak k p status s
  | .roleSwap k p tag prio tok att => Sys2Proof.Machine.execRoleSwap k p tag prio tok att s
  | .roleSwapAck k p => Sys2Proof.Machine.execRoleSwapAck k p s
  | .roleSwapNak k p status => Sys2Proof.Machine.execRoleSwapNak k p status s
  | .roleFlip k p => Sys2Proof.Machine.execRoleFlip k p s
  | .roleSwapRetry k p => Sys2Proof.Machine.execRoleSwapRetry k p s
  | .roleSwapTimeout k p => Sys2Proof.Machine.execRoleSwapTimeout k p s
  | .openReq k p tag inBand w => Sys2Proof.Machine.execOpenReq k p tag inBand w s
  | .openAck k p tag label inBand => Sys2Proof.Machine.execOpenAck k p tag label inBand s
  | .openNak k p tag status inBand => Sys2Proof.Machine.execOpenNak k p tag status inBand s
  | .openTimeout k t => Sys2Proof.Machine.execOpenTimeout k t s
  | .prearrangedOpenResend k t => Sys2Proof.Machine.execPrearrangedOpenResend k t s
  | .closeReq k p tag label drain => Sys2Proof.Machine.execCloseReq k p tag label drain s
  | .closeDone k p tag label => Sys2Proof.Machine.execCloseDone k p tag label s
  | .closeDrainExpiry k t => Sys2Proof.Machine.execCloseDrainExpiry k t s
  | .credit k p entries => Sys2Proof.Machine.execCredit k p entries s
  | .replayTimeout k t p route => Sys2Proof.Machine.execReplayTimeout k t p route s
  | .epochAck k p epoch => Sys2Proof.Machine.execEpochAck k p epoch s
  | .regaugeStepTimeout job => Sys2Proof.Machine.execRegaugeStepTimeout job s
  | .resumeList k p w => Sys2Proof.Machine.execResumeList k p w s
  | .resumePairingTimeout k p => Sys2Proof.Machine.execResumePairingTimeout k p s
  | .resumeWindowExpiry k p => Sys2Proof.Machine.execResumeWindowExpiry k p s
  | .violationNotice k p cls label count => Sys2Proof.Machine.execViolationNotice k p cls label count s
  | .quarantine k p label cls => Sys2Proof.Machine.execQuarantine k p label cls s
  | .cellRx k p b0 b1 b2 plain busy => Sys2Proof.Machine.execCellRx k p b0 b1 b2 plain busy s
  | .packetHandover k t p bytes busy => Sys2Proof.Machine.execPacketHandover k t p bytes busy s
  | .stitchStart k p late => Sys2Proof.Machine.execStitchStart k p late s
  | .rowBoundary k p transitHeld => Sys2Proof.Machine.execRowBoundary k p transitHeld s
  | .fenceLift k hashSet bucket => Sys2Proof.Machine.execFenceLift k hashSet bucket s
  | .residueAgeExpiry k t leg => Sys2Proof.Machine.execResidueAgeExpiry k t leg s
  | .latSampleTick k q => Sys2Proof.Machine.execLatSampleTick k q s
  | .seamFailed k n => Sys2Proof.Machine.execSeamFailed k n s
  | .seamUp k n => Sys2Proof.Machine.execSeamUp k n s
  | .seamTestEnd k n errNear errFar => Sys2Proof.Machine.execSeamTestEnd k n errNear errFar s
  | .storeTestStep k fails firstOffset => Sys2Proof.Machine.execStoreTestStep k fails firstOffset s
  | .scanStep k => Sys2Proof.Machine.execScanStep k s
  | .dinTraining k n trained => Sys2Proof.Machine.execDinTraining k n trained s
  | .dinSignalLost k n link => Sys2Proof.Machine.execDinSignalLost k n link s
  | .inputFrameStart k n frame => Sys2Proof.Machine.execInputFrameStart k n frame s
  | .hpdPulseEnd k n => Sys2Proof.Machine.execHpdPulseEnd k n s
  | .sinkEdid k n => Sys2Proof.Machine.execSinkEdid k n s
  | .refresh k n => Sys2Proof.Machine.execRefresh k n s
  | .sinkStatus k n => Sys2Proof.Machine.execSinkStatus k n s
  | .frameStart k o => Sys2Proof.Machine.execFrameStart k o s
  | .tileRow k o => Sys2Proof.Machine.execTileRow k o s
  | .frameEnd k o => Sys2Proof.Machine.execFrameEnd k o s
  | .frameAbort k o => Sys2Proof.Machine.execFrameAbort k o s
  | .recordScanDone k o => Sys2Proof.Machine.execRecordScanDone k o s
  | .frameBoundary k o => Sys2Proof.Machine.execFrameBoundary k o s
  | .underrun k o line => Sys2Proof.Machine.execUnderrun k o line s
  | .recordCheckFail k o group row => Sys2Proof.Machine.execRecordCheckFail k o group row s
  | .panelHpdRise k o edid selfRefresh trainOnExit => Sys2Proof.Machine.execPanelHpdRise k o edid selfRefresh trainOnExit s
  | .panelHpdFall k o => Sys2Proof.Machine.execPanelHpdFall k o s
  | .irqHpd k o => Sys2Proof.Machine.execIrqHpd k o s
  | .doutTrainFail k o => Sys2Proof.Machine.execDoutTrainFail k o s
  | .doutRetryTimer k o => Sys2Proof.Machine.execDoutRetryTimer k o s
  | .hostTlp k bytes => Sys2Proof.Machine.execHostTlp k bytes s
  | .tlpP k => Sys2Proof.Machine.execTlpP k s
  | .tlpNp k toDevice => Sys2Proof.Machine.execTlpNp k toDevice s
  | .tlpCpl k => Sys2Proof.Machine.execTlpCpl k s
  | .bridgeCredit k => Sys2Proof.Machine.execBridgeCredit k s
  | .linkState k => Sys2Proof.Machine.execLinkState k s
  | .linkCtrl k => Sys2Proof.Machine.execLinkCtrl k s
  | .pcieWake k hostInL2 => Sys2Proof.Machine.execPcieWake k hostInL2 s
  | .cplTimeout k reqId tag => Sys2Proof.Machine.execCplTimeout k reqId tag s
  | .readAheadAge k num => Sys2Proof.Machine.execReadAheadAge k num s
  | .pxPerstLow k => Sys2Proof.Machine.execPxPerstLow k s
  | .hostHotReset k down => Sys2Proof.Machine.execHostHotReset k down s
  | .dockLinkDown k present => Sys2Proof.Machine.execDockLinkDown k present s
  | .setupToken k t setup => Sys2Proof.Machine.execSetupToken k t setup s
  | .inToken k t ack => Sys2Proof.Machine.execInToken k t ack s
  | .outToken k t toggle data => Sys2Proof.Machine.execOutToken k t toggle data s
  | .pingToken k t => Sys2Proof.Machine.execPingToken k t s
  | .hubClassRequest k setup => Sys2Proof.Machine.execHubClassRequest k setup s
  | .upstreamBusReset k full cmdPart ep0 => Sys2Proof.Machine.execUpstreamBusReset k full cmdPart ep0 s
  | .upstreamIdleSuspend k => Sys2Proof.Machine.execUpstreamIdleSuspend k s
  | .hostResume k start => Sys2Proof.Machine.execHostResume k start s
  | .deviceRemoteWake k p => Sys2Proof.Machine.execDeviceRemoteWake k p s
  | .babble k p => Sys2Proof.Machine.execBabble k p s
  | .usbOverCurrent k p => Sys2Proof.Machine.execUsbOverCurrent k p s
  | .deviceTransactionDone k addr ep kind result toggle recent data => Sys2Proof.Machine.execDeviceTransactionDone k addr ep kind result toggle recent data s
  | .endpointIdleExpiry k addr ep dirIn => Sys2Proof.Machine.execEndpointIdleExpiry k addr ep dirIn s
  | .portResetEnd k p high low => Sys2Proof.Machine.execPortResetEnd k p high low s
  | .setupPacket k => Sys2Proof.Machine.execSetupPacket k s
  | .fetch k => Sys2Proof.Machine.execFetch k s
  | .inResult k late => Sys2Proof.Machine.execInResult k late s
  | .outPacket k => Sys2Proof.Machine.execOutPacket k s
  | .outResult k => Sys2Proof.Machine.execOutResult k s
  | .creditReq k => Sys2Proof.Machine.execCreditReq k s
  | .isoOut k => Sys2Proof.Machine.execIsoOut k s
  | .isoIn k => Sys2Proof.Machine.execIsoIn k s
  | .sofPacket k => Sys2Proof.Machine.execSofPacket k s
  | .portCmd k => Sys2Proof.Machine.execPortCmd k s
  | .portStatus k => Sys2Proof.Machine.execPortStatus k s
  | .busState k => Sys2Proof.Machine.execBusState k s
  | .usbWake k => Sys2Proof.Machine.execUsbWake k s
  | .ethFrameRx k e bytes fcsOk full => Sys2Proof.Machine.execEthFrameRx k e bytes fcsOk full s
  | .ethFramePacket k e => Sys2Proof.Machine.execEthFramePacket k e s
  | .ptpFramePacket k e => Sys2Proof.Machine.execPtpFramePacket k e s
  | .ptpMessageRx k e msg => Sys2Proof.Machine.execPtpMessageRx k e msg s
  | .prpLifeCheckTimer k => Sys2Proof.Machine.execPrpLifeCheckTimer k s
  | .prpLanChange k lan => Sys2Proof.Machine.execPrpLanChange k lan s
  | .prpEntryExpiry k proxy mac seq => Sys2Proof.Machine.execPrpEntryExpiry k proxy mac seq s
  | .ppsEdge => Sys2Proof.Machine.execPpsEdge s
  | .irigFrame ok year day sod ext utc zone leaps age => Sys2Proof.Machine.execIrigFrame ok year day sod ext utc zone leaps age s
  | .timeSourceChange n => Sys2Proof.Machine.execTimeSourceChange n s
  | .holdoverExpiry => Sys2Proof.Machine.execHoldoverExpiry s
  | .timeInfoTimer => Sys2Proof.Machine.execTimeInfoTimer s
  | .timeInfo k p => Sys2Proof.Machine.execTimeInfo k p s
  | .gooseFrame k e msg => Sys2Proof.Machine.execGooseFrame k e msg s
  | .gooseTalExpiry k sub => Sys2Proof.Machine.execGooseTalExpiry k sub s
  | .gooseGatherEnd k pub => Sys2Proof.Machine.execGooseGatherEnd k pub s
  | .gooseRetransmit k pub => Sys2Proof.Machine.execGooseRetransmit k pub s
  | .gpioDebounce k g level stamp => Sys2Proof.Machine.execGpioDebounce k g level stamp s
  | .hidReport k p ep data => Sys2Proof.Machine.execHidReport k p ep data s
  | .pipFrame k p => Sys2Proof.Machine.execPipFrame k p s
  | .pipHeartbeat k p => Sys2Proof.Machine.execPipHeartbeat k p s
  | .pipTimeout k g => Sys2Proof.Machine.execPipTimeout k g s
  | .powerOn => Sys2Proof.Machine.execPowerOn s
  | .vaonFall => Sys2Proof.Machine.execVaonFall s
  | .feedVoltageChange f mv => Sys2Proof.Machine.execFeedVoltageChange f mv s
  | .feedReverse f reverse => Sys2Proof.Machine.execFeedReverse f reverse s
  | .feedOverVoltage f peak => Sys2Proof.Machine.execFeedOverVoltage f peak s
  | .feedOvRecover f => Sys2Proof.Machine.execFeedOvRecover f s
  | .feedFault f ma => Sys2Proof.Machine.execFeedFault f ma s
  | .loadEnChange level => Sys2Proof.Machine.execLoadEnChange level s
  | .rampComplete us mj => Sys2Proof.Machine.execRampComplete us mj s
  | .rampTimer ma mv mj => Sys2Proof.Machine.execRampTimer ma mv mj s
  | .soaTrip ma mv => Sys2Proof.Machine.execSoaTrip ma mv s
  | .meterSample codes => Sys2Proof.Machine.execMeterSample codes s
  | .shortTrip ma mv => Sys2Proof.Machine.execShortTrip ma mv s
  | .loadDisableDelayEnd => Sys2Proof.Machine.execLoadDisableDelayEnd s
  | .panelWarn mv => Sys2Proof.Machine.execPanelWarn mv s
  | .panelDrop mv => Sys2Proof.Machine.execPanelDrop mv s
  | .panelRise mv => Sys2Proof.Machine.execPanelRise mv s
  | .panelHoldExpiry => Sys2Proof.Machine.execPanelHoldExpiry s
  | .frsSignal h => Sys2Proof.Machine.execFrsSignal h s
  | .panelBelow8v mv => Sys2Proof.Machine.execPanelBelow8v mv s
  | .deadBatteryStart h => Sys2Proof.Machine.execDeadBatteryStart h s
  | .hookRomStart h => Sys2Proof.Machine.execHookRomStart h s
  | .pdSourceCapabilities h pdos frs epr => Sys2Proof.Machine.execPdSourceCapabilities h pdos frs epr s
  | .pdRequest h index volts amps frs => Sys2Proof.Machine.execPdRequest h index volts amps frs s
  | .pdPsRdy h => Sys2Proof.Machine.execPdPsRdy h s
  | .pdHardReset h => Sys2Proof.Machine.execPdHardReset h s
  | .pdSwapRequest h kind => Sys2Proof.Machine.execPdSwapRequest h kind s
  | .discoverMessage h kind object reply => Sys2Proof.Machine.execDiscoverMessage h kind object reply s
  | .cableDiscoverIdentity h vdos => Sys2Proof.Machine.execCableDiscoverIdentity h vdos s
  | .pdKeepaliveTimer h => Sys2Proof.Machine.execPdKeepaliveTimer h s
  | .pdKeepaliveLost h => Sys2Proof.Machine.execPdKeepaliveLost h s
  | .hookWatchdog h => Sys2Proof.Machine.execHookWatchdog h s
  | .hookRestarted h => Sys2Proof.Machine.execHookRestarted h s
  | .sysPwrokRise => Sys2Proof.Machine.execSysPwrokRise s
  | .sysPwrokFall => Sys2Proof.Machine.execSysPwrokFall s
  | .resetNLow => Sys2Proof.Machine.execResetNLow s
  | .kernelRelease k attempts rootOk goodA goodB bootSlot => Sys2Proof.Machine.execKernelRelease k attempts rootOk goodA goodB bootSlot s
  | .quietDrainEnd => Sys2Proof.Machine.execQuietDrainEnd s
  | .quietWake k src => Sys2Proof.Machine.execQuietWake k src s
  | .seedDelayExpiry => Sys2Proof.Machine.execSeedDelayExpiry s
  | .seedWake sources => Sys2Proof.Machine.execSeedWake sources s
  | .domainPowerUp k d => Sys2Proof.Machine.execDomainPowerUp k d s
  | .watchdogExpiry k => Sys2Proof.Machine.execWatchdogExpiry k s
  | .heartbeatTimeout k => Sys2Proof.Machine.execHeartbeatTimeout k s
  | .internalFault k => Sys2Proof.Machine.execInternalFault k s
  | .kernelRejoin k good => Sys2Proof.Machine.execKernelRejoin k good s
  | .rejoinTimeout k => Sys2Proof.Machine.execRejoinTimeout k s
  | .leadTakeover => Sys2Proof.Machine.execLeadTakeover s
  | .leadLost => Sys2Proof.Machine.execLeadLost s
  | .lockIdleBreak k m => Sys2Proof.Machine.execLockIdleBreak k m s
  | .drbgHealthFail k test => Sys2Proof.Machine.execDrbgHealthFail k test s
  | .phaseChange k p => Sys2Proof.Machine.execPhaseChange k p s
  | .oldPhaseDiscard k p => Sys2Proof.Machine.execOldPhaseDiscard k p s
  | .fwSessionIdle => Sys2Proof.Machine.execFwSessionIdle s
  | .jobExpiry job => Sys2Proof.Machine.execJobExpiry job s
  | .replyKeepExpiry via tag => Sys2Proof.Machine.execReplyKeepExpiry via tag s
  | .downstreamConnectChange k p connected low => Sys2Proof.Machine.execDownstreamConnectChange k p connected low s
  | .usbUpstreamDisconnect k => Sys2Proof.Machine.execUsbUpstreamDisconnect k s
  | .managementEp0Request k setup => Sys2Proof.Machine.execManagementEp0Request k setup s
  | .pxPerstRise k width speed => Sys2Proof.Machine.execPxPerstRise k width speed s
  | .pxWakeNFall k => Sys2Proof.Machine.execPxWakeNFall k s
  | .dockLinkUp k width speed => Sys2Proof.Machine.execDockLinkUp k width speed s
  | .perstReleaseTimer k => Sys2Proof.Machine.execPerstReleaseTimer k s
  | .doutTrainPass k o => Sys2Proof.Machine.execDoutTrainPass k o s
  | .alavinModeExit h => Sys2Proof.Machine.execAlavinModeExit h s
  | .ethLinkChange k e up rate => Sys2Proof.Machine.execEthLinkChange k e up rate s
  | .sfpModuleInsert k e present fits code => Sys2Proof.Machine.execSfpModuleInsert k e present fits code s
  | .refclkChange present => Sys2Proof.Machine.execRefclkChange present s
  | .ptpIntervalTimer k e kind => Sys2Proof.Machine.execPtpIntervalTimer k e kind s
  | .panelAboveDrop mv => Sys2Proof.Machine.execPanelAboveDrop mv s
  | .pdAcceptOrReject h accepted => Sys2Proof.Machine.execPdAcceptOrReject h accepted s
  | .vbusTransitionComplete h => Sys2Proof.Machine.execVbusTransitionComplete h s
  | .usbPowerCycleEnd k p => Sys2Proof.Machine.execUsbPowerCycleEnd k p s
  | .usbFormReconnect k => Sys2Proof.Machine.execUsbFormReconnect k s
  | .roleSwapDone k p => Sys2Proof.Machine.execRoleSwapDone k p s
  | .fwCommitStep good => Sys2Proof.Machine.execFwCommitStep good s
  | .policyImageStep => Sys2Proof.Machine.execPolicyImageStep s
  | .boardTableStep => Sys2Proof.Machine.execBoardTableStep s
  | .lifecycleFuseStep => Sys2Proof.Machine.execLifecycleFuseStep s
  | .aonLockTimeSave => Sys2Proof.Machine.execAonLockTimeSave s

end Sys2Proof.Machine
end

