-- ==== Sys2Proof/Machine/Step.lean ====
section
/-! DEFINITION. One step of the block: the command at the front of the queue takes effect, and with an empty queue time passes. -/

namespace Sys2Proof.Machine

/-- The block with an empty queue: one nanosecond passes (DESIGN CHOICE, log entry 1). Nothing else happens by itself but the resets that
wait for their replies (R465); every other event in time is a command of its own. -/
def idle (s : State) : State := State.dueResets { s with now := s.now + 1 }

/-- The command at the front of the queue, run on the state with the rest of the queue; the block idles when there is none. -/
def step (s : State) : Host.Outcome State Fault Refusal :=
  match s.pending with
  | [] => .next (idle s)
  | c :: rest => exec c { s with pending := rest }

/-- The state with the command that a word spells put at the front of the queue; no word spells one. -/
def State.withFetchWord (s : State) (nbits w : Nat) : State :=
  match decodeTableWord nbits w with
  | some c => { s with pending := c :: s.pending }
  | none => s

end Sys2Proof.Machine
end

