-- ==== Sys2Proof/Machine/Tap.lean ====
section
/-! DEFINITION. The test access port of the part (R502). No row of the command table clocks it; `State.tapClock` is what one rising edge of TCK does. -/

namespace Sys2Proof.Machine

/-- The 32-bit IDCODE of a kernel or of the power die, stepping B1; bit 0 is 1 as IEEE 1149.1 has it (PRESUMED, log entry 129). -/
def tapIdcode (power : Bool) : BitVec 32 :=
  BitVec.ofNat 32 (1 * 2 ^ 28 + (if power then 0xE20F else 0xE200) * 2 ^ 12 + Config.tapMaker.toNat * 2 + 1)

/-- The instructions by code: all ones is BYPASS (PRESUMED, log entry 129). -/
def tapDecode (c : BitVec 8) : TapInstr :=
  if c = 0xFF then .bypass
  else if c = Config.tapCode 0 then .idcode
  else if c = Config.tapCode 1 then .sample
  else if c = Config.tapCode 2 then .extest
  else if c = Config.tapCode 3 then .extestPulse
  else .debug

/-- In Field the TAP serves only BYPASS, IDCODE, SAMPLE/PRELOAD, EXTEST and EXTEST_PULSE (R502, Table 14.5): any other code selects BYPASS. -/
def State.tapServes (s : State) (i : TapInstr) : TapInstr := if i = .debug ∧ !s.rb (Reg.LC_STATE 0) 4 then .bypass else i

/-- The dies of the chain: the kernels from K0 on, and the power die last. -/
def State.tapDies (s : State) : Nat := s.variant.kernels + 1

/-- The instruction in force in a die. -/
def State.tapInstr (s : State) (d : Nat) : TapInstr := s.tap.instrs.getD d .idcode

/-- n bits whose values the spec leaves open, from the i-th open value on. -/
def openBits (i n : Nat) : List Bool := (List.range n).map fun j => (Config.freeWord (i + j)).getLsbD 0

/-- The length of the register that a die's instruction selects. -/
def State.tapLength (s : State) (d : Nat) : Nat :=
  match s.tapInstr d with
  | .bypass => 1
  | .idcode => 32
  | .debug => Config.debugLength d
  | _ => Config.boundaryLength d

/-- What the register that a die's instruction selects captures, least significant bit first; a boundary-scan or debug register captures open values. -/
def State.tapCapture (s : State) (d : Nat) : List Bool :=
  match s.tapInstr d with
  | .bypass => [false]
  | .idcode => (List.range 32).map fun i => (tapIdcode (d + 1 == s.tapDies)).getLsbD i
  | _ => openBits (s.free + ((List.range d).map s.tapLength).sum) (s.tapLength d)

/-- The chain of the selected data registers as it is captured: the power die stands next to TDO, K0 next to TDI. -/
def State.tapChain (s : State) : List Bool := (List.range s.tapDies).reverse.flatMap s.tapCapture

/-- The chain of the 8-bit instruction registers as it is captured: 01 in the low bits, the others open. -/
def State.tapIrChain (s : State) : List Bool := (List.range s.tapDies).flatMap fun d => [true, false] ++ openBits (s.free + 6 * d) 6

/-- The instructions that the chain of instruction registers holds, K0 first. -/
def State.tapLoaded (s : State) : List TapInstr :=
  (List.range s.tapDies).map fun d =>
    let bits := (s.tap.shift.drop (8 * (s.tapDies - 1 - d))).take 8
    s.tapServes (tapDecode (BitVec.ofNat 8 (maskOf 8 fun i => bits.getD i false)))

/-- The controller's next state for a value of TMS. -/
def TapState.next (t : TapState) (tms : Bool) : TapState :=
  match t with
  | .logicReset => if tms then .logicReset else .runIdle
  | .runIdle => if tms then .selectDr else .runIdle
  | .selectDr => if tms then .selectIr else .captureDr
  | .captureDr => if tms then .exit1Dr else .shiftDr
  | .shiftDr => if tms then .exit1Dr else .shiftDr
  | .exit1Dr => if tms then .updateDr else .pauseDr
  | .pauseDr => if tms then .exit2Dr else .pauseDr
  | .exit2Dr => if tms then .updateDr else .shiftDr
  | .updateDr => if tms then .selectDr else .runIdle
  | .selectIr => if tms then .logicReset else .captureIr
  | .captureIr => if tms then .exit1Ir else .shiftIr
  | .shiftIr => if tms then .exit1Ir else .shiftIr
  | .exit1Ir => if tms then .updateIr else .pauseIr
  | .pauseIr => if tms then .exit2Ir else .pauseIr
  | .exit2Ir => if tms then .updateIr else .shiftIr
  | .updateIr => if tms then .selectDr else .runIdle

/-- One shift of the chain: TDI enters next to K0 and the bit next to TDO leaves. -/
def Tap.shiftIn (t : Tap) (tdi : Bool) : Tap := { t with tdo := t.shift.headD false, shift := t.shift.drop 1 ++ [tdi] }

/-- A rising edge of TCK (R502). What EXTEST drives on the balls is no state of the part. -/
def State.tapClock (s : State) (tms tdi : Bool) : State :=
  let t := s.tap
  let next := t.ctrl.next tms
  let s : State := match t.ctrl with
    | .captureDr => { s with tap := { t with shift := s.tapChain }, free := s.free + s.tapChain.length }
    | .captureIr => { s with tap := { t with shift := s.tapIrChain }, free := s.free + 6 * s.tapDies }
    | .shiftDr | .shiftIr => { s with tap := t.shiftIn tdi }
    | _ => s
  let s : State := match next with
    | .updateIr => { s with tap := { s.tap with instrs := s.tapLoaded } }
    | .logicReset => { s with tap := { s.tap with instrs := [] } }
    | _ => s
  { s with tap := { s.tap with ctrl := next } }

/-- TRST_N low: the controller is in Test-Logic-Reset. -/
def State.tapReset (s : State) : State := { s with tap := {} }

end Sys2Proof.Machine
end

