-- ==== Sys2Proof/Safety.lean ====
section
/-! DEFINITION. The terms in which statements speak of the part: the canonical form of its state, requests that pass their checks, and what
a command leaves alone. -/

namespace Sys2Proof.Machine

/-- Every sparse map of the state is in its one canonical form: keys strictly rising, and no entry that an unlisted key would read as. Equal
parts are then equal data, and a register that holds its reset word is not listed (R475). -/
structure State.Canonical (s : State) : Prop where
  regs : smapWf resetWord s.regs = true
  ends : smapWf (fun _ => {}) s.ends = true
  pcieFns : smapWf (fun _ => {}) s.pcieFns = true
  kerns : smapWf (fun _ => {}) s.kerns = true
  irqs : smapWf (fun _ => 0) s.irqs = true
  ports : smapWf (fun _ => {}) s.ports = true
  ctxs : smapWf (fun _ => {}) s.ctxs = true
  routeCtxs : smapWf (fun _ => {}) s.routeCtxs = true
  localRx : smapWf (fun _ => []) s.localRx = true
  outbox : smapWf (fun _ => []) s.outbox = true
  dins : smapWf (fun _ => {}) s.dins = true
  douts : smapWf (fun _ => {}) s.douts = true
  bridges : smapWf (fun _ => {}) s.bridges = true
  hubs : smapWf (fun _ => {}) s.hubs = true
  nets : smapWf (fun _ => {}) s.nets = true
  maps : smapWf (fun _ => {}) s.maps = true
  hooks : smapWf (fun _ => {}) s.hooks = true
  keys : smapWf (fun _ => {}) s.keys = true

/-- None of the checks refuses. -/
def passes (l : List Check) : Bool := l.all fun c => !c.1

/-- A request that the part executes itself and whose header, group and unit pass: its transport is up, its length, CRC, tag and flags are
good (R39, R54, R58), it is not to be sent on (R50), its unit exists and its parameter field is long enough (R40), its group is allowed
(R53), and its kernel and domain run (R80). -/
def admitted (c : Cmd) (r : Req) (s : State) : Bool :=
  s.viaUp r.via && passes (earlyChecks r s) && passes (flagChecks r s) && !isForward r
    && passes (unitChecks c r s) && passes (groupCheck c r s) && passes (runsChecks c r (reqTarget r) s)

/-- An admitted request whose parameters name nothing out of range and whose master may do what it asks: the command's own BAD_PARAM and
DENIED conditions. -/
def allowed (c : Cmd) (r : Req) (s : State) : Bool :=
  admitted c r s && passes (c.bad r (reqTarget r) s) && passes (c.denied r (reqTarget r) s)

/-- The state with a request answered DONE (R58): the reply goes out on the request's transport. -/
def State.answer (s : State) (opcode : Nat) (r : Req) (data : List Word) : State :=
  s.deliver r.via r.slot (replyPacket opcode r .done 0 data)

/-- The state with a request answered ACCEPTED (R61), its job already started: DETAIL is the job's number. -/
def State.answerJob (s : State) (opcode : Nat) (r : Req) (num : Nat) (data : List Word) : State :=
  s.deliver r.via r.slot (replyPacket opcode r .accepted num data)

/-- A link message reaches a port: the port exists and is Open or Binding. -/
def State.hears (s : State) (k p : Nat) : Bool := s.hasPort k p && [3, 4].contains (s.portState k p)

/-- The state with the oldest packet of a port's control tunnel taken, as every link message that arrives takes it. -/
def State.taken (s : State) (k p : Nat) : State := s.takeRx k (s.ctrlCtx k p) p

/-- What is needed for the oldest packet of a hub's tunnel to be read: a hub of the form, its tunnel Open, a packet with a known type. -/
abbrev hubHears (k form : Nat) (known : List Nat) (s : State) (t : Nat) (b : List Byte) (u : State) : Prop :=
  s.hasKernel k = true ∧ (s.hub k).form = form ∧ s.domainOn k 11 = true ∧ s.adapterOpen? k usbAdapter = some t ∧
  (s.takeAdapter k t).map (fun x => (x.1.2, x.2)) = some (b, u) ∧ 4 ≤ b.length ∧ byteAt b 1 = 1 ∧ byteAt b 0 ∈ known

/-- The token word of a packet names a port of Table 9.7 and a length within the maximum packet of its endpoint. -/
abbrev tokenFits (k : Nat) (s : State) (b : List Byte) : Prop :=
  let w := (bytesWords (slice b 4 4)).getD 0 0
  attrPort (tokAttr w) ≤ 4 ∧ fld w 20 12 ≤ (s.hub k).maxPkt (tokKey w) (attrType (tokAttr w))

/-- A cast-on message of the step that a port is at has come whole (R123): its body, and the state with its blocks received. -/
def State.castGets (s : State) (k p st msg len : Nat) (blocks : List Block) : Option (List Byte × State) :=
  if s.castHears k p ∧ s.castStep k p = st then (assemble msg len (s.castMsgs k p blocks)).map fun b => (b, (s.receive k p blocks).2) else none

/-- The command and the request of a row that carries a command packet (Table 2.9). -/
def request? (i : Instr) : Option (Cmd × Req) :=
  match i with
  | .sysInfo r => some (cmdSysInfo, r)
  | .sysStateSet r => some (cmdSysStateSet, r)
  | .sysReset r => some (cmdSysReset, r)
  | .getReply r => some (cmdGetReply, r)
  | .eventSubscribe r => some (cmdEventSubscribe, r)
  | .jobStatus r => some (cmdJobStatus, r)
  | .jobAbort r => some (cmdJobAbort, r)
  | .nop r => some (cmdNop, r)
  | .kernelRecover r => some (cmdKernelRecover, r)
  | .portInfo r => some (cmdPortInfo, r)
  | .portCastOn r => some (cmdPortCastOn, r)
  | .portBindOff r => some (cmdPortBindOff, r)
  | .portPowerState r => some (cmdPortPowerState, r)
  | .portEqSelect r => some (cmdPortEqSelect, r)
  | .portAlignMode r => some (cmdPortAlignMode, r)
  | .portBitSlip r => some (cmdPortBitSlip, r)
  | .portPrbs r => some (cmdPortPrbs, r)
  | .plyForm r => some (cmdPlyForm, r)
  | .plySplit r => some (cmdPlySplit, r)
  | .roleSwapRequest r => some (cmdRoleSwapRequest, r)
  | .tunOpen r => some (cmdTunOpen, r)
  | .tunClose r => some (cmdTunClose, r)
  | .tunInfo r => some (cmdTunInfo, r)
  | .tunModify r => some (cmdTunModify, r)
  | .tunRelease r => some (cmdTunRelease, r)
  | .resumeWindowSet r => some (cmdResumeWindowSet, r)
  | .rawRouteSet r => some (cmdRawRouteSet, r)
  | .rowTableRead r => some (cmdRowTableRead, r)
  | .rowShadowWrite r => some (cmdRowShadowWrite, r)
  | .rowSwap r => some (cmdRowSwap, r)
  | .regauge r => some (cmdRegauge, r)
  | .regaugeRollback r => some (cmdRegaugeRollback, r)
  | .gaugeCeilingSet r => some (cmdGaugeCeilingSet, r)
  | .rawRouteRead r => some (cmdRawRouteRead, r)
  | .skeinCarve r => some (cmdSkeinCarve, r)
  | .skeinInfo r => some (cmdSkeinInfo, r)
  | .queueThresholdSet r => some (cmdQueueThresholdSet, r)
  | .schedNodeSet r => some (cmdSchedNodeSet, r)
  | .shaperSet r => some (cmdShaperSet, r)
  | .mcastListSet r => some (cmdMcastListSet, r)
  | .latSampleSet r => some (cmdLatSampleSet, r)
  | .latSampleRead r => some (cmdLatSampleRead, r)
  | .dinConfig r => some (cmdDinConfig, r)
  | .edidProxySet r => some (cmdEdidProxySet, r)
  | .purlModeSet r => some (cmdPurlModeSet, r)
  | .exactRegionSet r => some (cmdExactRegionSet, r)
  | .damageConfig r => some (cmdDamageConfig, r)
  | .purlFrameReport r => some (cmdPurlFrameReport, r)
  | .doutTimingStage r => some (cmdDoutTimingStage, r)
  | .doutPairSet r => some (cmdDoutPairSet, r)
  | .frameLockSet r => some (cmdFrameLockSet, r)
  | .psrConfig r => some (cmdPsrConfig, r)
  | .testPattern r => some (cmdTestPattern, r)
  | .doutStatus r => some (cmdDoutStatus, r)
  | .pcieConfig r => some (cmdPcieConfig, r)
  | .pcieWindow r => some (cmdPcieWindow, r)
  | .pcieStatus r => some (cmdPcieStatus, r)
  | .pcieReadaheadLog r => some (cmdPcieReadaheadLog, r)
  | .usbConfig r => some (cmdUsbConfig, r)
  | .usbEpLayout r => some (cmdUsbEpLayout, r)
  | .usbPortPower r => some (cmdUsbPortPower, r)
  | .usbStatus r => some (cmdUsbStatus, r)
  | .ethConfig r => some (cmdEthConfig, r)
  | .prpPairSet r => some (cmdPrpPairSet, r)
  | .ethStatus r => some (cmdEthStatus, r)
  | .timeSourceList r => some (cmdTimeSourceList, r)
  | .timeRead r => some (cmdTimeRead, r)
  | .timeSet r => some (cmdTimeSet, r)
  | .ptpConfig r => some (cmdPtpConfig, r)
  | .asymmetrySet r => some (cmdAsymmetrySet, r)
  | .logRead r => some (cmdLogRead, r)
  | .blackboxRead r => some (cmdBlackboxRead, r)
  | .blackboxClear r => some (cmdBlackboxClear, r)
  | .smapSignalSet r => some (cmdSmapSignalSet, r)
  | .smapSignalRead r => some (cmdSmapSignalRead, r)
  | .gooseSubscribe r => some (cmdGooseSubscribe, r)
  | .goosePublishSet r => some (cmdGoosePublishSet, r)
  | .hidSnoopSet r => some (cmdHidSnoopSet, r)
  | .checkUnitSet r => some (cmdCheckUnitSet, r)
  | .checkScan r => some (cmdCheckScan, r)
  | .sealSet r => some (cmdSealSet, r)
  | .pwrFeedStatus r => some (cmdPwrFeedStatus, r)
  | .pwrLoadEnable r => some (cmdPwrLoadEnable, r)
  | .pwrLoadDisable r => some (cmdPwrLoadDisable, r)
  | .pwrBreakerSet r => some (cmdPwrBreakerSet, r)
  | .pwrWarnSet r => some (cmdPwrWarnSet, r)
  | .pwrMeterRead r => some (cmdPwrMeterRead, r)
  | .pwrEnergyClear r => some (cmdPwrEnergyClear, r)
  | .pdStatus r => some (cmdPdStatus, r)
  | .pdRolePrefSet r => some (cmdPdRolePrefSet, r)
  | .pdSourceCapsSet r => some (cmdPdSourceCapsSet, r)
  | .pdSinkRequest r => some (cmdPdSinkRequest, r)
  | .pdFrsSet r => some (cmdPdFrsSet, r)
  | .hookPolicyUpdate r => some (cmdHookPolicyUpdate, r)
  | .cableIdRead r => some (cmdCableIdRead, r)
  | .keySlotInfo r => some (cmdKeySlotInfo, r)
  | .keyDerive r => some (cmdKeyDerive, r)
  | .keyErase r => some (cmdKeyErase, r)
  | .keyAttrSet r => some (cmdKeyAttrSet, r)
  | .lifecycleAdvance r => some (cmdLifecycleAdvance, r)
  | .linkAuthPolicy r => some (cmdLinkAuthPolicy, r)
  | .fwInfo r => some (cmdFwInfo, r)
  | .fwWriteBegin r => some (cmdFwWriteBegin, r)
  | .fwWriteData r => some (cmdFwWriteData, r)
  | .fwWriteCommit r => some (cmdFwWriteCommit, r)
  | .fwSlotSelect r => some (cmdFwSlotSelect, r)
  | .boardTableLoad r => some (cmdBoardTableLoad, r)
  | .mboxWrite r => some (cmdMboxWrite, r)
  | .mboxRead r => some (cmdMboxRead, r)
  | .doorbellRing r => some (cmdDoorbellRing, r)
  | .lockAcquire r => some (cmdLockAcquire, r)
  | .lockRelease r => some (cmdLockRelease, r)
  | .lockBreak r => some (cmdLockBreak, r)
  | .lockStatus r => some (cmdLockStatus, r)
  | .diagCountersRead r => some (cmdDiagCountersRead, r)
  | .diagLoopback r => some (cmdDiagLoopback, r)
  | .diagSensors r => some (cmdDiagSensors, r)
  | .diagSeamTest r => some (cmdDiagSeamTest, r)
  | .diagStoreTest r => some (cmdDiagStoreTest, r)
  | .regRead r => some (cmdRegRead, r)
  | .regWrite r => some (cmdRegWrite, r)
  | .regModify r => some (cmdRegModify, r)
  | _ => none

/-- What follows a request's reply: the resets that its delivery was awaited for (R465). -/
def State.settled (i : Instr) (s : State) : State :=
  match i with
  | .sysReset _ => s.dueResets
  | _ => s

end Sys2Proof.Machine
end

