-- ==== Sys2Proof/Certificates/Slice0/Obligations.lean ====
section
/-! DEFINITION. The statements about the model, for the provers. Unless a docstring says otherwise each clause has as its conclusion that `exec`
answers a next state, and gives that state whole: what it does not name is unchanged. -/

open Sys2Proof Sys2Proof.Machine

/-! ### System queries and jobs -/

/-- What the system queries of group 0x00 answer; JOB_ABORT lets a job in its last step be, ends an open at once and marks any other job; 60 s after
its end a job, and 5 s after its delivery a kept reply, is gone. Rests on parts of R63, R64, R65, R81 (Table 2.15). -/
def Obligations.SystemCommandsAnswer : Prop :=
  (∀ r s, admitted cmdSysInfo r s → reqSub r = 0 →
    exec (.sysInfo r) s = .next (s.answer 0x0001 r (sysInfoWords s (reqTarget r)))) ∧
  (∀ r s, admitted cmdNop r s → reqSub r = 0 → exec (.nop r) s = .next (s.answer 0x0008 r r.params)) ∧
  (∀ r s q, admitted cmdGetReply r s → reqSub r = 0 → s.keptReply r.via (reqField r 12 0 8) = some q →
    reqField r 12 16 16 % 4 = 0 → (reqField r 12 16 16 = 0 ∨ reqField r 12 16 16 < 4 * q.data.length) →
    exec (.getReply r) s = .next (s.answer 0x0004 r (keptWords q (reqField r 12 16 16)))) ∧
  (∀ r s, admitted cmdEventSubscribe r s → reqSub r = 0 → reqField r 12 0 3 ≤ 5 → reqField r 16 20 12 = 0 →
    exec (.eventSubscribe r) s =
      .next ((s.setEp r.via { s.ep r.via with minSev := reqField r 12 0 3, none := reqBit r 12 8, mask := reqWord r 16 }).answer 0x0005 r
        [packWord [(0, 3, (s.ep r.via).minSev), (8, 1, (s.ep r.via).none.toNat)], (s.ep r.via).mask])) ∧
  (∀ r s j, admitted cmdJobStatus r s → reqSub r = 0 → s.job? (reqField r 12 0 16) = some j →
    exec (.jobStatus r) s = .next (s.answer 0x0006 r (jobStatusWords s j))) ∧
  (∀ r s j, admitted cmdJobAbort r s → reqSub r = 0 → s.job? (reqField r 12 0 16) = some j → j.state = .running →
    j.opcode ∉ [0x0102, 0x0103, 0x0009] → exec (.jobAbort r) s = .next ((s.abortJob j).answer 0x0007 r [])) ∧
  (∀ job s, exec (.jobExpiry job) s = .next { s with jobs := s.jobs.filter fun j => j.num ≠ job ∨ j.state = .running }) ∧
  (∀ v tag s, exec (.replyKeepExpiry v tag) s =
    .next (s.setEp v { s.ep v with kept := (s.ep v).kept.filter fun q => q.tag ≠ tag }))

/-! ### Part states, pins, power-up and recovery -/

/-- SYS_STATE_SET starts the job that takes the part to Run, Quiet or Seed; step 2 of Quiet entry ends when the queues are empty; a wake that counts
returns the part to Run; SEED_DELAY ends in Seed, and a wake before that cancels the entry, one after it leaves Seed. Rests on parts of R453 to R458
(Tables 15.3 to 15.6). -/
def Obligations.PartStateCommandsRun : Prop :=
  (∀ r s, allowed cmdSysStateSet r s → reqField r 12 0 2 = 0 → s.partState = 1 → s.running.length < 16 →
    exec (.sysStateSet r) s =
      .next ((((s.startJob 0x0002 r (reqTarget r) 1 [0, reqWord r 16, word (reqField r 20 0 10)]).leaveQuiet 0x20 (master r.via)).endJob
        s.newJobNum .done 0 0).answerJob 0x0002 r s.newJobNum [1])) ∧
  (∀ r s, allowed cmdSysStateSet r s → reqField r 12 0 2 = 1 → passes (s.quietChecks (reqWord r 16).toNat) → s.running = [] →
    exec (.sysStateSet r) s =
      .next (let t := (List.range s.variant.kernels).foldl (fun t k => t.setReg (Reg.QUIET_PORTS k) (word ((reqWord r 16).toNat / 16 ^ k % 16)))
               (s.startJob 0x0002 r (reqTarget r) 3 [1, reqWord r 16, word (reqField r 20 0 10)])
             ((t.setPart { t.part with wake := false }).askKept s.newJobNum (reqWord r 16).toNat).answerJob 0x0002 r s.newJobNum [3])) ∧
  (∀ r s, allowed cmdSysStateSet r s → reqField r 12 0 2 = 2 → s.partState ≤ 1 → s.running = [] →
    exec (.sysStateSet r) s =
      .next (((s.startJob 0x0002 r (reqTarget r) 2 [2, reqWord r 16, word (reqField r 20 0 10)]).startSeed (master r.via)).answerJob 0x0002 r
        s.newJobNum [2])) ∧
  (∀ s j v, s.stateJob 1 = some j → j.step = 2 → j.via = some v → j.abort = false → s.part.wake = false →
    exec .quietDrainEnd s =
      .next (((s.jobStep j.num 3).enterQuiet (j.args.getD 1 0).toNat (master v)).nextStep j.num)) ∧
  (∀ k src s, s.hasKernel k → src < 34 → s.wakeAllowed k src → s.partState = 1 →
    exec (.quietWake k src) s = .next (s.leaveQuiet (if src = 0 then 1 else 0x20) (8 + s.lead))) ∧
  (∀ s, s.part.seedDue = true → exec .seedDelayExpiry s = .next s.enterSeed) ∧
  (∀ sources s, sources % 32 ≠ 0 → s.part.vaon = true → s.part.seedDue = true →
    exec (.seedWake sources) s =
      .next (((s.setPart { s.part with seedDue := false }).setRf Reg.AON_STATE 0 2 0).log s.lead Ev.seedAbort 0 [sources % 32])) ∧
  (∀ sources s, sources % 32 ≠ 0 → s.part.vaon = true → s.part.seedDue = false → s.part.seed = true →
    exec (.seedWake sources) s =
      .next (((List.range 4).foldl (fun t f => t.evalFeed f)
        ((s.setPart { s.part with seed := false }).setReg Reg.AON_WAKE_SRC (word (sources % 32)))).tryRamp))

/-- What the pins and the power die do to the part as a whole. VAON falling or SYS_PWROK falling resets all kernels with cause 1 or 3, RESET_N with 2,
the loss of the lead with 5; VAON rising reloads the power path and enables LOAD as the board table says. A held kernel that may start starts when it is
released, K0 by its ROM and firmware slot, another after K0 runs; a domain that was powering up is on, with its registers at their reset words and what
the board table gives. Rests on parts of R451, R459 to R463, R472. -/
def Obligations.PinsResetAndKernelsStart : Prop :=
  (∀ s, s.part.vaon = false →
    exec .powerOn s =
      .next (let t := (s.setPart { s.part with vaon := true }).reloadPowerPath
             ((List.range 4).foldl (fun t f => t.evalFeed f)
               (t.setSwEn (t.images.powerPath.isEmpty || bitAt (t.images.powerPath.getD 2 0) 0))).tryRamp)) ∧
  (∀ s, s.part.vaon = true →
    exec .vaonFall s =
      .next (let t := (s.partReset 1).powerDieReset
             { t with taiOff := -(t.now : Int), part := { t.part with vaon := false } })) ∧
  (∀ s, s.part.vaon = true → exec .sysPwrokRise s = .next (s.setRb Reg.AON_STATE 4 true)) ∧
  (∀ s, s.part.vaon = true → s.part.seed = false →
    exec .sysPwrokFall s = .next ((s.partReset 3).setRb Reg.AON_STATE 4 false)) ∧
  (∀ s, s.inSeed = false → exec .resetNLow s = .next (((s.reloadPowerPath).partReset 2).setRb Reg.AON_STATE 5 false)) ∧
  (∀ s, s.inSeed = false → s.rb Reg.AON_STATE 7 = false → exec .leadLost s = .next (s.partReset 5)) ∧
  (∀ k attempts ro ga gb bs s, s.hasKernel k → s.inSeed = false → s.rb Reg.AON_STATE 4 = true → s.kernelState k ≤ 1 → s.part.rom = false →
    (k = 0 ∨ s.kernelRuns s.lead) →
    exec (.kernelRelease k attempts ro ga gb bs) s = .next (s.release k attempts ro ga gb bs)) ∧
  (∀ k d s, s.hasKernel k → d ∈ [2, 3, 6, 7, 8, 10] → s.domainState k d = 3 → s.kernelState k = 2 →
    exec (.domainPowerUp k d) s = .next ((s.setDomain k d 1).applyBoard k fun b => kernelBlockDomain b == d && b != 0x30))

/-- A watchdog expiry, a missing heartbeat or an internal fault of a kernel declares it faulty with causes 1, 2 and 3, and K1 takes the lead from a
silent K0; KERNEL_RECOVER starts the recovery job; a kernel that rejoins runs again, and its job ends DONE; one that does not is declared faulty
once more. SYS_RESET answers DONE and resets when the reply is delivered or 10 ms have passed. Rests on parts of R465 to R471. -/
def Obligations.KernelFaultsAreRecovered : Prop :=
  (∀ r s, allowed cmdSysReset r s → (reqField r 12 0 2 = 1 → s.canPassLead (reqTarget r)) →
    (reqField r 12 0 2 = 2 → reqTarget r = 15 ∨ s.domainOn (reqTarget r) (unitDomain (reqField r 12 8 8))) →
    exec (.sysReset r) s =
      .next (((s.setPart { s.part with resetWait := s.part.resetWait ++
        [(reqField r 12 0 2, reqTarget r, reqField r 12 8 8, s.now + 10000000)] }).answer 0x0003 r []).dueResets)) ∧
  (∀ r s, allowed cmdKernelRecover r s → s.kernelRuns s.lead → s.kernelState (reqTarget r) ∈ [2, 3, 5] → s.lead ≠ reqTarget r →
    s.running.length < 16 → s.recovery? (reqTarget r) = none →
    exec (.kernelRecover r) s =
      .next ((((s.startJob 0x0009 r s.lead 5 [word (reqTarget r), 0, 0, 4]).faultSteps (reqTarget r) 4 s.newJobNum).faultReset (reqTarget r)
        s.newJobNum).answerJob 0x0009 r s.newJobNum [5])) ∧
  (∀ k s, s.hasKernel k → s.kernelRuns k → s.lead ≠ k →
    exec (.watchdogExpiry k) s =
      .next (((s.bump (Reg.WDT_COUNT k) 1).logTo s.lead k Ev.wdt 0 [] 0 [k, ((s.bump (Reg.WDT_COUNT k) 1).reg (Reg.WDT_COUNT k)).toNat]).declareFault
        k 1)) ∧
  (∀ k s, s.hasKernel k → s.kernelRuns k → s.kernelRuns s.lead → k ≠ s.lead →
    exec (.heartbeatTimeout k) s = .next (s.declareFault k 2)) ∧
  (∀ k s, s.hasKernel k → s.kernelRuns k → s.canPassLead k → exec (.internalFault k) s = .next (s.declareFault k 3)) ∧
  (∀ s, s.lead = 0 → s.kernelRuns 1 → 2 ≤ s.kernelState 0 → s.kernelState 0 ≠ 6 → exec .leadTakeover s = .next (s.declareFault 0 2)) ∧
  (∀ k s j, s.hasKernel k → k ≠ 0 → s.kernelState k = 5 → s.kernelRuns s.lead → s.recovery? k = some j →
    exec (.kernelRejoin k true) s =
      .next (let t := (s.repairCopy k true).startKernel k true
             (t.logTo t.lead k Ev.kernelRecovered 0 [] 0 [k, (j.args.getD 1 0).toNat, (j.args.getD 2 0).toNat]).endJob j.num .done 0 0)) ∧
  (∀ k s j, s.hasKernel k → s.kernelState k = 5 → s.kernelRuns s.lead → s.recovery? k = some j →
    exec (.rejoinTimeout k) s =
      .next ((s.endJob j.num .failed 0x0501 0x0F00).declareFault k (j.args.getD 3 0).toNat))

/-! ### Transports -/

/-- On the SPI target, WRITE_PACKET of 12 to 1,040 bytes hands the packet to the part, and another length, or no space once
the part has started, sets STAT_FRAME_ERR; READ_PACKET removes the
oldest reply only with its last byte; READ_STATUS shows the status byte and clears STAT_FRAME_ERR; any other instruction byte sets it. A whole
transfer on EP1 OUT of the USB management function is a command packet. CMD_POST of a free slot marks it busy and runs its packet, and of a busy slot
logs EV_CMD_POST_IGNORED and nothing else; writing 1 to a set bit of RSP_READY frees that slot; EVT_TAIL takes the value written. Rests on parts of R44
to R49, R78 (Tables 2.5, 2.6). -/
def Obligations.HostTransportsMove : Prop :=
  (∀ bytes s, s.spiSpace → 12 ≤ bytes.length → bytes.length ≤ 1040 →
    exec (.spiWritePacket bytes) s = .next (runRequest (parseRequest .spi 0 bytes) (s.spiTransaction [])).dueResets) ∧
  (∀ bytes s, s.spiSpace → (bytes.length < 12 ∨ 1040 < bytes.length) →
    exec (.spiWritePacket bytes) s = .next ((s.spiTransaction []).setFrameErr true)) ∧
  (∀ bytes s, s.spiSpace = false → s.part.spiSeen →
    exec (.spiWritePacket bytes) s = .next ((s.spiTransaction []).setFrameErr true)) ∧
  (∀ n s pk l, (s.ep .spi).reading = none → (s.ep .spi).replies = pk :: l → n < 3 + (packetBytes pk).length →
    exec (.spiReadPacket n) s =
      .next ((s.spiTransaction ((half (packetBytes pk).length ++ packetBytes pk).take (n - 1))).setEp .spi (s.ep .spi))) ∧
  (∀ n s pk l, (s.ep .spi).reading = none → (s.ep .spi).replies = pk :: l → 3 + (packetBytes pk).length ≤ n →
    exec (.spiReadPacket n) s =
      .next (((s.spiTransaction ((half (packetBytes pk).length ++ packetBytes pk).take (n - 1))).setEp .spi
        { s.ep .spi with replies := l }).keep .spi pk).dueResets) ∧
  (∀ s, ∃ t, exec .spiReadStatus s = .next t ∧ t.spi.frameErr = false ∧ t.spi.miso = [s.spiStatus, s.spiStatus] ∧ t.regs = s.regs ∧
    t.ends = s.ends) ∧
  (∀ b s, b ∉ [1, 2, 3] → exec (.spiBadInstruction b) s = .next ((s.spiTransaction []).setFrameErr true)) ∧
  (∀ k bytes s, s.hasKernel k → s.viaUp (.usb k) →
    exec (.usbCommandTransfer k bytes) s = .next (runRequest (parseRequest (.usb k) 0 bytes) (s.bump (Reg.USBD_CMD_RX k) 1)).dueResets) ∧
  (∀ k slot bytes s, s.Canonical → s.hasKernel k → slot < 8 → s.viaUp (.pcie k) → (s.pcieFn k).busy.testBit slot = false →
    exec (.cmdPost k slot bytes) s =
      .next (let t := s.setPcieFn k ((s.pcieFn k).writeSlot slot 0 (bytes.take 2048))
             (runRequest ((t.pcieFn k).request k slot) (t.setPcieFn k { t.pcieFn k with busy := (t.pcieFn k).busy ||| 2 ^ slot })).dueResets)) ∧
  (∀ k slot s, s.Canonical → s.hasKernel k → slot < 8 → s.viaUp (.pcie k) → (s.pcieFn k).busy.testBit slot = true →
    exec (.cmdPost k slot []) s = .next (s.log k Ev.cmdPostIgnored 2 [slot])) ∧
  (∀ k w s, s.hasKernel k → s.viaUp (.pcie k) →
    exec (.rspReadyWrite k w) s =
      .next (s.setPcieFn k { s.pcieFn k with
        ready := (s.pcieFn k).ready - ((s.pcieFn k).ready &&& fld w 0 8)
        busy := (s.pcieFn k).busy - ((s.pcieFn k).busy &&& ((s.pcieFn k).ready &&& fld w 0 8)) })) ∧
  (∀ k w s, s.hasKernel k → s.viaUp (.pcie k) →
    exec (.evtTailWrite k w) s = .next (s.setPcieFn k { s.pcieFn k with evTail := fld w 0 8 }))

/-- A good remote request that reaches an Open port runs as master 4; a reply goes back with its requester's own tag and frees the link tag; one that
comes too late is logged; REMOTE_TIMEOUT answers PARTNER_TIMEOUT; a control-tunnel packet with a bad CRC or length, or a bad link message in
a tunnel, is a class 9 violation and nothing more. Rests on parts of R50 to R53, R143. -/
def Obligations.RemoteRequestsRunAndReturn : Prop :=
  (∀ k p bytes s, s.hears k p → ctrlGood bytes → isLinkOpcode (halfAt bytes 0) = false → byteAt bytes 3 % 2 = 0 →
    (s.taken k p).viaUp (.link k p) →
    exec (.remoteRequestRx k p bytes) s = .next (runRequest (parseRequest (.link k p) 0 bytes) (s.taken k p)).dueResets) ∧
  (∀ k p bytes s, s.hears k p → ctrlGood bytes = false →
    exec (.remoteRequestRx k p bytes) s = .next ((s.taken k p).violation k p 9 0 none)) ∧
  (∀ k p pk s q, s.hears k p → (s.port k p).remote.find? (fun q => q.linkTag == pk.tag) = some q → q.job = none → q.wait = none →
    exec (.remoteReplyRx k p pk) s =
      .next (((s.taken k p).freeRemote k p q.linkTag).deliver q.via q.slot { pk with tag := q.tag })) ∧
  (∀ k p pk s l, s.hears k p → (s.port k p).remote.find? (fun q => q.linkTag == pk.tag) = none →
    (s.port k p).late.find? (fun l => l.1 == pk.tag) = some l →
    exec (.remoteReplyRx k p pk) s =
      .next ((s.taken k p).log k Ev.lateReply p [l.2.1 + 65536 * l.2.2, pk.status + 65536 * pk.detail, 4 * k + p])) ∧
  (∀ k p lt s q, s.hasPort k p → (s.port k p).remote.find? (fun q => q.linkTag == lt) = some q → q.job = none → q.wait = none →
    exec (.remoteTimeout k p lt) s = .next (s.timeoutRemote k p 0 q)) ∧
  (∀ k p s, s.hears k p → exec (.badControlPacket k ⟨p, none⟩) s = .next ((s.taken k p).violation k p 9 0 none)) ∧
  (∀ k p l s, s.hasPort k p → s.portOpen k p →
    exec (.badControlPacket k ⟨p, some l⟩) s = .next (s.violation k p 9 l (some (labelK l, labelT l))))

/-! ### Link ports and role swaps -/

/-- The link-port commands. A port in a state that the command allows casts on, binds off, changes its power policy, equalisation row, alignment or
PRBS test; ply commands start their jobs and ask the far end. Rests on parts of Table 3.12, R99, R100, R102, R105, R111, R113, R114, R117, R121, R122. -/
def Obligations.LinkPortCommandsRun : Prop :=
  (∀ r s, admitted cmdPortInfo r s → reqSub r < 4 →
    exec (.portInfo r) s =
      .next (s.answer 0x0101 r [s.reg (Reg.LNK_STATE (reqTarget r) (reqSub r)), s.reg (Reg.LNK_PARTNER_ID_LO (reqTarget r) (reqSub r)),
        s.reg (Reg.LNK_PARTNER_ID_HI (reqTarget r) (reqSub r)), s.reg (Reg.LNK_CAST_STEP (reqTarget r) (reqSub r)),
        s.backoffWord (reqTarget r) (reqSub r)])) ∧
  (∀ r s k p, admitted cmdPortCastOn r s → k = reqTarget r → p = reqSub r → p < 4 → reqField r 12 0 2 ≠ 0 → reqField r 12 2 2 ≠ 3 →
    s.portState k p ∈ [0, 1, 5] → (s.port k p).attached = true → s.running.length < 16 →
    exec (.portCastOn r) s =
      .next ((((s.startJob 0x0102 r k 9 [word p]).startCast k p ((s.startJob 0x0102 r k 9 [word p]).recastStep k p)
        (some (reqField r 12 0 2, reqField r 12 2 2))).castJobStep k p).answerJob 0x0102 r s.newJobNum [])) ∧
  (∀ r s k p, admitted cmdPortBindOff r s → k = reqTarget r → p = reqSub r → p < 4 → (reqWord r 12).toNat ≤ 1000 →
    s.portState k p = 3 → (portHeld s k p).1 = false → s.running.length < 16 →
    exec (.portBindOff r) s =
      .next (((((s.startJob 0x0103 r k 5 [word p]).endPortJob k p 0x0102 .failed 0x0201 0).startBind k p 1 (drainOf (reqWord r 12).toNat)).sendMsg
        k p 0x0181 [word (drainOf (reqWord r 12).toNat)]).answerJob 0x0103 r s.newJobNum [])) ∧
  (∀ r s k p, admitted cmdPortPowerState r s → k = reqTarget r → p = reqSub r → p < 4 → reqField r 12 0 2 ≠ 3 →
    64 ≤ (reqWord r 16).toNat → (reqWord r 16).toNat ≤ 65535 → 1 ≤ (reqWord r 20).toNat → (reqWord r 20).toNat ≤ 1000 →
    s.portState k p = 3 → reqBit r 12 8 = false →
    exec (.portPowerState r) s =
      .next ((((s.setPolicy k p (reqField r 12 0 2)).setReg (Reg.LNK_SHELL_IDLE k p) (reqWord r 16)).setReg (Reg.LNK_HUSK_IDLE k p)
        (reqWord r 20)).answer 0x0104 r [])) ∧
  (∀ r s k p, admitted cmdPortEqSelect r s → k = reqTarget r → p = reqSub r → p < 4 → reqField r 12 0 8 ≤ 15 → s.portState k p ≠ 6 →
    exec (.portEqSelect r) s =
      .next (((s.setRb (Reg.LNK_EQ_SEL k p) 8 true).setRf (Reg.LNK_EQ_SEL k p) 12 4 (reqField r 12 0 8)).answer 0x0105 r [])) ∧
  (∀ r s k p, admitted cmdPortAlignMode r s → k = reqTarget r → p = reqSub r → p < 4 → s.portState k p ∈ [0, 1, 5, 6] → reqBit r 12 0 = true →
    exec (.portAlignMode r) s = .next ((s.setPortState k p 6).answer 0x0106 r [])) ∧
  (∀ r s k p a, admitted cmdPortBitSlip r s → k = reqTarget r → p = reqSub r → p < 4 → 1 ≤ (reqWord r 16).toNat → (reqWord r 16).toNat ≤ 194 →
    s.portState k p = 6 → a = Reg.LANE_ALIGN k p (reqField r 12 0 1) → reqBit r 12 8 = false →
    exec (.portBitSlip r) s =
      .next (let t := s.setRf a 0 8 ((s.rf a 0 8 + (reqWord r 16).toNat) % 195)
             t.fresh.2.answer 0x0107 r [setFld (t.reg a) 16 6 (t.fresh.1.toNat % 33)])) ∧
  (∀ r s k p, admitted cmdPortPrbs r s → k = reqTarget r → p = reqSub r → p < 4 → reqField r 12 0 2 = 1 → s.portState k p = 6 →
    exec (.portPrbs r) s =
      .next ((s.setPort k p { s.port k p with prbs := (s.port k p).prbs ||| reqField r 12 8 2 }).answer 0x0108 r [])) ∧
  (∀ r s k p, admitted cmdPlyForm r s → k = reqTarget r → p = reqSub r → p ∈ [0, 2] → reqField r 12 0 1 = 0 → s.portState k p = 3 →
    s.portState k (p + 1) = 3 → (portHeld s k p).1 = false → (portHeld s k (p + 1)).1 = false → s.tightCondition k p → s.running.length < 16 →
    exec (.plyForm r) s =
      .next (((s.startJob 0x0109 r k 5 [word p, 0, reqWord r 16]).sendPlyReq k p 0 (reqWord r 16).toNat).answerJob 0x0109 r s.newJobNum [])) ∧
  (∀ r s k p, admitted cmdPlySplit r s → k = reqTarget r → p = reqSub r → p < 4 → s.isTight k p → s.portCtxs k p = [] → s.portRoutes k p = [] →
    (portHeld s k p).1 = false → s.running.length < 16 →
    exec (.plySplit r) s =
      .next (((let t := s.startJob 0x010A r k 1 [word p]
               if t.isTight k p then t.tightApart k (p / 2 * 2) else t).endJob s.newJobNum .done 0 0).answerJob 0x010A r s.newJobNum []))

/-- A role swap. The request draws a token and asks the far end; the far end's request is refused, or accepted by its echo; after the acknowledgement
the role flips at the row named, and once the functions are back the tunnels resume and the job ends DONE. Rests on parts of R159 to R161 (Table 4.20). -/
def Obligations.RoleSwapsRun : Prop :=
  (∀ r s k p, admitted cmdRoleSwapRequest r s → k = reqTarget r → p = reqSub r → p < 4 → s.portState k p = 3 → s.prefersRole k p = false →
    s.swapUnsettled k p = false → s.drbgUp k → (s.port k p).swap = none → s.formsPly k p = false → s.running.length < 16 →
    exec (.roleSwapRequest r) s =
      .next (let w : RoleSwap := { priority := reqField r 12 0 8, token := fld s.fresh.1 0 16, attempt := 1, job := some s.newJobNum }
             (((s.fresh.2.startJob 0x010B r k 3 [word p]).setSwap k p (some w)).sendMsg k p 0x0188 [swapWord w]).answerJob 0x010B r s.newJobNum
               [])) ∧
  (∀ k p tag prio tok att s c, s.hears k p → (s.port k p).swap = none → (s.taken k p).swapRefusal k p = some c →
    exec (.roleSwap k p tag prio tok att) s =
      .next ((s.taken k p).sendAnswer k p 0x018A tag [packWord [(0, 16, c.1), (16, 16, c.2)]])) ∧
  (∀ k p tag prio tok att s, s.hears k p → (s.port k p).swap = none → (s.taken k p).swapRefusal k p = none →
    exec (.roleSwap k p tag prio tok att) s = .next ((s.taken k p).acceptSwap k p tag prio tok att none)) ∧
  (∀ k p s x, s.hears k p → (s.port k p).swap = some x → x.acked = false → x.waiting = false →
    exec (.roleSwapAck k p) s =
      .next ((((s.taken k p).setSwap k p (some { x with acked := true, flipRow := (s.taken k p).rowNow k p + 3 })).holdForSwap k p).stepPortJob k p
        0x010B 2)) ∧
  (∀ k p status s x, s.hears k p → (s.port k p).swap = some x → x.acked = false →
    exec (.roleSwapNak k p status) s =
      .next (((s.taken k p).setSwap k p none).endPortJob k p 0x010B .failed 0x0401 status)) ∧
  (∀ k p s x, s.hasPort k p → (s.port k p).swap = some x → x.acked = true → x.flipped = false → x.flipRow ≤ s.rowNow k p →
    exec (.roleFlip k p) s =
      .next (((((s.setRf (Reg.LNK_STATE k p) 6 1 (1 - s.rf (Reg.LNK_STATE k p) 6 1)).setSwap k p (some { x with flipped := true })).roleSync k
        p).log k Ev.roleSwapped p [1 - s.rf (Reg.LNK_STATE k p) 6 1, if x.farAsked then 0 else x.job.getD 0]).stepPortJob k p 0x010B 3)) ∧
  (∀ k p s x, s.hasPort k p → (s.port k p).swap = some x → x.waiting = true →
    exec (.roleSwapRetry k p) s =
      .next (let y : RoleSwap := { x with token := fld s.fresh.1 0 16, attempt := x.attempt + 1, waiting := false }
             (s.fresh.2.setSwap k p (some y)).sendMsg k p 0x0188 [swapWord y])) ∧
  (∀ k p s x, s.hasPort k p → (s.port k p).swap = some x → x.acked = false → x.waiting = false →
    exec (.roleSwapTimeout k p) s = .next ((s.setSwap k p none).endPortJob k p 0x010B .failed 0x0402 0)) ∧
  (∀ k p s x, s.hasPort k p → (s.port k p).swap = some x → x.flipped = true →
    exec (.roleSwapDone k p) s =
      .next (((s.forCtxs ((s.heldCtxs k p).filter fun c => s.tunType c.1 c.2 == 4 || s.tunType c.1 c.2 == 5) fun s n t =>
        s.resumeCtx n t 0x0188).setSwap k p none).endPortJob k p 0x010B .done 0 (if x.farAsked then 1 else 0)))

/-! ### Attach, cast-on and link messages -/

/-- Attach and lanes. A module that is plugged in is attached and powered, one that is ready shows its equalisation row, one that leaves detaches its
port; a training burst on all lanes locks them, and step 3 goes on once both ends are locked, or fails with 0x04 where the skew is above 8; headers
are counted, and a lane with 8 invalid ones in 32 loses lock; a port that does not relock is lost; the Backoff wait ends in a new cast-on. Rests on
parts of R96 to R99, R104, R105, R115, R116. -/
def Obligations.AttachAndLanesFollow : Prop :=
  (∀ k p s, s.hasPort k p → isTypeC k p = false → (s.port k p).attached = false → s.kernelState k ≠ 2 →
    exec (.moduleAttach k p) s =
      .next (s.setPort k p { s.port k p with attached := true, ready := false, modulePower := true, noMode := false })) ∧
  (∀ k p m l o c s, s.hasPort k p → (s.port k p).attached = true → (s.port k p).ready = false → s.castAt k p 1 = false →
    exec (.moduleReady k p m l ⟨o, c⟩) s =
      .next (s.setPort k p { s.port k p with
        ready := true, media := (s.matchModule k p m l o).1, slowIdle := (s.matchModule k p m l o).2, modRate := c })) ∧
  (∀ k p s, s.hasPort k p → (s.port k p).attached = true → exec (.moduleDetach k p) s = .next (s.detachPort k p)) ∧
  (∀ k p n a b c d s ls, s.hasPort k p → s.castAt k p 3 → s.trainLocks k p ([a, b, c, d].take n) = some ls → skewOf ls ≤ 8 →
    (ls.all fun a => a.2.2.rxlock) = true → exec (.trainRx k p n a b c d) s = .next (((s.lockTrain k p ls).startIdent k p).castJobStep k p)) ∧
  (∀ k p n a b c d s ls, s.hasPort k p → s.castAt k p 3 → s.trainLocks k p ([a, b, c, d].take n) = some ls → skewOf ls ≤ 8 →
    (ls.all fun a => a.2.2.rxlock) = false → exec (.trainRx k p n a b c d) s = .next ((s.lockTrain k p ls).sendTrain k p true 1)) ∧
  (∀ k p n a b c d s ls, s.hasPort k p → s.castAt k p 3 → s.trainLocks k p ([a, b, c, d].take n) = some ls → 8 < skewOf ls →
    exec (.trainRx k p n a b c d) s = .next (s.castFail k p 0x04)) ∧
  (∀ k p l hs s h t, s.hasPort k p → l < 2 →
    h = hs.foldl (fun h b => (2 * h + (validHeader b).toNat) % 2 ^ 32) ((s.port k p).heads.getD l 0) →
    t = ((s.setPort k p { s.port k p with heads := (s.port k p).heads.set l h }).setRf (Reg.LANE_ALIGN k p l) 16 6 (validIn h)).bump
      (Reg.LANE_HDR_ERR k p l) (hs.countP fun b => !validHeader b) →
    (24 < validIn h → exec (.laneLockLoss k p ⟨l, hs⟩) s = .next t) ∧
    (validIn h ≤ 24 → t.rb (Reg.LANE_ALIGN k p l) 8 = true → t.portState k p ≠ 6 → exec (.laneLockLoss k p ⟨l, hs⟩) s = .next (t.loseLock k p l))) ∧
  (∀ k p s, s.hasPort k p → s.portState k p = 3 → (s.port k p).hunting ≠ 0 →
    exec (.relockTimeout k p) s =
      .next (((s.log k Ev.linkLost p [(s.port k p).hunting, s.rf (Reg.LNK_RELOCK_ROWS k p) 0 7]).portLost k p false).autoCast k p)) ∧
  (∀ k p s, s.hasPort k p → s.portState k p = 5 → exec (.backoffExpiry k p) s = .next (s.startCast k p (s.recastStep k p) none))

/-- Cast-on. A step that outlasts its limit fails with the reason of Table 3.6, step 9 where the control tunnel is not Open; IDENT keeps the partner's
identity and goes on; ROLE, RATE_GO and RATE_RESULT take the port through steps 6 and 7; a marker with TUNNEL_VALID opens it at step 8. A message in
fragments that are not those of R123 fails with 0x11. Rests on parts of R105 to R108, R123, R166 (Table 3.6). -/
def Obligations.CastOnStepsAdvance : Prop :=
  (∀ k p s n, s.hasPort k p → s.plyForming k p = false → s.portState k p = 2 → (s.castStep k p, n) ∈ [(1, 0x01), (3, 0x03), (4, 0x10), (8, 0x40)] →
    exec (.castOnStepTimeout k p) s = .next (s.castFail k p n)) ∧
  (∀ k p s, s.hasPort k p → s.plyForming k p = false → s.portState k p = 3 → s.castStep k p = 9 → s.tunState k (s.ctrlCtx k p) ≠ 2 →
    exec (.castOnStepTimeout k p) s = .next ((s.leaveOpen k p 2).castFail k p 0x41)) ∧
  (∀ k p blocks s body u t, s.hasPort k p → s.castGets k p 4 0x10 40 blocks = some (body, u) →
    t = (((u.setPort k p { u.port k p with ident := body, newFarTok := some (numAt body 28 8) }).setReg (Reg.LNK_PARTNER_ID_LO k p)
      (word (numAt body 0 4))).setReg (Reg.LNK_PARTNER_ID_HI k p) (word (numAt body 4 4))).checkSession k p →
    t.authMode k p ≠ 2 → byteAt body 9 / 16 % 4 ≠ 2 → exec (.ident k p blocks) s = .next (t.startAuth k p)) ∧
  (∀ k p blocks s, s.hasPort k p → s.castHears k p → s.castStep k p = 4 → s.castMsgs k p blocks ≠ [] →
    assemble 0x10 40 (s.castMsgs k p blocks) = none → exec (.ident k p blocks) s = .next ((s.receive k p blocks).2.castFail k p 0x11)) ∧
  (∀ k p blocks s body u x, s.hasPort k p → s.castGets k p 6 0x20 16 blocks = some (body, u) → (u.port k p).role = some x →
    byteAt body 0 / 2 % 2 = 0 → byteAt body 0 % 2 ≠ x → exec (.roleMsg k p blocks) s = .next ((u.startRate k p 1).castJobStep k p)) ∧
  (∀ k p blocks s body u, s.hasPort k p → s.castGets k p 7 0x30 16 blocks = some (body, u) → byteAt body 0 % 4 = (u.port k p).rateTry →
    exec (.rateGo k p blocks) s = .next ((u.setRate k p (u.port k p).rateTry).sendTrain k p false 1)) ∧
  (∀ k p e0 e1 b s, s.hasPort k p → s.castAt k p 7 → (s.port k p).myErr = none →
    exec (.prbsWindowEnd k p e0 e1 b) s =
      .next (((((s.setPort k p { s.port k p with myErr := some (e0, e1) }).bump (Reg.LANE_PRBS_ERR k p 0) e0).bump (Reg.LANE_PRBS_ERR k p 1)
        e1).castSend k p 0x31 (numBytes (s.port k p).rateTry 4 ++ numBytes e0 4 ++ numBytes e1 4 ++ numBytes b 4)).rateVerdict k p)) ∧
  (∀ k p blocks s body u, s.hasPort k p → s.castGets k p 7 0x31 16 blocks = some (body, u) →
    exec (.rateResult k p blocks) s = .next ((u.setPort k p { u.port k p with farRes := some body }).rateVerdict k p)) ∧
  (∀ k p blocks s row e u, s.hasPort k p → s.castAt k p 8 → s.receiveMarker k p blocks = (some (row, e, true), u) → u.castAt k p 8 →
    exec (.rowSync k p blocks) s = .next (((u.setRf (Reg.ROW_EPOCH k p) 16 16 e).portOpens k p).castJobStep k p))

/-- Authentication, step 5 of cast-on. AUTH_HELLO is answered with the certificate chain of the identity slot, a chain that holds with a signature, a
good signature with the confirmation tag; a good tag makes the port authenticated, with its traffic keys of phase 0. Rests on parts of R432 to R435. -/
def Obligations.LinkAuthenticationAdvances : Prop :=
  (∀ k p blocks s body u, s.hasPort k p → s.castGets k p 5 0x50 129 blocks = some (body, u) → (u.port k p).authGot = 0 →
    exec (.authHello k p blocks) s =
      .next ((u.setPort k p { u.port k p with authGot := 1 }).castSend k p 0x51 (u.certChain (fld (u.policyWord k p 0) 8 6)))) ∧
  (∀ k p anchor s, s.hasPort k p → s.castAt k p 5 → (s.port k p).authGot = 1 → s.isAnchor k p anchor → s.engineUp →
    exec (.authCert k p (s.partnerHash k p) anchor true true) s =
      .next (let f := (s.setPort k p { s.port k p with authGot := 2 }).freshBytes 96
             f.2.castSend k p 0x52 f.1)) ∧
  (∀ k p s, s.hasPort k p → s.castAt k p 5 → (s.port k p).authGot = 2 →
    exec (.authSig k p true) s =
      .next (let f := (s.setPort k p { s.port k p with authGot := 3 }).freshBytes 16
             f.2.castSend k p 0x53 f.1)) ∧
  (∀ k p s, s.hasPort k p → s.castAt k p 5 → (s.port k p).authGot = 3 →
    exec (.authDone k p true) s =
      .next (let t := ((((s.setRb (Reg.LNK_STATE k p) 7 true).setReg (Reg.CRYPT_STATUS k p) 1).setReg (Reg.CRYPT_TX_PN_LO k p) 0).setReg
               (Reg.CRYPT_TX_PN_HI k p) 0)
             ((t.setPort k p { t.port k p with phase := 0, phaseAt := t.now, rxPhase := 0, oldKeys := false }).startRole k p).castJobStep k p)) ∧
  (∀ k p s, s.hasPort k p → s.castAt k p 5 → (s.port k p).authGot = 2 →
    exec (.authSig k p false) s = .next ((s.log k Ev.linkAuthFail p [p, 0x52]).castFail k p 0x52))

/-- A marker without a good ROW_MARK leaves the position counted, one with a new epoch is acknowledged with EPOCH_ACK; an Open port that the policy
allows and whose stitches have been idle enters Shell, and once its 32 lane blocks are over leaves it; SHELL_ENTER and HUSK_ENTER are obeyed; the Husk
messages are answered: HUSK_ACK takes a port that asked into Husk, HUSK_NAK leaves it awake, and a port that leaves Husk wakes the part from Quiet,
trains and sends TIME_INFO. Rests on parts of R90, R109 to R112, R148, R454. -/
def Obligations.MarkersAndLowPowerStatesFollow : Prop :=
  (∀ k p b bs s u, s.hasPort k p → s.portState k p ∈ [3, 4] → s.receiveMarker k p (b :: bs) = (none, u) → exec (.rowMarkRx k p b bs) s = .next u) ∧
  (∀ k p b bs s row e v u, s.hasPort k p → s.portState k p ∈ [3, 4] → s.receiveMarker k p (b :: bs) = (some (row, e, v), u) →
    u.portState k p ∈ [3, 4] → u.rf (Reg.ROW_EPOCH k (u.rowPort k p)) 16 16 ≠ e →
    exec (.rowMarkRx k p b bs) s =
      .next ((u.setRf (Reg.ROW_EPOCH k (u.rowPort k p)) 16 16 e).sendMsg k p 0x0287 [packWord [(0, 16, e), (16, 2, p)]])) ∧
  (∀ k p s, s.hasPort k p → s.portOpen k p → s.rf (Reg.LNK_STATE k p) 4 2 = 0 → 1 ≤ s.rf (Reg.LNK_CTRL k p) 0 2 →
    (s.port k p).slowIdle = false → s.rf (Reg.LNK_SHELL_IDLE k p) 0 16 ≤ (s.port k (s.linePort k p)).idleRun → s.cellWaits k p = false →
    exec (.shellIdleExpiry k p) s = .next (s.enterShell k p)) ∧
  (∀ k p blocks s, s.hasPort k p → s.portOpen k p → (controlsOf (s.receive k p blocks).1).any (· == .shellEnter) = true →
    exec (.shellEnterRx k ⟨p, blocks⟩) s =
      .next ((s.receive k p blocks).2.setPort k p { (s.receive k p blocks).2.port k p with rxShell := true })) ∧
  (∀ k p s, s.hasPort k p → s.rf (Reg.LNK_STATE k p) 4 2 = 1 →
    (s.port k (s.linePort k p)).shellUntil ≤ (s.port k (s.linePort k p)).laneBlock (s.laneCount k p) →
    exec (.shellExit k p) s = .next (s.leaveShell k p)) ∧
  (∀ k p s, s.hasPort k p → s.portOpen k p → s.rf (Reg.LNK_STATE k p) 4 2 ≠ 2 → s.huskRefusal k p = none → (s.port k p).huskAsked = false →
    exec (.huskIdleExpiry k p) s = .next (s.askHusk k p)) ∧
  (∀ k p tag s, s.hears k p → (s.port k p).huskAsked = false → (s.taken k p).huskRefusal k p = none →
    exec (.huskReq k p tag) s = .next (((s.taken k p).sendAnswer k p 0x0184 tag []).enterHusk k p)) ∧
  (∀ k p tag s c, s.hears k p → (s.port k p).huskAsked = false → (s.taken k p).huskRefusal k p = some c →
    exec (.huskReq k p tag) s = .next ((s.taken k p).sendAnswer k p 0x0185 tag [word c])) ∧
  (∀ k p blocks s, s.hasPort k p → s.portOpen k p → s.rf (Reg.LNK_STATE k p) 4 2 ≠ 2 →
    (controlsOf (s.receive k p blocks).1).any (· == .huskEnter) = true →
    exec (.huskEnterRx k ⟨p, blocks⟩) s = .next ((s.receive k p blocks).2.enterHusk k p)) ∧
  (∀ k p s, s.hears k p → ((s.taken k p).port k p).huskAsked = true →
    exec (.huskAck k p) s = .next ((s.taken k p).enterHusk k p)) ∧
  (∀ k p code s, s.hears k p → ((s.taken k p).port k p).huskAsked = true → s.stateJob 1 = none →
    exec (.huskNak k p code) s = .next ((s.taken k p).setPort k p { (s.taken k p).port k p with huskAsked := false })) ∧
  (∀ k p far s, s.hasPort k p → s.portOpen k p → s.rf (Reg.LNK_STATE k p) 4 2 = 2 →
    exec (.huskExit k ⟨p, far⟩) s = .next ((s.wakePart 32).leaveHusk k p far))

/-- Bind-off and plies. BIND_REQ is acknowledged and starts bind-off here too, BIND_ACK or 50 ms without one let the drain begin, and the drain's end
or BIND_END takes the port Off; PLY_REQ is answered as R119 says, and PLY_NAK fails the job. Rests on parts of R114, R117, R119. -/
def Obligations.BindOffAndPlyMessagesRun : Prop :=
  (∀ k p tag drain s, s.hears k p → s.portState k p = 3 →
    exec (.bindReq k p tag drain) s =
      .next (((((s.taken k p).sendAnswer k p 0x0182 tag []).startBind k p 2 (drainOf drain)).bindDrain k p).stepPortJob k p 0x0103 2)) ∧
  (∀ k p s, s.hears k p → s.portState k p = 4 → (s.port k p).bindCause ≠ 2 →
    exec (.bindAck k p) s = .next (((s.taken k p).bindDrain k p).stepPortJob k p 0x0103 2)) ∧
  (∀ k p s, s.hasPort k p → s.portState k p = 4 → (s.port k p).bindCause ≠ 2 →
    exec (.bindTimeout k p) s = .next (((s.setPort k p { s.port k p with bindCause := 4 }).bindDrain k p).stepPortJob k p 0x0103 2)) ∧
  (∀ k p s, s.hasPort k p → s.portState k p = 4 → exec (.bindDrainEnd k p) s = .next (s.bindEnds k p)) ∧
  (∀ k p blocks s u c, s.hasPort k p → u = (s.receive k p blocks).2 → Control.bindEnd c ∈ controlsOf (s.receive k p blocks).1 →
    (u.portState k p = 3 → exec (.bindEndRx k ⟨p, blocks⟩) s = .next ((u.startBind k p 2 0).bindEnds k p)) ∧
    (u.portState k p = 4 → exec (.bindEndRx k ⟨p, blocks⟩) s = .next (u.bindEnds k p)) ∧
    (u.portState k p = 2 → exec (.bindEndRx k ⟨p, blocks⟩) s = .next (u.castOff k p 2))) ∧
  (∀ k p tag kind s, s.hears k p → exec (.plyReq k p tag kind) s = .next ((s.taken k p).plyRequest k p tag kind)) ∧
  (∀ k p status s j, s.hears k p → s.plyJob? [(k, p)] = some j →
    exec (.plyNak k p status) s = .next ((s.taken k p).failPly j 0x0401 status))

/-! ### Tunnels and rows -/

/-- The tunnel and raw-route commands whose effect is one change of state. TUN_OPEN of a direct tunnel, its context chosen by the part, sets the context
up as Opening, held by the job, and asks the far end with OPEN_REQ; a port in Husk wakes first. TUN_CLOSE drains; TUN_MODIFY and TUN_RELEASE write or
close; a raw route is added with its gauge, deleted and read. Rests on parts of R113, R126, R129, R138, R142, R164, R167, R168 (Tables 4.15, 4.16). -/
def Obligations.TunnelCommandsRun : Prop :=
  (∀ r s k t, allowed cmdTunClose r s → k = reqTarget r → t = (reqWord r 12).toNat → s.tunState k t = 2 → s.ctxJob k t = none →
    s.running.length < 16 →
    exec (.tunClose r) s =
      .next (((((((((s.startJob 0x0202 r k 2 [word t]).adapterDrain k t).holdCtx k t (some s.newJobNum)).sendCloseReq k t
        (drainOf (reqWord r 16).toNat)).moveCtx k t 3 0x0202).jobStep s.newJobNum 2).closeProgress k t)).answerJob 0x0202 r s.newJobNum [])) ∧
  (∀ r s, admitted cmdTunInfo r s → reqSub r = 0 → (reqWord r 12).toNat ≤ 511 →
    exec (.tunInfo r) s = .next (s.answer 0x0203 r ((List.range 16).map (s.ctxWord (reqTarget r) (reqWord r 12).toNat)))) ∧
  (∀ r s k t, admitted cmdTunModify r s → reqSub r = 0 → k = reqTarget r → t = (reqWord r 12).toNat → t ≤ 511 →
    reqField r 16 0 2 ≤ 1 → s.tunState k t = 0 →
    exec (.tunModify r) s = .next ((s.setReg (Reg.TUN_OPTS k t) (reqWord r 16 &&& 0x733)).answer 0x0204 r [])) ∧
  (∀ r s k t, allowed cmdTunRelease r s → k = reqTarget r → t = (reqWord r 12).toNat → reqBit r 16 0 = false → s.tunState k t ∈ [4, 5] →
    s.ctxJob k t = none → exec (.tunRelease r) s = .next ((s.closeCtx k t 0x0205).answer 0x0205 r [])) ∧
  (∀ r s, admitted cmdResumeWindowSet r s → reqSub r < 4 → (reqWord r 12).toNat ≤ 10000 →
    exec (.resumeWindowSet r) s = .next ((s.setReg (Reg.TUN_RESUME (reqTarget r) (reqSub r)) (reqWord r 12)).answer 0x0206 r [])) ∧
  (∀ r s k n, allowed cmdRawRouteSet r s → k = reqTarget r → n = (reqWord r 12).toNat → reqBit r 16 31 = false → s.routeValid k n = true →
    exec (.rawRouteSet r) s = .next ((s.dropRoute k n).answer 0x0207 r [])) ∧
  (∀ r s k n ip inL ek ep outL g, allowed cmdRawRouteSet r s → k = reqTarget r → n = (reqWord r 12).toNat → ip = reqField r 16 0 2 →
    inL = reqField r 16 16 12 → ek = reqField r 20 0 3 → ep = reqField r 20 4 2 → outL = reqField r 20 16 12 → g = reqField r 24 0 11 →
    reqBit r 16 31 = true → reqBit r 20 30 = false → s.routeValid k n = false → s.reaches k ek → s.routeIn? k ip inL = none →
    s.labelHasSource ek ep outL = false → (inL / 512, inL % 512) ∉ s.portCtxs k ip → inL / 512 ≠ k → g ≤ s.freeFor ek ep (some outL) →
    exec (.rawRouteSet r) s =
      .next ((let u := ((s.clearRoute k n).setReg (Reg.RAW_ROUTE_A k n) (packWord [(0, 2, ip), (16, 12, inL), (31, 1, 1)])).setReg
                (Reg.RAW_ROUTE_B k n) (packWord [(0, 3, ek), (4, 2, ep), (16, 12, outL), (30, 1, 0)])
              u.place (u.routeEgress k n).1 (u.routeEgress k n).2 outL g).answer 0x0207 r [])) ∧
  (∀ r s k n, admitted cmdRawRouteRead r s → reqSub r = 0 → k = reqTarget r → n = (reqWord r 12).toNat → n ≤ 1023 →
    exec (.rawRouteRead r) s =
      .next (s.answer 0x0307 r [s.reg (Reg.RAW_ROUTE_A k n), s.reg (Reg.RAW_ROUTE_B k n),
        word (s.gauge (s.routeEgress k n).1 (s.routeEgress k n).2 (s.routeOutLabel k n))])) ∧
  (∀ r s k t ek ep a g par, allowed cmdTunOpen r s → k = reqTarget r → a = reqField r 12 20 4 → ek = reqField r 16 0 3 →
      ep = reqField r 16 4 2 → g = reqField r 20 0 11 → par = (reqBytes r 28).take (reqField r 24 16 16) → reqField r 12 0 16 = 0xFFFF →
      reqBit r 12 24 = false → reqBit r 24 12 = false →
      s.freeCtx? k ek ep = some t → s.portOpen ek ep → s.reaches k ek → s.rb (Reg.TUN_OPTS k t) 5 = false → (s.port ek ep).swap = none →
      (∀ c ∈ s.adapterChecks true k a ek ep par, c.1 = false) → s.adapterCtx? k a = none → s.routeIn? ek ep (512 * k + t) = none →
      g ≤ s.freeFor (s.plyHead ek ep).1 (s.plyHead ek ep).2 none → s.running.length < 16 →
      exec (.tunOpen r) s =
        .next (let u := ((s.startJob 0x0201 r k 3 [word t]).wakeHusk (s.plyHead ek ep).1 (s.plyHead ek ep).2).setCtx k t
                 { pendGauge := g, gaugeTx := g, gaugeRx := reqField r 20 16 11, typePar := par, unknown := true }
               let v := u.setupCtx k t (reqField r 12 16 4) a ek ep (reqField r 16 8 4) (reqField r 16 12 3) 0 false (some (reqField r 24 0 7))
                 (reqField r 24 8 4)
               (((v.moveCtx k t 1 0x0201).holdCtx k t (some s.newJobNum)).jobStep s.newJobNum 2 |>.sendOpenReq k t).answerJob 0x0201 r s.newJobNum
                 [packWord [(0, 9, t), (16, 12, 512 * k + t)]]))

/-- The row and re-gauge commands. The tables are read and the shadow is written, a tight ply's under its first member; ROW_SWAP arms a swap and the
ceiling is set, each where the reservations allow it. A REGAUGE without partner routes whose entries pass starts its job at once, unless it would exceed a
ceiling; a rollback without partner ports goes back to the old gauges. Rests on parts of R147, R150, R152, R154, R155, R158 (Tables 4.15, 4.16). -/
def Obligations.RowAndGaugeCommandsRun : Prop :=
  (∀ r s k p, allowed cmdRowTableRead r s → k = reqTarget r → p = reqSub r →
    exec (.rowTableRead r) s =
      .next (s.answer 0x0301 r (s.reg (Reg.ROW_EPOCH k (s.rowPort k p)) :: (List.range (reqWord r 20).toNat).map fun i =>
        word (if s.rowPort k p = p then s.rowEntry (reqBit r 12 0) k p ((reqWord r 16).toNat + i) else 0)))) ∧
  (∀ r s k p, allowed cmdRowShadowWrite r s → k = reqTarget r → p = reqSub r → s.swapArmed k p = false → s.rowHeld k p = false →
    exec (.rowShadowWrite r) s =
      .next (let t := if s.rowPort k p ≠ p then s else (List.range (reqWord r 16).toNat).foldl (fun t i =>
               t.setRowEntry true k p ((reqWord r 12).toNat + i) (reqField r (20 + 4 * i) 0 16)) s
             (match r.via with | .link a b => t.holdFar k p (some (a, b)) | _ => t).answer 0x0302 r [])) ∧
  (∀ r s k p, admitted cmdRowSwap r s → k = reqTarget r → p = reqSub r → p < 4 → s.swapArmed k p = false → s.shadowStray k p = false →
    s.rowHeld k p = false → s.reserved true k p + s.pendingGauge k p ≤ s.ceiling k p →
    exec (.rowSwap r) s = .next ((s.armSwap k p).answer 0x0303 r [])) ∧
  (∀ r s k p, admitted cmdGaugeCeilingSet r s → k = reqTarget r → p = reqSub r → p < 4 →
    reqField r 12 0 11 ≤ (if s.isTight k p then 1840 else 920) → s.rowHeld k p = false → s.reservedAll k p ≤ reqField r 12 0 11 →
    exec (.gaugeCeilingSet r) s = .next ((s.setReg (Reg.ROW_CEIL k (s.rowPort k p)) (word (reqField r 12 0 11))).answer 0x0306 r [])) ∧
  (∀ r s, allowed cmdRegauge r s → passes (s.gaugeChecks r (reqTarget r)) → s.gaugeLink r = none →
    s.gaugeOver? ((gaugeEntries r).map fun e => s.gaugeNearItem e.2) [] = none →
    exec (.regauge r) s =
      .next (let g := s.newGauge ((gaugeEntries r).map fun e => s.gaugeNearItem e.2) (0, 0) []
             (s.startGauge 0x0304 r (reqTarget r) g).answerJob 0x0304 r s.newJobNum [word g.plan.length])) ∧
  (∀ r s j g, allowed cmdRegaugeRollback r s → s.gaugeJob? (reqWord r 12).toNat = some j → j.gauge = some g →
    passes (s.rollbackChecks j g) → farPorts (s.rollbackItems g) = [] → s.gaugeOver? (s.rollbackItems g) [] = none →
    exec (.regaugeRollback r) s =
      .next (let g' := s.newGauge (s.rollbackItems g) (g.linkK, g.linkP) (g.ports.filter (·.unreached))
             (s.startGauge 0x0305 r (reqTarget r) g').answerJob 0x0305 r s.newJobNum [word g'.plan.length]))


/-- The messages that open and close tunnels. OPEN_REQ is accepted or refused by the first condition of R139 that holds; OPEN_ACK opens the context
under its OUT_LABEL; OPEN_NAK, or no answer, closes it; CLOSE_REQ drains it, CLOSE_DONE and the drain's end close it. Rests on parts of R139 to R142, R166,
R167. -/
def Obligations.OpenAndCloseMessagesRun : Prop :=
  (∀ k p tag w s q, s.hears k p → q = openReqOf w → (s.taken k p).crossing k p q = none →
    ((s.taken k p).openConditions k p q).find? (·.1) = none →
    exec (.openReq k p tag none w) s = .next ((s.taken k p).acceptOpen k p tag q)) ∧
  (∀ k p tag w s q c, s.hears k p → q = openReqOf w → (s.taken k p).crossing k p q = none →
    ((s.taken k p).openConditions k p q).find? (·.1) = some c →
    exec (.openReq k p tag none w) s = .next ((s.taken k p).sendAnswer k p 0x0283 tag [packWord [(0, 16, c.2.1), (16, 16, c.2.2)]])) ∧
  (∀ k p tag label s n t, s.hears k p → (s.taken k p).ctxByTag k p tag [1] = some (n, t) → (s.taken k p).labelTaken n t label = false →
    exec (.openAck k p tag label none) s = .next (((s.taken k p).learnLabel n t label).openDone n t 0x0282)) ∧
  (∀ k p tag status s c, s.hears k p → (s.taken k p).ctxByTag k p tag [1] = some c →
    exec (.openNak k p tag status none) s =
      .next (((s.taken k p).endCtxJob c.1 c.2 .failed .partnerRefused status).closeCtx c.1 c.2 0x0283)) ∧
  (∀ k t s, s.hasCtx k t → s.tunState k t = 1 →
    exec (.openTimeout k t) s = .next ((s.endCtxJob k t .failed .partnerTimeout 0).closeCtx k t 0x0201)) ∧
  (∀ k t s, s.hasCtx k t → s.tunState k t = 1 → s.rb (Reg.TUN_CTRL k t) 12 = true →
    exec (.prearrangedOpenResend k t) s = .next (s.sendOpenReq k t)) ∧
  (∀ k p tag label drain s n t, s.hears k p → n = labelK label → t = labelT label → s.hasKernel n → 8 ≤ t → s.tunState n t = 2 →
    (s.taken k p).legOn? n t k p = none →
    exec (.closeReq k p tag label drain) s =
      .next (let u := ((s.taken k p).gaugeTunLost n t).adapterDrain n t
             let v := (u.setCtx n t { u.ctx n t with doneTag := some tag }).moveCtx n t 3 0x0284
             (v.setPort k p { v.port k p with drainMs := drainOf drain }).closeProgress n t)) ∧
  (∀ k p tag label s c, s.hears k p → (s.taken k p).ctxByTag k p tag [3] = some c →
    exec (.closeDone k p tag label) s =
      .next (((s.taken k p).setCtx c.1 c.2 { (s.taken k p).ctx c.1 c.2 with doneRcvd := true }).closeProgress c.1 c.2)) ∧
  (∀ k t s, s.hasCtx k t → s.tunState k t = 3 →
    exec (.closeDrainExpiry k t) s = .next ((s.endCtxJob k t .done .done 0).closeCtx k t 0x0284))

/-- What comes on a control tunnel beside them. CREDIT entries are applied one by one; without one for four row periods a source sends again what is
not acknowledged; EPOCH_ACK lets a re-gauge go on, and a step that takes too long stops it; the resume lists pair the Held tunnels, which close
when no list comes or the window ends; violations and quarantine are logged and obeyed. Rests on parts of R144, R148, R155, R162, R164 to R167, R184. -/
def Obligations.CreditResumeAndViolationMessagesRun : Prop :=
  (∀ k p es s, s.hears k p → exec (.credit k p es) s = .next (es.foldl (fun t w => t.creditEntry k p w) (s.taken k p))) ∧
  (∀ k t p s, s.hasCtx k t → (s.ctxAt k t p).unacked = [] →
    exec (.replayTimeout k t p false) s = .next (s.setCtxAt k t p { s.ctxAt k t p with unacked := [] })) ∧
  (∀ k t p s u, s.hasCtx k t → (s.ctxAt k t p).unacked ≠ [] → u = s.setCtxAt k t p { s.ctxAt k t p with unacked := [] } →
    exec (.replayTimeout k t p false) s =
      .next ((u.setCtxAt k t p { u.ctxAt k t p with txq := (s.ctxAt k t p).unacked ++ (u.ctxAt k t p).txq }).dropFetched fun x =>
        !x.raw && x.n == k && x.t == t && x.m == p)) ∧
  (∀ k n m s, s.hasKernel k → n < 1024 → m < 2 →
    exec (.replayTimeout k n m true) s =
      .next ((s.setRouteCtx (routeKey k n m) { s.routeCtx (routeKey k n m) with unacked := [] }).requeue (s.routeMember k n m).1
        (s.routeMember k n m).2 (routeKey k n m) (s.routeCtx (routeKey k n m)).unacked)) ∧
  (∀ k p e s n, s.hears k p → s.epochJob k p e = some n → exec (.epochAck k p e) s = .next ((s.taken k p).gaugeStepDone n e)) ∧
  (∀ n s, n ∈ s.gaugeJobs (fun _ => true) →
    exec (.regaugeStepTimeout n) s =
      .next (State.stopGauge (if s.allPorts.any fun e => (s.port e.1 e.2).remote.any (fun q => q.job == some n) then s.farUnreached n else s) n)) ∧
  (∀ k p w s y, s.hears k p → (s.port k p).pairing = true →
    y = (s.taken k p).setPort k p { s.port k p with
      lists := (fld (w.getD 0 0) 8 8, (resumeEntriesOf (w.drop 1)).take (fld (w.getD 0 0) 0 8)) ::
        (s.port k p).lists.filter (fun l => l.1 ≠ fld (w.getD 0 0) 8 8)
      lastPart := if bitAt (w.getD 0 0) 16 then some (fld (w.getD 0 0) 8 8) else (s.port k p).lastPart } →
    exec (.resumeList k p w) s = .next (if (y.port k p).listsWhole then y.pairTunnels k p else y)) ∧
  (∀ k p s, s.hasPort k p → s.portOpen k p → (s.port k p).pairing = true →
    exec (.resumePairingTimeout k p) s =
      .next (let u := s.forCtxs (s.heldCtxs k p) fun s n t => s.closeCtx n t portEvent
             (u.setPort k p { u.port k p with lists := [], lastPart := none, pairing := false, heldEnd := 0, mate := none }).endPortJob k p
               0x0102 .done 0 0)) ∧
  (∀ k p s, s.hasPort k p → (s.portOpen k p = false ∨ (s.port k p).pairing = true) → s.heldCtxs k p ≠ [] →
    exec (.resumeWindowExpiry k p) s =
      .next ((s.forCtxs (s.heldCtxs k p) fun s n t => s.closeCtx n t portEvent).log k Ev.resumeExpired p [(s.heldCtxs k p).length])) ∧
  (∀ k p cls label count s, s.hears k p → (s.port k p).noticeLog.find? (fun v => v.1 == cls) = none →
    exec (.violationNotice k p cls label count) s =
      .next (((s.taken k p).setPort k p { s.port k p with
        noticeLog := (cls, (s.port k p).row) :: (s.port k p).noticeLog.filter fun v => v.1 ≠ cls }).log k Ev.violationNotice p
          [cls, count, label])) ∧
  (∀ k p label cls s n t, s.hears k p → n = labelK label → t = labelT label → s.hasKernel n → 8 ≤ t → s.tunState n t = 2 →
    exec (.quarantine k p label cls) s =
      .next (let u := ((s.taken k p).gaugeTunLost n t).faultCtx n t 0x028A
             u.log n Ev.tunQuarantine t [cls, u.outLabel n t, 1]))

/-! ### The switch -/

/-- The buffer and scheduling commands. Skeins 2 to 5 are carved from 4 MiB on; thresholds, node weights and shapers take their words, and a shaper
set anew holds no tokens or its burst; a replication list is unbound or bound with its legs; a sampler is cleared and restarted, and read from one
instant. Rests on parts of R180, R183, R189, R197, R201, R203, R205 (Table 5.7). -/
def Obligations.SwitchCommandsRun : Prop :=
  (∀ r s k a b c, allowed cmdSkeinCarve r s → k = reqTarget r → (reqWord r 12).toNat * 65536 = a →
    (reqWord r 16).toNat * 65536 = b → (reqWord r 20).toNat * 65536 = c → a + b + c ≤ 0x2C00000 →
    (∀ i ∈ [2, 3, 4], s.skeinBusy k i = false) → s.diagJob k = none →
    exec (.skeinCarve r) s =
      .next ((s.setRegs
        [(Reg.SKEIN_BASE k 2, word 0x400000), (Reg.SKEIN_SIZE k 2, word a),
         (Reg.SKEIN_BASE k 3, word (0x400000 + a)), (Reg.SKEIN_SIZE k 3, word b),
         (Reg.SKEIN_BASE k 4, word (0x400000 + a + b)), (Reg.SKEIN_SIZE k 4, word c),
         (Reg.SKEIN_BASE k 5, word (0x400000 + a + b + c)),
         (Reg.SKEIN_SIZE k 5, word (0x2C00000 - a - b - c))]).answer 0x0401 r [])) ∧
  (∀ r s k, admitted cmdSkeinInfo r s → reqSub r = 0 → k = reqTarget r →
    exec (.skeinInfo r) s = .next (s.answer 0x0402 r ((List.range 6).flatMap fun i =>
      [s.reg (Reg.SKEIN_BASE k i), s.reg (Reg.SKEIN_SIZE k i), s.reg (Reg.SKEIN_KIND k i), s.skeinUse k i]))) ∧
  (∀ r s k n t, allowed cmdQueueThresholdSet r s → k = reqTarget r → reqBit r 12 31 = true → n = reqField r 12 0 3 → n < 6 →
    t = s.setReg (Reg.CLASS_THRESH k n) (packWord [(0, 4, reqField r 16 0 4), (8, 8, reqField r 16 8 8)]) → t.minTotal k ≤ s.bufFree k →
    exec (.queueThresholdSet r) s = .next (t.answer 0x0403 r [])) ∧
  (∀ r s k n, allowed cmdSchedNodeSet r s → k = reqTarget r → n = reqField r 12 0 10 → n < 576 →
    exec (.schedNodeSet r) s = .next ((s.setRf (Reg.Q_WEIGHT k n) 0 8 (reqField r 16 8 8)).answer 0x0404 r [])) ∧
  (∀ r s k n, allowed cmdSchedNodeSet r s → k = reqTarget r → n = reqField r 12 0 10 → 704 ≤ n →
    exec (.schedNodeSet r) s =
      .next ((s.setReg (Reg.SVC_NODE k ((n - 704) / 16) ((n - 704) % 16))
        (packWord [(0, 2, reqField r 16 0 2), (8, 8, reqField r 16 8 8), (16, 8, reqField r 16 16 8)])).answer 0x0404 r [])) ∧
  (∀ r s k n, allowed cmdShaperSet r s → k = reqTarget r → n = reqField r 12 0 10 → 576 ≤ n →
    exec (.shaperSet r) s =
      .next ((((s.setReg (Reg.SHP_RATE k n) (word (reqField r 16 0 28))).setReg (Reg.SHP_BURST k n)
        (packWord [(0, 24, reqField r 20 0 24), (24, 1, reqField r 20 24 1)])).resetTokens k n).answer 0x0405 r [])) ∧
  (∀ r s k l, allowed cmdMcastListSet r s → k = reqTarget r → l = reqField r 12 0 8 → reqField r 12 16 9 = 0x1FF →
    exec (.mcastListSet r) s =
      .next (((s.localLegs k (s.rf (Reg.MC_CTRL k l) 0 9)).foldl (fun t o => t.doutClosed (o / 2) (o % 2))
        (((List.range 15).foldl (fun t i => t.setReg (Reg.MC_LEG k l i) 0) (s.unbindList k l fun _ => false)).setReg (Reg.MC_CTRL k l)
          (packWord [(0, 9, 0x1FF), (16, 4, 0), (24, 7, reqField r 16 0 7)]))).answer 0x0406 r [])) ∧
  (∀ r s k q, allowed cmdLatSampleSet r s → k = reqTarget r → q = reqField r 12 0 10 →
    exec (.latSampleSet r) s =
      .next (((s.latClear k q).setReg (Reg.LAT_CTRL k q) (packWord [(0, 7, reqField r 16 0 7), (8, 8, reqField r 16 8 8)])).answer 0x0407 r [])) ∧
  (∀ r s k q, allowed cmdLatSampleRead r s → k = reqTarget r → q = reqField r 12 0 10 →
    exec (.latSampleRead r) s =
      .next ((if reqBit r 12 16 then s.latClear k q else s).answer 0x0408 r ((List.range 32).map fun i => s.reg (Reg.LAT_CTRL k q + 4 * i))))

/-- What happens in the switch beside them. A leg that is too late drops the rest of its packet; a fence lifts once its old path has drained; a sampler whose INTERVAL is
1 to 64
takes a sample; a write of LAT_CTRL restarts it; a seam that fails or returns re-pins the flows; the seam and store tests run as jobs. Rests on parts of
R83, R188, R191 to R193, R202, R203. -/
def Obligations.SwitchEventsAndTestsRun : Prop :=
  (∀ k t leg s, s.hasCtx k t → leg < 16 → s.ctxList? k t ≠ none → 
    exec (.residueAgeExpiry k t leg) s = .next (s.dropLeg k t (s.legPart k t leg) leg false)) ∧
  (∀ k h b s f, s.hasKernel k → h < 9 → b < 256 → f ∈ (s.kern k).fences → f.set = h → f.bucket = b → s.fenceDrained k f →
    exec (.fenceLift k h b) s = .next (s.liftFence k h b)) ∧
  (∀ k q s, s.hasKernel k → q < 576 → 1 ≤ s.rf (Reg.LAT_CTRL k q) 0 7 → s.rf (Reg.LAT_CTRL k q) 0 7 ≤ 64 →
    exec (.latSampleTick k q) s = .next (s.latTick k q)) ∧
  (∀ v k q w s, s.hasKernel k → q < 576 → fld w 0 7 ≤ 64 → fld w 8 8 ≠ 0 → s.noQueue k q = false →
    exec (.latCtrlWrite v k q w) s = .next ((s.latClear k q).setReg (Reg.LAT_CTRL k q) (packWord [(0, 7, fld w 0 7), (8, 8, fld w 8 8)]))) ∧
  (∀ k i s, s.hasKernel k → i < 3 → s.seamState k i = 2 → exec (.seamFailed k i) s = .next (s.failSeam k i)) ∧
  (∀ k i s, s.hasKernel k → i < 3 → s.seamState k i = 3 → exec (.seamUp k i) s = .next (s.raiseSeam k i)) ∧
  (∀ r s k i, allowed cmdDiagSeamTest r s → k = reqTarget r → i = reqSub r → seamPeer s.variant k i ≠ none → s.seamState k i = 2 →
    s.diagJob k = none → s.running.length < 16 →
    ∃ t, exec (.diagSeamTest r) s = .next (t.answerJob 0x1104 r s.newJobNum [3]) ∧
      (t = ((((s.startJob 0x1104 r k 3 [word i]).jobStep s.newJobNum 2).repin s true).showTest k s.newJobNum) ∨
       t = (s.startJob 0x1104 r k 3 [word i]).endJob s.newJobNum .failed 0x0201 0x111)) ∧
  (∀ k i e f s j, s.hasKernel k → i < 3 →
    s.findRunning (fun j => j.opcode == 0x1104 && j.kernel == k && (j.args.getD 0 0).toNat == i && j.step == 2) = some j → j.abort = false →
    e + f ≠ 0 →
    exec (.seamTestEnd k i e f) s =
      .next ((((s.jobStep j.num 3).log k Ev.diagSeamFail i [e, f]).endTest k j.num (e + f)).repin s false)) ∧
  (∀ r s k i, allowed cmdDiagStoreTest r s → k = reqTarget r → i = reqField r 12 0 3 → (i = 5 ∨ s.skeinBusy k i = false) → s.diagJob k = none →
    s.running.length < 16 →
    exec (.diagStoreTest r) s =
      .next (((s.startJob 0x1105 r k (ceilDiv (reqWord r 20).toNat 0x100000) [word i, reqWord r 16, reqWord r 20, 0, 0]).showTest k
        s.newJobNum).answerJob 0x1105 r s.newJobNum [word (ceilDiv (reqWord r 20).toNat 0x100000)])) ∧
  (∀ k fails first s j, s.hasKernel k → s.findRunning (fun j => j.opcode == 0x1105 && j.kernel == k) = some j → j.step ≠ j.steps →
    j.abort = false → (j.args.getD 3 0).toNat = 0 → fails < 4294967296 →
    exec (.storeTestStep k fails first) s =
      .next ((s.mapJob j.num fun x => { x with args := x.args.take 3 ++ [word fails, word first] }).jobStep j.num (j.step + 1)))

/-- A stitch at an Open port whose lanes hunt is lost; else its blocks are received, and a cell among them is sorted. A header whose HCHK is wrong is a
class 1 violation; a label of a raw route goes to the route, a label of a tunnel in Opening, Open or Draining to the tunnel; in Held or Fault the cell is
discarded and counted in TUN_DISCARD; any other label is a class 2 violation. Rests on parts of R90, R93, R99, R128, R133, R137 (Tables 4.3 and 4.13). -/
def Obligations.CellsAreSortedByTheirLabel : Prop :=
  ∀ k p b0 b1 b2 plain busy s t, s.hasPort k p → s.portState k p ∈ [3, 4] → t = (s.receive k p [b0, b1, b2]).2 →
    (s.lanesHunt k p = true → exec (.cellRx k p b0 b1 b2 plain busy) s = .next (s.loseStitch k p)) ∧
    (s.lanesHunt k p = false → cellOfBlocks (s.receive k p [b0, b1, b2]).1 = none → exec (.cellRx k p b0 b1 b2 plain busy) s = .next t) ∧
    (∀ bits raw c, s.lanesHunt k p = false → cellOfBlocks (s.receive k p [b0, b1, b2]).1 = some bits → raw = cellOfBits bits →
      c = { cellOf raw with stampPort := portKey k p, stamp := (t.port k p).stitch, stampRate := (t.port k p).rateChanges } →
      (crc8 (raw.take 7) ≠ raw.getD 7 0 → exec (.cellRx k p b0 b1 b2 plain busy) s = .next (t.violation k p 1 0 none).moveFlights) ∧
      (crc8 (raw.take 7) = raw.getD 7 0 → ∀ n i, t.routeIn? k p c.label = some (n, i) →
        exec (.cellRx k p b0 b1 b2 plain busy) s = .next (t.rxRoute k p n i (headerCount raw) c plain).moveFlights) ∧
      (crc8 (raw.take 7) = raw.getD 7 0 → t.routeIn? k p c.label = none → (t.port k p).pipFault = false → (t.port k p).timeFault = false →
        (t.labelCtx k p c.label [1, 2, 3] = true →
          exec (.cellRx k p b0 b1 b2 plain busy) s =
            .next (t.rxCtx k p (c.label / 512) (c.label % 512) (headerCount raw) c plain busy).moveFlights) ∧
        (t.labelCtx k p c.label [1, 2, 3] = false → t.labelCtx k p c.label [4, 5] = true →
          exec (.cellRx k p b0 b1 b2 plain busy) s = .next (t.bump (Reg.TUN_DISCARD (c.label / 512) (c.label % 512)) 1).moveFlights) ∧
        (t.labelCtx k p c.label [1, 2, 3] = false → t.labelCtx k p c.label [4, 5] = false →
          exec (.cellRx k p b0 b1 b2 plain busy) s = .next (t.violation k p 2 c.label none).moveFlights)))

/-- A sending port that is Awake moves the cells on the seams and begins a stitch within its row, in Shell it counts only, while Casting it sends its
cast-on messages; at a row boundary a pending swap and the CREDIT entries due are dealt with, and transit traffic held back counts; an adapter hands its
oldest packet to its tunnel, or a shared context takes the one given. Rests on parts of R85, R109, R123, R132, R144, R149, R231. -/
def Obligations.RowsAndHandoversAdvance : Prop :=
  (∀ k p late s, s.hasPort k p → s.sendsRows k p → s.portState k p ≠ 2 → s.rf (Reg.LNK_STATE k p) 4 2 ≠ 1 → 1 ≤ (s.port k p).pos →
    (s.port k p).pos < s.rowLen k p →
    exec (.stitchStart k p late) s = .next ((((s.moveFlights.admitPort k p).stitch k p late).closeDrained k p).portAdapters k p)) ∧
  (∀ k p late s, s.hasPort k p → s.sendsRows k p → s.portState k p ≠ 2 → s.rf (Reg.LNK_STATE k p) 4 2 = 1 → 1 ≤ (s.port k p).pos →
    (s.port k p).pos < s.rowLen k p → exec (.stitchStart k p late) s = .next (s.shellStitch k p)) ∧
  (∀ k p late s, s.hasPort k p → s.sendsRows k p → s.portState k p = 2 → 1 ≤ (s.port k p).pos → (s.port k p).pos < s.rowLen k p →
    exec (.stitchStart k p late) s = .next (s.castStitch k p)) ∧
  (∀ k p held s u, s.hasPort k p → s.sendsRows k p → u = s.moveFlights.rowStart k p → u.portState k p ≠ 2 →
    exec (.rowBoundary k p held) s =
      .next (if held then ((u.sendCredit k p).portBridges k p).bump (Reg.CORE_TRANSIT_HOLD k) 1 else (u.sendCredit k p).portBridges k p)) ∧
  (∀ k t p bytes busy s u, s.hasCtx k t → t < 8 → p < 4 → bytes ≠ [] → s.handover? k t p busy bytes = some u →
    exec (.packetHandover k t p bytes busy) s = .next u) ∧
  (∀ k t p bytes busy s u b l, s.hasCtx k t → 8 ≤ t → p < 4 → s.outboxOf k (s.tunAdapter k t) = b :: l → s.handover? k t p busy b = some u →
    exec (.packetHandover k t p bytes busy) s = .next (u.setOutbox k (s.tunAdapter k t) l))

/-! ### Display inputs, frames and tunnels -/

/-- The display input commands take their words: DIN_CTRL over its proxy bits, a fixed EDID of whole blocks, the encoder's mode, the exact rectangles
with their count, the damage rule, and the report of the last frame, which answers its 64 words and clears the tile counters when asked. Rests on parts of
R209, R211, R217, R224, R225, R227 (Tables 6.13 to 6.16). -/
def Obligations.InputCommandsRun : Prop :=
  (∀ r s k i, allowed cmdDinConfig r s → k = reqTarget r → i = reqSub r →
    exec (.dinConfig r) s = .next ((s.dinApply k i ((s.reg (Reg.DIN_CTRL k i) &&& 0x03000000) ||| packWord
      [(0, 1, reqField r 12 0 1), (1, 1, reqField r 12 1 1), (4, 3, reqField r 12 4 3), (8, 4, reqField r 12 8 4), (16, 2, reqField r 16 0 2),
       (18, 1, reqField r 16 2 1), (19, 1, reqField r 16 3 1)])).answer 0x0501 r [])) ∧
  (∀ r s k i, allowed cmdEdidProxySet r s → k = reqTarget r → i = reqSub r → reqBit r 12 2 = false →
    exec (.edidProxySet r) s = .next ((s.presentChange ((s.setRb (Reg.DIN_CTRL k i) 24 (reqBit r 12 0)).setRb (Reg.DIN_CTRL k i) 25 (reqBit r 12 1))
      k i).answer 0x0502 r [])) ∧
  (∀ r s k i t, allowed cmdEdidProxySet r s → k = reqTarget r → i = reqSub r → reqBit r 12 2 = true →
    t = (s.setRb (Reg.DIN_CTRL k i) 24 (reqBit r 12 0)).setRb (Reg.DIN_CTRL k i) 25 (reqBit r 12 1) →
    exec (.edidProxySet r) s = .next ((s.presentChange
      (t.setDin k i { t.din k i with fixedEdid := some ((reqBytes r 16).take (128 * (reqField r 12 4 2 + 1))) }) k i).answer 0x0502 r [])) ∧
  (∀ r s, allowed cmdPurlModeSet r s →
    exec (.purlModeSet r) s = .next ((s.setReg (Reg.PURL_MODE (reqTarget r) (reqSub r)) (reqWord r 12 &&& 0x001F3F33)).answer 0x0503 r [])) ∧
  (∀ r s k i, allowed cmdExactRegionSet r s → k = reqTarget r → i = reqSub r → (reqWord r 12).toNat = 0 →
    exec (.exactRegionSet r) s = .next ((((List.range 16).foldl (fun s j =>
      (s.setReg (Reg.EXACT_RGN_A k i j) 0).setReg (Reg.EXACT_RGN_B k i j) 0) s).setRf (Reg.PURL_STATUS k i) 18 5 0).answer 0x0504 r [])) ∧
  (∀ r s, allowed cmdDamageConfig r s →
    exec (.damageConfig r) s = .next ((s.setReg (Reg.DAMAGE_CTRL (reqTarget r) (reqSub r)) (reqWord r 12 &&& 0x3FF)).answer 0x0505 r [])) ∧
  (∀ r s a, allowed cmdPurlFrameReport r s → a = Reg.PURL_LAST_FRAME (reqTarget r) (reqSub r) →
    exec (.purlFrameReport r) s =
      .next ((if reqBit r 12 0 then s.setRegs ((List.range 4).map fun j => (a + 0x14 + 4 * j, (0 : Word))) else s).answer 0x0506 r
        ((List.range 64).map fun j => s.reg (a + 4 * j))))

/-- An enabled input trains and becomes trained within its limits, loses its signal with a logged event, ends its hot-plug pulse, and takes a frame:
Active with the frame coded on an Open tunnel unless one is in transmission, which counts PURL_HELD; a format it does not accept makes it
Unsupported. Rests on parts of R207, R209, R210, R212, R230 (Tables 6.1 and 6.2). -/
def Obligations.InputsFollowTheirSource : Prop :=
  (∀ k i s, s.hasKernel k → i < 2 → s.dinState k i ≠ 0 →
    exec (.dinTraining k i none) s = .next (((s.inputGone k i).setDinState k i 2).setRf (Reg.DIN_STATUS k i) 4 8 0)) ∧
  (∀ k i lanes rate s, s.hasKernel k → i < 2 → s.dinState k i = 2 → lanes ∈ [1, 2, 4] → lanes ≤ s.rf (Reg.DIN_CTRL k i) 4 3 →
    rate ≤ s.rf (Reg.DIN_CTRL k i) 8 4 →
    exec (.dinTraining k i (some (lanes, rate))) s =
      .next (((s.setRf (Reg.DIN_STATUS k i) 4 3 lanes).setRf (Reg.DIN_STATUS k i) 8 4 rate).bump (Reg.DIN_TRAINS k i) 1)) ∧
  (∀ k i s, s.hasKernel k → i < 2 → s.dinState k i = 3 →
    exec (.dinSignalLost k i false) s =
      .next ((((s.inputGone k i).setDinState k i 1).log k Ev.dinLost i [0x53]).bump (Reg.DIN_LOSSES k i) 1)) ∧
  (∀ k i s, s.hasKernel k → i < 2 → s.dinState k i = 1 →
    exec (.dinSignalLost k i true) s = .next (s.setRf (Reg.DIN_STATUS k i) 4 8 0)) ∧
  (∀ k i s, s.hasKernel k → i < 2 → s.dinState k i ∈ [2, 4] →
    exec (.dinSignalLost k i true) s =
      .next ((((s.setRf (Reg.DIN_STATUS k i) 4 8 0).inputGone k i).setDinState k i 1).log k Ev.dinLost i [0x50 + s.dinState k i])) ∧
  (∀ k i s t, s.hasKernel k → i < 2 → (s.din k i).pulse = true →
    t = (s.setDin k i { s.din k i with pulse := false }).dinHpd k i (s.adapterOpen? k (dinAdapter i)).isSome →
    exec (.hpdPulseEnd k i) s = .next (t.log k Ev.edidChanged i [if (t.presented k i).1 then 0 else 1, (t.presented k i).2.length / 128])) ∧
  (∀ k i f s t, s.hasKernel k → i < 2 → s.dinState k i ≠ 0 → s.rf (Reg.DIN_STATUS k i) 4 3 ≠ 0 → frameAccepted f = true →
    t = ((((s.noteForm k i f).setDinState k i 3).noteFrame k i f).bump (Reg.DIN_FRAMES k i) 1).noteExact k i f →
    (t.adapterOpen? k (dinAdapter i) = none → exec (.inputFrameStart k i f) s = .next t) ∧
    (t.adapterOpen? k (dinAdapter i) ≠ none → (t.din k i).sending = true → exec (.inputFrameStart k i f) s = .next (t.bump (Reg.PURL_HELD k i) 1)) ∧
    (t.adapterOpen? k (dinAdapter i) ≠ none → (t.din k i).sending = false → exec (.inputFrameStart k i f) s = .next (t.beginFrame k i f))) ∧
  (∀ k i f s t u c, s.hasKernel k → i < 2 → s.dinState k i ≠ 0 → s.rf (Reg.DIN_STATUS k i) 4 3 ≠ 0 → frameAccepted f = false →
    t = (s.noteForm k i f).noteFrame k i f → u = (t.inputGone k i).setDinState k i 4 → c = u.reg (Reg.DIN_CTRL k i) →
    (t.dinState k i = 4 → exec (.inputFrameStart k i f) s = .next t) ∧
    (t.dinState k i ≠ 4 → exec (.inputFrameStart k i f) s =
      .next ((u.bump (Reg.DIN_UNSUP k i) 1).log k Ev.dinUnsupported i
        [f.width % 65536 + 65536 * f.height, f.pixelRate, (formWord f (codedForm f (fld c 16 2) (bitAt c 18)) f.matrix false 0).toNat])))

/-- The oldest packet that waits at a display source is read by its type: REFRESH asks for rows or the whole frame and counts, SINK_EDID goes to the
proxy, SINK_STATUS is taken, and a packet that breaks the tables quarantines the tunnel with a class 8 violation. Rests on parts of R211, R232, R233, R253
(Table 6.11). -/
def Obligations.ReversePacketsAreRead : Prop :=
  ∀ k i s t v b u, s.hasKernel k → i < 2 → s.adapterOpen? k (dinAdapter i) = some t → s.takeAdapter k t = some ((v, b), u) →
    (reverseOk b = true → ptypeOf b = 0x11 → byteAt b 4 % 2 = 1 →
      exec (.refresh k i) s = .next ((u.setDin k i { u.din k i with refreshAll := true }).bump (Reg.PURL_REFRESH_RX k i) 1)) ∧
    (reverseOk b = true → ptypeOf b = 0x11 → byteAt b 4 % 2 = 0 →
      exec (.refresh k i) s = .next ((u.setDin k i
        { u.din k i with refresh := (u.din k i).refresh ++ [(halfAt b 6 % 1024, halfAt b 8 % 1024)] }).bump (Reg.PURL_REFRESH_RX k i) 1)) ∧
    (reverseOk b = true → ptypeOf b = 0x12 → exec (.sinkEdid k i) s = .next (u.takeEdid k i b)) ∧
    (reverseOk b = true → ptypeOf b = 0x13 → exec (.sinkStatus k i) s = .next u) ∧
    (reverseOk b = false →
      exec (.refresh k i) s = .next (u.adapterViolation k t) ∧ exec (.sinkEdid k i) s = .next (u.adapterViolation k t) ∧
      exec (.sinkStatus k i) s = .next (u.adapterViolation k t))

/-- The oldest packet that waits for a display output is read by its type: FRAME_START begins BUILD, TILE_ROW stores its records, FRAME_END completes
the frame, FRAME_ABORT discards it; one that breaks the tables is a class 8 violation; the events of the frame store follow: a scan that has ended
completes the frame, a failed check asks for its row again. Rests on parts of R229 to R233, R240, R242 (Tables 6.10 and 6.11). -/
def Obligations.ForwardPacketsBuildFrames : Prop :=
  (∀ k o s b u, s.hasKernel k → o < 2 → s.sinkTake k o = some (b, u) →
    (forwardOk b = true → ptypeOf b = 1 → exec (.frameStart k o) s = .next (u.sinkStart k o b)) ∧
    (forwardOk b = true → ptypeOf b = 2 → exec (.tileRow k o) s = .next (u.sinkRow k o b)) ∧
    (forwardOk b = true → ptypeOf b = 3 → exec (.frameEnd k o) s = .next (u.sinkEnd k o b)) ∧
    (forwardOk b = true → ptypeOf b = 4 → (u.dout k o).ended = false → exec (.frameAbort k o) s = .next (u.dropBuild k o)) ∧
    (forwardOk b = false →
      exec (.frameStart k o) s = .next (u.sinkViolation k o) ∧ exec (.tileRow k o) s = .next (u.sinkViolation k o) ∧
      exec (.frameEnd k o) s = .next (u.sinkViolation k o) ∧ exec (.frameAbort k o) s = .next (u.sinkViolation k o))) ∧
  (∀ k o s t, s.hasKernel k → o < 2 → (s.dout k o).scanning = true →
    t = ((s.dout k o).recs.filter fun r => !r.2.checked).foldl (fun s r => s.guardRecord k o r.2) s →
    exec (.recordScanDone k o) s =
      .next ((t.setDout k o { s.dout k o with recs := (s.dout k o).recs.map fun r => (r.1, { r.2 with checked := true }) }).completeBuild k o)) ∧
  (∀ k o g row s f e, s.hasKernel k → o < 2 → s.guarded k o = true → (s.dout k o).front = some f →
    (f.index.find? fun x => x.1 == 3 * row + g && decide (g < 3)) = some e →
    exec (.recordCheckFail k o g row) s =
      .next ((((s.setDout k o { s.dout k o with front := some { f with index := f.index.filter fun x => x.2 != e.2 } }).syncStore k o).sendRefresh k o
        f.frame (some (row, 1))).bump (Reg.FS_CHECK_FAIL k o) 1 |>.log k Ev.fstoreCheckFail o [o, f.set, g, row]))

/-! ### Display outputs -/

/-- The output commands. A timing is staged with its lock words, a pair mode is staged, FRAME_LOCK_SET and PSR_CONFIG take their words, a test pattern
is set, and DOUT_STATUS answers the state and the counters and clears them when asked. Rests on parts of R251, R256, R259 to R261, R268 (Table 7.11). -/
def Obligations.OutputCommandsRun : Prop :=
  (∀ r s k o t, allowed cmdDoutTimingStage r s → k = reqTarget r → o = reqSub r → o = 0 ∨ s.pairMode k = 3 → s.rb (Reg.DOUT_CTRL k o) 0 = true →
    t = (s.setRegs ((List.range 6).map fun i => (Reg.DOUT_TIM_STAGED k o i, reqWord r (12 + 4 * i) &&& timingMask i))).setRb (Reg.DOUT_STATUS k o) 8 true →
    exec (.doutTimingStage r) s = .next ((t.setDout k o { t.dout k o with lockStaged :=
      (if r.plen = 36 then some (reqWord r 36, reqWord r 40 &&& 0xFFFF, reqWord r 44) else none) }).answer 0x0601 r [])) ∧
  (∀ r s k, allowed cmdDoutPairSet r s → k = reqTarget r → 2 ≤ reqField r 12 0 2 ∨ s.dout1Used k = false →
    exec (.doutPairSet r) s = .next ((s.setDout k 0 { s.dout k 0 with pairStaged := some (reqWord r 12 &&& 0x33) }).answer 0x0602 r [])) ∧
  (∀ r s k o, allowed cmdFrameLockSet r s → k = reqTarget r → o = reqSub r → o = 0 ∨ s.pairMode k = 3 →
    exec (.frameLockSet r) s = .next (((s.setDout k o { s.dout k o with jump := reqBit r 12 0 && reqBit r 12 1, lockRun := 0 }).setRegs
      [(Reg.FLOCK_CTRL k o, reqWord r 12 &&& 0x07FF0003), (Reg.FLOCK_PERIOD_NS k o, reqWord r 16),
       (Reg.FLOCK_PERIOD_FRAC k o, reqWord r 20 &&& 0xFFFF), (Reg.FLOCK_PHASE_NS k o, reqWord r 24)]).answer 0x0603 r [])) ∧
  (∀ r s, allowed cmdPsrConfig r s →
    exec (.psrConfig r) s = .next ((s.setReg (Reg.PSR_CTRL (reqTarget r) (reqSub r)) (reqWord r 12 &&& 0xF01)).answer 0x0604 r [])) ∧
  (∀ r s k o, allowed cmdTestPattern r s → k = reqTarget r → o = reqSub r → o = 0 ∨ s.pairMode k = 3 → s.rb (Reg.DOUT_CTRL k o) 0 = true →
    exec (.testPattern r) s =
      .next ((s.setRegs [(Reg.TP_CTRL k o, reqWord r 12 &&& 0xF), (Reg.TP_COLOR k o, reqWord r 16 &&& 0x3FFFFFFF)]).answer 0x0605 r [])) ∧
  (∀ r s k o, allowed cmdDoutStatus r s → k = reqTarget r → o = reqSub r →
    exec (.doutStatus r) s = .next ((if reqBit r 12 0 then
        s.setRegs [(Reg.DOUT_UNDERRUN k o, 0), (Reg.DOUT_REPEATS k o, 0), (Reg.DOUT_FLIPS k o, 0), (Reg.DOUT_PSR_ENTRIES k o, 0),
          (Reg.DOUT_RETRAINS k o, 0), (Reg.DOUT_LOCK_LOSS k o, 0)]
      else s).answer 0x0606 r
        ([s.reg (Reg.DOUT_STATUS k o), s.reg (Reg.FLOCK_ERR k o), s.reg (Reg.FST_SETS k o), s.reg (Reg.FST_FRAMES k o)]
          ++ (List.range 7).map fun j => s.reg (Reg.DOUT_UNDERRUN k o + 4 * j))))

/-- A generator that runs has its frame boundary; an underrun of an output that shows is counted, logged with its line, and starts a new boundary; a
panel that appears gives its EDID and trains an enabled output, and one that goes stops the link; a pulse changes nothing; training passes, in
the open or behind self-refresh, and the output resumes at its next boundary; or it fails, or is tried again.
Rests on parts of R250, R252, R254, R255, R264, R267. -/
def Obligations.OutputsFollowTheirPanel : Prop :=
  (∀ k o s, s.hasKernel k → o < 2 → s.generatorRuns k o → exec (.frameBoundary k o) s = .next (s.boundary k o)) ∧
  (∀ k o line s t u g, s.hasKernel k → o < 2 → s.outputOn k o → s.doutState k o ∈ [3, 4] → line < s.rf (Reg.DOUT_TIM_ACTIVE k o 0) 16 13 →
    t = ((s.bump (Reg.DOUT_UNDERRUN k o) 1).setReg (Reg.DOUT_UNDERRUN_LINE k o) (word line)) →
    u = t.log k Ev.doutUnderrun o [line, t.frontFrame k (t.sourceOf k o), (t.reg (Reg.DOUT_UNDERRUN k o)).toNat] →
    g = (if u.pairMode k = 3 then o else 0) →
    exec (.underrun k o line) s = .next ((u.setDout k g { u.dout k g with jump := false }).boundary k g)) ∧
  (∀ k o edid sr te s t, s.hasKernel k → o < 2 → s.rb (Reg.DOUT_STATUS k o) 4 = false →
    t = (((s.setDout k o { s.dout k o with edid := edid, trainOnExit := te }).setRb (Reg.DOUT_STATUS k o) 5 sr).panelChange k o true) →
    exec (.panelHpdRise k o edid sr te) s = .next (if t.rb (Reg.DOUT_CTRL k o) 0 then t.startTraining k o else t)) ∧
  (∀ k o s t u, s.hasKernel k → o < 2 → s.rb (Reg.DOUT_STATUS k o) 4 = true →
    t = (if s.rb (Reg.DOUT_CTRL k o) 0 then s.setDoutState k o 1 else s) →
    u = ((t.setRf (Reg.DOUT_STATUS k o) 12 3 0).setRf (Reg.DOUT_STATUS k o) 16 4 0).setRb (Reg.DOUT_STATUS k o) 5 false →
    exec (.panelHpdFall k o) s = .next ((u.setDout k o
      { u.dout k o with edid := [], psrArmed := false, psrLeaving := false, behind := false, changing := false, up := false }).panelChange k o false)) ∧
  (∀ k o s, s.hasKernel k → o < 2 → exec (.irqHpd k o) s = .next s) ∧
  (∀ k o s w t, s.hasKernel k → o < 2 → s.doutState k o = 2 → (s.dout k o).up = false → w = s.reg (Reg.DOUT_TIM_ACTIVE k o 5) →
    t = (s.setRf (Reg.DOUT_STATUS k o) 12 3 (fld w 4 3)).setRf (Reg.DOUT_STATUS k o) 16 4 (fld w 8 4) → t.doutState k o = 2 →
    exec (.doutTrainPass k o) s =
      .next (t.setDout k o { t.dout k o with behind := false, changing := false, psrLeaving := false, up := true })) ∧
  (∀ k o s w t, s.hasKernel k → o < 2 → s.doutState k o = 5 → (s.dout k o).behind = true → w = s.reg (Reg.DOUT_TIM_ACTIVE k o 5) →
    t = (s.setRf (Reg.DOUT_STATUS k o) 12 3 (fld w 4 3)).setRf (Reg.DOUT_STATUS k o) 16 4 (fld w 8 4) → t.doutState k o = 5 →
    exec (.doutTrainPass k o) s =
      .next (t.setDout k o { t.dout k o with behind := false, changing := false, psrLeaving := true, up := false })) ∧
  (∀ k o s w, s.hasKernel k → o < 2 → s.doutState k o = 2 → (s.dout k o).up = false → w = s.reg (Reg.DOUT_TIM_ACTIVE k o 5) →
    exec (.doutTrainFail k o) s =
      .next (((s.setDout k o { s.dout k o with behind := false, changing := false, psrLeaving := false }).setDoutState k o 6).log k
        Ev.doutTrainFail o [fld w 4 3, fld w 8 4])) ∧
  (∀ k o s, s.hasKernel k → o < 2 → s.doutState k o = 6 → exec (.doutRetryTimer k o) s = .next (s.startTraining k o))

/-! ### PCIe -/

/-- The PCIe commands. PCIE_CONFIG sets the bridge's words, and what waits is tried again; PCIE_WINDOW and a write of PCIW_CTRL put a read-ahead
window into force, and a write of a window that may not stand is ignored and counted; PCIE_STATUS and PCIE_READAHEAD_LOG answer their words and
clear them when asked. Rests on parts of R273, R280, R284 to R287, R293, R294 (Tables 8.10 to 8.12). -/
def Obligations.PcieCommandsRun : Prop :=
  (∀ r s k, allowed cmdPcieConfig r s → k = reqTarget r → s.pcieUsed k = false →
    exec (.pcieConfig r) s = .next ((((s.setRegs [(Reg.PCIE_CTRL k, reqWord r 12 &&& 0x37F), (Reg.PCIE_CPL_TIMEOUT k, reqWord r 16 &&& 0xFFF),
      (Reg.PCIE_NP_LIMIT k, reqWord r 20 &&& 0x7F)]).pcieSync k).pumpAll k).answer 0x0701 r [])) ∧
  (∀ r s k w, allowed cmdPcieWindow r s → k = reqTarget r → w = reqField r 12 0 3 → (s.bridge k).form = 1 →
    exec (.pcieWindow r) s = .next (((s.setRegs [(Reg.PCIW_BASE_LO k w, reqWord r 16 &&& 0xFFFFF000), (Reg.PCIW_BASE_HI k w, reqWord r 20),
      (Reg.PCIW_SIZE_LO k w, reqWord r 24 &&& 0xFFFFF000), (Reg.PCIW_SIZE_HI k w, reqWord r 28),
      (Reg.PCIW_CTRL k w, packWord [(0, 1, reqField r 12 8 1), (4, 5, reqField r 32 0 5)])]).applyWindow k w (reqBit r 12 8) (word64 r 16)
        (word64 r 24) (reqField r 32 0 5)).answer 0x0702 r [])) ∧
  (∀ v k n w s base size, s.hasKernel k → n < 8 → (s.bridge k).form = 1 →
    base = (s.reg (Reg.PCIW_BASE_LO k n)).toNat / 4096 * 4096 + 4294967296 * (s.reg (Reg.PCIW_BASE_HI k n)).toNat →
    size = (s.reg (Reg.PCIW_SIZE_LO k n)).toNat / 4096 * 4096 + 4294967296 * (s.reg (Reg.PCIW_SIZE_HI k n)).toNat →
    (bitAt w 0 = false ∨ s.windowFault k n base size (fld w 4 5) = none →
      exec (.pciwCtrlWrite v k n w) s =
        .next ((s.setReg (Reg.PCIW_CTRL k n) (w &&& 0x1F1)).applyWindow k n (bitAt w 0) base size (fld w 4 5))) ∧
    (bitAt w 0 = true → s.windowFault k n base size (fld w 4 5) ≠ none →
      exec (.pciwCtrlWrite v k n w) s = .next (s.ignoreWrite k (Reg.PCIW_CTRL k n)))) ∧
  (∀ r s k c, allowed cmdPcieStatus r s → k = reqTarget r → c = ((List.range 10).map fun j => Reg.PCIE_TLP_TX k + 4 * j) →
    exec (.pcieStatus r) s = .next ((if reqBit r 12 0 then s.setRegs (c.map fun a => (a, (0 : Word))) else s).answer 0x0703 r
      ([s.reg (Reg.PCIE_STATUS k), s.reg (Reg.PCIE_FAR_CRED_P k), s.reg (Reg.PCIE_FAR_CRED_NP k), s.reg (Reg.PCIE_CPL_RESV k)] ++ c.map s.reg))) ∧
  (∀ r s k, allowed cmdPcieReadaheadLog r s → k = reqTarget r → reqBit r 12 31 = false →
    exec (.pcieReadaheadLog r) s = .next (s.answer 0x0704 r ((List.range (reqField r 12 8 6)).flatMap fun i =>
      (List.range 4).map fun j => s.reg (Reg.PCIW_LOG k ((reqField r 12 0 5 + i) % 32) j))))

/-- The oldest packet that waits at a bridge is read by its type. A TLP within its credit goes on to the X link or to its requester, BRIDGE_CREDIT
gives credit, LINK_STATE counts at the host end and LINK_CTRL at the dock end, WAKE wakes the host; a packet that breaks the table is a class 8
violation. Rests on parts of R275, R276, R279, R283, R284, R289, R290 (Table 8.5). -/
def Obligations.BridgePacketsAreTaken : Prop :=
  ∀ k s t v b u, s.hasKernel k → s.adapterOpen? k pcieAdapter = some t → s.takeAdapter k t = some ((v, b), u) → displayOk b 0 = true →
    (16 ≤ b.length → byteAt b 0 = 1 → exec (.tlpP k) s = .next (u.tlpArrives k t .posted (b.drop 4) fun s => s.xSend k (b.drop 4))) ∧
    (16 ≤ b.length → byteAt b 0 = 2 → exec (.tlpNp k false) s =
      .next (u.tlpArrives k t .nonPosted (b.drop 4) fun s => s.xSend k (b.drop 4))) ∧
    (16 ≤ b.length → byteAt b 0 = 3 → exec (.tlpCpl k) s =
      .next ((u.tlpArrives k t .completion (b.drop 4) fun s => s.cplArrives k (b.drop 4)).pumpAll k)) ∧
    (16 ≤ b.length → byteAt b 0 = 0x10 → exec (.bridgeCredit k) s =
      .next (((u.addCred (Reg.PCIE_FAR_CRED_P k) 64 2048 ((bytesWords (b.drop 4)).getD 0 0)).addCred (Reg.PCIE_FAR_CRED_NP k) 64 128
        ((bytesWords (b.drop 4)).getD 1 0)).pumpAll k)) ∧
    (8 ≤ b.length → byteAt b 0 = 0x11 → (u.bridge k).form = 1 →
      exec (.linkState k) s = .next (u.linkStateRx k ((bytesWords (b.drop 4)).getD 0 0))) ∧
    (8 ≤ b.length → byteAt b 0 = 0x12 → (u.bridge k).form = 2 →
      exec (.linkCtrl k) s = .next (u.linkCtrlRx k ((bytesWords (b.drop 4)).getD 0 0))) ∧
    (byteAt b 0 = 0x13 → (u.bridge k).form = 1 →
      exec (.pcieWake k true) s = .next (u.setBridge k { u.bridge k with wakeOut := true })) ∧
    (byteAt b 0 ∉ [1, 2, 3, 0x10, 0x11, 0x12, 0x13] → exec (.tlpP k) s = .next (u.adapterViolation k t))

/-- Time-outs, resets and link changes of a bridge. A request whose time is over is completed with an error and logged; old read-ahead data is
dropped; PX_PERST_N and a hot reset clear the host end's functions; the dock link comes up and goes down with a LINK_STATE for the far bridge, its
reset is released and its wake passed on; a TLP of the X link enters at either end. Rests on parts of R273, R275, R284, R287, R289 to R292 (Table 8.8). -/
def Obligations.BridgesFollowTheirLinks : Prop :=
  (∀ k id tag s q, s.hasKernel k → ((s.bridge k).raReqs.find? fun q => (s.bridge k).form == 1 && id == (s.bridge k).downId && q.tag == tag) = none →
    ((s.bridge k).np.find? fun q => q.reqId == id && q.tag == tag) = some q →
    exec (.cplTimeout k id tag) s =
      .next (((((s.setNp k ((s.bridge k).np.erase q)).bump (Reg.PCIE_CPL_TIMEOUTS k) 1).log k Ev.pcieCplTimeout 0
        [id + 65536 * tag, q.addr, q.addr / 2 ^ 32, if (s.bridge k).form = 1 then 0 else 1]).synth k q.hdr true).pumpAll k)) ∧
  (∀ k n s, s.hasKernel k → exec (.readAheadAge k n) s = .next (s.raDrop k 4 fun c => c.num == n)) ∧
  (∀ k s t, s.hasKernel k → (s.bridge k).form = 1 → (s.bridge k).perst = false → t = s.hostReset k true →
    exec (.pxPerstLow k) s = .next (((t.setBridge k { t.bridge k with perst := true }).setRf (Reg.PCIE_STATUS k) 0 4 1).setRf (Reg.PCIE_STATUS k) 4 6 0)) ∧
  (∀ k w v s t, s.hasKernel k → (s.bridge k).form = 1 →
    t = (((s.setBridge k { s.bridge k with perst := false, xOut := [] }).setRf (Reg.PCIE_STATUS k) 0 4 2).setRf (Reg.PCIE_STATUS k) 4 3 w).setRf
      (Reg.PCIE_STATUS k) 7 3 v →
    exec (.pxPerstRise k w v) s = .next (((if (t.ep (.pcie k)).up then t else t.viaUpNow (.pcie k)).emit k pcieAdapter
      (linkCtrlPacket false 0 false false true)).flush k pcieAdapter)) ∧
  (∀ k s, s.hasKernel k → (s.bridge k).form = 1 → s.rf (Reg.PCIE_STATUS k) 0 4 = 2 →
    exec (.hostHotReset k false) s = .next ((s.hostReset k false).viaUpNow (.pcie k)) ∧
    exec (.hostHotReset k true) s = .next (((s.hostReset k false).setRf (Reg.PCIE_STATUS k) 0 4 1).setRf (Reg.PCIE_STATUS k) 4 6 0)) ∧
  (∀ k p s t u, s.hasKernel k → (s.bridge k).form = 2 → s.rf (Reg.PCIE_STATUS k) 0 4 = 3 → t = s.dockReset k →
    u = t.setBridge k { t.bridge k with present := p } →
    exec (.dockLinkDown k p) s = .next ((u.emit k pcieAdapter (u.linkStatePacket k)).flush k pcieAdapter)) ∧
  (∀ k w v s t u, s.hasKernel k → (s.bridge k).form = 2 → s.rb (Reg.PCIE_STATUS k) 13 = false → s.rf (Reg.PCIE_STATUS k) 0 4 = 1 →
    t = ((s.setRf (Reg.PCIE_STATUS k) 0 4 3).setRf (Reg.PCIE_STATUS k) 4 3 w).setRf (Reg.PCIE_STATUS k) 7 3 v →
    u = (t.setBridge k { t.bridge k with present := true, xOut := [] }).setRb (Reg.PCIE_STATUS k) 12 (t.bridgeOpen k) →
    exec (.dockLinkUp k w v) s = .next ((u.emit k pcieAdapter (u.linkStatePacket k)).flush k pcieAdapter)) ∧
  (∀ k s, s.hasKernel k → (s.bridge k).form = 2 → s.bridgeOpen k = true →
    (s.rb (Reg.PCIE_STATUS k) 13 = true → exec (.perstReleaseTimer k) s = .next (s.setRb (Reg.PCIE_STATUS k) 13 false)) ∧
    exec (.pxWakeNFall k) s = .next ((s.emit k pcieAdapter (bridgePacket 0x13 [])).flush k pcieAdapter)) ∧
  (∀ k b s, s.hasKernel k → tlpOk b = true → s.domainOn k 9 = true →
    ((s.bridge k).form = 1 → (s.bridge k).perst = false → exec (.hostTlp k b) s = .next ((s.hostLinkUp k).fromHost k b)) ∧
    ((s.bridge k).form = 2 → s.rf (Reg.PCIE_STATUS k) 0 4 = 3 → exec (.hostTlp k b) s = .next (s.fromDevice k b)))

/-! ### USB -/

/-- The USB commands and the upstream port. A form, buffer layout and port power are set, the status words answered; a bus reset, disconnect, suspend,
resume or new connection acts on the hub of form 1; an idle endpoint is freed. Rests on parts of R295, R303, R307, R308, R311, R313, R314, R317 (Tables 9.5
and 9.9). -/
def Obligations.HubCommandsAndBusEventsRun : Prop :=
  (∀ r s k, allowed cmdUsbConfig r s → k = reqTarget r → s.usbNoTunnel k = true →
    exec (.usbConfig r) s = .next (((s.setReg (Reg.USBH_CTRL k) (packWord [(0, 2, reqField r 12 0 2), (4, 3, reqField r 12 4 3),
      (8, 3, reqField r 12 8 3)])).usbSync k).answer 0x0801 r [])) ∧
  (∀ r s k, allowed cmdUsbEpLayout r s → k = reqTarget r → s.usbConfigured k = false →
    exec (.usbEpLayout r) s = .next ((s.setRegs ((List.range 4).map fun e => (Reg.USBD_EP_LAYOUT k e,
      packWord [(0, 14, layOff (reqWords r 12 4) e), (16, 14, laySize (reqWords r 12 4) e)]))).answer 0x0802 r [])) ∧
  (∀ r s k, allowed cmdUsbPortPower r s → k = reqTarget r → (s.hub k).form = 2 →
    exec (.usbPortPower r) s = .next (((s.portAction k (reqField r 12 0 2) (reqField r 12 8 2)).flush k usbAdapter).answer 0x0803 r [])) ∧
  (∀ r s k, allowed cmdUsbStatus r s → k = reqTarget r → reqBit r 12 0 = false →
    exec (.usbStatus r) s = .next (s.answer 0x0804 r (s.reg (Reg.USBH_STATUS k) :: (List.range 4).map (fun p => s.reg (Reg.USBH_PORT k p))
      ++ [s.reg (Reg.USBD_STATUS k)] ++ ((List.range 13).map (fun i => Reg.USBH_FETCH_DISCARD k + 4 * i)
      ++ (List.range 5).map fun i => Reg.USBD_CMD_RX k + 4 * i).map s.reg))) ∧
  (∀ k s, s.hasKernel k → (s.hub k).form = 1 → s.domainOn k 11 →
    (∀ f c e, exec (.upstreamBusReset k f c e) s =
      .next (((s.setHub k { s.hub k with conn := true }).upstreamReset k f c e).flush k usbAdapter)) ∧
    exec (.usbUpstreamDisconnect k) s =
      .next (((s.usbDetach k).setHub k { (s.usbDetach k).hub k with conn := false, wake := none, resuming := false }).flush k usbAdapter) ∧
    exec (.usbFormReconnect k) s = .next ((s.setHub k { s.hub k with conn := true }).flush k usbAdapter) ∧
    ((s.hub k).conn = true → s.rf (Reg.USBH_STATUS k) 0 4 = 1 → ∀ t, t = (s.setRf (Reg.USBH_STATUS k) 0 4 3).setRb (Reg.USBD_STATUS k) 2 true →
      exec (.upstreamIdleSuspend k) s = .next (((t.setHub k { t.hub k with suspendAt := t.now, resuming := false, wake := none }).emit k usbAdapter
        (hubPacket 0x13 (wordBytes (word 1)))).flush k usbAdapter)) ∧
    (s.rf (Reg.USBH_STATUS k) 0 4 = 3 → (s.hub k).resuming = true → ∀ t,
      t = (s.setRf (Reg.USBH_STATUS k) 0 4 1).setRb (Reg.USBD_STATUS k) 2 (bitAt (s.hub k).port5 2) →
      exec (.hostResume k false) s = .next (((t.setHub k { t.hub k with resuming := false }).emit k usbAdapter
        (hubPacket 0x13 (wordBytes (word 3)))).flush k usbAdapter))) ∧
  (∀ k addr ep d s e, s.hasKernel k → (s.hub k).ep? (epKey addr ep d) = some e → e.used + 1000000000 ≤ s.now → e.credit = 0 → e.want = 0 →
    (s.hub k).form = 1 ∨ e.held = [] →
    exec (.endpointIdleExpiry k addr ep d) s = .next (s.freeEps k fun q => q.1 == epKey addr ep d))

/-- Tokens and requests at the upstream port of a connected hub, and the results that come back for them. A token for a device runs on its endpoint
while the tunnel is Open and the endpoint neither halted nor in error; an IN of the management function gives the replies and the events; SETUP is
acknowledged and sent on; the hub and the management function answer their control requests; the results of fetches and of deliveries and
isochronous data are kept for the host. Rests on parts of R296 to R301, R304, R312 (Table 9.7). -/
def Obligations.TokensAreAnswered : Prop :=
  (∀ k s t, s.hasKernel k → (s.hub k).form = 1 → s.domainOn k 11 → (s.hub k).conn = true → s.rf (Reg.USBH_STATUS k) 0 4 = 1 →
    (∀ b, b.length = 8 → exec (.setupToken k t b) s = .next ((s.setupToken k t b).flush k usbAdapter)) ∧
    (∀ b, b.length = 8 → exec (.hubClassRequest k b) s = .next (((s.setHub k { s.hub k with waitReq := none }).hubRequest k b).flush k usbAdapter)) ∧
    (∀ b, b.length = 8 → bitAt (s.hub k).port5 1 = true → exec (.managementEp0Request k b) s = .next ((s.mgmtRequest k b).flush k usbAdapter)) ∧
    (∀ a, s.usbConfigured k = true → t.addr = s.rf (Reg.USBD_STATUS k) 8 7 →
      (t.ep = 1 → exec (.inToken k t a) s = .next ((s.mgmtReply k a).flush k usbAdapter)) ∧
      (t.ep = 2 → exec (.inToken k t a) s = .next ((s.mgmtEvent k a).flush k usbAdapter))) ∧
    (∀ a, s.usbConfigured k = false → (s.hub k).hubConf ≠ 0 → t.addr = (s.hub k).hubAddr → t.ep = 1 →
      exec (.inToken k t a) s = .next ((s.statusPoll k).flush k usbAdapter)) ∧
    (∀ u dirIn e, u = s.hostFrame k (t.uf % 16384) → (u.adapterCtx? k usbAdapter).map (u.tunState k) = some 2 →
      u.takeEp k (epKey (t.addr % 128) (t.ep % 16) dirIn) (upAttr t) = some e → e.stall = false → e.err = false →
      (∀ a, dirIn = true → s.usbConfigured k = false → (s.hub k).hubConf = 0 →
        exec (.inToken k t a) s = .next ((u.inToken k (epKey (t.addr % 128) (t.ep % 16) true) e t a).flush k usbAdapter)) ∧
      (∀ tog data, dirIn = false →
        exec (.outToken k t tog data) s = .next ((u.outToken k (epKey (t.addr % 128) (t.ep % 16) false) e t tog data).flush k usbAdapter)) ∧
      (dirIn = false → exec (.pingToken k t) s =
        .next (((u.putEp k (epKey (t.addr % 128) (t.ep % 16) false) e).hubAnswer k (if e.credit = 0 then .nak else .ack)).flush k usbAdapter)))) ∧
  ∀ k s t b u w key, hubHears k 1 [3, 5, 8, 0x12, 0x14] s t b u → w = (bytesWords ((b.drop 4).take 4)).getD 0 0 → key = tokKey w →
    (tokenFits k s b → 12 ≤ b.length → byteAt b 0 = 3 → byteAt (b.drop 4) 4 % 8 = 0 → dataOk (b.drop 4) 8 = true → ∀ late,
      exec (.inResult k late) s = .next ((u.takeInResult k (b.drop 4) late).flush k usbAdapter)) ∧
    (tokenFits k s b → b.length = 12 → byteAt b 0 = 5 → ∀ e, (u.hub k).ep? key = some e →
      (byteAt (b.drop 4) 4 % 8 = 2 → exec (.outResult k) s =
        .next ((u.putEp k key { e with credit := e.credit + byteAt (b.drop 4) 5 % 8, stall := true }).flush k usbAdapter)) ∧
      (byteAt (b.drop 4) 4 % 8 = 3 → exec (.outResult k) s =
        .next ((u.putEp k key { e with credit := e.credit + byteAt (b.drop 4) 5 % 8, err := true }).flush k usbAdapter))) ∧
    (tokenFits k s b → 12 ≤ b.length → byteAt b 0 = 8 → dataOk (b.drop 4) 8 = true → ∀ n, n = (bytesWords (slice (b.drop 4) 4 4)).getD 0 0 →
      exec (.isoIn k) s = .next ((u.setHub k { u.hub k with
        isoData := (u.hub k).isoData ++ [(key, fld n 0 11 * 8 + fld n 11 3, (b.drop 4).drop 8)] }).flush k usbAdapter))

/-- The other packets of a hub's tunnel are read by their type: port status and wake at the host end; at the dock end SETUP, FETCH, OUT data within its
credit, credit requests, isochronous data, SOF, port commands and the bus state. Rests on parts of R297 to R301, R304, R307 to R311 (Table 9.7). -/
def Obligations.HubPacketsAreTaken : Prop :=
  (∀ k s t b u w key, hubHears k 1 [3, 5, 8, 0x12, 0x14] s t b u → w = (bytesWords ((b.drop 4).take 4)).getD 0 0 → key = tokKey w →
    (b.length = 12 → byteAt b 0 = 0x12 → 1 ≤ byteAt (b.drop 4) 0 % 8 → byteAt (b.drop 4) 0 % 8 ≤ 4 → ∀ v p, p = byteAt (b.drop 4) 0 % 8 →
      v = (bytesWords (slice (b.drop 4) 4 4)).getD 0 0 → bitAt v 17 = false → (u.hub k).waitReq = none →
      ∀ y, y = u.setUsbPort k (p - 1) (packWord [(0, 16, fld v 0 16), (16, 16, fld (u.reg (Reg.USBH_PORT k (p - 1)) ||| v) 16 16)]) →
      exec (.portStatus k) s =
        .next ((y.setHub k { y.hub k with zeroPort := if bitAt v 20 then p else (y.hub k).zeroPort }).flush k usbAdapter)) ∧
    (b.length = 8 → byteAt b 0 = 0x14 → 1 ≤ byteAt (b.drop 4) 0 % 8 → byteAt (b.drop 4) 0 % 8 ≤ 4 → u.rf (Reg.USBH_STATUS k) 0 4 = 3 →
      (u.hub k).resuming = false → u.rb (Reg.USBH_STATUS k) 5 = true →
      exec (.usbWake k) s = .next ((u.setHub k { u.hub k with
        wake := some ((u.hub k).wake.getD (byteAt (b.drop 4) 0 % 8, max u.now ((u.hub k).suspendAt + 5000000))) }).flush k usbAdapter))) ∧
  (∀ k s t b u w key e, hubHears k 2 [1, 2, 4, 6, 7, 0x10, 0x11, 0x13] s t b u → w = (bytesWords ((b.drop 4).take 4)).getD 0 0 → key = tokKey w →
    e = (u.takeEp k key (tokAttr w)).getD {} →
    (tokenFits k s b → b.length = 16 → byteAt b 0 = 1 → fld w 20 12 = 8 → e.onBus = false →
      exec (.setupPacket k) s = .next (((u.dropData k (fun q => q.1 == key) id).putEp k key
        { attr := tokAttr w, credit := e.credit, ctl := (b.drop 4).drop 4, onBus := true }).flush k usbAdapter)) ∧
    (tokenFits k s b → b.length = 12 → byteAt b 0 = 2 → 1 ≤ byteAt (b.drop 4) 4 % 8 → byteAt (b.drop 4) 4 % 8 ≤ 4 →
      exec (.fetch k) s = .next ((u.putEp k key { e with attr := tokAttr w, want := byteAt (b.drop 4) 4 % 8 }).flush k usbAdapter)) ∧
    (tokenFits k s b → 8 ≤ b.length → byteAt b 0 = 4 → dataOk (b.drop 4) 4 = true → key % 32 ≠ 0 → e.credit ≠ 0 →
      exec (.outPacket k) s =
        .next ((u.putEp k key { e with held := e.held ++ [(b.drop 4).drop 4], credit := e.credit - 1 }).flush k usbAdapter)) ∧
    (tokenFits k s b → b.length = 8 → byteAt b 0 = 6 →
      exec (.creditReq k) s = .next ((u.sendOutResult k key { e with attr := tokAttr w } 0 true).flush k usbAdapter)) ∧
    (tokenFits k s b → 12 ≤ b.length → byteAt b 0 = 7 → dataOk (b.drop 4) 8 = true → ∀ n, n = (bytesWords (slice (b.drop 4) 4 4)).getD 0 0 →
      exec (.isoOut k) s = .next ((u.setHub k { u.hub k with
        isoData := (u.hub k).isoData ++ [(key, fld n 0 11 * 8 + fld n 11 3, (b.drop 4).drop 8)] }).flush k usbAdapter)) ∧
    (b.length = 8 → byteAt b 0 = 0x10 → ∀ n, n = fld ((bytesWords (b.drop 4)).getD 0 0) 0 11 * 8 + fld ((bytesWords (b.drop 4)).getD 0 0) 11 3 →
      exec (.sofPacket k) s = .next ((u.setHub k { u.hub k with
        uf := n, bus := if (u.hub k).bus = 1 then 1 else 0,
        isoSent := ((u.hub k).isoData.filter fun d => (d.2.1 + 1) % 16384 == n).map fun d => (d.1, d.2.2),
        isoData := (u.hub k).isoData.filter fun d => !((d.2.1 + 1) % 16384 == n) && decide (ufSince d.2.1 n < 2) }).flush k usbAdapter)) ∧
    (b.length = 8 → byteAt b 0 = 0x11 → 1 ≤ byteAt (b.drop 4) 0 % 8 → byteAt (b.drop 4) 0 % 8 ≤ 4 → 1 ≤ byteAt (b.drop 4) 0 / 16 →
      byteAt (b.drop 4) 0 / 16 ≤ 7 →
      exec (.portCmd k) s =
        .next ((u.portCommand k (byteAt (b.drop 4) 0 % 8 - 1) (byteAt (b.drop 4) 0 / 16) (byteAt (b.drop 4) 1)).flush k usbAdapter)) ∧
    (b.length = 8 → byteAt b 0 = 0x13 → byteAt (b.drop 4) 0 / 16 % 2 = 0 → byteAt (b.drop 4) 0 % 4 = 1 →
      exec (.busState k) s = .next ((u.setHub k { u.hub k with bus := 1 }).flush k usbAdapter)))

/-- Events of the downstream ports at the dock end (form 2): a transaction ends, a device wakes the host once, babble and over-current disable a port
and count, a reset ends at the speed found, a device connects or disconnects, a power-cycle ends. Rests on parts of R298 to R301, R306, R309, R311, R317,
R500. -/
def Obligations.DownstreamPortsFollow : Prop :=
  ∀ k p s w, s.hasKernel k → (s.hub k).form = 2 → s.domainOn k 11 → p < 4 → w = s.portStatus k p →
    (∀ a e kind res tog rec data x, kind < 3 → s.adapterOpen? k usbAdapter ≠ none → (s.hub k).ep? (epKey (a % 128) (e % 16) (kind % 2 == 1)) = some x →
      exec (.deviceTransactionDone k a e kind res tog rec data) s =
        .next ((s.deviceDone k (epKey (a % 128) (e % 16) (kind % 2 == 1)) x kind res tog rec data).flush k usbAdapter)) ∧
    (w.testBit 0 = true → w.testBit 1 = true → (s.hub k).bus ≠ 0 → (s.hub k).waking.testBit p = false →
      exec (.deviceRemoteWake k p) s = .next (((s.setHub k { s.hub k with waking := (s.hub k).waking + 2 ^ p }).emit k usbAdapter
        (hubPacket 0x14 (wordBytes (word (p + 1))))).flush k usbAdapter)) ∧
    (w.testBit 1 = true → exec (.babble k p) s =
      .next ((((s.dropData k (fun e => (s.hub k).portOf e == p + 1) id).bump (Reg.USBH_BABBLE k) 1).reportPort k p (without w 2) 2).flush k
        usbAdapter)) ∧
    (w.testBit 8 = true → exec (.usbOverCurrent k p) s =
      .next (((s.bump (Reg.USBH_OVERCURRENT k) 1).reportPort k p (without w 0x0F17 + (if w.testBit 3 then 0 else 8)) 8).flush k usbAdapter)) ∧
    (∀ high low, w.testBit 4 = true → exec (.portResetEnd k p high low) s =
      .next (((s.setHub k { s.hub k with zeroPort := p + 1 }).reportPort k p
        (without w 0x0610 + 2 - (w / 2 % 2) * 2 + (if high then 0x400 else if low then 0x200 else 0)) 0x10).flush k usbAdapter)) ∧
    (∀ low, w.testBit 8 = true → s.rf (Reg.USBH_PORT_PWR k p) 0 2 = 0 → w.testBit 0 = false →
      exec (.downstreamConnectChange k p true low) s =
        .next ((s.reportPort k p (without w 0x0617 + (1 + (if low then 0x200 else 0))) 1).flush k usbAdapter)) ∧
    (s.rf (Reg.USBH_PORT_PWR k p) 0 2 = 2 →
      exec (.usbPowerCycleEnd k p) s = .next ((s.setRf (Reg.USBH_PORT_PWR k p) 0 2 0).flush k usbAdapter))

/-! ### Ethernet and time -/

/-- The Ethernet and PRP commands, the links and modules of the ports, the LANs of a pair with their entries and supervision frames, frames received,
and the packets of the tunnel sent out unless a PAUSE holds them back. Rests on parts of R319 to R326, R338, R339, R346 (Tables 10.14 and 10.15). -/
def Obligations.EthernetPortsFollow : Prop :=
  (∀ r s k e w, allowed cmdEthConfig r s → k = reqTarget r → e = reqSub r → s.ethBusy k e = false →
    w = packWord [(0, 3, reqField r 12 0 3), (4, 2, reqField r 12 4 2), (8, 2, reqField r 12 8 2), (16, 14, reqField r 16 0 14)] →
    (actsMedium (reqField r 12 0 3) = actsMedium (fld (s.reg (Reg.ETH_CTRL k e)) 0 3) →
      exec (.ethConfig r) s = .next ((s.setReg (Reg.ETH_CTRL k e) w).answer 0x0901 r [])) ∧
    (actsMedium (reqField r 12 0 3) ≠ actsMedium (fld (s.reg (Reg.ETH_CTRL k e)) 0 3) → exec (.ethConfig r) s =
      .next ((((s.setReg (Reg.ETH_CTRL k e) w).setRb (Reg.ETH_STATUS k e) 5 false).ethDown k e).answer 0x0901 r []))) ∧
  (∀ r s k, allowed cmdPrpPairSet r s → k = reqTarget r → s.medium k 0 ≠ 0 → s.medium k 1 ≠ 0 → s.ethBusy k 0 = false → s.ethBusy k 1 = false →
    exec (.prpPairSet r) s = .next ((((s.setPair k (reqBit r 12 0) (reqBit r 12 1)).setReg (Reg.PRP_LIFE_CHECK k) (reqWord r 16)).setReg
      (Reg.PRP_FORGET k) (reqWord r 20)).answer 0x0902 r [])) ∧
  (∀ r s k e l m, allowed cmdEthStatus r s → k = reqTarget r → e = reqSub r → l = (List.range 8).map (fun i => Reg.ETH_RX_FRAMES k e + 4 * i) →
    m = (List.range 5).map (fun i => Reg.PRP_DUP_DISCARD k + 4 * i) →
    exec (.ethStatus r) s = .next ((if reqBit r 12 0 then s.setRegs ((l ++ m).map fun a => (a, 0)) else s).answer 0x0903 r
      (s.reg (Reg.ETH_STATUS k e) :: l.map s.reg ++ [s.reg (Reg.PRP_STATUS k)] ++ m.map s.reg))) ∧
  (∀ k e s, s.hasKernel k → e < 2 → s.domainOn k 10 →
    (s.ethLink k e = true → exec (.ethLinkChange k e false 0) s = .next (s.ethDown k e)) ∧
    (∀ rate, s.medium k e ≠ 0 → s.rb (Reg.ETH_STATUS k e) 5 = false → s.ethLink k e = false →
      exec (.ethLinkChange k e true rate) s =
        .next ((s.setEth k e { (s.net k).eth e with out := [], pauseEnd := 0 }).setRf (Reg.ETH_STATUS k e) 0 4 (1 + 2 * (rate % 8)))) ∧
    (∀ c t, t = (s.setRb (Reg.ETH_STATUS k e) 4 true).setRb (Reg.ETH_STATUS k e) 5 false → t.rb (Reg.ETH_STATUS k e) 5 = false →
      exec (.sfpModuleInsert k e true true c) s = .next t) ∧
    (s.paired k = true → s.rb (Reg.PRP_STATUS k) e ≠ s.ethLink k e → exec (.prpLanChange k e) s =
      .next ((s.setRb (Reg.PRP_STATUS k) e (s.ethLink k e)).log k (if s.ethLink k e then Ev.prpLanUp else Ev.prpLanDown) 2 [e])) ∧
    (∀ b fcs full, s.ethLink k e = true → 14 ≤ b.length → exec (.ethFrameRx k e b fcs full) s = .next (s.ethRx k e b fcs full)) ∧
    (∀ t v b u, s.adapterOpen? k (ethAdapter e) = some t → ((s.net k).eth e).pauseEnd ≤ s.now → s.takeAdapter k t = some ((v, b), u) →
      byteAt b 1 = 1 → 18 ≤ b.length → b.length ≤ s.maxFrame k e →
      (byteAt b 0 = 1 → etherType (b.drop 4) ≠ 0x88F7 → v = false → u.paired k = false →
        exec (.ethFramePacket k e) s = .next (u.ethSend k e (b.drop 4))) ∧
      (byteAt b 0 ∉ [1, 2] → exec (.ethFramePacket k e) s = .next (u.adapterViolation k t)))) ∧
  (∀ k s, s.hasKernel k → s.domainOn k 10 →
    (∀ mac q, exec (.prpEntryExpiry k true mac q) s = .next ((s.setNet k { s.net k with
      proxy := (s.net k).proxy.filter fun v => !(v.1 == mac && decide (v.2.1 + 60000000000 ≤ s.now)) }).prpCount k)) ∧
    (∀ mac q, exec (.prpEntryExpiry k false mac q) s = .next ((s.setNet k { s.net k with
      seen := (s.net k).seen.filter fun v => !(v.1 == mac && v.2.1 == q),
      gone := ((s.net k).seen.filter fun v => v.1 == mac && v.2.1 == q) ++ (s.net k).gone }).prpCount k)) ∧
    (s.paired k = true → s.rb (Reg.PRP_CTRL k) 1 = true → exec (.prpLifeCheckTimer k) s =
      .next ((s.macOf k 0 :: (s.net k).proxy.map (·.1)).foldl (fun s' mac => (s'.setNet k { s'.net k with
        supSeq := ((s'.net k).supSeq + 1) % 65536 }).pairSend k true (supFrame (s.macOf k 0) mac (s'.net k).supSeq)) s)))

/-- The timebase, clock and log commands, and PTP. A source list replaces the old one, the time is set in Free-run, PTP and asymmetry words are stored,
and reads answer the time and the log entries without changing them; PTP messages, intervals and forwarded frames run where PTP is on. Rests on
parts of R329, R330, R337, R338, R340, R344 to R346 (Tables 10.3, 10.16 and 10.17). -/
def Obligations.TimeCommandsRun : Prop :=
  (∀ r s, allowed cmdTimeSourceList r s → exec (.timeSourceList r) s =
    .next (((s.setTime 0x014 (word (reqField r 12 8 8))).setSources (reqWords r 16 (reqField r 12 0 3))).answer 0x0A01 r [])) ∧
  (∀ r s, allowed cmdTimeRead r s → s.timeSource = 7 → exec (.timeRead r) s = .next (s.answer 0x0A02 r
    [word s.tai, word (s.tai / 2 ^ 32), packWord [(0, 16, s.taiFrac), (16, 16, 0xA0 + s.timeState)],
     packWord [(0, 16, 7), (16, 16, fld (s.timeReg timeUtcOff) 0 16)], 0xFFFFFFFF])) ∧
  (∀ r s t, allowed cmdTimeSet r s → s.timeState = 0 →
    t = s.setTaiX (((reqWord r 12).toNat + (reqWord r 16).toNat * 4294967296 : Nat) * 65536 + reqField r 20 0 16) →
    exec (.timeSet r) s =
      .next ((t.setTime timeUtcOff (setFld (t.timeReg timeUtcOff) 0 16 (reqField r 24 0 16))).sendTimeInfos.answer 0x0A03 r [])) ∧
  (∀ r s k t, allowed cmdPtpConfig r s → k = reqTarget r → reqField r 12 0 2 < 2 →
    t = (s.setRegs [(Reg.PTP_CTRL k, reqWord r 12 &&& 0x0077FF03), (Reg.PTP_PRIO k, reqWord r 16 &&& 0x0FFFFFFF)]).setNet k
      { s.net k with ocState := 3, master := none, sync := none, good := 0 } →
    exec (.ptpConfig r) s =
      .next (((t.setRf (Reg.PTP_PORT_STATE k 0) 0 4 3).setRf (Reg.PTP_PORT_STATE k 1) 0 4 3).answer 0x0A04 r [])) ∧
  (∀ r s, allowed cmdAsymmetrySet r s →
    exec (.asymmetrySet r) s = .next ((s.setReg (Reg.LTT_ASYM (reqTarget r) (reqSub r)) (reqWord r 12)).answer 0x0A05 r [])) ∧
  (∀ r s e, allowed cmdLogRead r s → e = s.logEntries (reqTarget r) (reqWord r 12).toNat (reqWord r 16).toNat →
    exec (.logRead r) s = .next (s.answer 0x0A06 r (word e.1 :: e.2.flatMap entryWords))) ∧
  (∀ r s, allowed cmdBlackboxRead r s → exec (.blackboxRead r) s =
    .next (s.answer 0x0A07 r ((List.range (reqWord r 16).toNat).flatMap fun i =>
      boxWords (((s.kern (reqTarget r)).box.getD ((reqWord r 12).toNat + i) none))))) ∧
  (∀ k e s t v b u, s.hasKernel k → e < 2 → s.domainOn k 10 → s.adapterOpen? k (ethAdapter e) = some t → ((s.net k).eth e).pauseEnd ≤ s.now →
    s.takeAdapter k t = some ((v, b), u) → byteAt b 1 = 1 → 30 ≤ b.length → b.length ≤ s.maxFrame k e → byteAt b 0 = 2 → u.rb (Reg.TUN_CTRL k t) 12 = true →
    u.timeState ≠ 2 → exec (.ptpFramePacket k e) s = .next (u.bump (Reg.PTP_TC_UNMEASURED k) 1)) ∧
  (∀ k e s, s.hasKernel k → e < 2 → s.domainOn k 10 → s.ethLink k e = true → s.rf (Reg.PTP_CTRL k) 0 2 ≠ 0 →
    (∀ m, 44 ≤ m.length → exec (.ptpMessageRx k e m) s = .next (s.ptpRx k e m)) ∧
    (∀ p q, p = (s.net k).eth e → q = (p.pdSeq + 1) % 65536 → exec (.ptpIntervalTimer k e 0) s =
      .next ((s.setEth k e { p with pdSeq := q, pdT1 := some s.taiX, pdResp := none }).ptpSend k e
        (s.ptpMessage k e 2 q 0 0 (List.replicate 20 0)))))

/-- The timebase moves to its best source, ends its holdover, follows REFCLK and is saved while Locked; a read of TIME_NOW_LO captures the instant; PPS,
IRIG-B, row markers and TIME_INFO packets bring time. Rests on parts of R330 to R336, R488, R492. -/
def Obligations.TimebaseFollowsItsInputs : Prop :=
  (∀ i s, i = s.bestSource → i ≠ s.timeSource → i < s.timeSource ∨ 6 ≤ s.timeSource → exec (.timeSourceChange i) s = .next (s.moveSource i)) ∧
  (∀ s, s.timeState = 3 → s.tb.lostAt + fld (s.timeReg 0x018) 0 16 * 1000000000 ≤ s.now →
    exec .holdoverExpiry s = .next ((s.putTimeState 0 s.timeSource s.timeKind).sendTimeInfos)) ∧
  (∀ b s, s.tb.refclk = !b → ∃ f : Int, -200000 ≤ f ∧ f ≤ 200000 ∧ exec (.refclkChange b) s =
    .next (({ s.fresh.2 with tb := { s.tb with refclk := b } } : State).setTime 0x01C (BitVec.ofInt 32 f))) ∧
  (∀ s, s.timeState = 2 → exec .aonLockTimeSave s =
    .next (s.setRegs [(Reg.AON_LOCK_TIME_LO, word s.tai), (Reg.AON_LOCK_TIME_HI, word (s.tai / 2 ^ 32))])) ∧
  (∀ k s, s.hasKernel k → exec (.timeNowRead k) s = .next { s.captureTime k with readOut := word s.tai }) ∧
  (∀ s, s.tb.irigSec = none → exec .ppsEdge s = .next { s with tb := { s.tb with
    ppsAt := some s.now, ppsRun := if s.tb.ppsAt.isSome && decide (999000000 ≤ s.now - s.tb.ppsAt.getD 0)
      && decide (s.now - s.tb.ppsAt.getD 0 ≤ 1001000000) then s.tb.ppsRun + 1 else 0 } }) ∧
  (∀ y d sod ext u z l a s, exec (.irigFrame false y d sod ext u z l a) s = .next { s with tb := { s.tb with irigRun := 0, irigSec := none } }) ∧
  (∀ y d sod l a s sec, s.tb.irigSec = none → s.rb (Reg.TIME_CTRL 0) 2 = false →
    sec = irigSecond y d sod (sfld (s.reg (Reg.TIME_CTRL 0)) 8 6 * 1800) s.utcOffset →
    exec (.irigFrame true (some y) d sod false 0 0 l a) s = .next { s with tb := { s.tb with
      irigSec := some sec, irigAt := s.now, irigRun := s.tb.irigRun + 1, irigBad := 0 } }) ∧
  (∀ k p n b0 b1 b2 b3 b4 b5 s q x r u tx er ex st you hops, s.hasPort k p → s.portOpen k p → s.rf (Reg.LNK_STATE k p) 4 2 ≠ 2 →
    q = s.linePort k p → x = s.port k q → r = (s.setPort k q { x with rxBlk := s.laneCount k p, rxScr := scrOf (s.laneCount k p) (s.laneCount k p) }).receive
      k p ([b0, b1, b2, b3, b4, b5].take n) → u = r.2.setPort k q { r.2.port k q with rxBlk := x.rxBlk, rxScr := x.rxScr } →
    controlsOf r.1 = [.rowInfo tx er ex st you hops] → exec (.rowInfoRx k p n b0 b1 b2 b3 b4 b5) s = .next (u.rowInfoRx k q tx er ex you)) ∧
  (∀ s, exec .timeInfoTimer s = .next s.sendTimeInfos) ∧
  (∀ k p s b l, s.hasPort k p → s.portState k p ∈ [3, 4] → (s.ctxAt k 4 p).rxq = b :: l →
    exec (.timeInfo k p) s = .next ((s.setCtxAt k 4 p { s.ctxAt k 4 p with rxq := l }).takeTimeInfo k p b.2))

/-! ### The mapper -/

/-- The mapper, check and seal commands. A signal is made invalid or defined, its state answered, a subscription, publication or HID field defined or
ended, a check unit set and answered with its old STATE, a scan started, and the seal of a Closed tunnel or its action set. Rests on parts of R349, R356,
R358, R361, R368, R370, R371, R375 (Tables 11.9 to 11.13). -/
def Obligations.MapperCommandsRun : Prop :=
  (∀ r s k g t u, allowed cmdSmapSignalSet r s → k = reqTarget r → g = reqSub r → reqBit r 12 31 = false → s.sigPublished k g = false →
    t = s.setRegs [(Reg.SMAP_CTRL k g, reqWord r 12 &&& 0x80003337), (Reg.SMAP_SRC k g, reqWord r 16 &&& 0x00FFFFFF),
      (Reg.SMAP_DST k g, reqWord r 20 &&& 0x00000FFF), (Reg.SMAP_A k g, reqWord r 24), (Reg.SMAP_B k g, reqWord r 28),
      (Reg.SMAP_DEADBAND k g, reqWord r 32), (Reg.SMAP_TIMEOUT k g, reqWord r 36 &&& 0xFFFF), (Reg.SMAP_IN k g, 0), (Reg.SMAP_OUT k g, 0),
      (Reg.SMAP_QUAL k g, 0), (Reg.SMAP_TIME_LO k g, 0), (Reg.SMAP_TIME_HI k g, 0)] →
    u = (t.setSig k g { rxAt := none }).ownPins k →
    exec (.smapSignalSet r) s =
      .next ((u.setMapper k { u.mapper k with due := (u.mapper k).due.filter fun h => h != g }).answer 0x0B01 r [])) ∧
  (∀ r s k g, admitted cmdSmapSignalRead r s → k = reqTarget r → g = reqSub r → g < 256 →
    exec (.smapSignalRead r) s = .next (s.answer 0x0B02 r [s.reg (Reg.SMAP_OUT k g), s.reg (Reg.SMAP_QUAL k g), s.reg (Reg.SMAP_TIME_LO k g),
      s.reg (Reg.SMAP_TIME_HI k g), s.reg (Reg.SMAP_IN k g)])) ∧
  (∀ r s k i, allowed cmdGooseSubscribe r s → k = reqTarget r → i = reqSub r → reqBit r 12 0 = false →
    exec (.gooseSubscribe r) s = .next (((s.setRegs [(Reg.GSUB_CTRL k i, 0), (Reg.GSUB_APPID k i, reqWord r 16 &&& 0xFFFF), (Reg.GSUB_STNUM k i, 0),
      (Reg.GSUB_SQNUM k i, 0)]).setSub k i {}).answer 0x0B03 r [])) ∧
  (∀ r s k i, allowed cmdGoosePublishSet r s → k = reqTarget r → i = reqSub r → reqBit r 12 0 = false →
    exec (.goosePublishSet r) s = .next (((s.setRegs [(Reg.GPUB_CTRL k i, 0), (Reg.GPUB_STNUM k i, 0), (Reg.GPUB_SQNUM k i, 0)]).setPub k i {}).answer
      0x0B04 r [])) ∧
  (∀ r s k f t, allowed cmdHidSnoopSet r s → k = reqTarget r → f = reqSub r → (s.hub k).form = 2 →
    t = s.setRegs [(Reg.HID_FIELD_A k f, reqWord r 12 &&& 0x0001FFF7), (Reg.HID_FIELD_B k f, reqWord r 16 &&& 0x003F01FF)] →
    exec (.hidSnoopSet r) s = .next ((if t.hidDead k f then t.sigsInvalid k (t.sigsFrom k fun kind w => kind == 4 && fld w 0 3 == f) else t).answer
      0x0B05 r [])) ∧
  (∀ r s k u, allowed cmdCheckUnitSet r s → k = reqTarget r → u = reqSub r → s.unitScan k u = none → s.feedLocked k u (reqField r 12 12 2) = false →
    exec (.checkUnitSet r) s = .next ((s.setUnit k u (reqWord r 12) (reqWord r 16) (reqWord r 20) (reqWord r 24)
      (if reqBit r 12 16 then some (reqWord r 28) else none)).answer 0x0B06 r [s.reg (Reg.CHK_STATE k u)])) ∧
  (∀ r s k u n, allowed cmdCheckScan r s → k = reqTarget r → u = reqSub r → n = ceilDiv (reqWord r 20).toNat 1048576 → s.scanJob k = none →
    s.rf (Reg.CHK_CFG k u) 12 2 = 2 → s.running.length < 16 → reqBit r 12 8 = true →
    exec (.checkScan r) s = .next ((s.startJob 0x0B07 r k n [word u, reqWord r 20]).answerJob 0x0B07 r s.newJobNum [word n])) ∧
  (∀ r s k t, allowed cmdSealSet r s → k = reqTarget r → t = (reqWord r 12).toNat →
    (reqBit r 16 3 = true → exec (.sealSet r) s =
      .next ((s.setRf (Reg.SEAL_ACT k (t / 16)) (2 * (t % 16)) 2 (reqField r 16 1 2)).answer 0x0B08 r [])) ∧
    (reqBit r 16 3 = false → s.tunState k t = 0 → exec (.sealSet r) s =
      .next (((s.setRb (Reg.TUN_OPTS k t) 4 (reqBit r 16 0)).setRf (Reg.SEAL_ACT k (t / 16)) (2 * (t % 16)) 2 (reqField r 16 1 2)).answer 0x0B08 r [])))

/-- What happens in the mapper beside its commands. A scan takes its next MiB; a GOOSE frame goes to every subscription that names it; a subscription,
a gathered state and a retransmission end their time; a debounced pin and a snooped report update their signals; a pip frame is read, channels are
sent again, and a channel that stays away makes its signal invalid. Rests on parts of R356 to R366, R370. -/
def Obligations.MapperEventsRun : Prop :=
  (∀ k s j u t, s.hasKernel k → s.scanJob k = some j → u = (j.args.getD 0 0).toNat →
    t = (s.fresh.2.setReg (Reg.CHK_STATE k u) (setFld 0 0 (s.chkWidth k u) s.fresh.1.toNat)).chkLatch k u →
    exec (.scanStep k) s =
      .next ((t.bump (Reg.CHK_BYTES k u) (min 1048576 ((j.args.getD 1 0).toNat - (j.step - 1) * 1048576))).nextStep j.num)) ∧
  (∀ k e m s, s.hasKernel k → e < 2 → exec (.gooseFrame k e m) s = .next (((List.range 16).filter fun i =>
      s.rb (Reg.GSUB_CTRL k i) 0 && s.rf (Reg.GSUB_CTRL k i) 1 2 == (if s.paired k then 2 else e)
        && s.reg (Reg.GSUB_APPID k i) == word (m.appid % 65536)).foldl (fun s i => s.gooseRx k i m) s)) ∧
  (∀ k i s t, s.hasKernel k → i < 16 → ((s.mapper k).sub i).talEnd ≠ none →
    t = (s.setSub k i { (s.mapper k).sub i with talEnd := none }).setRb (Reg.GSUB_CTRL k i) 31 true →
    exec (.gooseTalExpiry k i) s = .next (((t.bump (Reg.GSUB_TAL_EXP k i) 1).sigsInvalid k (t.subSignals k i)).log k Ev.gooseTimeout
      (((t.bump (Reg.GSUB_TAL_EXP k i) 1).sigsInvalid k (t.subSignals k i)).rf (Reg.GSUB_CTRL k i) 1 1)
      [i, ((t.bump (Reg.GSUB_TAL_EXP k i) 1).sigsInvalid k (t.subSignals k i)).rf (Reg.GSUB_APPID k i) 0 16])) ∧
  (∀ k i s t, s.hasKernel k → i < 4 → ((s.mapper k).pub i).gather = some t → exec (.gooseGatherEnd k i) s = .next (s.gooseNew k i t)) ∧
  (∀ k i s x, s.hasKernel k → i < 4 → x = (s.mapper k).pub i → s.rb (Reg.GPUB_CTRL k i) 0 = true → x.newAt ≠ none →
    exec (.gooseRetransmit k i) s = .next (((s.setReg (Reg.GPUB_SQNUM k i) (s.reg (Reg.GPUB_SQNUM k i) + 1)).setPub k i
      { x with interval := min (2 * x.interval) x.t0 }).gooseSend k i)) ∧
  (∀ k g level stamp s t, s.hasKernel k → g < 16 → s.rf (Reg.GPIO_CFG k g) 0 2 ∉ [1, 2] →
    t = (s.setRb (Reg.GPIO_IN k) g level).setRb (Reg.GPIO_RAW k) g level →
    exec (.gpioDebounce k g level stamp) s = .next (((t.sigsFrom k fun kind w => kind == 3 && fld w 0 4 == g).foldl
      (fun s h => s.sigUpdate k h 0 (word level.toNat) 0 stamp) t).pipFlush k)) ∧
  (∀ k p ep data s, s.hasKernel k → 1 ≤ p → p ≤ 4 → (∀ f < 8, bitAt (s.reg (Reg.HID_FIELD_A k f)) 0 = false) →
    exec (.hidReport k p ep data) s = .next (s.pipFlush k)) ∧
  (∀ k p s b l, s.hasPort k p → s.portState k p ∈ [3, 4] → (s.ctxAt k 5 p).rxq = b :: l →
    exec (.pipFrame k p) s = .next ((s.setCtxAt k 5 p { s.ctxAt k 5 p with rxq := l }).pipRxFrame k p b.2)) ∧
  (∀ k p s, s.hasPort k p → s.pipPort k p → exec (.pipHeartbeat k p) s =
    .next (s.pipSendAll 32 k p ((List.range 256).filter (s.beatDue k p)))) ∧
  (∀ k g s t, s.hasKernel k → g < 256 → s.sigOn k g → s.rf (Reg.SMAP_CTRL k g) 0 3 = 2 → s.rf (Reg.SMAP_TIMEOUT k g) 0 16 ≠ 0 →
    ((s.mapper k).sig g).rxAt ≠ none → t = (s.setSig k g { (s.mapper k).sig g with rxAt := none }).sigsInvalid k [g] →
    exec (.pipTimeout k g) s = .next (t.log k Ev.pipTimeout g [g, s.rf (Reg.SMAP_SRC k g) 2 10]))

/-! ### Feeds and LOAD -/

/-- The power commands and register writes. They answer the feeds, turn LOAD on and off (a delay of 0 at once), take the breaker and warning words,
read and clear the meter, and freeze its registers; SW_EN written on a Tripped LOAD is ignored and counted. Rests on parts of R378, R380, R387, R391, R393,
R396, R397 (Tables 12.7 and 12.8). -/
def Obligations.PowerCommandsRun : Prop :=
  (∀ r s, allowed cmdPwrFeedStatus r s → exec (.pwrFeedStatus r) s = .next (s.answer 0x0C01 r
    [s.reg (Reg.FEED_STATUS 0), s.reg (Reg.FEED_STATUS 1), s.reg (Reg.FEED_STATUS 2), s.reg (Reg.FEED_STATUS 3), s.reg Reg.PANEL_STATUS,
     s.reg Reg.LOAD_STATUS, s.reg Reg.LOAD_LAST_TRIP])) ∧
  (∀ r s, allowed cmdPwrLoadEnable r s → s.loadState ≠ 4 → s.swEn = false →
    exec (.pwrLoadEnable r) s = .next ((((s.setSwEn true).setRb Reg.LOAD_STATUS 7 false).tryRamp).answer 0x0C02 r [])) ∧
  (∀ r s, allowed cmdPwrLoadDisable r s → exec (.pwrLoadDisable r) s = .next ((s.loadDisable (reqWord r 12).toNat).answer 0x0C03 r [])) ∧
  (∀ r s, allowed cmdPwrBreakerSet r s → exec (.pwrBreakerSet r) s = .next ((s.setRegs
    ([(Reg.LOAD_INRUSH, reqWord r 12 &&& 0x03FF03FF), (Reg.LOAD_SOA, reqWord r 16 &&& 0x03FF007F), (Reg.LOAD_SHORT, reqWord r 20 &&& 0xF)]
      ++ (List.range 8).flatMap fun k =>
        [(Reg.BRK_I k, reqWord r (24 + 8 * k) &&& 0xFFF), (Reg.BRK_T k, reqWord r (28 + 8 * k) &&& 0x7FFFFF)])).syncShort.answer 0x0C04 r [])) ∧
  (∀ r s, allowed cmdPwrWarnSet r s → exec (.pwrWarnSet r) s = .next ((s.setWarn (reqWord r 12) (reqWord r 16)).answer 0x0C05 r [])) ∧
  (∀ r s, allowed cmdPwrMeterRead r s → exec (.pwrMeterRead r) s = .next (s.answer 0x0C06 r
    (((List.range 6).filter fun c => reqBit r 12 c).flatMap fun c => (List.range 9).map fun i => s.reg (Reg.MTR_V c + 4 * i)))) ∧
  (∀ r s c, allowed cmdPwrEnergyClear r s → c = ((List.range 5).filter fun c => reqBit r 12 c) → s.rb Reg.MTR_SNAP 0 = true →
    exec (.pwrEnergyClear r) s = .next ((s.setPath { s.path with
      energy := (List.range 5).map fun i => if c.contains i then 0 else s.path.energy.getD i 0 }).answer 0x0C07 r
        (c.flatMap fun i => [(BitVec.ofInt 64 (energyMj (s.path.energy.getD i 0))).setWidth 32,
          (BitVec.ofInt 64 (energyMj (s.path.energy.getD i 0))).extractLsb' 32 32]))) ∧
  (∀ v s, exec (.loadSwEnWrite v false) s = .next (s.loadDisable 0)) ∧
  (∀ v s, s.loadState = 4 → exec (.loadSwEnWrite v true) s = .next (s.ignoreWrite s.lead Reg.LOAD_CTRL)) ∧
  (∀ v s, s.loadState ≠ 4 → s.swEn = false → exec (.loadSwEnWrite v true) s = .next s.loadEnable) ∧
  (∀ v s, exec (.mtrSnapWrite v true) s = .next (s.setRb Reg.MTR_SNAP 0 true)) ∧
  (∀ v s, exec (.mtrSnapWrite v false) s = .next (s.setRb Reg.MTR_SNAP 0 false).showMeter)

/-- Feeds, the meter and PANEL outside Seed. A feed turns reverse and forward, goes Over and Fault with an event, and recovers; a sample runs through
the meter and the breaker curve; PANEL below WARN starts a warning, and its rise and hold end it. Rests on parts of R378 to R380, R389 to R394,
R409. -/
def Obligations.FeedsAndPanelFollow : Prop :=
  (∀ f mv s, f < 4 → exec (.feedVoltageChange f mv) s = .next (s.feedsFrom (s.feedVoltage f mv))) ∧
  ∀ s, s.inSeed = false →
    (∀ f, f < 4 → s.feedState f = 3 →
      exec (.feedReverse f true) s = .next (s.feedsFrom ((s.setFeedState f 2 true).bump (Reg.FEED_REV_OFF f) 1)) ∧
      (∀ ma, exec (.feedFault f ma) s =
        .next (s.feedsFrom (((s.setFeedState f 5 false).bump (Reg.FEED_FAULTS f) 1).logPower Ev.feedFault (feedIndex f) [ma, f])))) ∧
    (∀ f, f < 4 → s.feedState f = 2 → exec (.feedReverse f false) s = .next (s.feedsFrom (s.setFeedState f 3 false))) ∧
    (∀ f v, f < 4 → s.feedState f ≠ 4 → exec (.feedOverVoltage f v) s =
      .next (s.feedsFrom (((s.setFeedState f 4 false).bump (Reg.FEED_OV_EVENTS f) 1).logPower Ev.feedOv (feedIndex f) [v, f]))) ∧
    (∀ f, f < 4 → s.feedState f = 4 → exec (.feedOvRecover f) s = .next (s.feedsFrom ((s.setFeedState f 0 false).evalFeed f))) ∧
    (∀ codes l t u, l = ((List.range 6).map fun c => ((codes.getD c (0, 0)).1 % 65536, (BitVec.ofInt 16 (codes.getD c (0, 0)).2).toInt)) →
      t = ((s.meterSample l).setPanel (codeMilli (l.getD 5 (0, 0)).1).toNat).showMeter → u = t.curveSample (l.getD 4 (0, 0)).2 (l.getD 4 (0, 0)).1 →
      u.path.feedDue = false → exec (.meterSample codes) s = .next u) ∧
    (∀ mv, s.pfw = true → exec (.panelWarn mv) s = .next (s.setPanel mv).panelBelowWarn) ∧
    (∀ mv, s.pfw = false → exec (.panelWarn mv) s = .next ((s.setPanel mv).panelBelowWarn.frsTrigger 0)) ∧
    (∀ mv t, t = s.setPanel mv → t.pfw = true → t.path.dipDur = none →
      exec (.panelRise mv) s = .next (t.setPath { t.path with dipDur := some ((t.now - t.path.warnAt) / 1000) })) ∧
    (∀ d, s.path.dipDur = some d → s.path.dropped = false → s.path.rising = false → exec .panelHoldExpiry s =
      .next ((((s.setRegs [(Reg.DIP_LAST_MIN, word s.path.dipLow), (Reg.DIP_LAST_DUR, word d)]).bump Reg.DIP_COUNT 1).endWarn).logPower Ev.panelDip 7
        [s.path.dipLow, d]))

/-- LOAD. LOAD_EN low turns it off and high ends a standing trip and lets it ramp; a ramp that completes turns it On with LOAD_PG and its event; TIMER,
SOA and SHORT trip it with their causes 1, 2 and 4; the delay of a disable ends; outside Seed PANEL below DROP drops it, above DROP lets it ramp,
and below 8 V turns the cable sources off. Rests on parts of R382 to R387, R389, R390, R409. -/
def Obligations.LoadFollowsItsInputs : Prop :=
  (∀ s, s.loadEn = false → exec (.loadEnChange true) s = .next ((s.setRb Reg.LOAD_STATUS 3 true).clearTrip.tryRamp)) ∧
  (∀ s, s.loadEn = true → s.loadState ≠ 4 → exec (.loadEnChange false) s = .next ((s.setRb Reg.LOAD_STATUS 3 false).loadGateOff 0)) ∧
  (∀ s, s.rb Reg.LOAD_STATUS 7 = true → exec .loadDisableDelayEnd s = .next (s.loadGateOff 0)) ∧
  (∀ s, s.inSeed = false → s.loadState = 1 →
    (∀ us mj t, t = (((s.setRf Reg.LOAD_STATUS 0 3 2).setRb Reg.LOAD_STATUS 5 true).setRegs
        [(Reg.LOAD_FET_ENERGY, word mj), (Reg.LOAD_RAMP_TIME, word us)]).logPower Ev.loadOn 2 [us, mj] → t.path.dropped = false →
      exec (.rampComplete us mj) s = .next t) ∧
    (∀ ma mv mj, exec (.rampTimer ma mv mj) s = .next ((s.setReg Reg.LOAD_FET_ENERGY (word mj)).tripLoad 1 0 ma mv)) ∧
    (∀ ma mv, exec (.soaTrip ma mv) s = .next ((s.setReg Reg.LOAD_FET_ENERGY (word (s.rf Reg.LOAD_SOA 16 10 * 10))).tripLoad 2 0 ma mv)) ∧
    (∀ ma mv, s.rf Reg.LOAD_SHORT 16 16 * 10 < ma → exec (.shortTrip ma mv) s = .next (s.tripLoad 4 0 ma mv))) ∧
  ∀ s, s.inSeed = false →
    (∀ mv t u v, t = (s.setPanel mv).panelBelowWarn → t.path.dropped = false →
      u = (t.setPath { t.path with dropped := true, rising := false }).setRb Reg.PANEL_STATUS 5 false →
      v = (if u.loadState = 1 ∨ u.loadState = 2 then u.loadGateOff (if u.swEn then 3 else 0) else u) →
      exec (.panelDrop mv) s = .next (((v.bump Reg.DROP_COUNT 1).logPower Ev.panelDrop 7 [v.path.dipLow]).frsTrigger 1)) ∧
    (∀ mv t, t = s.setPanel mv → t.warnMv ≤ mv → exec (.panelAboveDrop mv) s = .next t.tryRamp) ∧
    (∀ mv, exec (.panelBelow8v mv) s = .next (((s.setPanel mv).sourceOff 0).sourceOff 1))

/-! ### Cable power -/

/-- The cable power commands. They answer the status words, take the role, source and fast-swap words, send a Request whose answer waits, read the
cable, and collect a policy image, whose job runs in three steps; a watchdog stops its Hook and a Hook comes back. Rests on parts of R398 to R401,
R405, R411, R414 to R416, R468 (Table 13.8). -/
def Obligations.CablePowerCommandsRun : Prop :=
  (∀ r s h, allowed cmdPdStatus r s → h = reqSub r → exec (.pdStatus r) s = .next (s.answer 0x0D01 r
    ([s.reg (Reg.PDC_STATUS h), s.reg (Reg.PDC_CONTRACT h)] ++ ((List.range 11).map fun i => s.reg (Reg.PDC_PARTNER_PDO h i))
      ++ [s.reg (Reg.VBUS_STATUS h)]))) ∧
  (∀ r s h, allowed cmdPdRolePrefSet r s → h = reqSub r → exec (.pdRolePrefSet r) s = .next ((s.setReg (Reg.PDC_CTRL h)
    ((s.reg (Reg.PDC_CTRL h) &&& ~~~ 0x37) ||| (reqWord r 12 &&& 0x37))).answer 0x0D02 r [])) ∧
  (∀ r s h t, allowed cmdPdSourceCapsSet r s → h = reqSub r → s.pdState h ∉ [6, 7] → (s.hook h).image ≠ 0 → s.rf (Reg.PDC_CTRL h) 0 3 ≠ 4 →
    t = s.setRegs ((List.range 7).map fun i => (Reg.PDC_SRC_PDO h i, if i < (reqWord r 12).toNat then reqWord r (16 + 4 * i) else 0)) →
    exec (.pdSourceCapsSet r) s = .next ((if t.isSource h then t.sendCaps h else t).answer 0x0D03 r [])) ∧
  (∀ r s h, allowed cmdPdSinkRequest r s → h = reqSub r → s.pdState h = 4 → (s.hook h).ask = none → reqBit r 12 0 = false →
    exec (.pdSinkRequest r) s = .next ((s.setHook h { s.hook h with named := none, ask := some r, askKernel := s.lead }).sendRequest h)) ∧
  (∀ r s h, allowed cmdPdFrsSet r s → h = reqSub r → exec (.pdFrsSet r) s =
    .next (((s.setRf (Reg.PDC_CTRL h) 8 3 (reqField r 12 0 3)).armFrs h).answer 0x0D05 r [])) ∧
  (∀ r s h, allowed cmdCableIdRead r s → h = reqSub r → 2 ≤ s.pdState h → exec (.cableIdRead r) s = .next (s.answer 0x0D07 r
    (packWord [(0, 4, s.rf (Reg.PDC_CABLE h) 0 4)] :: (List.range 4).map fun i => s.reg (Reg.PDC_CABLE_VDO h i)))) ∧
  (∀ r s b, allowed cmdHookPolicyUpdate r s → b = joinImage s.images.hook r → s.findRunning (fun j => j.opcode == 0x0D06) = none →
    imageDone b = false → exec (.hookPolicyUpdate r) s = .next (({ s with images := { s.images with
      hook := b, apply := if (reqWord r 16).toNat = 0 then reqBit r 12 0 else s.images.apply } } : State).answer 0x0D06 r [])) ∧
  (∀ s j, s.findRunning (fun j => j.opcode == 0x0D06) = some j →
    (j.step = 1 → exec .policyImageStep s = .next ((s.setReg (hookVerReg s.spareSlot) 0).nextStep j.num)) ∧
    (j.step = 2 → s.imageFault s.images.hook 2 = none → exec .policyImageStep s = .next (s.nextStep j.num)) ∧
    (j.step = 2 → s.imageFault s.images.hook 2 ≠ none → exec .policyImageStep s =
      .next ((s.log 0 Ev.fwVerifyFail 0 [2, s.spareSlot, 0x0D01]).endJob j.num .failed (statusCode .hwFault) 0x0D01)) ∧
    (j.step = 3 → exec .policyImageStep s =
      .next ((((s.setReg (hookVerReg s.spareSlot) (word (imageNum s.images.hook 4 4))).nextStep j.num).newImageFor 0).newImageFor 1))) ∧
  (∀ h s, s.hookUp h = true → exec (.hookWatchdog h) s = .next (s.stopHook h true)) ∧
  (∀ h s, h < 2 → s.inSeed = false → s.hooksDown.contains h = true → s.pdState h ≤ 1 →
    exec (.hookRestarted h) s = .next { s with hooksDown := s.hooksDown.filter fun x => x ≠ h })

/-- Hooks start, follow their cable and enter the Alavin mode. A dead battery and a start from ROM act on their Hook; an attach and a detach move its
state; the cable's answer is kept; discovery, Enter Mode, Exit Mode and the wait for Enter Mode act in the states that allow them. Rests on parts of
R99, R103, R398 to R405, R411, R414. -/
def Obligations.HooksStartAndEnterModes : Prop :=
  (∀ h s, h < 2 → s.part.vaon = false → exec (.deadBatteryStart h) s = .next ((s.setRb (Reg.VBUS_STATUS h) 3 true).setVbus h 250)) ∧
  (∀ h s t, h < 2 → s.inSeed = false → s.part.romDue.testBit h = true →
    t = { s with part := { s.part with romDue := maskOf 2 fun i => i != h && s.part.romDue.testBit i } } →
    exec (.hookRomStart h) s = .next (if t.rb (Reg.VBUS_STATUS h) 3 then ((t.runImage h 0).setRb (Reg.PDC_STATUS h) 11 true).attachPd h false false
      else t.runImage h t.bestImage)) ∧
  (∀ h v s, h < 2 → s.inSeed = false → s.pdState h ∈ [2, 3, 4, 5] →
    exec (.typecDetach h v) s = .next (((s.setVbus h (v / 20)).endAttach h).detachPort 0 h)) ∧
  ∀ h s, s.hookUp h = true →
    (∀ src cc2, s.pdState h ≤ 1 → s.roleAllowed h src = true → exec (.typecAttach h src cc2 0) s = .next (s.attachPd h src cc2)) ∧
    (s.attachedPd h = true → s.rb (Reg.PDC_STATUS h) 5 = true → ∀ kind svid mode, kind < 4 →
      exec (.discoverMessage h kind ⟨svid, mode⟩ 0) s = .next (s.pdSend h [.vdmNak kind])) ∧
    (s.rb (Reg.PDC_CONTRACT h) 5 = true → (s.hook h).image ≠ 0 → s.rb (Reg.PDC_STATUS h) 10 = false → exec (.alavinModeEnter h true) s =
      .next ((s.setHook h { s.hook h with modeWait := false, modesBegun := true }).modeEntered h)) ∧
    (s.rb (Reg.PDC_STATUS h) 10 = true → exec (.alavinModeExit h) s = .next (s.leaveMode h)) ∧
    (∀ t, (s.hook h).modeWait = true → t = s.setHook h { s.hook h with modeWait := false } → (t.hook h).ufpSwap = false →
      exec (.ufpModeWaitExpiry h) s = .next (t.modeMissing h)) ∧
    (∀ vdos t, (s.hook h).cableAsked = true →
      t = (s.setReg (Reg.PDC_CABLE h) (cableWord vdos)).setRegs ((List.range 4).map fun i => (Reg.PDC_CABLE_VDO h i, vdos.getD i 0)) →
      exec (.cableDiscoverIdentity h vdos) s = .next (((t.setHook h { t.hook h with cableAsked := false }).requestDue h).recaps))

/-- What a Hook that runs does with its partner. A hard reset starts over; a Request within the budget and the offer is accepted; contracts end a
transition; swaps, keep-alives and a fast role swap act in the states that allow them. Rests on parts of R398 to R405, R407, R410, R412, R413. -/
def Obligations.HooksFollowTheirPartner : Prop :=
  (∀ h s, s.hookUp h = true → s.attachedPd h = true → exec (.pdHardReset h) s = .next (s.hardReset h true)) ∧
  ∀ h s, s.hookUp h = true →
    (∀ pdos frs t, s.pdSource h = false → s.pdState h ∈ [2, 4, 8] →
      t = s.setRegs ((List.range 11).map fun i => (Reg.PDC_PARTNER_PDO h i, pdos.getD i 0)) →
      exec (.pdSourceCapabilities h pdos frs true) s = .next (((((t.setHook h { t.hook h with partnerFrs := frs, pend := none }).setRf
        (Reg.PDC_STATUS h) 12 2 2).setRb (Reg.PDC_STATUS h) 9 true).armFrs h).requestDue h)) ∧
    (∀ i v a frs t u, s.pdSource h = true → s.pdState h ∈ [3, 5] → t = s.setHook h { s.hook h with partnerFrs := frs } →
      v * a / 50 + s.sourcePower (1 - h) ≤ 10000 → t.sourcePower (1 - h) = s.sourcePower (1 - h) → t.requestFits h i v a = true →
      u = (t.setHook h { t.hook h with pend := some (contractWords i (((t.hook h).offer[i]?).getD 0) v a) }).setPd h 6 →
      exec (.pdRequest h i v a frs) s = .next ((u.sourceOn h v a).pdSend h [.accept])) ∧
    (s.pdState h = 7 → exec (.pdPsRdy h) s = .next ((s.frsDone h).afterTransition h)) ∧
    ((s.hook h).drAsked = false → (s.hook h).vconnAsked = false → (s.hook h).pend ≠ none → s.pdSource h = false → s.pdState h ∈ [2, 4, 8] →
      exec (.pdAcceptOrReject h true) s = .next (s.setPd h 6)) ∧
    (s.pdSource h = true → s.pdState h = 6 → exec (.vbusTransitionComplete h) s =
      .next (((((s.takeContract h 1).setPd h 5).pdSend h [.psRdy]).startModes h).afterTransition h)) ∧
    (s.attachedPd h = true → (∀ kind, 4 ≤ kind → exec (.pdSwapRequest h kind) s = .next (s.pdSend h [.notSupported])) ∧
      (s.pdState h ∉ [6, 7] → (s.hook h).image ≠ 0 → s.rf (Reg.PDC_CTRL h) 0 3 < 3 → exec (.pdSwapRequest h 0) s = .next (s.swapPower h))) ∧
    (s.pdSource h = false → s.rb (Reg.PDC_CONTRACT h) 5 = true → s.rf (Reg.PDC_CONTRACT h) 3 2 ≠ 0 → s.pdState h ∉ [6, 7] →
      exec (.pdKeepaliveTimer h) s = .next (s.keepAlive h)) ∧
    (s.pdSource h = true → s.pdState h = 5 → s.rf (Reg.PDC_CONTRACT h) 3 2 = 1 → exec (.pdKeepaliveLost h) s =
      .next ((((s.bump (Reg.PDC_KEEPALIVE_LOST h) 1).logPd h Ev.pdKeepaliveLost [1]).pdSend h [.hardReset]).hardReset h false)) ∧
    (s.attachedPd h = true → s.pdSource h = false → s.rb (Reg.PDC_STATUS h) 8 = false → exec (.frsSignal h) s = .next (s.logPd h Ev.pdFrs [0, 0]))

/-! ### Keys and firmware -/

/-- The key store, the life cycle and link security. A slot is shown without its secret, filled, emptied and narrowed; an advance is a job whose first
step blows the fuses; a port takes its policy; a failed health test stops a DRBG; a key phase ends at its time and the keys of the phase before
are discarded. Rests on parts of R419, R421, R424 to R427, R430 to R432, R437, R444 (Table 14.10). -/
def Obligations.KeyCommandsRun : Prop :=
  (∀ r s i, allowed cmdKeySlotInfo r s → i = reqField r 12 0 6 → exec (.keySlotInfo r) s = .next (s.answer 0x0E01 r
    ([s.keyAttr i, s.reg (Reg.KEY_INFO 0 i)] ++ s.hashWords i ++ if s.keyKind i = 2 ∨ s.keyKind i = 3 then keyWords (s.slotKey i) else []))) ∧
  (∀ r s t i, allowed cmdKeyDerive r s → i = reqField r 12 0 6 → t = s.fillSlot r → s.domainOn 0 12 = true → (derives r → s.engineUp) →
    (derives r → deriveParent r ≠ 0xFF → s.keyKind (deriveParent r) ≠ 0) → s.keyKind i = 0 → bitAt (s.keyAttr i) 23 = false →
    exec (.keyDerive r) s = .next (t.answer 0x0E02 r (if deriveKind r = 2 then keyWords (t.slotKey i) ++ t.hashWords i else []))) ∧
  (∀ r s i, allowed cmdKeyErase r s → i = reqField r 12 0 6 → s.keyKind i ≠ 0 → bitAt (s.keyAttr i) 23 = false → s.slotInUse i = false →
    exec (.keyErase r) s = .next (((s.clearSlot i).keyChanged i 4 (master r.via)).answer 0x0E03 r [])) ∧
  (∀ r s i, allowed cmdKeyAttrSet r s → i = reqField r 12 0 6 → s.keyKind i ≠ 0 → s.slotInUse i = false → exec (.keyAttrSet r) s =
    .next ((((s.setReg (Reg.KEY_ATTR 0 i) (attrWord r)).bumpGen i).keyChanged i 5 (master r.via)).answer 0x0E04 r [])) ∧
  (∀ r s, allowed cmdLifecycleAdvance r s → s.lifeCycle ≠ 3 → (s.lifeCycle = 1 → s.fieldGrant = true) → (jobLimit s).1 = false →
    s.findRunning (fun j => j.opcode == 0x0E05) = none → exec (.lifecycleAdvance r) s =
      .next ((s.startJob 0x0E05 r 0 2 []).answerJob 0x0E05 r s.newJobNum [2])) ∧
  (∀ s t j, s.findRunning (fun j => j.opcode == 0x0E05) = some j → j.abort = false →
    t = { s with part := { s.part with fuses := s.lifeCycle + 1, fuseMaster := (j.via.map master).getD 0 } } →
    exec .lifecycleFuseStep s = .next (((t.nextStep j.num).applyLife).nextStep j.num)) ∧
  (∀ r s k p, allowed cmdLinkAuthPolicy r s → k = reqTarget r → p = reqSub r → s.kernelRuns k = true → s.keyKind (reqField r 12 8 6) ≠ 0 →
    (∀ i, i < 4 → reqField r 16 (8 * i) 8 ≠ 0xFF → s.keyKind (reqField r 16 (8 * i) 8) ≠ 0) →
    exec (.linkAuthPolicy r) s = .next ((s.setRegs [(Reg.CRYPT_POLICY k p, reqWord r 12 &&& 0x3F07), (Reg.CRYPT_ANCHORS k p, reqWord r 16),
      (Reg.CRYPT_PHASE_S k p, reqWord r 20 &&& 0x1FFFF)]).answer 0x0E06 r [])) ∧
  (∀ k test s, s.hasKernel k = true → s.kernelState k ∉ [0, 6] → s.domainOn k 12 = true → exec (.drbgHealthFail k test) s =
    .next ((s.setKern k { s.kern k with drbgStop := true, entropyFails := min ((s.kern k).entropyFails + 1) 255 }).log k Ev.entropyFail 0x1FF [test])) ∧
  (∀ k p s, s.hasPort k p = true → s.cryptActive k p = true → s.portOpen k p = true → exec (.phaseChange k p) s = .next (s.nextPhase k p)) ∧
  ∀ k p s, s.hasPort k p = true → (s.port k p).oldKeys = true →
    exec (.oldPhaseDiscard k p) s = .next (s.setPort k p { s.port k p with oldKeys := false })

/-- Firmware slots, board tables and the black box. A write session opens the slot that does not run, takes data in order, and commits it as a job that
checks the image and copies it; a slot is selected, tried, reverted or confirmed; a board table is collected, checked and staged; the black box is
cleared. Rests on parts of R345, R440 to R443 (Table 14.10). -/
def Obligations.FirmwareAndTablesRun : Prop :=
  (∀ r s, allowed cmdFwInfo r s → exec (.fwInfo r) s = .next (s.answer 0x0F01 r ([s.peek (Reg.FW_STATUS 0), s.reg (Reg.SVN_MIN 0)]
    ++ [0, 1].flatMap fun i => (List.range 18).map fun j => word (imageNum (s.fwHeader i) (4 * j) 4)))) ∧
  (∀ r s t, allowed cmdFwWriteBegin r s → s.fwSelected ≠ s.fwSpare → s.fwTrial ≠ s.fwSpare + 1 → s.fwOpen = false → s.commitJob = none →
    t = (s.setCopies s.fwSpare 0).setFwSession true (master r.via) → exec (.fwWriteBegin r) s = .next (({ t with
      images := { t.images with fw := [], fwLen := (reqWord r 12).toNat, fwLast := t.now } } : State).answer 0x0F02 r [])) ∧
  (∀ r s, allowed cmdFwWriteData r s → s.fwOpen = true → s.fwOwner = master r.via →
    exec (.fwWriteData r) s = .next ((s.writeFw ((reqBytes r 20).take (reqWord r 16).toNat)).answer 0x0F03 r [])) ∧
  (∀ r s n, allowed cmdFwWriteCommit r s → s.fwOpen = true → s.fwOwner = master r.via → s.images.fw.length = s.images.fwLen →
    (jobLimit s).1 = false → n = s.variant.kernels + 1 → exec (.fwWriteCommit r) s =
      .next (((s.setFwSession false 0).startJob 0x0F04 r 0 n [word s.fwSpare]).answerJob 0x0F04 r s.newJobNum [word n])) ∧
  (∀ s, s.fwOpen = true → exec .fwSessionIdle s = .next (s.setFwSession false 0)) ∧
  (∀ s j i, s.commitJob = some j → i = (j.args.getD 0 0).toNat →
    (∀ good, j.step = 1 → s.imageFault s.images.fw 1 = none → exec (.fwCommitStep good) s = .next (s.nextStep j.num)) ∧
    (∀ good d, j.step = 1 → s.imageFault s.images.fw 1 = some d → exec (.fwCommitStep good) s =
      .next ((s.log 0 Ev.fwVerifyFail 0 [1, i, 0x0F00 + d]).endJob j.num .failed (statusCode .hwFault) (0x0F00 + d))) ∧
    (∀ good, j.step = 2 → exec (.fwCommitStep good) s = .next ((s.markCopy i 0).nextStep j.num)) ∧
    (2 < j.step → exec (.fwCommitStep false) s = .next (s.endJob j.num .failed (statusCode .hwFault) 0x0F04)) ∧
    (2 < j.step → j.step < j.steps → exec (.fwCommitStep true) s = .next ((s.markCopy i (j.step - 2)).nextStep j.num))) ∧
  (∀ r s i, allowed cmdFwSlotSelect r s → i = reqField r 12 0 1 →
    (reqField r 12 8 2 = 2 → exec (.fwSlotSelect r) s = .next ((((s.setRf (Reg.FW_STATUS 0) 1 1 s.fwRunning).setRf (Reg.FW_STATUS 0) 2 2 0).setRb
      (Reg.FW_STATUS 0) 4 false).answer 0x0F05 r [])) ∧
    (reqField r 12 8 2 = 0 → s.slotValid i = true → s.rf (Reg.SVN_MIN 0) 0 6 ≤ s.fwSvn i →
      exec (.fwSlotSelect r) s = .next ((s.setRf (Reg.FW_STATUS 0) 1 1 i).answer 0x0F05 r [])) ∧
    (reqField r 12 8 2 = 1 → s.slotValid i = true → s.rf (Reg.SVN_MIN 0) 0 6 ≤ s.fwSvn i →
      exec (.fwSlotSelect r) s = .next ((s.setRf (Reg.FW_STATUS 0) 2 2 (i + 1)).answer 0x0F05 r [])) ∧
    (reqField r 12 8 2 = 3 → s.fwSelected = s.fwRunning → s.rf (Reg.SVN_MIN 0) 0 6 < s.fwSvn s.fwRunning →
      exec (.fwSlotSelect r) s = .next (((s.setReg (Reg.SVN_MIN 0) (word (s.fwSvn s.fwRunning))).log 0 Ev.svnRaised 0
        [s.rf (Reg.SVN_MIN 0) 0 6, s.fwSvn s.fwRunning]).answer 0x0F05 r []))) ∧
  (∀ r s b, allowed cmdBoardTableLoad r s → b = joinImage s.images.table r → s.findRunning (fun j => j.opcode == 0x0F06) = none →
    imageDone b = false → exec (.boardTableLoad r) s = .next (({ s with images := { s.images with table := b } } : State).answer 0x0F06 r [])) ∧
  (∀ s j, s.findRunning (fun j => j.opcode == 0x0F06) = some j →
    (j.step = 1 → s.tableFault s.images.table = none → exec .boardTableStep s = .next (s.nextStep j.num)) ∧
    (j.step = 2 → exec .boardTableStep s =
      .next ((s.setImages { s.images with staged := s.images.table, stagedDue := false, powerStaged := none }).nextStep j.num)) ∧
    (2 < j.step → exec .boardTableStep s = .next ((s.setImages { s.images with
      stagedDue := true, powerStaged := some (boardPower (imageBody s.images.staged), word (imageNum s.images.staged 4 4)) }).nextStep j.num))) ∧
  (∀ r s k, allowed cmdBlackboxClear r s → k = reqTarget r →
    exec (.blackboxClear r) s = .next ((s.setKern k { s.kern k with box := [] }).answer 0x0A08 r []))

/-! ### Mailboxes, locks and registers -/

/-- Mailboxes and doorbells. Word 63 sets FULL when written and clears it when read; doorbells merge; each command has the effect of the register
accesses it stands for. Rests on parts of R69 to R72, R82, R481 (Tables 2.11 and 2.16). -/
def Obligations.MailboxesRun : Prop :=
  (∀ v k m s w, s.hasKernel k = true → m < 16 → s.kernelRuns k = true →
    exec (.mboxWord63Write v k m w) s = .next (s.mboxDataWrite v k m 63 w) ∧
    exec (.mboxWord63Read v k m) s = .next { s.mboxConsume k m with readOut := s.reg (Reg.MBOX_DATA k m 63) } ∧
    exec (.dbRingWrite v k w) s = .next (s.ringDoorbells k w) ∧
    exec (.dbPendWrite v k w) s = .next (s.setReg (Reg.DB_PEND k) (s.reg (Reg.DB_PEND k) &&& ~~~ w))) ∧
  (∀ r s k m c t, allowed cmdMboxWrite r s → k = reqTarget r → m = reqSub r → c = reqField r 16 0 7 → s.isStale k m (master r.via) = false →
    s.mboxFull k m = false → (s.lockOwner k m = 0 ∨ (s.lockOwner k m = master r.via ∧ reqField r 12 0 16 = s.lockGen k m)) →
    t = (List.range c).foldl (fun s i => s.mboxPut r.via k m (reqField r 12 16 6 + i) (reqWord r (20 + 4 * i))) s →
    exec (.mboxWrite r) s = .next ((if reqBit r 12 24 && decide (reqField r 12 16 6 + c ≤ 63) then
      t.mboxPut r.via k m 63 (t.reg (Reg.MBOX_DATA k m 63)) else t).answer 0x1001 r [])) ∧
  (∀ r s k m, allowed cmdMboxRead r s → k = reqTarget r → m = reqSub r → exec (.mboxRead r) s =
    .next ((if reqBit r 12 16 then s.mboxConsume k m else s).answer 0x1002 r
      (s.reg (Reg.MBOX_STAT k m) :: (List.range (reqField r 12 8 7)).map fun i => s.reg (Reg.MBOX_DATA k m (reqField r 12 0 6 + i))))) ∧
  (∀ r s, allowed cmdDoorbellRing r s → exec (.doorbellRing r) s = .next ((s.ringDoorbells (reqTarget r) (reqWord r 12)).answer 0x1003 r []))

/-- Hardware locks. A read of a lock takes it when it is free; a write of 0 by its owner releases it; a lock whose owner is idle or in Fault is broken;
each command has the effect of the register accesses it stands for. Rests on parts of R73 to R79, R82, R481 (Tables 2.11 and 2.16). -/
def Obligations.LocksRun : Prop :=
  (∀ v k m s w, s.hasKernel k = true → m < 16 → s.kernelRuns k = true →
    exec (.mboxLockRead v k m) s = .next { (s.lockRead v k m).2 with readOut := (s.lockRead v k m).1 } ∧
    exec (.mboxLockWrite v k m w) s = .next (s.lockWrite v k m w)) ∧
  (∀ k m s, s.hasKernel k = true → m < 16 → ((s.lockOwner k m = 1 ∧ s.spiIdle k = true) ∨
      (s.lockOwner k m ∈ [2, 3, 4] ∧ s.ownerInFault k (s.lockOwner k m) = true)) →
    exec (.lockIdleBreak k m) s = .next (s.breakLock k m (8 + s.lead) false)) ∧
  (∀ r s k m, allowed cmdLockAcquire r s → k = reqTarget r → m = reqSub r → (s.lockOwner k m = 0 ∨ s.lockOwner k m = master r.via) →
    exec (.lockAcquire r) s = .next ((s.lockRead r.via k m).2.answer 0x1004 r [word (s.lockGen k m)])) ∧
  (∀ r s k m, allowed cmdLockRelease r s → k = reqTarget r → m = reqSub r → s.lockOwner k m = master r.via → reqField r 12 0 16 = s.lockGen k m →
    s.isStale k m (master r.via) = false →
    exec (.lockRelease r) s = .next ((s.setRf (Reg.MBOX_LOCK k m) 0 5 0).answer 0x1005 r [])) ∧
  (∀ r s k m, allowed cmdLockStatus r s → k = reqTarget r → m = reqSub r → exec (.lockStatus r) s = .next (s.answer 0x1007 r
    [s.reg (Reg.MBOX_LOCK k m), s.reg (Reg.MBOX_STAT k m), s.reg (Reg.MBOX_CNT k m), s.reg (Reg.MBOX_RECV k m)])) ∧
  (∀ r s t k m o, allowed cmdLockBreak r s → k = reqTarget r → m = reqSub r → o = s.lockOwner k m → o ≠ 0 →
    (master r.via = 8 + s.lead ∨ s.ownerInFault k o = true) → t = s.breakLock k m (master r.via) (reqBit r 12 0) →
    exec (.lockBreak r) s = .next (t.answer 0x1006 r [packWord [(0, 16, t.lockGen k m), (16, 5, o)]]))

/-- Register accesses and diagnostics. A range that passes its checks is read, or written, in the order of its addresses; REG_MODIFY answers the old
word and the new; a read of an RC field clears it; the diagnostic commands answer counters and sensors, and set a loopback in Test. Rests on parts of R12,
R67, R68, R83, R347, R479 to R482 (Tables 2.10 and 2.17). -/
def Obligations.RegisterAccessesRun : Prop :=
  (∀ r s a c, allowed cmdRegRead r s → a = regAddrOf r → c = (reqWord r 16).toNat → passes (s.reachChecks a) = true →
    exec (.regRead r) s = .next ((s.readRegs r.via ((List.range c).map fun i => a + 4 * i)).2.answer 0x1F01 r
      (s.readRegs r.via ((List.range c).map fun i => a + 4 * i)).1)) ∧
  (∀ r s a, allowed cmdRegRead r s → a = regAddrOf r → (reqWord r 16).toNat = 1 → s.leadAnswers a 1 = true →
    exec (.regRead r) s = .next ((s.readReg r.via a).2.answer 0x1F01 r [(s.readReg r.via a).1])) ∧
  (∀ r s a, allowed cmdRegWrite r s → a = regAddrOf r → passes (s.reachChecks a) = true →
    exec (.regWrite r) s = .next ((s.writeRegs r.via a (r.params.drop 2)).answer 0x1F02 r [])) ∧
  (∀ r s a x y t, allowed cmdRegModify r s → a = regAddrOf r → passes (s.reachChecks a) = true →
    x = s.readReg r.via a → y = modifyWord a x.1 (reqWord r 16) (reqWord r 20) → t = x.2.writeReg r.via a y →
    exec (.regModify r) s = .next (t.answer 0x1F03 r [x.1, t.peek a])) ∧
  (∀ k s t, s.hasKernel k = true → s.kernelRuns k = true → t = s.captureLog k →
    exec (.logWinRead k) s = .next { t with readOut := t.peek (Reg.LOG_WIN k 0) }) ∧
  (∀ a s, (addrUnit a = 15 ∨ s.hasKernel (addrUnit a) = true) → isRc a = true → passes (s.reachChecks a) = true →
    exec (.rcFieldRead a) s = .next { (if s.openReg a then s.fresh.2 else s.clearRc a) with readOut := s.peek a }) ∧
  (∀ v a w s, (addrUnit a = 15 ∨ s.hasKernel (addrUnit a) = true) → a % 4 = 0 → s.mapped v a = true →
    writeAllowed (master v) (addrUnit a) (addrBlock a) = true → passes (s.reachChecks a) = true →
    exec (.registerWrite v a w) s = .next (s.writeReg v a w)) ∧
  (∀ r s u b l, allowed cmdDiagCountersRead r s → u = reqTarget r → b = reqField r 12 0 8 →
    ((u = 15 ∨ kernelBlockDomain b ≤ 1) ∨ s.domainOn u (kernelBlockDomain b) = true) →
    l = (((rcOffsets u b).drop (reqField r 16 0 16)).take 255).map (fun o => regAddr u b o) → exec (.diagCountersRead r) s =
      .next (let x := s.showCounters l
             (if reqBit r 12 31 then l.foldl (fun s a => s.clearRc a) x.2 else x.2).answer 0x1101 r
               (packWord [(0, 16, (rcOffsets u b).length), (16, 16, l.length)] :: x.1))) ∧
  (∀ r s k p, allowed cmdDiagLoopback r s → k = reqTarget r → p = reqSub r → s.domainOn k (4 + p / 2) = true → s.portState k p = 6 →
    exec (.diagLoopback r) s = .next (((s.setRb (Reg.DIAG_LOOP k) p (reqField r 12 0 2 == 1)).setRb (Reg.DIAG_LOOP k) (4 + p)
      (reqField r 12 0 2 == 2)).answer 0x1102 r [])) ∧
  ∀ r s, allowed cmdDiagSensors r s →
    (reqTarget r = 15 → exec (.diagSensors r) s = .next ((s.freshList 2).2.answer 0x1103 r ((s.freshList 2).1 ++ [word s.path.panel]))) ∧
    (reqTarget r ≠ 15 → exec (.diagSensors r) s = .next ((s.freshList 7).2.answer 0x1103 r (s.freshList 7).1))

/-! ### The part as a whole -/

/-- A step takes the command at the front of the queue and runs it on the state with the rest of the queue, for every command and every state. With an
empty queue the block idles for one nanosecond, and only the resets that wait for their replies (R465) take place: that one is the model's choice
(log entry 1). -/
def Obligations.TheFrontCommandRuns : Prop :=
  (∀ c s, step { s with pending := c :: s.pending } = exec c s) ∧
  ∀ s, s.pending = [] → step s = .next (State.dueResets { s with now := s.now + 1 })

/-- What power-on reset leaves: the reset column of the register tables, for registers of several blocks; no command waits, no job runs, no transport
is up and nothing is attached; and every sparse map is in its canonical form. -/
def Obligations.ResetLeavesTheTableValues : Prop :=
  State.reset.Canonical ∧ State.reset.pending = [] ∧ State.reset.jobs = [] ∧ (∀ v, (State.reset.ep v).up = false) ∧
  (∀ k, k < 8 → State.reset.reg (Reg.TIME_UTC_OFFSET k) = 37 ∧ State.reset.reg (Reg.TUN_VIOL_LIMIT k) = 256 ∧ State.reset.kernelState k = 0 ∧
    ∀ p, p < 4 → State.reset.portState k p = 0 ∧ State.reset.rf (Reg.CRYPT_PHASE_S k p) 0 17 = 3600) ∧
  (∀ k, k < 8 → ∀ t, t < 512 → State.reset.tunState k t = 0 ∧ State.reset.rf (Reg.TUN_LABELS k t) 0 12 = 512 * k + t) ∧
  ∀ h, h < 2 → State.reset.pdState h = 0

/-- Every step keeps every sparse map of the state in its canonical form, whatever the command: keys strictly rising, and no entry that an unlisted
key would read as. It also takes one command off the queue and adds none, keeps the variant, never turns the time back, and never turns the
counter of free values back. -/
def Obligations.EveryStepKeepsTheForm : Prop :=
  ∀ s t, step s = .next t →
    (s.Canonical → t.Canonical) ∧ t.pending = s.pending.tail ∧ t.variant = s.variant ∧ s.now ≤ t.now ∧ s.free ≤ t.free

/-- Every command completes: each of the forms, whatever its operands and in every state, has a next state, so none is refused and none faults. A
command packet on a transport that is down does nothing (R80, R515), and an event that names a port which the variant does not have brings nothing
about (the model's choice, log entry 37). -/
def Obligations.EveryCommandAnswers : Prop :=
  (∀ i s, ∃ t, exec i s = .next t) ∧
  (∀ i c r s, request? i = some (c, r) → s.viaUp r.via = false → exec i s = .next (s.settled i)) ∧
  ∀ i k p s, s.hasPort k p = false → i ∈ [.moduleDetach k p, .backoffExpiry k p, .shellIdleExpiry k p, .shellExit k p, .huskIdleExpiry k p,
      .bindTimeout k p, .bindDrainEnd k p, .roleFlip k p, .roleSwapRetry k p, .roleSwapTimeout k p, .resumePairingTimeout k p, .resumeWindowExpiry k p,
      .timeInfo k p, .phaseChange k p, .oldPhaseDiscard k p] → exec i s = .next s

/-- R59: a refusal leaves the part as it was. A request whose status is neither DONE nor ACCEPTED changes nothing but the reject count, the count and
log entry of a DENIED (R429), and the reply, which has no data; this holds for every command packet of Table 2.9. -/
def Obligations.RefusalsLeaveThePartAsItWas : Prop :=
  ∀ i c r s, request? i = some (c, r) → s.viaUp r.via = true →
    (∀ st d, firstFail (earlyChecks r s) = some (st, d) → st ≠ .badCheck → exec i s = .next (((s.bump (Reg.DIAG_REJECT (localKernel r.via)
      (master r.via)) 1).deliver r.via r.slot (replyPacket c.opcode r st d [])).settled i)) ∧
    (∀ res k, passes (earlyChecks r s) = true → passes (flagChecks r s) = true → isForward r = false → res = runLocal c r s →
      k = rejectKernel c r s → res.status ≠ .done → res.status ≠ .accepted →
      exec i s = .next ((((s.bump (Reg.DIAG_REJECT k (master r.via)) 1).noteDenied k (master r.via) c.opcode res.status res.detail).deliver r.via
        r.slot (replyPacket c.opcode r res.status res.detail [])).settled i))

/-- What commands that only read leave alone. When they answer DONE, nothing of the part changes but the transport that carries the reply: its
endpoint, the reply slots of a PCIe function, or the cells that wait on a control tunnel. Rests on parts of R41, R59, R80. -/
def Obligations.ReadingCommandsChangeNothing : Prop :=
  ∀ i c r s, i ∈ [.sysInfo r, .getReply r, .jobStatus r, .nop r, .portInfo r, .tunInfo r, .rowTableRead r, .rawRouteRead r, .skeinInfo r, .logRead r,
      .blackboxRead r, .smapSignalRead r, .pwrFeedStatus r, .pdStatus r, .cableIdRead r, .keySlotInfo r, .fwInfo r, .lockStatus r] →
    request? i = some (c, r) → allowed c r s → (runLocal c r s).status = .done →
    ∃ t, exec i s = .next t ∧ { t with ends := s.ends, pcieFns := s.pcieFns, ctxs := s.ctxs } = s ∧
      (∀ v, viaKey v ≠ viaKey r.via → t.ep v = s.ep v) ∧ ((∀ k, r.via ≠ .pcie k) → t.pcieFns = s.pcieFns) ∧
      ((∀ k p, r.via ≠ .link k p) → t.ctxs = s.ctxs)

/-- A register write changes the one word at its address: in every state in canonical form a read gives what was written, every other address reads as
before, a field write leaves the other bits of its word, and no other field of the state changes. -/
def Obligations.RegisterWritesChangeOneWord : Prop :=
  ∀ (s : State) a w, s.Canonical → (s.setReg a w).reg a = w ∧ (∀ b, b ≠ a → (s.setReg a w).reg b = s.reg b) ∧
    { s.setReg a w with regs := s.regs } = s ∧
    (∀ lo n v, lo + n ≤ 32 → v < 2 ^ n → (s.setRf a lo n v).rf a lo n = v ∧
      (∀ lo' n', lo' + n' ≤ lo ∨ lo + n ≤ lo' → (s.setRf a lo n v).rf a lo' n' = s.rf a lo' n') ∧
      (∀ b, b ≠ a → (s.setRf a lo n v).reg b = s.reg b) ∧ { s.setRf a lo n v with regs := s.regs } = s)

/-- R73: hardware locks are taken by reading. A read of MBOX_LOCK while OWNER is 0 makes the reader the owner and returns OWNER 0 with GEN, as does a
read by the owner; a read by another master returns the owner and GEN and changes nothing but the end of a stale owner's refusal (R77).
LOCK_ACQUIRE does the same, and LOCK_STATUS only tells. -/
def Obligations.LocksAreTakenByReading : Prop :=
  (∀ v k m s o g t, s.hasKernel k = true → m < 16 → s.kernelRuns k = true → o = s.lockOwner k m → g = s.lockGen k m →
    t = (if s.isStale k m (master v) then s.endStale k m (master v) else s) →
    (o = 0 → exec (.mboxLockRead v k m) s = .next { t.setRf (Reg.MBOX_LOCK k m) 0 5 (master v) with readOut := packWord [(16, 16, g)] }) ∧
    (o = master v → exec (.mboxLockRead v k m) s = .next { t with readOut := packWord [(16, 16, g)] }) ∧
    (o ≠ 0 → o ≠ master v → exec (.mboxLockRead v k m) s = .next { t with readOut := packWord [(0, 5, o), (16, 16, g)] })) ∧
  (∀ r s k m o t, allowed cmdLockAcquire r s → k = reqTarget r → m = reqSub r → o = s.lockOwner k m →
    t = (if s.isStale k m (master r.via) then s.endStale k m (master r.via) else s) →
    (o = 0 → exec (.lockAcquire r) s =
      .next ((t.setRf (Reg.MBOX_LOCK k m) 0 5 (master r.via)).answer 0x1004 r [word (s.lockGen k m)])) ∧
    (o = master r.via → exec (.lockAcquire r) s = .next (t.answer 0x1004 r [word (s.lockGen k m)])) ∧
    (o ≠ 0 → o ≠ master r.via → exec (.lockAcquire r) s = .next ((s.bump (Reg.DIAG_REJECT k (master r.via)) 1).deliver r.via r.slot
      (replyPacket 0x1004 r .lockedByOther o [])))) ∧
  ∀ r s k m, allowed cmdLockStatus r s → k = reqTarget r → m = reqSub r →
    ∃ d, exec (.lockStatus r) s = .next (s.answer 0x1007 r (s.reg (Reg.MBOX_LOCK k m) :: d))

/-- The test access port (R502). Five edges of TCK with TMS high reset the controller from any state; an edge changes nothing of the part but the TAP
and the counter of free values; and while JTAG_OPEN is 0 no instruction but BYPASS, IDCODE, SAMPLE/PRELOAD, EXTEST and EXTEST_PULSE comes into force in
any die. -/
def Obligations.TheTapServesTheOpenInstructions : Prop :=
  (∀ s tdi, ((List.replicate 5 true).foldl (fun s tms => State.tapClock s tms tdi) s).tap.ctrl = .logicReset) ∧
  (∀ (s : State) tms tdi, { s.tapClock tms tdi with tap := s.tap, free := s.free } = s) ∧
  ∀ (s : State) tms tdi, s.rb (Reg.LC_STATE 0) 4 = false → TapInstr.debug ∉ s.tap.instrs → TapInstr.debug ∉ (s.tapClock tms tdi).tap.instrs

/-- R53: a remote request whose opcode group is not allowed. Whatever the command, when bit g of REMOTE_GROUPS is 0, g the high byte of the opcode, a
request that arrives on a link and whose header, unit and parameters pass is answered DENIED, detail 4, and is not executed: nothing changes but
the reject count and the count and log entry of a DENIED. -/
def Obligations.ClosedGroupsAreDeniedToTheFarPart : Prop :=
  ∀ i c r s k p, request? i = some (c, r) → r.via = .link k p → s.viaUp r.via = true → passes (earlyChecks r s) = true →
    passes (flagChecks r s) = true → passes (unitChecks c r s) = true → passes (c.bad r (reqTarget r) s) = true →
    (s.reg (Reg.REMOTE_GROUPS k)).getLsbD (c.opcode / 256) = false →
    exec i s = .next ((((s.bump (Reg.DIAG_REJECT (rejectKernel c r s) 4) 1).noteDenied (rejectKernel c r s) 4 c.opcode .denied 4).deliver r.via
      r.slot (replyPacket c.opcode r .denied 4 [])).settled i)
end

