-- ==== Sys2Proof/Laws/Bits.lean ====
section
/-! SUPPORT. Fields of words: what a field write leaves in each bit and each field. -/

namespace Sys2Proof.Machine

/-- A bit of a field mask. -/
theorem getLsbD_fldMask (lo n i : Nat) : (fldMask lo n).getLsbD i = (decide (i < 32) && decide (lo ≤ i) && decide (i < lo + n)) := by
  simp only [fldMask, BitVec.getLsbD_shiftLeft, BitVec.getLsbD_setWidth, BitVec.getLsbD_allOnes]
  by_cases h1 : i < 32 <;> by_cases h2 : lo ≤ i <;> by_cases h3 : i < lo + n <;> simp [h1, h2, h3] <;> omega

/-- A bit of a word after a field write. -/
theorem getLsbD_setFld (w : Word) (lo n v i : Nat) :
    (setFld w lo n v).getLsbD i = if i < 32 ∧ lo ≤ i ∧ i < lo + n then v.testBit (i - lo) else w.getLsbD i := by
  by_cases h : i < 32
  · simp only [setFld, BitVec.getLsbD_or, BitVec.getLsbD_and, BitVec.getLsbD_not, getLsbD_fldMask, BitVec.getLsbD_shiftLeft,
      BitVec.getLsbD_ofNat]
    by_cases h2 : lo ≤ i <;> by_cases h3 : i < lo + n <;> simp [h, h2, h3]
    have h4 : ¬ i < lo := by omega
    have h5 : i - lo < 32 := by omega
    simp [h4, h5]
  · rw [if_neg (by omega), BitVec.getLsbD_of_ge _ _ (by omega), BitVec.getLsbD_of_ge _ _ (by omega)]

/-- A field read after it was written. -/
theorem fld_setFld (w : Word) (lo n v : Nat) (hn : lo + n ≤ 32) (hv : v < 2 ^ n) : fld (setFld w lo n v) lo n = v := by
  apply Nat.eq_of_testBit_eq
  intro i
  simp only [fld, BitVec.testBit_toNat, BitVec.getLsbD_extractLsb', getLsbD_setFld]
  by_cases hi : i < n
  · have : lo + i < 32 := by omega
    simp [hi, this]
  · simp only [hi, decide_false, Bool.false_and]
    exact (Nat.testBit_lt_two_pow (Nat.lt_of_lt_of_le hv (Nat.pow_le_pow_right (by decide) (by omega)))).symm

/-- A field read after a disjoint one was written. -/
theorem fld_setFld_of_disjoint (w : Word) (lo n v lo' n' : Nat) (h : lo' + n' ≤ lo ∨ lo + n ≤ lo') :
    fld (setFld w lo n v) lo' n' = fld w lo' n' := by
  apply Nat.eq_of_testBit_eq
  intro i
  simp only [fld, BitVec.testBit_toNat, BitVec.getLsbD_extractLsb', getLsbD_setFld]
  by_cases hi : i < n'
  · rw [if_neg (by omega)]
  · simp [hi]

end Sys2Proof.Machine
end

