-- ==== Sys2Proof/Laws/Maps.lean ====
section
/-! SUPPORT. The sparse maps of the state: what a key reads as after a write, and that a write and a filter keep the canonical form. -/

namespace Sys2Proof.Machine

variable {α : Type}

/-- The canonical form as a proposition: keys strictly rising, no default listed. -/
theorem smapWf_iff [DecidableEq α] {d : Nat → α} {m : List (Nat × α)} :
    smapWf d m = true ↔ m.Pairwise (fun a b => a.1 < b.1) ∧ ∀ e ∈ m, e.2 ≠ d e.1 := by
  simp [smapWf]

/-- A key that no entry has reads as the default. -/
theorem smapGet_of_not_mem {d : Nat → α} {m : List (Nat × α)} {k : Nat} (h : ∀ e ∈ m, e.1 ≠ k) : smapGet d m k = d k := by
  induction m with
  | nil => rfl
  | cons e t ih =>
    have h1 : e.1 ≠ k := h e (by simp)
    simp only [smapGet, if_neg h1]
    exact ih fun e' he' => h e' (by simp [he'])

theorem smapGet_insert (d : Nat → α) (m : List (Nat × α)) (k : Nat) (v : α) (j : Nat) :
    smapGet d (smapInsert m k v) j = if j = k then v else smapGet d m j := by
  induction m with
  | nil => by_cases h : j = k <;> simp [smapInsert, smapGet, h, Ne.symm]
  | cons e t ih =>
    obtain ⟨a, b⟩ := e
    unfold smapInsert
    split
    · rename_i h1
      by_cases h : a = j
      · subst h; simp [smapGet]; omega
      · simp [smapGet, h, ih]
    · split
      · rename_i h1 h2
        subst h2
        by_cases h : j = a
        · simp [smapGet, h]
        · simp [smapGet, h, Ne.symm h]
      · by_cases h : j = k
        · simp [smapGet, h]
        · simp [smapGet, h, Ne.symm h]

theorem smapGet_erase_ne (d : Nat → α) (m : List (Nat × α)) (k j : Nat) (h : j ≠ k) :
    smapGet d (smapErase m k) j = smapGet d m j := by
  induction m with
  | nil => rfl
  | cons e t ih =>
    obtain ⟨a, b⟩ := e
    unfold smapErase
    split
    · simp [smapGet, ih]
    · split
      · rename_i h2; subst h2; simp [smapGet, Ne.symm h]
      · rfl

theorem smapGet_erase_self (d : Nat → α) (m : List (Nat × α)) (k : Nat) (hm : m.Pairwise fun a b => a.1 < b.1) :
    smapGet d (smapErase m k) k = d k := by
  induction m with
  | nil => rfl
  | cons e t ih =>
    obtain ⟨a, b⟩ := e
    have ht : ∀ e ∈ t, a < e.1 := fun e he => List.rel_of_pairwise_cons hm he
    unfold smapErase
    split
    · rename_i h1
      have h2 : ¬a = k := by omega
      simp [smapGet, h2, ih hm.of_cons]
    · split
      · rename_i h1 h2
        subst h2
        exact smapGet_of_not_mem fun e he => by have := ht e he; omega
      · rename_i h1 h2
        refine smapGet_of_not_mem fun e he => ?_
        rcases List.mem_cons.1 he with rfl | he
        · exact h2
        · have := ht e he; omega

/-- A write erases a key that is to read as its default, and lists any other. -/
theorem smapPut_eq [DecidableEq α] (d : Nat → α) (m : List (Nat × α)) (k : Nat) (v : α) :
    smapPut d m k v = if v = d k then smapErase m k else smapInsert m k v := by
  induction m with
  | nil => simp [smapPut, smapErase, smapInsert]
  | cons e t ih =>
    obtain ⟨a, b⟩ := e
    simp only [smapPut, smapErase, smapInsert, ih]
    by_cases h : v = d k
    · simp only [if_pos h]
    · simp only [if_neg h]

/-- A write leaves every other key alone. -/
theorem smapGet_put_ne [DecidableEq α] (d : Nat → α) (m : List (Nat × α)) (k : Nat) (v : α) (j : Nat) (h : j ≠ k) :
    smapGet d (smapPut d m k v) j = smapGet d m j := by
  rw [smapPut_eq]
  split
  · exact smapGet_erase_ne d m k j h
  · rw [smapGet_insert, if_neg h]

/-- A read after a write to the same key gives the value written. -/
theorem smapGet_put_self [DecidableEq α] (d : Nat → α) (m : List (Nat × α)) (k : Nat) (v : α) (hm : smapWf d m = true) :
    smapGet d (smapPut d m k v) k = v := by
  rw [smapPut_eq]
  split
  · rename_i h; rw [smapGet_erase_self d m k (smapWf_iff.1 hm).1, h]
  · rw [smapGet_insert, if_pos rfl]

theorem mem_smapErase {m : List (Nat × α)} {k : Nat} {e : Nat × α} (h : e ∈ smapErase m k) : e ∈ m := by
  induction m with
  | nil => simp [smapErase] at h
  | cons x t ih =>
    obtain ⟨a, b⟩ := x
    unfold smapErase at h
    split at h
    · rcases List.mem_cons.1 h with h | h
      · exact List.mem_cons.2 (.inl h)
      · exact List.mem_cons.2 (.inr (ih h))
    · split at h
      · exact List.mem_cons.2 (.inr h)
      · exact h

theorem mem_smapInsert {m : List (Nat × α)} {k : Nat} {v : α} {e : Nat × α} (h : e ∈ smapInsert m k v) : e = (k, v) ∨ e ∈ m := by
  induction m with
  | nil => simpa [smapInsert] using h
  | cons x t ih =>
    obtain ⟨a, b⟩ := x
    unfold smapInsert at h
    split at h
    · rcases List.mem_cons.1 h with h | h
      · exact .inr (List.mem_cons.2 (.inl h))
      · exact (ih h).imp id fun h => List.mem_cons.2 (.inr h)
    · split at h
      · rcases List.mem_cons.1 h with h | h
        · exact .inl h
        · exact .inr (List.mem_cons.2 (.inr h))
      · rcases List.mem_cons.1 h with h | h
        · exact .inl h
        · exact .inr h

theorem pairwise_smapErase {m : List (Nat × α)} {k : Nat} (hm : m.Pairwise fun a b => a.1 < b.1) :
    (smapErase m k).Pairwise fun a b => a.1 < b.1 := by
  induction m with
  | nil => simp [smapErase]
  | cons x t ih =>
    obtain ⟨a, b⟩ := x
    unfold smapErase
    split
    · exact List.pairwise_cons.2 ⟨fun e he => List.rel_of_pairwise_cons hm (mem_smapErase he), ih hm.of_cons⟩
    · split
      · exact hm.of_cons
      · exact hm

theorem pairwise_smapInsert {m : List (Nat × α)} {k : Nat} {v : α} (hm : m.Pairwise fun a b => a.1 < b.1) :
    (smapInsert m k v).Pairwise fun a b => a.1 < b.1 := by
  induction m with
  | nil => simp [smapInsert]
  | cons x t ih =>
    obtain ⟨a, b⟩ := x
    have ht : ∀ e ∈ t, a < e.1 := fun e he => List.rel_of_pairwise_cons hm he
    unfold smapInsert
    split
    · refine List.pairwise_cons.2 ⟨fun e he => ?_, ih hm.of_cons⟩
      rcases mem_smapInsert he with rfl | he
      · assumption
      · exact ht e he
    · split
      · rename_i h1 h2
        subst h2
        exact List.pairwise_cons.2 ⟨fun e he => ht e he, hm.of_cons⟩
      · rename_i h1 h2
        refine List.pairwise_cons.2 ⟨fun e he => ?_, hm⟩
        rcases List.mem_cons.1 he with rfl | he
        · simp; omega
        · have := ht e he; simp; omega

/-- A write keeps the canonical form. -/
theorem smapPut_wf [DecidableEq α] {d : Nat → α} {m : List (Nat × α)} (k : Nat) (v : α) (hm : smapWf d m = true) :
    smapWf d (smapPut d m k v) = true := by
  rw [smapWf_iff] at hm ⊢
  rw [smapPut_eq]
  split
  · exact ⟨pairwise_smapErase hm.1, fun e he => hm.2 e (mem_smapErase he)⟩
  · rename_i h
    refine ⟨pairwise_smapInsert hm.1, fun e he => ?_⟩
    rcases mem_smapInsert he with rfl | he
    · exact h
    · exact hm.2 e he

/-- Entries dropped keep the canonical form. -/
theorem smapFilter_wf [DecidableEq α] {d : Nat → α} {m : List (Nat × α)} (p : Nat × α → Bool) (hm : smapWf d m = true) :
    smapWf d (m.filter p) = true := by
  rw [smapWf_iff] at hm ⊢
  exact ⟨hm.1.filter p, fun e he => hm.2 e (List.mem_of_mem_filter he)⟩

/-- Writing back what a key reads as changes nothing. -/
theorem smapPut_get [DecidableEq α] {d : Nat → α} {m : List (Nat × α)} (k : Nat) (hm : smapWf d m = true) :
    smapPut d m k (smapGet d m k) = m := by
  obtain ⟨h1, h2⟩ := smapWf_iff.1 hm
  clear hm
  rw [smapPut_eq]
  split
  · rename_i h
    induction m with
    | nil => rfl
    | cons e t ih =>
      obtain ⟨a, b⟩ := e
      by_cases ha : a = k
      · subst ha
        have := h2 (a, b) (by simp)
        simp [smapGet] at h
        exact absurd h this
      · unfold smapErase
        simp only [smapGet, if_neg ha] at h
        split
        · rw [ih h1.of_cons (fun e he => h2 e (by simp [he])) h]
        · rfl
  · rename_i h
    induction m with
    | nil => simp [smapGet] at h
    | cons e t ih =>
      obtain ⟨a, b⟩ := e
      by_cases ha : a = k
      · subst ha
        simp [smapInsert, smapGet]
      · simp only [smapGet, if_neg ha] at h ⊢
        unfold smapInsert
        split
        · rw [ih h1.of_cons (fun e he => h2 e (by simp [he])) h]
        · rename_i h3
          exfalso
          apply h
          refine smapGet_of_not_mem fun e he => ?_
          have := List.rel_of_pairwise_cons h1 he
          simp at this; omega

end Sys2Proof.Machine
end

