-- ==== Sys2Proof/Laws/Requests.lean ====
section
/-! SUPPORT. What running a request can come to (R58): lemmas about the shared checks and about `runCmd`, which every command goes through. -/

namespace Sys2Proof.Machine

/-- A check list passes exactly when no check of it fails first. -/
theorem firstFail_eq_none {l : List Check} : firstFail l = none ↔ passes l = true := by
  induction l with
  | nil => simp [firstFail, passes]
  | cons c t ih =>
    unfold firstFail
    cases h : c.1 <;> simp [passes, h] at *
    · simpa using ih
    · cases firstFail t with
      | none => simp
      | some d => simp only; split <;> simp

@[simp] theorem passes_nil : passes [] = true := rfl

@[simp] theorem passes_cons (c : Check) (l : List Check) : passes (c :: l) = (!c.1 && passes l) := rfl

@[simp] theorem passes_append (a b : List Check) : passes (a ++ b) = (passes a && passes b) := List.all_append

/-- Checks that pass leave the effect. -/
theorem checked_of_passes {cs : List Check} (s : State) (ok : Res) (h : passes cs = true) : Res.checked cs s ok = ok := by
  simp [Res.checked, firstFail_eq_none.2 h]

/-- The first check that fails decides the refusal, and nothing else changes. -/
theorem checked_of_fail {cs : List Check} {f : Status × Nat} (s : State) (ok : Res) (h : firstFail cs = some f) :
    Res.checked cs s ok = .fail f.1 f.2 s := by
  simp [Res.checked, h]

/-- An allowed request comes to its command's own effect. -/
theorem runLocal_of_allowed {c : Cmd} {r : Req} {s : State} (h : allowed c r s = true) :
    runLocal c r s = c.act r (reqTarget r) s := by
  simp only [allowed, admitted, Bool.and_eq_true] at h
  obtain ⟨⟨⟨⟨⟨-, hu⟩, hg⟩, hr⟩, hb⟩, hd⟩ := h
  exact checked_of_passes s _ (by simp [hu, hg, hr, hb, hd])

/-- What an allowed request does: its command's effect, and the reply to it unless that waits. -/
theorem onCommand_of_allowed {c : Cmd} {r : Req} {s : State} (h : allowed c r s = true) :
    onCommand c r s = .next (
      let res := c.act r (reqTarget r) s
      if res.later then res.state
      else
        ((countReject (rejectKernel c r s) (master r.via) res.status res.state).noteDenied (rejectKernel c r s) (master r.via) c.opcode
          res.status res.detail).deliver r.via r.slot (replyPacket c.opcode r res.status res.detail res.data)) := by
  have hl := runLocal_of_allowed h
  simp only [allowed, admitted, Bool.and_eq_true, Bool.not_eq_true'] at h
  obtain ⟨⟨⟨⟨⟨⟨⟨⟨hv, he⟩, hf⟩, hi⟩, -⟩, -⟩, -⟩, -⟩, -⟩ := h
  simp [onCommand, hv, runCmd, firstFail_eq_none.2 he, firstFail_eq_none.2 hf, hi, hl]

/-- A command whose effect is DONE: its state, and the reply. -/
theorem onCommand_done {c : Cmd} {r : Req} {s t : State} {data : List Word} (h : allowed c r s = true)
    (ha : c.act r (reqTarget r) s = .ok t data) : onCommand c r s = .next (t.answer c.opcode r data) := by
  rw [onCommand_of_allowed h, ha]
  simp [Res.ok, countReject, State.noteDenied, State.answer]

/-- A command that starts a job: its state, and the reply ACCEPTED. -/
theorem onCommand_accepted {c : Cmd} {r : Req} {s t : State} {num : Nat} {data : List Word} (h : allowed c r s = true)
    (ha : c.act r (reqTarget r) s = .accepted num t data) : onCommand c r s = .next (t.answerJob c.opcode r num data) := by
  rw [onCommand_of_allowed h, ha]
  simp [Res.accepted, countReject, State.noteDenied, State.answerJob]

/-- A command that refuses in its own effect: nothing but the reject count and the reply, where the status is not DENIED (R59). -/
theorem onCommand_refused {c : Cmd} {r : Req} {s : State} {st : Status} {d : Nat} (h : allowed c r s = true)
    (hs : st ≠ .denied) (ha : c.act r (reqTarget r) s = .fail st d s) :
    onCommand c r s = .next (refuse c.opcode (rejectKernel c r s) r st d s) := by
  rw [onCommand_of_allowed h, ha]
  simp [Res.fail, State.noteDenied, hs, refuse]

/-- A request on a transport that is down does nothing (R80, R515). -/
theorem onCommand_down {c : Cmd} {r : Req} {s : State} (h : s.viaUp r.via = false) : onCommand c r s = .next s := by
  simp [onCommand, h]

end Sys2Proof.Machine
end

