-- ==== Sys2Proof/Laws/State.lean ====
section
/-! SUPPORT. The named updates of the state: each field that an update does not write stands, and a read gives what was written. -/

namespace Sys2Proof.Machine

/-! ### setReg -/

@[simp] theorem State.setReg_variant (s : State) (a : Nat) (w : Word) : (s.setReg a w).variant = s.variant := rfl
@[simp] theorem State.setReg_now (s : State) (a : Nat) (w : Word) : (s.setReg a w).now = s.now := rfl
@[simp] theorem State.setReg_taiOff (s : State) (a : Nat) (w : Word) : (s.setReg a w).taiOff = s.taiOff := rfl
@[simp] theorem State.setReg_taiFrac (s : State) (a : Nat) (w : Word) : (s.setReg a w).taiFrac = s.taiFrac := rfl
@[simp] theorem State.setReg_free (s : State) (a : Nat) (w : Word) : (s.setReg a w).free = s.free := rfl
@[simp] theorem State.setReg_readOut (s : State) (a : Nat) (w : Word) : (s.setReg a w).readOut = s.readOut := rfl
@[simp] theorem State.setReg_lead (s : State) (a : Nat) (w : Word) : (s.setReg a w).lead = s.lead := rfl
@[simp] theorem State.setReg_ends (s : State) (a : Nat) (w : Word) : (s.setReg a w).ends = s.ends := rfl
@[simp] theorem State.setReg_spi (s : State) (a : Nat) (w : Word) : (s.setReg a w).spi = s.spi := rfl
@[simp] theorem State.setReg_pcieFns (s : State) (a : Nat) (w : Word) : (s.setReg a w).pcieFns = s.pcieFns := rfl
@[simp] theorem State.setReg_jobs (s : State) (a : Nat) (w : Word) : (s.setReg a w).jobs = s.jobs := rfl
@[simp] theorem State.setReg_lastJob (s : State) (a : Nat) (w : Word) : (s.setReg a w).lastJob = s.lastJob := rfl
@[simp] theorem State.setReg_kerns (s : State) (a : Nat) (w : Word) : (s.setReg a w).kerns = s.kerns := rfl
@[simp] theorem State.setReg_irqs (s : State) (a : Nat) (w : Word) : (s.setReg a w).irqs = s.irqs := rfl
@[simp] theorem State.setReg_hooksDown (s : State) (a : Nat) (w : Word) : (s.setReg a w).hooksDown = s.hooksDown := rfl
@[simp] theorem State.setReg_ports (s : State) (a : Nat) (w : Word) : (s.setReg a w).ports = s.ports := rfl
@[simp] theorem State.setReg_gaugeWaits (s : State) (a : Nat) (w : Word) : (s.setReg a w).gaugeWaits = s.gaugeWaits := rfl
@[simp] theorem State.setReg_ctxs (s : State) (a : Nat) (w : Word) : (s.setReg a w).ctxs = s.ctxs := rfl
@[simp] theorem State.setReg_routeCtxs (s : State) (a : Nat) (w : Word) : (s.setReg a w).routeCtxs = s.routeCtxs := rfl
@[simp] theorem State.setReg_flights (s : State) (a : Nat) (w : Word) : (s.setReg a w).flights = s.flights := rfl
@[simp] theorem State.setReg_localRx (s : State) (a : Nat) (w : Word) : (s.setReg a w).localRx = s.localRx := rfl
@[simp] theorem State.setReg_outbox (s : State) (a : Nat) (w : Word) : (s.setReg a w).outbox = s.outbox := rfl
@[simp] theorem State.setReg_dins (s : State) (a : Nat) (w : Word) : (s.setReg a w).dins = s.dins := rfl
@[simp] theorem State.setReg_douts (s : State) (a : Nat) (w : Word) : (s.setReg a w).douts = s.douts := rfl
@[simp] theorem State.setReg_bridges (s : State) (a : Nat) (w : Word) : (s.setReg a w).bridges = s.bridges := rfl
@[simp] theorem State.setReg_hubs (s : State) (a : Nat) (w : Word) : (s.setReg a w).hubs = s.hubs := rfl
@[simp] theorem State.setReg_nets (s : State) (a : Nat) (w : Word) : (s.setReg a w).nets = s.nets := rfl
@[simp] theorem State.setReg_maps (s : State) (a : Nat) (w : Word) : (s.setReg a w).maps = s.maps := rfl
@[simp] theorem State.setReg_tb (s : State) (a : Nat) (w : Word) : (s.setReg a w).tb = s.tb := rfl
@[simp] theorem State.setReg_path (s : State) (a : Nat) (w : Word) : (s.setReg a w).path = s.path := rfl
@[simp] theorem State.setReg_hooks (s : State) (a : Nat) (w : Word) : (s.setReg a w).hooks = s.hooks := rfl
@[simp] theorem State.setReg_keys (s : State) (a : Nat) (w : Word) : (s.setReg a w).keys = s.keys := rfl
@[simp] theorem State.setReg_images (s : State) (a : Nat) (w : Word) : (s.setReg a w).images = s.images := rfl
@[simp] theorem State.setReg_part (s : State) (a : Nat) (w : Word) : (s.setReg a w).part = s.part := rfl
@[simp] theorem State.setReg_tap (s : State) (a : Nat) (w : Word) : (s.setReg a w).tap = s.tap := rfl
@[simp] theorem State.setReg_pending (s : State) (a : Nat) (w : Word) : (s.setReg a w).pending = s.pending := rfl
@[simp] theorem State.setReg_hasKernel (s : State) (a : Nat) (w : Word) (c : Nat) : (s.setReg a w).hasKernel c = s.hasKernel c := rfl
@[simp] theorem State.setReg_hasPort (s : State) (a : Nat) (w : Word) (c d : Nat) : (s.setReg a w).hasPort c d = s.hasPort c d := rfl
@[simp] theorem State.setReg_port (s : State) (a : Nat) (w : Word) (c d : Nat) : (s.setReg a w).port c d = s.port c d := rfl
@[simp] theorem State.setReg_ctxAt (s : State) (a : Nat) (w : Word) (c t d : Nat) : (s.setReg a w).ctxAt c t d = s.ctxAt c t d := rfl
@[simp] theorem State.setReg_ep (s : State) (a : Nat) (w : Word) (c : Via) : (s.setReg a w).ep c = s.ep c := rfl
@[simp] theorem State.setReg_kern (s : State) (a : Nat) (w : Word) (c : Nat) : (s.setReg a w).kern c = s.kern c := rfl
@[simp] theorem State.setReg_hook (s : State) (a : Nat) (w : Word) (c : Nat) : (s.setReg a w).hook c = s.hook c := rfl

/-! ### setRf -/

@[simp] theorem State.setRf_variant (s : State) (a lo n v : Nat) : (s.setRf a lo n v).variant = s.variant := rfl
@[simp] theorem State.setRf_now (s : State) (a lo n v : Nat) : (s.setRf a lo n v).now = s.now := rfl
@[simp] theorem State.setRf_taiOff (s : State) (a lo n v : Nat) : (s.setRf a lo n v).taiOff = s.taiOff := rfl
@[simp] theorem State.setRf_taiFrac (s : State) (a lo n v : Nat) : (s.setRf a lo n v).taiFrac = s.taiFrac := rfl
@[simp] theorem State.setRf_free (s : State) (a lo n v : Nat) : (s.setRf a lo n v).free = s.free := rfl
@[simp] theorem State.setRf_readOut (s : State) (a lo n v : Nat) : (s.setRf a lo n v).readOut = s.readOut := rfl
@[simp] theorem State.setRf_lead (s : State) (a lo n v : Nat) : (s.setRf a lo n v).lead = s.lead := rfl
@[simp] theorem State.setRf_ends (s : State) (a lo n v : Nat) : (s.setRf a lo n v).ends = s.ends := rfl
@[simp] theorem State.setRf_spi (s : State) (a lo n v : Nat) : (s.setRf a lo n v).spi = s.spi := rfl
@[simp] theorem State.setRf_pcieFns (s : State) (a lo n v : Nat) : (s.setRf a lo n v).pcieFns = s.pcieFns := rfl
@[simp] theorem State.setRf_jobs (s : State) (a lo n v : Nat) : (s.setRf a lo n v).jobs = s.jobs := rfl
@[simp] theorem State.setRf_lastJob (s : State) (a lo n v : Nat) : (s.setRf a lo n v).lastJob = s.lastJob := rfl
@[simp] theorem State.setRf_kerns (s : State) (a lo n v : Nat) : (s.setRf a lo n v).kerns = s.kerns := rfl
@[simp] theorem State.setRf_irqs (s : State) (a lo n v : Nat) : (s.setRf a lo n v).irqs = s.irqs := rfl
@[simp] theorem State.setRf_hooksDown (s : State) (a lo n v : Nat) : (s.setRf a lo n v).hooksDown = s.hooksDown := rfl
@[simp] theorem State.setRf_ports (s : State) (a lo n v : Nat) : (s.setRf a lo n v).ports = s.ports := rfl
@[simp] theorem State.setRf_gaugeWaits (s : State) (a lo n v : Nat) : (s.setRf a lo n v).gaugeWaits = s.gaugeWaits := rfl
@[simp] theorem State.setRf_ctxs (s : State) (a lo n v : Nat) : (s.setRf a lo n v).ctxs = s.ctxs := rfl
@[simp] theorem State.setRf_routeCtxs (s : State) (a lo n v : Nat) : (s.setRf a lo n v).routeCtxs = s.routeCtxs := rfl
@[simp] theorem State.setRf_flights (s : State) (a lo n v : Nat) : (s.setRf a lo n v).flights = s.flights := rfl
@[simp] theorem State.setRf_localRx (s : State) (a lo n v : Nat) : (s.setRf a lo n v).localRx = s.localRx := rfl
@[simp] theorem State.setRf_outbox (s : State) (a lo n v : Nat) : (s.setRf a lo n v).outbox = s.outbox := rfl
@[simp] theorem State.setRf_dins (s : State) (a lo n v : Nat) : (s.setRf a lo n v).dins = s.dins := rfl
@[simp] theorem State.setRf_douts (s : State) (a lo n v : Nat) : (s.setRf a lo n v).douts = s.douts := rfl
@[simp] theorem State.setRf_bridges (s : State) (a lo n v : Nat) : (s.setRf a lo n v).bridges = s.bridges := rfl
@[simp] theorem State.setRf_hubs (s : State) (a lo n v : Nat) : (s.setRf a lo n v).hubs = s.hubs := rfl
@[simp] theorem State.setRf_nets (s : State) (a lo n v : Nat) : (s.setRf a lo n v).nets = s.nets := rfl
@[simp] theorem State.setRf_maps (s : State) (a lo n v : Nat) : (s.setRf a lo n v).maps = s.maps := rfl
@[simp] theorem State.setRf_tb (s : State) (a lo n v : Nat) : (s.setRf a lo n v).tb = s.tb := rfl
@[simp] theorem State.setRf_path (s : State) (a lo n v : Nat) : (s.setRf a lo n v).path = s.path := rfl
@[simp] theorem State.setRf_hooks (s : State) (a lo n v : Nat) : (s.setRf a lo n v).hooks = s.hooks := rfl
@[simp] theorem State.setRf_keys (s : State) (a lo n v : Nat) : (s.setRf a lo n v).keys = s.keys := rfl
@[simp] theorem State.setRf_images (s : State) (a lo n v : Nat) : (s.setRf a lo n v).images = s.images := rfl
@[simp] theorem State.setRf_part (s : State) (a lo n v : Nat) : (s.setRf a lo n v).part = s.part := rfl
@[simp] theorem State.setRf_tap (s : State) (a lo n v : Nat) : (s.setRf a lo n v).tap = s.tap := rfl
@[simp] theorem State.setRf_pending (s : State) (a lo n v : Nat) : (s.setRf a lo n v).pending = s.pending := rfl
@[simp] theorem State.setRf_hasKernel (s : State) (a lo n v : Nat) (c : Nat) : (s.setRf a lo n v).hasKernel c = s.hasKernel c := rfl
@[simp] theorem State.setRf_hasPort (s : State) (a lo n v : Nat) (c d : Nat) : (s.setRf a lo n v).hasPort c d = s.hasPort c d := rfl
@[simp] theorem State.setRf_port (s : State) (a lo n v : Nat) (c d : Nat) : (s.setRf a lo n v).port c d = s.port c d := rfl
@[simp] theorem State.setRf_ctxAt (s : State) (a lo n v : Nat) (c t d : Nat) : (s.setRf a lo n v).ctxAt c t d = s.ctxAt c t d := rfl
@[simp] theorem State.setRf_ep (s : State) (a lo n v : Nat) (c : Via) : (s.setRf a lo n v).ep c = s.ep c := rfl
@[simp] theorem State.setRf_kern (s : State) (a lo n v : Nat) (c : Nat) : (s.setRf a lo n v).kern c = s.kern c := rfl
@[simp] theorem State.setRf_hook (s : State) (a lo n v : Nat) (c : Nat) : (s.setRf a lo n v).hook c = s.hook c := rfl

/-! ### setRb -/

@[simp] theorem State.setRb_variant (s : State) (a i : Nat) (b : Bool) : (s.setRb a i b).variant = s.variant := rfl
@[simp] theorem State.setRb_now (s : State) (a i : Nat) (b : Bool) : (s.setRb a i b).now = s.now := rfl
@[simp] theorem State.setRb_taiOff (s : State) (a i : Nat) (b : Bool) : (s.setRb a i b).taiOff = s.taiOff := rfl
@[simp] theorem State.setRb_taiFrac (s : State) (a i : Nat) (b : Bool) : (s.setRb a i b).taiFrac = s.taiFrac := rfl
@[simp] theorem State.setRb_free (s : State) (a i : Nat) (b : Bool) : (s.setRb a i b).free = s.free := rfl
@[simp] theorem State.setRb_readOut (s : State) (a i : Nat) (b : Bool) : (s.setRb a i b).readOut = s.readOut := rfl
@[simp] theorem State.setRb_lead (s : State) (a i : Nat) (b : Bool) : (s.setRb a i b).lead = s.lead := rfl
@[simp] theorem State.setRb_ends (s : State) (a i : Nat) (b : Bool) : (s.setRb a i b).ends = s.ends := rfl
@[simp] theorem State.setRb_spi (s : State) (a i : Nat) (b : Bool) : (s.setRb a i b).spi = s.spi := rfl
@[simp] theorem State.setRb_pcieFns (s : State) (a i : Nat) (b : Bool) : (s.setRb a i b).pcieFns = s.pcieFns := rfl
@[simp] theorem State.setRb_jobs (s : State) (a i : Nat) (b : Bool) : (s.setRb a i b).jobs = s.jobs := rfl
@[simp] theorem State.setRb_lastJob (s : State) (a i : Nat) (b : Bool) : (s.setRb a i b).lastJob = s.lastJob := rfl
@[simp] theorem State.setRb_kerns (s : State) (a i : Nat) (b : Bool) : (s.setRb a i b).kerns = s.kerns := rfl
@[simp] theorem State.setRb_irqs (s : State) (a i : Nat) (b : Bool) : (s.setRb a i b).irqs = s.irqs := rfl
@[simp] theorem State.setRb_hooksDown (s : State) (a i : Nat) (b : Bool) : (s.setRb a i b).hooksDown = s.hooksDown := rfl
@[simp] theorem State.setRb_ports (s : State) (a i : Nat) (b : Bool) : (s.setRb a i b).ports = s.ports := rfl
@[simp] theorem State.setRb_gaugeWaits (s : State) (a i : Nat) (b : Bool) : (s.setRb a i b).gaugeWaits = s.gaugeWaits := rfl
@[simp] theorem State.setRb_ctxs (s : State) (a i : Nat) (b : Bool) : (s.setRb a i b).ctxs = s.ctxs := rfl
@[simp] theorem State.setRb_routeCtxs (s : State) (a i : Nat) (b : Bool) : (s.setRb a i b).routeCtxs = s.routeCtxs := rfl
@[simp] theorem State.setRb_flights (s : State) (a i : Nat) (b : Bool) : (s.setRb a i b).flights = s.flights := rfl
@[simp] theorem State.setRb_localRx (s : State) (a i : Nat) (b : Bool) : (s.setRb a i b).localRx = s.localRx := rfl
@[simp] theorem State.setRb_outbox (s : State) (a i : Nat) (b : Bool) : (s.setRb a i b).outbox = s.outbox := rfl
@[simp] theorem State.setRb_dins (s : State) (a i : Nat) (b : Bool) : (s.setRb a i b).dins = s.dins := rfl
@[simp] theorem State.setRb_douts (s : State) (a i : Nat) (b : Bool) : (s.setRb a i b).douts = s.douts := rfl
@[simp] theorem State.setRb_bridges (s : State) (a i : Nat) (b : Bool) : (s.setRb a i b).bridges = s.bridges := rfl
@[simp] theorem State.setRb_hubs (s : State) (a i : Nat) (b : Bool) : (s.setRb a i b).hubs = s.hubs := rfl
@[simp] theorem State.setRb_nets (s : State) (a i : Nat) (b : Bool) : (s.setRb a i b).nets = s.nets := rfl
@[simp] theorem State.setRb_maps (s : State) (a i : Nat) (b : Bool) : (s.setRb a i b).maps = s.maps := rfl
@[simp] theorem State.setRb_tb (s : State) (a i : Nat) (b : Bool) : (s.setRb a i b).tb = s.tb := rfl
@[simp] theorem State.setRb_path (s : State) (a i : Nat) (b : Bool) : (s.setRb a i b).path = s.path := rfl
@[simp] theorem State.setRb_hooks (s : State) (a i : Nat) (b : Bool) : (s.setRb a i b).hooks = s.hooks := rfl
@[simp] theorem State.setRb_keys (s : State) (a i : Nat) (b : Bool) : (s.setRb a i b).keys = s.keys := rfl
@[simp] theorem State.setRb_images (s : State) (a i : Nat) (b : Bool) : (s.setRb a i b).images = s.images := rfl
@[simp] theorem State.setRb_part (s : State) (a i : Nat) (b : Bool) : (s.setRb a i b).part = s.part := rfl
@[simp] theorem State.setRb_tap (s : State) (a i : Nat) (b : Bool) : (s.setRb a i b).tap = s.tap := rfl
@[simp] theorem State.setRb_pending (s : State) (a i : Nat) (b : Bool) : (s.setRb a i b).pending = s.pending := rfl
@[simp] theorem State.setRb_hasKernel (s : State) (a i : Nat) (b : Bool) (c : Nat) : (s.setRb a i b).hasKernel c = s.hasKernel c := rfl
@[simp] theorem State.setRb_hasPort (s : State) (a i : Nat) (b : Bool) (c d : Nat) : (s.setRb a i b).hasPort c d = s.hasPort c d := rfl
@[simp] theorem State.setRb_port (s : State) (a i : Nat) (b : Bool) (c d : Nat) : (s.setRb a i b).port c d = s.port c d := rfl
@[simp] theorem State.setRb_ctxAt (s : State) (a i : Nat) (b : Bool) (c t d : Nat) : (s.setRb a i b).ctxAt c t d = s.ctxAt c t d := rfl
@[simp] theorem State.setRb_ep (s : State) (a i : Nat) (b : Bool) (c : Via) : (s.setRb a i b).ep c = s.ep c := rfl
@[simp] theorem State.setRb_kern (s : State) (a i : Nat) (b : Bool) (c : Nat) : (s.setRb a i b).kern c = s.kern c := rfl
@[simp] theorem State.setRb_hook (s : State) (a i : Nat) (b : Bool) (c : Nat) : (s.setRb a i b).hook c = s.hook c := rfl

/-! ### setEp -/

@[simp] theorem State.setEp_variant (s : State) (v : Via) (e : Endpoint) : (s.setEp v e).variant = s.variant := rfl
@[simp] theorem State.setEp_now (s : State) (v : Via) (e : Endpoint) : (s.setEp v e).now = s.now := rfl
@[simp] theorem State.setEp_taiOff (s : State) (v : Via) (e : Endpoint) : (s.setEp v e).taiOff = s.taiOff := rfl
@[simp] theorem State.setEp_taiFrac (s : State) (v : Via) (e : Endpoint) : (s.setEp v e).taiFrac = s.taiFrac := rfl
@[simp] theorem State.setEp_free (s : State) (v : Via) (e : Endpoint) : (s.setEp v e).free = s.free := rfl
@[simp] theorem State.setEp_readOut (s : State) (v : Via) (e : Endpoint) : (s.setEp v e).readOut = s.readOut := rfl
@[simp] theorem State.setEp_lead (s : State) (v : Via) (e : Endpoint) : (s.setEp v e).lead = s.lead := rfl
@[simp] theorem State.setEp_regs (s : State) (v : Via) (e : Endpoint) : (s.setEp v e).regs = s.regs := rfl
@[simp] theorem State.setEp_spi (s : State) (v : Via) (e : Endpoint) : (s.setEp v e).spi = s.spi := rfl
@[simp] theorem State.setEp_pcieFns (s : State) (v : Via) (e : Endpoint) : (s.setEp v e).pcieFns = s.pcieFns := rfl
@[simp] theorem State.setEp_jobs (s : State) (v : Via) (e : Endpoint) : (s.setEp v e).jobs = s.jobs := rfl
@[simp] theorem State.setEp_lastJob (s : State) (v : Via) (e : Endpoint) : (s.setEp v e).lastJob = s.lastJob := rfl
@[simp] theorem State.setEp_kerns (s : State) (v : Via) (e : Endpoint) : (s.setEp v e).kerns = s.kerns := rfl
@[simp] theorem State.setEp_irqs (s : State) (v : Via) (e : Endpoint) : (s.setEp v e).irqs = s.irqs := rfl
@[simp] theorem State.setEp_hooksDown (s : State) (v : Via) (e : Endpoint) : (s.setEp v e).hooksDown = s.hooksDown := rfl
@[simp] theorem State.setEp_ports (s : State) (v : Via) (e : Endpoint) : (s.setEp v e).ports = s.ports := rfl
@[simp] theorem State.setEp_gaugeWaits (s : State) (v : Via) (e : Endpoint) : (s.setEp v e).gaugeWaits = s.gaugeWaits := rfl
@[simp] theorem State.setEp_ctxs (s : State) (v : Via) (e : Endpoint) : (s.setEp v e).ctxs = s.ctxs := rfl
@[simp] theorem State.setEp_routeCtxs (s : State) (v : Via) (e : Endpoint) : (s.setEp v e).routeCtxs = s.routeCtxs := rfl
@[simp] theorem State.setEp_flights (s : State) (v : Via) (e : Endpoint) : (s.setEp v e).flights = s.flights := rfl
@[simp] theorem State.setEp_localRx (s : State) (v : Via) (e : Endpoint) : (s.setEp v e).localRx = s.localRx := rfl
@[simp] theorem State.setEp_outbox (s : State) (v : Via) (e : Endpoint) : (s.setEp v e).outbox = s.outbox := rfl
@[simp] theorem State.setEp_dins (s : State) (v : Via) (e : Endpoint) : (s.setEp v e).dins = s.dins := rfl
@[simp] theorem State.setEp_douts (s : State) (v : Via) (e : Endpoint) : (s.setEp v e).douts = s.douts := rfl
@[simp] theorem State.setEp_bridges (s : State) (v : Via) (e : Endpoint) : (s.setEp v e).bridges = s.bridges := rfl
@[simp] theorem State.setEp_hubs (s : State) (v : Via) (e : Endpoint) : (s.setEp v e).hubs = s.hubs := rfl
@[simp] theorem State.setEp_nets (s : State) (v : Via) (e : Endpoint) : (s.setEp v e).nets = s.nets := rfl
@[simp] theorem State.setEp_maps (s : State) (v : Via) (e : Endpoint) : (s.setEp v e).maps = s.maps := rfl
@[simp] theorem State.setEp_tb (s : State) (v : Via) (e : Endpoint) : (s.setEp v e).tb = s.tb := rfl
@[simp] theorem State.setEp_path (s : State) (v : Via) (e : Endpoint) : (s.setEp v e).path = s.path := rfl
@[simp] theorem State.setEp_hooks (s : State) (v : Via) (e : Endpoint) : (s.setEp v e).hooks = s.hooks := rfl
@[simp] theorem State.setEp_keys (s : State) (v : Via) (e : Endpoint) : (s.setEp v e).keys = s.keys := rfl
@[simp] theorem State.setEp_images (s : State) (v : Via) (e : Endpoint) : (s.setEp v e).images = s.images := rfl
@[simp] theorem State.setEp_part (s : State) (v : Via) (e : Endpoint) : (s.setEp v e).part = s.part := rfl
@[simp] theorem State.setEp_tap (s : State) (v : Via) (e : Endpoint) : (s.setEp v e).tap = s.tap := rfl
@[simp] theorem State.setEp_pending (s : State) (v : Via) (e : Endpoint) : (s.setEp v e).pending = s.pending := rfl
@[simp] theorem State.setEp_reg (s : State) (v : Via) (e : Endpoint) (c : Nat) : (s.setEp v e).reg c = s.reg c := rfl
@[simp] theorem State.setEp_rf (s : State) (v : Via) (e : Endpoint) (c l m : Nat) : (s.setEp v e).rf c l m = s.rf c l m := rfl
@[simp] theorem State.setEp_rb (s : State) (v : Via) (e : Endpoint) (c j : Nat) : (s.setEp v e).rb c j = s.rb c j := rfl
@[simp] theorem State.setEp_kernelState (s : State) (v : Via) (e : Endpoint) (c : Nat) : (s.setEp v e).kernelState c = s.kernelState c := rfl
@[simp] theorem State.setEp_domainState (s : State) (v : Via) (e : Endpoint) (c d : Nat) : (s.setEp v e).domainState c d = s.domainState c d := rfl
@[simp] theorem State.setEp_portState (s : State) (v : Via) (e : Endpoint) (c d : Nat) : (s.setEp v e).portState c d = s.portState c d := rfl
@[simp] theorem State.setEp_hasKernel (s : State) (v : Via) (e : Endpoint) (c : Nat) : (s.setEp v e).hasKernel c = s.hasKernel c := rfl
@[simp] theorem State.setEp_hasPort (s : State) (v : Via) (e : Endpoint) (c d : Nat) : (s.setEp v e).hasPort c d = s.hasPort c d := rfl
@[simp] theorem State.setEp_port (s : State) (v : Via) (e : Endpoint) (c d : Nat) : (s.setEp v e).port c d = s.port c d := rfl
@[simp] theorem State.setEp_ctxAt (s : State) (v : Via) (e : Endpoint) (c t d : Nat) : (s.setEp v e).ctxAt c t d = s.ctxAt c t d := rfl
@[simp] theorem State.setEp_kern (s : State) (v : Via) (e : Endpoint) (c : Nat) : (s.setEp v e).kern c = s.kern c := rfl
@[simp] theorem State.setEp_hook (s : State) (v : Via) (e : Endpoint) (c : Nat) : (s.setEp v e).hook c = s.hook c := rfl

/-! ### setPcieFn -/

@[simp] theorem State.setPcieFn_variant (s : State) (k : Nat) (f : PcieFn) : (s.setPcieFn k f).variant = s.variant := rfl
@[simp] theorem State.setPcieFn_now (s : State) (k : Nat) (f : PcieFn) : (s.setPcieFn k f).now = s.now := rfl
@[simp] theorem State.setPcieFn_taiOff (s : State) (k : Nat) (f : PcieFn) : (s.setPcieFn k f).taiOff = s.taiOff := rfl
@[simp] theorem State.setPcieFn_taiFrac (s : State) (k : Nat) (f : PcieFn) : (s.setPcieFn k f).taiFrac = s.taiFrac := rfl
@[simp] theorem State.setPcieFn_free (s : State) (k : Nat) (f : PcieFn) : (s.setPcieFn k f).free = s.free := rfl
@[simp] theorem State.setPcieFn_readOut (s : State) (k : Nat) (f : PcieFn) : (s.setPcieFn k f).readOut = s.readOut := rfl
@[simp] theorem State.setPcieFn_lead (s : State) (k : Nat) (f : PcieFn) : (s.setPcieFn k f).lead = s.lead := rfl
@[simp] theorem State.setPcieFn_regs (s : State) (k : Nat) (f : PcieFn) : (s.setPcieFn k f).regs = s.regs := rfl
@[simp] theorem State.setPcieFn_ends (s : State) (k : Nat) (f : PcieFn) : (s.setPcieFn k f).ends = s.ends := rfl
@[simp] theorem State.setPcieFn_spi (s : State) (k : Nat) (f : PcieFn) : (s.setPcieFn k f).spi = s.spi := rfl
@[simp] theorem State.setPcieFn_jobs (s : State) (k : Nat) (f : PcieFn) : (s.setPcieFn k f).jobs = s.jobs := rfl
@[simp] theorem State.setPcieFn_lastJob (s : State) (k : Nat) (f : PcieFn) : (s.setPcieFn k f).lastJob = s.lastJob := rfl
@[simp] theorem State.setPcieFn_kerns (s : State) (k : Nat) (f : PcieFn) : (s.setPcieFn k f).kerns = s.kerns := rfl
@[simp] theorem State.setPcieFn_irqs (s : State) (k : Nat) (f : PcieFn) : (s.setPcieFn k f).irqs = s.irqs := rfl
@[simp] theorem State.setPcieFn_hooksDown (s : State) (k : Nat) (f : PcieFn) : (s.setPcieFn k f).hooksDown = s.hooksDown := rfl
@[simp] theorem State.setPcieFn_ports (s : State) (k : Nat) (f : PcieFn) : (s.setPcieFn k f).ports = s.ports := rfl
@[simp] theorem State.setPcieFn_gaugeWaits (s : State) (k : Nat) (f : PcieFn) : (s.setPcieFn k f).gaugeWaits = s.gaugeWaits := rfl
@[simp] theorem State.setPcieFn_ctxs (s : State) (k : Nat) (f : PcieFn) : (s.setPcieFn k f).ctxs = s.ctxs := rfl
@[simp] theorem State.setPcieFn_routeCtxs (s : State) (k : Nat) (f : PcieFn) : (s.setPcieFn k f).routeCtxs = s.routeCtxs := rfl
@[simp] theorem State.setPcieFn_flights (s : State) (k : Nat) (f : PcieFn) : (s.setPcieFn k f).flights = s.flights := rfl
@[simp] theorem State.setPcieFn_localRx (s : State) (k : Nat) (f : PcieFn) : (s.setPcieFn k f).localRx = s.localRx := rfl
@[simp] theorem State.setPcieFn_outbox (s : State) (k : Nat) (f : PcieFn) : (s.setPcieFn k f).outbox = s.outbox := rfl
@[simp] theorem State.setPcieFn_dins (s : State) (k : Nat) (f : PcieFn) : (s.setPcieFn k f).dins = s.dins := rfl
@[simp] theorem State.setPcieFn_douts (s : State) (k : Nat) (f : PcieFn) : (s.setPcieFn k f).douts = s.douts := rfl
@[simp] theorem State.setPcieFn_bridges (s : State) (k : Nat) (f : PcieFn) : (s.setPcieFn k f).bridges = s.bridges := rfl
@[simp] theorem State.setPcieFn_hubs (s : State) (k : Nat) (f : PcieFn) : (s.setPcieFn k f).hubs = s.hubs := rfl
@[simp] theorem State.setPcieFn_nets (s : State) (k : Nat) (f : PcieFn) : (s.setPcieFn k f).nets = s.nets := rfl
@[simp] theorem State.setPcieFn_maps (s : State) (k : Nat) (f : PcieFn) : (s.setPcieFn k f).maps = s.maps := rfl
@[simp] theorem State.setPcieFn_tb (s : State) (k : Nat) (f : PcieFn) : (s.setPcieFn k f).tb = s.tb := rfl
@[simp] theorem State.setPcieFn_path (s : State) (k : Nat) (f : PcieFn) : (s.setPcieFn k f).path = s.path := rfl
@[simp] theorem State.setPcieFn_hooks (s : State) (k : Nat) (f : PcieFn) : (s.setPcieFn k f).hooks = s.hooks := rfl
@[simp] theorem State.setPcieFn_keys (s : State) (k : Nat) (f : PcieFn) : (s.setPcieFn k f).keys = s.keys := rfl
@[simp] theorem State.setPcieFn_images (s : State) (k : Nat) (f : PcieFn) : (s.setPcieFn k f).images = s.images := rfl
@[simp] theorem State.setPcieFn_part (s : State) (k : Nat) (f : PcieFn) : (s.setPcieFn k f).part = s.part := rfl
@[simp] theorem State.setPcieFn_tap (s : State) (k : Nat) (f : PcieFn) : (s.setPcieFn k f).tap = s.tap := rfl
@[simp] theorem State.setPcieFn_pending (s : State) (k : Nat) (f : PcieFn) : (s.setPcieFn k f).pending = s.pending := rfl
@[simp] theorem State.setPcieFn_reg (s : State) (k : Nat) (f : PcieFn) (c : Nat) : (s.setPcieFn k f).reg c = s.reg c := rfl
@[simp] theorem State.setPcieFn_rf (s : State) (k : Nat) (f : PcieFn) (c l m : Nat) : (s.setPcieFn k f).rf c l m = s.rf c l m := rfl
@[simp] theorem State.setPcieFn_rb (s : State) (k : Nat) (f : PcieFn) (c j : Nat) : (s.setPcieFn k f).rb c j = s.rb c j := rfl
@[simp] theorem State.setPcieFn_kernelState (s : State) (k : Nat) (f : PcieFn) (c : Nat) : (s.setPcieFn k f).kernelState c = s.kernelState c := rfl
@[simp] theorem State.setPcieFn_domainState (s : State) (k : Nat) (f : PcieFn) (c d : Nat) : (s.setPcieFn k f).domainState c d = s.domainState c d := rfl
@[simp] theorem State.setPcieFn_portState (s : State) (k : Nat) (f : PcieFn) (c d : Nat) : (s.setPcieFn k f).portState c d = s.portState c d := rfl
@[simp] theorem State.setPcieFn_hasKernel (s : State) (k : Nat) (f : PcieFn) (c : Nat) : (s.setPcieFn k f).hasKernel c = s.hasKernel c := rfl
@[simp] theorem State.setPcieFn_hasPort (s : State) (k : Nat) (f : PcieFn) (c d : Nat) : (s.setPcieFn k f).hasPort c d = s.hasPort c d := rfl
@[simp] theorem State.setPcieFn_port (s : State) (k : Nat) (f : PcieFn) (c d : Nat) : (s.setPcieFn k f).port c d = s.port c d := rfl
@[simp] theorem State.setPcieFn_ctxAt (s : State) (k : Nat) (f : PcieFn) (c t d : Nat) : (s.setPcieFn k f).ctxAt c t d = s.ctxAt c t d := rfl
@[simp] theorem State.setPcieFn_ep (s : State) (k : Nat) (f : PcieFn) (c : Via) : (s.setPcieFn k f).ep c = s.ep c := rfl
@[simp] theorem State.setPcieFn_kern (s : State) (k : Nat) (f : PcieFn) (c : Nat) : (s.setPcieFn k f).kern c = s.kern c := rfl
@[simp] theorem State.setPcieFn_hook (s : State) (k : Nat) (f : PcieFn) (c : Nat) : (s.setPcieFn k f).hook c = s.hook c := rfl

/-! ### setKern -/

@[simp] theorem State.setKern_variant (s : State) (k : Nat) (x : Kern) : (s.setKern k x).variant = s.variant := rfl
@[simp] theorem State.setKern_now (s : State) (k : Nat) (x : Kern) : (s.setKern k x).now = s.now := rfl
@[simp] theorem State.setKern_taiOff (s : State) (k : Nat) (x : Kern) : (s.setKern k x).taiOff = s.taiOff := rfl
@[simp] theorem State.setKern_taiFrac (s : State) (k : Nat) (x : Kern) : (s.setKern k x).taiFrac = s.taiFrac := rfl
@[simp] theorem State.setKern_free (s : State) (k : Nat) (x : Kern) : (s.setKern k x).free = s.free := rfl
@[simp] theorem State.setKern_readOut (s : State) (k : Nat) (x : Kern) : (s.setKern k x).readOut = s.readOut := rfl
@[simp] theorem State.setKern_lead (s : State) (k : Nat) (x : Kern) : (s.setKern k x).lead = s.lead := rfl
@[simp] theorem State.setKern_regs (s : State) (k : Nat) (x : Kern) : (s.setKern k x).regs = s.regs := rfl
@[simp] theorem State.setKern_ends (s : State) (k : Nat) (x : Kern) : (s.setKern k x).ends = s.ends := rfl
@[simp] theorem State.setKern_spi (s : State) (k : Nat) (x : Kern) : (s.setKern k x).spi = s.spi := rfl
@[simp] theorem State.setKern_pcieFns (s : State) (k : Nat) (x : Kern) : (s.setKern k x).pcieFns = s.pcieFns := rfl
@[simp] theorem State.setKern_jobs (s : State) (k : Nat) (x : Kern) : (s.setKern k x).jobs = s.jobs := rfl
@[simp] theorem State.setKern_lastJob (s : State) (k : Nat) (x : Kern) : (s.setKern k x).lastJob = s.lastJob := rfl
@[simp] theorem State.setKern_irqs (s : State) (k : Nat) (x : Kern) : (s.setKern k x).irqs = s.irqs := rfl
@[simp] theorem State.setKern_hooksDown (s : State) (k : Nat) (x : Kern) : (s.setKern k x).hooksDown = s.hooksDown := rfl
@[simp] theorem State.setKern_ports (s : State) (k : Nat) (x : Kern) : (s.setKern k x).ports = s.ports := rfl
@[simp] theorem State.setKern_gaugeWaits (s : State) (k : Nat) (x : Kern) : (s.setKern k x).gaugeWaits = s.gaugeWaits := rfl
@[simp] theorem State.setKern_ctxs (s : State) (k : Nat) (x : Kern) : (s.setKern k x).ctxs = s.ctxs := rfl
@[simp] theorem State.setKern_routeCtxs (s : State) (k : Nat) (x : Kern) : (s.setKern k x).routeCtxs = s.routeCtxs := rfl
@[simp] theorem State.setKern_flights (s : State) (k : Nat) (x : Kern) : (s.setKern k x).flights = s.flights := rfl
@[simp] theorem State.setKern_localRx (s : State) (k : Nat) (x : Kern) : (s.setKern k x).localRx = s.localRx := rfl
@[simp] theorem State.setKern_outbox (s : State) (k : Nat) (x : Kern) : (s.setKern k x).outbox = s.outbox := rfl
@[simp] theorem State.setKern_dins (s : State) (k : Nat) (x : Kern) : (s.setKern k x).dins = s.dins := rfl
@[simp] theorem State.setKern_douts (s : State) (k : Nat) (x : Kern) : (s.setKern k x).douts = s.douts := rfl
@[simp] theorem State.setKern_bridges (s : State) (k : Nat) (x : Kern) : (s.setKern k x).bridges = s.bridges := rfl
@[simp] theorem State.setKern_hubs (s : State) (k : Nat) (x : Kern) : (s.setKern k x).hubs = s.hubs := rfl
@[simp] theorem State.setKern_nets (s : State) (k : Nat) (x : Kern) : (s.setKern k x).nets = s.nets := rfl
@[simp] theorem State.setKern_maps (s : State) (k : Nat) (x : Kern) : (s.setKern k x).maps = s.maps := rfl
@[simp] theorem State.setKern_tb (s : State) (k : Nat) (x : Kern) : (s.setKern k x).tb = s.tb := rfl
@[simp] theorem State.setKern_path (s : State) (k : Nat) (x : Kern) : (s.setKern k x).path = s.path := rfl
@[simp] theorem State.setKern_hooks (s : State) (k : Nat) (x : Kern) : (s.setKern k x).hooks = s.hooks := rfl
@[simp] theorem State.setKern_keys (s : State) (k : Nat) (x : Kern) : (s.setKern k x).keys = s.keys := rfl
@[simp] theorem State.setKern_images (s : State) (k : Nat) (x : Kern) : (s.setKern k x).images = s.images := rfl
@[simp] theorem State.setKern_part (s : State) (k : Nat) (x : Kern) : (s.setKern k x).part = s.part := rfl
@[simp] theorem State.setKern_tap (s : State) (k : Nat) (x : Kern) : (s.setKern k x).tap = s.tap := rfl
@[simp] theorem State.setKern_pending (s : State) (k : Nat) (x : Kern) : (s.setKern k x).pending = s.pending := rfl
@[simp] theorem State.setKern_reg (s : State) (k : Nat) (x : Kern) (c : Nat) : (s.setKern k x).reg c = s.reg c := rfl
@[simp] theorem State.setKern_rf (s : State) (k : Nat) (x : Kern) (c l m : Nat) : (s.setKern k x).rf c l m = s.rf c l m := rfl
@[simp] theorem State.setKern_rb (s : State) (k : Nat) (x : Kern) (c j : Nat) : (s.setKern k x).rb c j = s.rb c j := rfl
@[simp] theorem State.setKern_kernelState (s : State) (k : Nat) (x : Kern) (c : Nat) : (s.setKern k x).kernelState c = s.kernelState c := rfl
@[simp] theorem State.setKern_domainState (s : State) (k : Nat) (x : Kern) (c d : Nat) : (s.setKern k x).domainState c d = s.domainState c d := rfl
@[simp] theorem State.setKern_portState (s : State) (k : Nat) (x : Kern) (c d : Nat) : (s.setKern k x).portState c d = s.portState c d := rfl
@[simp] theorem State.setKern_hasKernel (s : State) (k : Nat) (x : Kern) (c : Nat) : (s.setKern k x).hasKernel c = s.hasKernel c := rfl
@[simp] theorem State.setKern_hasPort (s : State) (k : Nat) (x : Kern) (c d : Nat) : (s.setKern k x).hasPort c d = s.hasPort c d := rfl
@[simp] theorem State.setKern_port (s : State) (k : Nat) (x : Kern) (c d : Nat) : (s.setKern k x).port c d = s.port c d := rfl
@[simp] theorem State.setKern_ctxAt (s : State) (k : Nat) (x : Kern) (c t d : Nat) : (s.setKern k x).ctxAt c t d = s.ctxAt c t d := rfl
@[simp] theorem State.setKern_ep (s : State) (k : Nat) (x : Kern) (c : Via) : (s.setKern k x).ep c = s.ep c := rfl
@[simp] theorem State.setKern_hook (s : State) (k : Nat) (x : Kern) (c : Nat) : (s.setKern k x).hook c = s.hook c := rfl

/-! ### setHub -/

@[simp] theorem State.setHub_variant (s : State) (k : Nat) (x : Hub) : (s.setHub k x).variant = s.variant := rfl
@[simp] theorem State.setHub_now (s : State) (k : Nat) (x : Hub) : (s.setHub k x).now = s.now := rfl
@[simp] theorem State.setHub_taiOff (s : State) (k : Nat) (x : Hub) : (s.setHub k x).taiOff = s.taiOff := rfl
@[simp] theorem State.setHub_taiFrac (s : State) (k : Nat) (x : Hub) : (s.setHub k x).taiFrac = s.taiFrac := rfl
@[simp] theorem State.setHub_free (s : State) (k : Nat) (x : Hub) : (s.setHub k x).free = s.free := rfl
@[simp] theorem State.setHub_readOut (s : State) (k : Nat) (x : Hub) : (s.setHub k x).readOut = s.readOut := rfl
@[simp] theorem State.setHub_lead (s : State) (k : Nat) (x : Hub) : (s.setHub k x).lead = s.lead := rfl
@[simp] theorem State.setHub_regs (s : State) (k : Nat) (x : Hub) : (s.setHub k x).regs = s.regs := rfl
@[simp] theorem State.setHub_ends (s : State) (k : Nat) (x : Hub) : (s.setHub k x).ends = s.ends := rfl
@[simp] theorem State.setHub_spi (s : State) (k : Nat) (x : Hub) : (s.setHub k x).spi = s.spi := rfl
@[simp] theorem State.setHub_pcieFns (s : State) (k : Nat) (x : Hub) : (s.setHub k x).pcieFns = s.pcieFns := rfl
@[simp] theorem State.setHub_jobs (s : State) (k : Nat) (x : Hub) : (s.setHub k x).jobs = s.jobs := rfl
@[simp] theorem State.setHub_lastJob (s : State) (k : Nat) (x : Hub) : (s.setHub k x).lastJob = s.lastJob := rfl
@[simp] theorem State.setHub_kerns (s : State) (k : Nat) (x : Hub) : (s.setHub k x).kerns = s.kerns := rfl
@[simp] theorem State.setHub_irqs (s : State) (k : Nat) (x : Hub) : (s.setHub k x).irqs = s.irqs := rfl
@[simp] theorem State.setHub_hooksDown (s : State) (k : Nat) (x : Hub) : (s.setHub k x).hooksDown = s.hooksDown := rfl
@[simp] theorem State.setHub_ports (s : State) (k : Nat) (x : Hub) : (s.setHub k x).ports = s.ports := rfl
@[simp] theorem State.setHub_gaugeWaits (s : State) (k : Nat) (x : Hub) : (s.setHub k x).gaugeWaits = s.gaugeWaits := rfl
@[simp] theorem State.setHub_ctxs (s : State) (k : Nat) (x : Hub) : (s.setHub k x).ctxs = s.ctxs := rfl
@[simp] theorem State.setHub_routeCtxs (s : State) (k : Nat) (x : Hub) : (s.setHub k x).routeCtxs = s.routeCtxs := rfl
@[simp] theorem State.setHub_flights (s : State) (k : Nat) (x : Hub) : (s.setHub k x).flights = s.flights := rfl
@[simp] theorem State.setHub_localRx (s : State) (k : Nat) (x : Hub) : (s.setHub k x).localRx = s.localRx := rfl
@[simp] theorem State.setHub_outbox (s : State) (k : Nat) (x : Hub) : (s.setHub k x).outbox = s.outbox := rfl
@[simp] theorem State.setHub_dins (s : State) (k : Nat) (x : Hub) : (s.setHub k x).dins = s.dins := rfl
@[simp] theorem State.setHub_douts (s : State) (k : Nat) (x : Hub) : (s.setHub k x).douts = s.douts := rfl
@[simp] theorem State.setHub_bridges (s : State) (k : Nat) (x : Hub) : (s.setHub k x).bridges = s.bridges := rfl
@[simp] theorem State.setHub_nets (s : State) (k : Nat) (x : Hub) : (s.setHub k x).nets = s.nets := rfl
@[simp] theorem State.setHub_maps (s : State) (k : Nat) (x : Hub) : (s.setHub k x).maps = s.maps := rfl
@[simp] theorem State.setHub_tb (s : State) (k : Nat) (x : Hub) : (s.setHub k x).tb = s.tb := rfl
@[simp] theorem State.setHub_path (s : State) (k : Nat) (x : Hub) : (s.setHub k x).path = s.path := rfl
@[simp] theorem State.setHub_hooks (s : State) (k : Nat) (x : Hub) : (s.setHub k x).hooks = s.hooks := rfl
@[simp] theorem State.setHub_keys (s : State) (k : Nat) (x : Hub) : (s.setHub k x).keys = s.keys := rfl
@[simp] theorem State.setHub_images (s : State) (k : Nat) (x : Hub) : (s.setHub k x).images = s.images := rfl
@[simp] theorem State.setHub_part (s : State) (k : Nat) (x : Hub) : (s.setHub k x).part = s.part := rfl
@[simp] theorem State.setHub_tap (s : State) (k : Nat) (x : Hub) : (s.setHub k x).tap = s.tap := rfl
@[simp] theorem State.setHub_pending (s : State) (k : Nat) (x : Hub) : (s.setHub k x).pending = s.pending := rfl
@[simp] theorem State.setHub_reg (s : State) (k : Nat) (x : Hub) (c : Nat) : (s.setHub k x).reg c = s.reg c := rfl
@[simp] theorem State.setHub_rf (s : State) (k : Nat) (x : Hub) (c l m : Nat) : (s.setHub k x).rf c l m = s.rf c l m := rfl
@[simp] theorem State.setHub_rb (s : State) (k : Nat) (x : Hub) (c j : Nat) : (s.setHub k x).rb c j = s.rb c j := rfl
@[simp] theorem State.setHub_kernelState (s : State) (k : Nat) (x : Hub) (c : Nat) : (s.setHub k x).kernelState c = s.kernelState c := rfl
@[simp] theorem State.setHub_domainState (s : State) (k : Nat) (x : Hub) (c d : Nat) : (s.setHub k x).domainState c d = s.domainState c d := rfl
@[simp] theorem State.setHub_portState (s : State) (k : Nat) (x : Hub) (c d : Nat) : (s.setHub k x).portState c d = s.portState c d := rfl
@[simp] theorem State.setHub_hasKernel (s : State) (k : Nat) (x : Hub) (c : Nat) : (s.setHub k x).hasKernel c = s.hasKernel c := rfl
@[simp] theorem State.setHub_hasPort (s : State) (k : Nat) (x : Hub) (c d : Nat) : (s.setHub k x).hasPort c d = s.hasPort c d := rfl
@[simp] theorem State.setHub_port (s : State) (k : Nat) (x : Hub) (c d : Nat) : (s.setHub k x).port c d = s.port c d := rfl
@[simp] theorem State.setHub_ctxAt (s : State) (k : Nat) (x : Hub) (c t d : Nat) : (s.setHub k x).ctxAt c t d = s.ctxAt c t d := rfl
@[simp] theorem State.setHub_ep (s : State) (k : Nat) (x : Hub) (c : Via) : (s.setHub k x).ep c = s.ep c := rfl
@[simp] theorem State.setHub_kern (s : State) (k : Nat) (x : Hub) (c : Nat) : (s.setHub k x).kern c = s.kern c := rfl
@[simp] theorem State.setHub_hook (s : State) (k : Nat) (x : Hub) (c : Nat) : (s.setHub k x).hook c = s.hook c := rfl

/-! ### setNet -/

@[simp] theorem State.setNet_variant (s : State) (k : Nat) (x : Net) : (s.setNet k x).variant = s.variant := rfl
@[simp] theorem State.setNet_now (s : State) (k : Nat) (x : Net) : (s.setNet k x).now = s.now := rfl
@[simp] theorem State.setNet_taiOff (s : State) (k : Nat) (x : Net) : (s.setNet k x).taiOff = s.taiOff := rfl
@[simp] theorem State.setNet_taiFrac (s : State) (k : Nat) (x : Net) : (s.setNet k x).taiFrac = s.taiFrac := rfl
@[simp] theorem State.setNet_free (s : State) (k : Nat) (x : Net) : (s.setNet k x).free = s.free := rfl
@[simp] theorem State.setNet_readOut (s : State) (k : Nat) (x : Net) : (s.setNet k x).readOut = s.readOut := rfl
@[simp] theorem State.setNet_lead (s : State) (k : Nat) (x : Net) : (s.setNet k x).lead = s.lead := rfl
@[simp] theorem State.setNet_regs (s : State) (k : Nat) (x : Net) : (s.setNet k x).regs = s.regs := rfl
@[simp] theorem State.setNet_ends (s : State) (k : Nat) (x : Net) : (s.setNet k x).ends = s.ends := rfl
@[simp] theorem State.setNet_spi (s : State) (k : Nat) (x : Net) : (s.setNet k x).spi = s.spi := rfl
@[simp] theorem State.setNet_pcieFns (s : State) (k : Nat) (x : Net) : (s.setNet k x).pcieFns = s.pcieFns := rfl
@[simp] theorem State.setNet_jobs (s : State) (k : Nat) (x : Net) : (s.setNet k x).jobs = s.jobs := rfl
@[simp] theorem State.setNet_lastJob (s : State) (k : Nat) (x : Net) : (s.setNet k x).lastJob = s.lastJob := rfl
@[simp] theorem State.setNet_kerns (s : State) (k : Nat) (x : Net) : (s.setNet k x).kerns = s.kerns := rfl
@[simp] theorem State.setNet_irqs (s : State) (k : Nat) (x : Net) : (s.setNet k x).irqs = s.irqs := rfl
@[simp] theorem State.setNet_hooksDown (s : State) (k : Nat) (x : Net) : (s.setNet k x).hooksDown = s.hooksDown := rfl
@[simp] theorem State.setNet_ports (s : State) (k : Nat) (x : Net) : (s.setNet k x).ports = s.ports := rfl
@[simp] theorem State.setNet_gaugeWaits (s : State) (k : Nat) (x : Net) : (s.setNet k x).gaugeWaits = s.gaugeWaits := rfl
@[simp] theorem State.setNet_ctxs (s : State) (k : Nat) (x : Net) : (s.setNet k x).ctxs = s.ctxs := rfl
@[simp] theorem State.setNet_routeCtxs (s : State) (k : Nat) (x : Net) : (s.setNet k x).routeCtxs = s.routeCtxs := rfl
@[simp] theorem State.setNet_flights (s : State) (k : Nat) (x : Net) : (s.setNet k x).flights = s.flights := rfl
@[simp] theorem State.setNet_localRx (s : State) (k : Nat) (x : Net) : (s.setNet k x).localRx = s.localRx := rfl
@[simp] theorem State.setNet_outbox (s : State) (k : Nat) (x : Net) : (s.setNet k x).outbox = s.outbox := rfl
@[simp] theorem State.setNet_dins (s : State) (k : Nat) (x : Net) : (s.setNet k x).dins = s.dins := rfl
@[simp] theorem State.setNet_douts (s : State) (k : Nat) (x : Net) : (s.setNet k x).douts = s.douts := rfl
@[simp] theorem State.setNet_bridges (s : State) (k : Nat) (x : Net) : (s.setNet k x).bridges = s.bridges := rfl
@[simp] theorem State.setNet_hubs (s : State) (k : Nat) (x : Net) : (s.setNet k x).hubs = s.hubs := rfl
@[simp] theorem State.setNet_maps (s : State) (k : Nat) (x : Net) : (s.setNet k x).maps = s.maps := rfl
@[simp] theorem State.setNet_tb (s : State) (k : Nat) (x : Net) : (s.setNet k x).tb = s.tb := rfl
@[simp] theorem State.setNet_path (s : State) (k : Nat) (x : Net) : (s.setNet k x).path = s.path := rfl
@[simp] theorem State.setNet_hooks (s : State) (k : Nat) (x : Net) : (s.setNet k x).hooks = s.hooks := rfl
@[simp] theorem State.setNet_keys (s : State) (k : Nat) (x : Net) : (s.setNet k x).keys = s.keys := rfl
@[simp] theorem State.setNet_images (s : State) (k : Nat) (x : Net) : (s.setNet k x).images = s.images := rfl
@[simp] theorem State.setNet_part (s : State) (k : Nat) (x : Net) : (s.setNet k x).part = s.part := rfl
@[simp] theorem State.setNet_tap (s : State) (k : Nat) (x : Net) : (s.setNet k x).tap = s.tap := rfl
@[simp] theorem State.setNet_pending (s : State) (k : Nat) (x : Net) : (s.setNet k x).pending = s.pending := rfl
@[simp] theorem State.setNet_reg (s : State) (k : Nat) (x : Net) (c : Nat) : (s.setNet k x).reg c = s.reg c := rfl
@[simp] theorem State.setNet_rf (s : State) (k : Nat) (x : Net) (c l m : Nat) : (s.setNet k x).rf c l m = s.rf c l m := rfl
@[simp] theorem State.setNet_rb (s : State) (k : Nat) (x : Net) (c j : Nat) : (s.setNet k x).rb c j = s.rb c j := rfl
@[simp] theorem State.setNet_kernelState (s : State) (k : Nat) (x : Net) (c : Nat) : (s.setNet k x).kernelState c = s.kernelState c := rfl
@[simp] theorem State.setNet_domainState (s : State) (k : Nat) (x : Net) (c d : Nat) : (s.setNet k x).domainState c d = s.domainState c d := rfl
@[simp] theorem State.setNet_portState (s : State) (k : Nat) (x : Net) (c d : Nat) : (s.setNet k x).portState c d = s.portState c d := rfl
@[simp] theorem State.setNet_hasKernel (s : State) (k : Nat) (x : Net) (c : Nat) : (s.setNet k x).hasKernel c = s.hasKernel c := rfl
@[simp] theorem State.setNet_hasPort (s : State) (k : Nat) (x : Net) (c d : Nat) : (s.setNet k x).hasPort c d = s.hasPort c d := rfl
@[simp] theorem State.setNet_port (s : State) (k : Nat) (x : Net) (c d : Nat) : (s.setNet k x).port c d = s.port c d := rfl
@[simp] theorem State.setNet_ctxAt (s : State) (k : Nat) (x : Net) (c t d : Nat) : (s.setNet k x).ctxAt c t d = s.ctxAt c t d := rfl
@[simp] theorem State.setNet_ep (s : State) (k : Nat) (x : Net) (c : Via) : (s.setNet k x).ep c = s.ep c := rfl
@[simp] theorem State.setNet_kern (s : State) (k : Nat) (x : Net) (c : Nat) : (s.setNet k x).kern c = s.kern c := rfl
@[simp] theorem State.setNet_hook (s : State) (k : Nat) (x : Net) (c : Nat) : (s.setNet k x).hook c = s.hook c := rfl

/-! ### setMapper -/

@[simp] theorem State.setMapper_variant (s : State) (k : Nat) (x : Mapper) : (s.setMapper k x).variant = s.variant := rfl
@[simp] theorem State.setMapper_now (s : State) (k : Nat) (x : Mapper) : (s.setMapper k x).now = s.now := rfl
@[simp] theorem State.setMapper_taiOff (s : State) (k : Nat) (x : Mapper) : (s.setMapper k x).taiOff = s.taiOff := rfl
@[simp] theorem State.setMapper_taiFrac (s : State) (k : Nat) (x : Mapper) : (s.setMapper k x).taiFrac = s.taiFrac := rfl
@[simp] theorem State.setMapper_free (s : State) (k : Nat) (x : Mapper) : (s.setMapper k x).free = s.free := rfl
@[simp] theorem State.setMapper_readOut (s : State) (k : Nat) (x : Mapper) : (s.setMapper k x).readOut = s.readOut := rfl
@[simp] theorem State.setMapper_lead (s : State) (k : Nat) (x : Mapper) : (s.setMapper k x).lead = s.lead := rfl
@[simp] theorem State.setMapper_regs (s : State) (k : Nat) (x : Mapper) : (s.setMapper k x).regs = s.regs := rfl
@[simp] theorem State.setMapper_ends (s : State) (k : Nat) (x : Mapper) : (s.setMapper k x).ends = s.ends := rfl
@[simp] theorem State.setMapper_spi (s : State) (k : Nat) (x : Mapper) : (s.setMapper k x).spi = s.spi := rfl
@[simp] theorem State.setMapper_pcieFns (s : State) (k : Nat) (x : Mapper) : (s.setMapper k x).pcieFns = s.pcieFns := rfl
@[simp] theorem State.setMapper_jobs (s : State) (k : Nat) (x : Mapper) : (s.setMapper k x).jobs = s.jobs := rfl
@[simp] theorem State.setMapper_lastJob (s : State) (k : Nat) (x : Mapper) : (s.setMapper k x).lastJob = s.lastJob := rfl
@[simp] theorem State.setMapper_kerns (s : State) (k : Nat) (x : Mapper) : (s.setMapper k x).kerns = s.kerns := rfl
@[simp] theorem State.setMapper_irqs (s : State) (k : Nat) (x : Mapper) : (s.setMapper k x).irqs = s.irqs := rfl
@[simp] theorem State.setMapper_hooksDown (s : State) (k : Nat) (x : Mapper) : (s.setMapper k x).hooksDown = s.hooksDown := rfl
@[simp] theorem State.setMapper_ports (s : State) (k : Nat) (x : Mapper) : (s.setMapper k x).ports = s.ports := rfl
@[simp] theorem State.setMapper_gaugeWaits (s : State) (k : Nat) (x : Mapper) : (s.setMapper k x).gaugeWaits = s.gaugeWaits := rfl
@[simp] theorem State.setMapper_ctxs (s : State) (k : Nat) (x : Mapper) : (s.setMapper k x).ctxs = s.ctxs := rfl
@[simp] theorem State.setMapper_routeCtxs (s : State) (k : Nat) (x : Mapper) : (s.setMapper k x).routeCtxs = s.routeCtxs := rfl
@[simp] theorem State.setMapper_flights (s : State) (k : Nat) (x : Mapper) : (s.setMapper k x).flights = s.flights := rfl
@[simp] theorem State.setMapper_localRx (s : State) (k : Nat) (x : Mapper) : (s.setMapper k x).localRx = s.localRx := rfl
@[simp] theorem State.setMapper_outbox (s : State) (k : Nat) (x : Mapper) : (s.setMapper k x).outbox = s.outbox := rfl
@[simp] theorem State.setMapper_dins (s : State) (k : Nat) (x : Mapper) : (s.setMapper k x).dins = s.dins := rfl
@[simp] theorem State.setMapper_douts (s : State) (k : Nat) (x : Mapper) : (s.setMapper k x).douts = s.douts := rfl
@[simp] theorem State.setMapper_bridges (s : State) (k : Nat) (x : Mapper) : (s.setMapper k x).bridges = s.bridges := rfl
@[simp] theorem State.setMapper_hubs (s : State) (k : Nat) (x : Mapper) : (s.setMapper k x).hubs = s.hubs := rfl
@[simp] theorem State.setMapper_nets (s : State) (k : Nat) (x : Mapper) : (s.setMapper k x).nets = s.nets := rfl
@[simp] theorem State.setMapper_tb (s : State) (k : Nat) (x : Mapper) : (s.setMapper k x).tb = s.tb := rfl
@[simp] theorem State.setMapper_path (s : State) (k : Nat) (x : Mapper) : (s.setMapper k x).path = s.path := rfl
@[simp] theorem State.setMapper_hooks (s : State) (k : Nat) (x : Mapper) : (s.setMapper k x).hooks = s.hooks := rfl
@[simp] theorem State.setMapper_keys (s : State) (k : Nat) (x : Mapper) : (s.setMapper k x).keys = s.keys := rfl
@[simp] theorem State.setMapper_images (s : State) (k : Nat) (x : Mapper) : (s.setMapper k x).images = s.images := rfl
@[simp] theorem State.setMapper_part (s : State) (k : Nat) (x : Mapper) : (s.setMapper k x).part = s.part := rfl
@[simp] theorem State.setMapper_tap (s : State) (k : Nat) (x : Mapper) : (s.setMapper k x).tap = s.tap := rfl
@[simp] theorem State.setMapper_pending (s : State) (k : Nat) (x : Mapper) : (s.setMapper k x).pending = s.pending := rfl
@[simp] theorem State.setMapper_reg (s : State) (k : Nat) (x : Mapper) (c : Nat) : (s.setMapper k x).reg c = s.reg c := rfl
@[simp] theorem State.setMapper_rf (s : State) (k : Nat) (x : Mapper) (c l m : Nat) : (s.setMapper k x).rf c l m = s.rf c l m := rfl
@[simp] theorem State.setMapper_rb (s : State) (k : Nat) (x : Mapper) (c j : Nat) : (s.setMapper k x).rb c j = s.rb c j := rfl
@[simp] theorem State.setMapper_kernelState (s : State) (k : Nat) (x : Mapper) (c : Nat) : (s.setMapper k x).kernelState c = s.kernelState c := rfl
@[simp] theorem State.setMapper_domainState (s : State) (k : Nat) (x : Mapper) (c d : Nat) : (s.setMapper k x).domainState c d = s.domainState c d := rfl
@[simp] theorem State.setMapper_portState (s : State) (k : Nat) (x : Mapper) (c d : Nat) : (s.setMapper k x).portState c d = s.portState c d := rfl
@[simp] theorem State.setMapper_hasKernel (s : State) (k : Nat) (x : Mapper) (c : Nat) : (s.setMapper k x).hasKernel c = s.hasKernel c := rfl
@[simp] theorem State.setMapper_hasPort (s : State) (k : Nat) (x : Mapper) (c d : Nat) : (s.setMapper k x).hasPort c d = s.hasPort c d := rfl
@[simp] theorem State.setMapper_port (s : State) (k : Nat) (x : Mapper) (c d : Nat) : (s.setMapper k x).port c d = s.port c d := rfl
@[simp] theorem State.setMapper_ctxAt (s : State) (k : Nat) (x : Mapper) (c t d : Nat) : (s.setMapper k x).ctxAt c t d = s.ctxAt c t d := rfl
@[simp] theorem State.setMapper_ep (s : State) (k : Nat) (x : Mapper) (c : Via) : (s.setMapper k x).ep c = s.ep c := rfl
@[simp] theorem State.setMapper_kern (s : State) (k : Nat) (x : Mapper) (c : Nat) : (s.setMapper k x).kern c = s.kern c := rfl
@[simp] theorem State.setMapper_hook (s : State) (k : Nat) (x : Mapper) (c : Nat) : (s.setMapper k x).hook c = s.hook c := rfl

/-! ### setPort -/

@[simp] theorem State.setPort_variant (s : State) (k p : Nat) (x : Port) : (s.setPort k p x).variant = s.variant := rfl
@[simp] theorem State.setPort_now (s : State) (k p : Nat) (x : Port) : (s.setPort k p x).now = s.now := rfl
@[simp] theorem State.setPort_taiOff (s : State) (k p : Nat) (x : Port) : (s.setPort k p x).taiOff = s.taiOff := rfl
@[simp] theorem State.setPort_taiFrac (s : State) (k p : Nat) (x : Port) : (s.setPort k p x).taiFrac = s.taiFrac := rfl
@[simp] theorem State.setPort_free (s : State) (k p : Nat) (x : Port) : (s.setPort k p x).free = s.free := rfl
@[simp] theorem State.setPort_readOut (s : State) (k p : Nat) (x : Port) : (s.setPort k p x).readOut = s.readOut := rfl
@[simp] theorem State.setPort_lead (s : State) (k p : Nat) (x : Port) : (s.setPort k p x).lead = s.lead := rfl
@[simp] theorem State.setPort_regs (s : State) (k p : Nat) (x : Port) : (s.setPort k p x).regs = s.regs := rfl
@[simp] theorem State.setPort_ends (s : State) (k p : Nat) (x : Port) : (s.setPort k p x).ends = s.ends := rfl
@[simp] theorem State.setPort_spi (s : State) (k p : Nat) (x : Port) : (s.setPort k p x).spi = s.spi := rfl
@[simp] theorem State.setPort_pcieFns (s : State) (k p : Nat) (x : Port) : (s.setPort k p x).pcieFns = s.pcieFns := rfl
@[simp] theorem State.setPort_jobs (s : State) (k p : Nat) (x : Port) : (s.setPort k p x).jobs = s.jobs := rfl
@[simp] theorem State.setPort_lastJob (s : State) (k p : Nat) (x : Port) : (s.setPort k p x).lastJob = s.lastJob := rfl
@[simp] theorem State.setPort_kerns (s : State) (k p : Nat) (x : Port) : (s.setPort k p x).kerns = s.kerns := rfl
@[simp] theorem State.setPort_irqs (s : State) (k p : Nat) (x : Port) : (s.setPort k p x).irqs = s.irqs := rfl
@[simp] theorem State.setPort_hooksDown (s : State) (k p : Nat) (x : Port) : (s.setPort k p x).hooksDown = s.hooksDown := rfl
@[simp] theorem State.setPort_gaugeWaits (s : State) (k p : Nat) (x : Port) : (s.setPort k p x).gaugeWaits = s.gaugeWaits := rfl
@[simp] theorem State.setPort_ctxs (s : State) (k p : Nat) (x : Port) : (s.setPort k p x).ctxs = s.ctxs := rfl
@[simp] theorem State.setPort_routeCtxs (s : State) (k p : Nat) (x : Port) : (s.setPort k p x).routeCtxs = s.routeCtxs := rfl
@[simp] theorem State.setPort_flights (s : State) (k p : Nat) (x : Port) : (s.setPort k p x).flights = s.flights := rfl
@[simp] theorem State.setPort_localRx (s : State) (k p : Nat) (x : Port) : (s.setPort k p x).localRx = s.localRx := rfl
@[simp] theorem State.setPort_outbox (s : State) (k p : Nat) (x : Port) : (s.setPort k p x).outbox = s.outbox := rfl
@[simp] theorem State.setPort_dins (s : State) (k p : Nat) (x : Port) : (s.setPort k p x).dins = s.dins := rfl
@[simp] theorem State.setPort_douts (s : State) (k p : Nat) (x : Port) : (s.setPort k p x).douts = s.douts := rfl
@[simp] theorem State.setPort_bridges (s : State) (k p : Nat) (x : Port) : (s.setPort k p x).bridges = s.bridges := rfl
@[simp] theorem State.setPort_hubs (s : State) (k p : Nat) (x : Port) : (s.setPort k p x).hubs = s.hubs := rfl
@[simp] theorem State.setPort_nets (s : State) (k p : Nat) (x : Port) : (s.setPort k p x).nets = s.nets := rfl
@[simp] theorem State.setPort_maps (s : State) (k p : Nat) (x : Port) : (s.setPort k p x).maps = s.maps := rfl
@[simp] theorem State.setPort_tb (s : State) (k p : Nat) (x : Port) : (s.setPort k p x).tb = s.tb := rfl
@[simp] theorem State.setPort_path (s : State) (k p : Nat) (x : Port) : (s.setPort k p x).path = s.path := rfl
@[simp] theorem State.setPort_hooks (s : State) (k p : Nat) (x : Port) : (s.setPort k p x).hooks = s.hooks := rfl
@[simp] theorem State.setPort_keys (s : State) (k p : Nat) (x : Port) : (s.setPort k p x).keys = s.keys := rfl
@[simp] theorem State.setPort_images (s : State) (k p : Nat) (x : Port) : (s.setPort k p x).images = s.images := rfl
@[simp] theorem State.setPort_part (s : State) (k p : Nat) (x : Port) : (s.setPort k p x).part = s.part := rfl
@[simp] theorem State.setPort_tap (s : State) (k p : Nat) (x : Port) : (s.setPort k p x).tap = s.tap := rfl
@[simp] theorem State.setPort_pending (s : State) (k p : Nat) (x : Port) : (s.setPort k p x).pending = s.pending := rfl
@[simp] theorem State.setPort_reg (s : State) (k p : Nat) (x : Port) (c : Nat) : (s.setPort k p x).reg c = s.reg c := rfl
@[simp] theorem State.setPort_rf (s : State) (k p : Nat) (x : Port) (c l m : Nat) : (s.setPort k p x).rf c l m = s.rf c l m := rfl
@[simp] theorem State.setPort_rb (s : State) (k p : Nat) (x : Port) (c j : Nat) : (s.setPort k p x).rb c j = s.rb c j := rfl
@[simp] theorem State.setPort_kernelState (s : State) (k p : Nat) (x : Port) (c : Nat) : (s.setPort k p x).kernelState c = s.kernelState c := rfl
@[simp] theorem State.setPort_domainState (s : State) (k p : Nat) (x : Port) (c d : Nat) : (s.setPort k p x).domainState c d = s.domainState c d := rfl
@[simp] theorem State.setPort_portState (s : State) (k p : Nat) (x : Port) (c d : Nat) : (s.setPort k p x).portState c d = s.portState c d := rfl
@[simp] theorem State.setPort_hasKernel (s : State) (k p : Nat) (x : Port) (c : Nat) : (s.setPort k p x).hasKernel c = s.hasKernel c := rfl
@[simp] theorem State.setPort_hasPort (s : State) (k p : Nat) (x : Port) (c d : Nat) : (s.setPort k p x).hasPort c d = s.hasPort c d := rfl
@[simp] theorem State.setPort_ctxAt (s : State) (k p : Nat) (x : Port) (c t d : Nat) : (s.setPort k p x).ctxAt c t d = s.ctxAt c t d := rfl
@[simp] theorem State.setPort_ep (s : State) (k p : Nat) (x : Port) (c : Via) : (s.setPort k p x).ep c = s.ep c := rfl
@[simp] theorem State.setPort_kern (s : State) (k p : Nat) (x : Port) (c : Nat) : (s.setPort k p x).kern c = s.kern c := rfl
@[simp] theorem State.setPort_hook (s : State) (k p : Nat) (x : Port) (c : Nat) : (s.setPort k p x).hook c = s.hook c := rfl

/-! ### setCtxAt -/

@[simp] theorem State.setCtxAt_variant (s : State) (k t p : Nat) (x : Ctx) : (s.setCtxAt k t p x).variant = s.variant := rfl
@[simp] theorem State.setCtxAt_now (s : State) (k t p : Nat) (x : Ctx) : (s.setCtxAt k t p x).now = s.now := rfl
@[simp] theorem State.setCtxAt_taiOff (s : State) (k t p : Nat) (x : Ctx) : (s.setCtxAt k t p x).taiOff = s.taiOff := rfl
@[simp] theorem State.setCtxAt_taiFrac (s : State) (k t p : Nat) (x : Ctx) : (s.setCtxAt k t p x).taiFrac = s.taiFrac := rfl
@[simp] theorem State.setCtxAt_free (s : State) (k t p : Nat) (x : Ctx) : (s.setCtxAt k t p x).free = s.free := rfl
@[simp] theorem State.setCtxAt_readOut (s : State) (k t p : Nat) (x : Ctx) : (s.setCtxAt k t p x).readOut = s.readOut := rfl
@[simp] theorem State.setCtxAt_lead (s : State) (k t p : Nat) (x : Ctx) : (s.setCtxAt k t p x).lead = s.lead := rfl
@[simp] theorem State.setCtxAt_regs (s : State) (k t p : Nat) (x : Ctx) : (s.setCtxAt k t p x).regs = s.regs := rfl
@[simp] theorem State.setCtxAt_ends (s : State) (k t p : Nat) (x : Ctx) : (s.setCtxAt k t p x).ends = s.ends := rfl
@[simp] theorem State.setCtxAt_spi (s : State) (k t p : Nat) (x : Ctx) : (s.setCtxAt k t p x).spi = s.spi := rfl
@[simp] theorem State.setCtxAt_pcieFns (s : State) (k t p : Nat) (x : Ctx) : (s.setCtxAt k t p x).pcieFns = s.pcieFns := rfl
@[simp] theorem State.setCtxAt_jobs (s : State) (k t p : Nat) (x : Ctx) : (s.setCtxAt k t p x).jobs = s.jobs := rfl
@[simp] theorem State.setCtxAt_lastJob (s : State) (k t p : Nat) (x : Ctx) : (s.setCtxAt k t p x).lastJob = s.lastJob := rfl
@[simp] theorem State.setCtxAt_kerns (s : State) (k t p : Nat) (x : Ctx) : (s.setCtxAt k t p x).kerns = s.kerns := rfl
@[simp] theorem State.setCtxAt_irqs (s : State) (k t p : Nat) (x : Ctx) : (s.setCtxAt k t p x).irqs = s.irqs := rfl
@[simp] theorem State.setCtxAt_hooksDown (s : State) (k t p : Nat) (x : Ctx) : (s.setCtxAt k t p x).hooksDown = s.hooksDown := rfl
@[simp] theorem State.setCtxAt_ports (s : State) (k t p : Nat) (x : Ctx) : (s.setCtxAt k t p x).ports = s.ports := rfl
@[simp] theorem State.setCtxAt_gaugeWaits (s : State) (k t p : Nat) (x : Ctx) : (s.setCtxAt k t p x).gaugeWaits = s.gaugeWaits := rfl
@[simp] theorem State.setCtxAt_routeCtxs (s : State) (k t p : Nat) (x : Ctx) : (s.setCtxAt k t p x).routeCtxs = s.routeCtxs := rfl
@[simp] theorem State.setCtxAt_flights (s : State) (k t p : Nat) (x : Ctx) : (s.setCtxAt k t p x).flights = s.flights := rfl
@[simp] theorem State.setCtxAt_localRx (s : State) (k t p : Nat) (x : Ctx) : (s.setCtxAt k t p x).localRx = s.localRx := rfl
@[simp] theorem State.setCtxAt_outbox (s : State) (k t p : Nat) (x : Ctx) : (s.setCtxAt k t p x).outbox = s.outbox := rfl
@[simp] theorem State.setCtxAt_dins (s : State) (k t p : Nat) (x : Ctx) : (s.setCtxAt k t p x).dins = s.dins := rfl
@[simp] theorem State.setCtxAt_douts (s : State) (k t p : Nat) (x : Ctx) : (s.setCtxAt k t p x).douts = s.douts := rfl
@[simp] theorem State.setCtxAt_bridges (s : State) (k t p : Nat) (x : Ctx) : (s.setCtxAt k t p x).bridges = s.bridges := rfl
@[simp] theorem State.setCtxAt_hubs (s : State) (k t p : Nat) (x : Ctx) : (s.setCtxAt k t p x).hubs = s.hubs := rfl
@[simp] theorem State.setCtxAt_nets (s : State) (k t p : Nat) (x : Ctx) : (s.setCtxAt k t p x).nets = s.nets := rfl
@[simp] theorem State.setCtxAt_maps (s : State) (k t p : Nat) (x : Ctx) : (s.setCtxAt k t p x).maps = s.maps := rfl
@[simp] theorem State.setCtxAt_tb (s : State) (k t p : Nat) (x : Ctx) : (s.setCtxAt k t p x).tb = s.tb := rfl
@[simp] theorem State.setCtxAt_path (s : State) (k t p : Nat) (x : Ctx) : (s.setCtxAt k t p x).path = s.path := rfl
@[simp] theorem State.setCtxAt_hooks (s : State) (k t p : Nat) (x : Ctx) : (s.setCtxAt k t p x).hooks = s.hooks := rfl
@[simp] theorem State.setCtxAt_keys (s : State) (k t p : Nat) (x : Ctx) : (s.setCtxAt k t p x).keys = s.keys := rfl
@[simp] theorem State.setCtxAt_images (s : State) (k t p : Nat) (x : Ctx) : (s.setCtxAt k t p x).images = s.images := rfl
@[simp] theorem State.setCtxAt_part (s : State) (k t p : Nat) (x : Ctx) : (s.setCtxAt k t p x).part = s.part := rfl
@[simp] theorem State.setCtxAt_tap (s : State) (k t p : Nat) (x : Ctx) : (s.setCtxAt k t p x).tap = s.tap := rfl
@[simp] theorem State.setCtxAt_pending (s : State) (k t p : Nat) (x : Ctx) : (s.setCtxAt k t p x).pending = s.pending := rfl
@[simp] theorem State.setCtxAt_reg (s : State) (k t p : Nat) (x : Ctx) (c : Nat) : (s.setCtxAt k t p x).reg c = s.reg c := rfl
@[simp] theorem State.setCtxAt_rf (s : State) (k t p : Nat) (x : Ctx) (c l m : Nat) : (s.setCtxAt k t p x).rf c l m = s.rf c l m := rfl
@[simp] theorem State.setCtxAt_rb (s : State) (k t p : Nat) (x : Ctx) (c j : Nat) : (s.setCtxAt k t p x).rb c j = s.rb c j := rfl
@[simp] theorem State.setCtxAt_kernelState (s : State) (k t p : Nat) (x : Ctx) (c : Nat) : (s.setCtxAt k t p x).kernelState c = s.kernelState c := rfl
@[simp] theorem State.setCtxAt_domainState (s : State) (k t p : Nat) (x : Ctx) (c d : Nat) : (s.setCtxAt k t p x).domainState c d = s.domainState c d := rfl
@[simp] theorem State.setCtxAt_portState (s : State) (k t p : Nat) (x : Ctx) (c d : Nat) : (s.setCtxAt k t p x).portState c d = s.portState c d := rfl
@[simp] theorem State.setCtxAt_hasKernel (s : State) (k t p : Nat) (x : Ctx) (c : Nat) : (s.setCtxAt k t p x).hasKernel c = s.hasKernel c := rfl
@[simp] theorem State.setCtxAt_hasPort (s : State) (k t p : Nat) (x : Ctx) (c d : Nat) : (s.setCtxAt k t p x).hasPort c d = s.hasPort c d := rfl
@[simp] theorem State.setCtxAt_port (s : State) (k t p : Nat) (x : Ctx) (c d : Nat) : (s.setCtxAt k t p x).port c d = s.port c d := rfl
@[simp] theorem State.setCtxAt_ep (s : State) (k t p : Nat) (x : Ctx) (c : Via) : (s.setCtxAt k t p x).ep c = s.ep c := rfl
@[simp] theorem State.setCtxAt_kern (s : State) (k t p : Nat) (x : Ctx) (c : Nat) : (s.setCtxAt k t p x).kern c = s.kern c := rfl
@[simp] theorem State.setCtxAt_hook (s : State) (k t p : Nat) (x : Ctx) (c : Nat) : (s.setCtxAt k t p x).hook c = s.hook c := rfl

/-! ### setRouteCtx -/

@[simp] theorem State.setRouteCtx_variant (s : State) (key : Nat) (x : Ctx) : (s.setRouteCtx key x).variant = s.variant := rfl
@[simp] theorem State.setRouteCtx_now (s : State) (key : Nat) (x : Ctx) : (s.setRouteCtx key x).now = s.now := rfl
@[simp] theorem State.setRouteCtx_taiOff (s : State) (key : Nat) (x : Ctx) : (s.setRouteCtx key x).taiOff = s.taiOff := rfl
@[simp] theorem State.setRouteCtx_taiFrac (s : State) (key : Nat) (x : Ctx) : (s.setRouteCtx key x).taiFrac = s.taiFrac := rfl
@[simp] theorem State.setRouteCtx_free (s : State) (key : Nat) (x : Ctx) : (s.setRouteCtx key x).free = s.free := rfl
@[simp] theorem State.setRouteCtx_readOut (s : State) (key : Nat) (x : Ctx) : (s.setRouteCtx key x).readOut = s.readOut := rfl
@[simp] theorem State.setRouteCtx_lead (s : State) (key : Nat) (x : Ctx) : (s.setRouteCtx key x).lead = s.lead := rfl
@[simp] theorem State.setRouteCtx_regs (s : State) (key : Nat) (x : Ctx) : (s.setRouteCtx key x).regs = s.regs := rfl
@[simp] theorem State.setRouteCtx_ends (s : State) (key : Nat) (x : Ctx) : (s.setRouteCtx key x).ends = s.ends := rfl
@[simp] theorem State.setRouteCtx_spi (s : State) (key : Nat) (x : Ctx) : (s.setRouteCtx key x).spi = s.spi := rfl
@[simp] theorem State.setRouteCtx_pcieFns (s : State) (key : Nat) (x : Ctx) : (s.setRouteCtx key x).pcieFns = s.pcieFns := rfl
@[simp] theorem State.setRouteCtx_jobs (s : State) (key : Nat) (x : Ctx) : (s.setRouteCtx key x).jobs = s.jobs := rfl
@[simp] theorem State.setRouteCtx_lastJob (s : State) (key : Nat) (x : Ctx) : (s.setRouteCtx key x).lastJob = s.lastJob := rfl
@[simp] theorem State.setRouteCtx_kerns (s : State) (key : Nat) (x : Ctx) : (s.setRouteCtx key x).kerns = s.kerns := rfl
@[simp] theorem State.setRouteCtx_irqs (s : State) (key : Nat) (x : Ctx) : (s.setRouteCtx key x).irqs = s.irqs := rfl
@[simp] theorem State.setRouteCtx_hooksDown (s : State) (key : Nat) (x : Ctx) : (s.setRouteCtx key x).hooksDown = s.hooksDown := rfl
@[simp] theorem State.setRouteCtx_ports (s : State) (key : Nat) (x : Ctx) : (s.setRouteCtx key x).ports = s.ports := rfl
@[simp] theorem State.setRouteCtx_gaugeWaits (s : State) (key : Nat) (x : Ctx) : (s.setRouteCtx key x).gaugeWaits = s.gaugeWaits := rfl
@[simp] theorem State.setRouteCtx_ctxs (s : State) (key : Nat) (x : Ctx) : (s.setRouteCtx key x).ctxs = s.ctxs := rfl
@[simp] theorem State.setRouteCtx_flights (s : State) (key : Nat) (x : Ctx) : (s.setRouteCtx key x).flights = s.flights := rfl
@[simp] theorem State.setRouteCtx_localRx (s : State) (key : Nat) (x : Ctx) : (s.setRouteCtx key x).localRx = s.localRx := rfl
@[simp] theorem State.setRouteCtx_outbox (s : State) (key : Nat) (x : Ctx) : (s.setRouteCtx key x).outbox = s.outbox := rfl
@[simp] theorem State.setRouteCtx_dins (s : State) (key : Nat) (x : Ctx) : (s.setRouteCtx key x).dins = s.dins := rfl
@[simp] theorem State.setRouteCtx_douts (s : State) (key : Nat) (x : Ctx) : (s.setRouteCtx key x).douts = s.douts := rfl
@[simp] theorem State.setRouteCtx_bridges (s : State) (key : Nat) (x : Ctx) : (s.setRouteCtx key x).bridges = s.bridges := rfl
@[simp] theorem State.setRouteCtx_hubs (s : State) (key : Nat) (x : Ctx) : (s.setRouteCtx key x).hubs = s.hubs := rfl
@[simp] theorem State.setRouteCtx_nets (s : State) (key : Nat) (x : Ctx) : (s.setRouteCtx key x).nets = s.nets := rfl
@[simp] theorem State.setRouteCtx_maps (s : State) (key : Nat) (x : Ctx) : (s.setRouteCtx key x).maps = s.maps := rfl
@[simp] theorem State.setRouteCtx_tb (s : State) (key : Nat) (x : Ctx) : (s.setRouteCtx key x).tb = s.tb := rfl
@[simp] theorem State.setRouteCtx_path (s : State) (key : Nat) (x : Ctx) : (s.setRouteCtx key x).path = s.path := rfl
@[simp] theorem State.setRouteCtx_hooks (s : State) (key : Nat) (x : Ctx) : (s.setRouteCtx key x).hooks = s.hooks := rfl
@[simp] theorem State.setRouteCtx_keys (s : State) (key : Nat) (x : Ctx) : (s.setRouteCtx key x).keys = s.keys := rfl
@[simp] theorem State.setRouteCtx_images (s : State) (key : Nat) (x : Ctx) : (s.setRouteCtx key x).images = s.images := rfl
@[simp] theorem State.setRouteCtx_part (s : State) (key : Nat) (x : Ctx) : (s.setRouteCtx key x).part = s.part := rfl
@[simp] theorem State.setRouteCtx_tap (s : State) (key : Nat) (x : Ctx) : (s.setRouteCtx key x).tap = s.tap := rfl
@[simp] theorem State.setRouteCtx_pending (s : State) (key : Nat) (x : Ctx) : (s.setRouteCtx key x).pending = s.pending := rfl
@[simp] theorem State.setRouteCtx_reg (s : State) (key : Nat) (x : Ctx) (c : Nat) : (s.setRouteCtx key x).reg c = s.reg c := rfl
@[simp] theorem State.setRouteCtx_rf (s : State) (key : Nat) (x : Ctx) (c l m : Nat) : (s.setRouteCtx key x).rf c l m = s.rf c l m := rfl
@[simp] theorem State.setRouteCtx_rb (s : State) (key : Nat) (x : Ctx) (c j : Nat) : (s.setRouteCtx key x).rb c j = s.rb c j := rfl
@[simp] theorem State.setRouteCtx_kernelState (s : State) (key : Nat) (x : Ctx) (c : Nat) : (s.setRouteCtx key x).kernelState c = s.kernelState c := rfl
@[simp] theorem State.setRouteCtx_domainState (s : State) (key : Nat) (x : Ctx) (c d : Nat) : (s.setRouteCtx key x).domainState c d = s.domainState c d := rfl
@[simp] theorem State.setRouteCtx_portState (s : State) (key : Nat) (x : Ctx) (c d : Nat) : (s.setRouteCtx key x).portState c d = s.portState c d := rfl
@[simp] theorem State.setRouteCtx_hasKernel (s : State) (key : Nat) (x : Ctx) (c : Nat) : (s.setRouteCtx key x).hasKernel c = s.hasKernel c := rfl
@[simp] theorem State.setRouteCtx_hasPort (s : State) (key : Nat) (x : Ctx) (c d : Nat) : (s.setRouteCtx key x).hasPort c d = s.hasPort c d := rfl
@[simp] theorem State.setRouteCtx_port (s : State) (key : Nat) (x : Ctx) (c d : Nat) : (s.setRouteCtx key x).port c d = s.port c d := rfl
@[simp] theorem State.setRouteCtx_ctxAt (s : State) (key : Nat) (x : Ctx) (c t d : Nat) : (s.setRouteCtx key x).ctxAt c t d = s.ctxAt c t d := rfl
@[simp] theorem State.setRouteCtx_ep (s : State) (key : Nat) (x : Ctx) (c : Via) : (s.setRouteCtx key x).ep c = s.ep c := rfl
@[simp] theorem State.setRouteCtx_kern (s : State) (key : Nat) (x : Ctx) (c : Nat) : (s.setRouteCtx key x).kern c = s.kern c := rfl
@[simp] theorem State.setRouteCtx_hook (s : State) (key : Nat) (x : Ctx) (c : Nat) : (s.setRouteCtx key x).hook c = s.hook c := rfl

/-! ### setBridge -/

@[simp] theorem State.setBridge_variant (s : State) (k : Nat) (b : Bridge) : (s.setBridge k b).variant = s.variant := rfl
@[simp] theorem State.setBridge_now (s : State) (k : Nat) (b : Bridge) : (s.setBridge k b).now = s.now := rfl
@[simp] theorem State.setBridge_taiOff (s : State) (k : Nat) (b : Bridge) : (s.setBridge k b).taiOff = s.taiOff := rfl
@[simp] theorem State.setBridge_taiFrac (s : State) (k : Nat) (b : Bridge) : (s.setBridge k b).taiFrac = s.taiFrac := rfl
@[simp] theorem State.setBridge_free (s : State) (k : Nat) (b : Bridge) : (s.setBridge k b).free = s.free := rfl
@[simp] theorem State.setBridge_readOut (s : State) (k : Nat) (b : Bridge) : (s.setBridge k b).readOut = s.readOut := rfl
@[simp] theorem State.setBridge_lead (s : State) (k : Nat) (b : Bridge) : (s.setBridge k b).lead = s.lead := rfl
@[simp] theorem State.setBridge_regs (s : State) (k : Nat) (b : Bridge) : (s.setBridge k b).regs = s.regs := rfl
@[simp] theorem State.setBridge_ends (s : State) (k : Nat) (b : Bridge) : (s.setBridge k b).ends = s.ends := rfl
@[simp] theorem State.setBridge_spi (s : State) (k : Nat) (b : Bridge) : (s.setBridge k b).spi = s.spi := rfl
@[simp] theorem State.setBridge_pcieFns (s : State) (k : Nat) (b : Bridge) : (s.setBridge k b).pcieFns = s.pcieFns := rfl
@[simp] theorem State.setBridge_jobs (s : State) (k : Nat) (b : Bridge) : (s.setBridge k b).jobs = s.jobs := rfl
@[simp] theorem State.setBridge_lastJob (s : State) (k : Nat) (b : Bridge) : (s.setBridge k b).lastJob = s.lastJob := rfl
@[simp] theorem State.setBridge_kerns (s : State) (k : Nat) (b : Bridge) : (s.setBridge k b).kerns = s.kerns := rfl
@[simp] theorem State.setBridge_irqs (s : State) (k : Nat) (b : Bridge) : (s.setBridge k b).irqs = s.irqs := rfl
@[simp] theorem State.setBridge_hooksDown (s : State) (k : Nat) (b : Bridge) : (s.setBridge k b).hooksDown = s.hooksDown := rfl
@[simp] theorem State.setBridge_ports (s : State) (k : Nat) (b : Bridge) : (s.setBridge k b).ports = s.ports := rfl
@[simp] theorem State.setBridge_gaugeWaits (s : State) (k : Nat) (b : Bridge) : (s.setBridge k b).gaugeWaits = s.gaugeWaits := rfl
@[simp] theorem State.setBridge_ctxs (s : State) (k : Nat) (b : Bridge) : (s.setBridge k b).ctxs = s.ctxs := rfl
@[simp] theorem State.setBridge_routeCtxs (s : State) (k : Nat) (b : Bridge) : (s.setBridge k b).routeCtxs = s.routeCtxs := rfl
@[simp] theorem State.setBridge_flights (s : State) (k : Nat) (b : Bridge) : (s.setBridge k b).flights = s.flights := rfl
@[simp] theorem State.setBridge_localRx (s : State) (k : Nat) (b : Bridge) : (s.setBridge k b).localRx = s.localRx := rfl
@[simp] theorem State.setBridge_outbox (s : State) (k : Nat) (b : Bridge) : (s.setBridge k b).outbox = s.outbox := rfl
@[simp] theorem State.setBridge_dins (s : State) (k : Nat) (b : Bridge) : (s.setBridge k b).dins = s.dins := rfl
@[simp] theorem State.setBridge_douts (s : State) (k : Nat) (b : Bridge) : (s.setBridge k b).douts = s.douts := rfl
@[simp] theorem State.setBridge_hubs (s : State) (k : Nat) (b : Bridge) : (s.setBridge k b).hubs = s.hubs := rfl
@[simp] theorem State.setBridge_nets (s : State) (k : Nat) (b : Bridge) : (s.setBridge k b).nets = s.nets := rfl
@[simp] theorem State.setBridge_maps (s : State) (k : Nat) (b : Bridge) : (s.setBridge k b).maps = s.maps := rfl
@[simp] theorem State.setBridge_tb (s : State) (k : Nat) (b : Bridge) : (s.setBridge k b).tb = s.tb := rfl
@[simp] theorem State.setBridge_path (s : State) (k : Nat) (b : Bridge) : (s.setBridge k b).path = s.path := rfl
@[simp] theorem State.setBridge_hooks (s : State) (k : Nat) (b : Bridge) : (s.setBridge k b).hooks = s.hooks := rfl
@[simp] theorem State.setBridge_keys (s : State) (k : Nat) (b : Bridge) : (s.setBridge k b).keys = s.keys := rfl
@[simp] theorem State.setBridge_images (s : State) (k : Nat) (b : Bridge) : (s.setBridge k b).images = s.images := rfl
@[simp] theorem State.setBridge_part (s : State) (k : Nat) (b : Bridge) : (s.setBridge k b).part = s.part := rfl
@[simp] theorem State.setBridge_tap (s : State) (k : Nat) (b : Bridge) : (s.setBridge k b).tap = s.tap := rfl
@[simp] theorem State.setBridge_pending (s : State) (k : Nat) (b : Bridge) : (s.setBridge k b).pending = s.pending := rfl
@[simp] theorem State.setBridge_reg (s : State) (k : Nat) (b : Bridge) (c : Nat) : (s.setBridge k b).reg c = s.reg c := rfl
@[simp] theorem State.setBridge_rf (s : State) (k : Nat) (b : Bridge) (c l m : Nat) : (s.setBridge k b).rf c l m = s.rf c l m := rfl
@[simp] theorem State.setBridge_rb (s : State) (k : Nat) (b : Bridge) (c j : Nat) : (s.setBridge k b).rb c j = s.rb c j := rfl
@[simp] theorem State.setBridge_kernelState (s : State) (k : Nat) (b : Bridge) (c : Nat) : (s.setBridge k b).kernelState c = s.kernelState c := rfl
@[simp] theorem State.setBridge_domainState (s : State) (k : Nat) (b : Bridge) (c d : Nat) : (s.setBridge k b).domainState c d = s.domainState c d := rfl
@[simp] theorem State.setBridge_portState (s : State) (k : Nat) (b : Bridge) (c d : Nat) : (s.setBridge k b).portState c d = s.portState c d := rfl
@[simp] theorem State.setBridge_hasKernel (s : State) (k : Nat) (b : Bridge) (c : Nat) : (s.setBridge k b).hasKernel c = s.hasKernel c := rfl
@[simp] theorem State.setBridge_hasPort (s : State) (k : Nat) (b : Bridge) (c d : Nat) : (s.setBridge k b).hasPort c d = s.hasPort c d := rfl
@[simp] theorem State.setBridge_port (s : State) (k : Nat) (b : Bridge) (c d : Nat) : (s.setBridge k b).port c d = s.port c d := rfl
@[simp] theorem State.setBridge_ctxAt (s : State) (k : Nat) (b : Bridge) (c t d : Nat) : (s.setBridge k b).ctxAt c t d = s.ctxAt c t d := rfl
@[simp] theorem State.setBridge_ep (s : State) (k : Nat) (b : Bridge) (c : Via) : (s.setBridge k b).ep c = s.ep c := rfl
@[simp] theorem State.setBridge_kern (s : State) (k : Nat) (b : Bridge) (c : Nat) : (s.setBridge k b).kern c = s.kern c := rfl
@[simp] theorem State.setBridge_hook (s : State) (k : Nat) (b : Bridge) (c : Nat) : (s.setBridge k b).hook c = s.hook c := rfl

/-! ### setDin -/

@[simp] theorem State.setDin_variant (s : State) (k i : Nat) (d : Din) : (s.setDin k i d).variant = s.variant := rfl
@[simp] theorem State.setDin_now (s : State) (k i : Nat) (d : Din) : (s.setDin k i d).now = s.now := rfl
@[simp] theorem State.setDin_taiOff (s : State) (k i : Nat) (d : Din) : (s.setDin k i d).taiOff = s.taiOff := rfl
@[simp] theorem State.setDin_taiFrac (s : State) (k i : Nat) (d : Din) : (s.setDin k i d).taiFrac = s.taiFrac := rfl
@[simp] theorem State.setDin_free (s : State) (k i : Nat) (d : Din) : (s.setDin k i d).free = s.free := rfl
@[simp] theorem State.setDin_readOut (s : State) (k i : Nat) (d : Din) : (s.setDin k i d).readOut = s.readOut := rfl
@[simp] theorem State.setDin_lead (s : State) (k i : Nat) (d : Din) : (s.setDin k i d).lead = s.lead := rfl
@[simp] theorem State.setDin_regs (s : State) (k i : Nat) (d : Din) : (s.setDin k i d).regs = s.regs := rfl
@[simp] theorem State.setDin_ends (s : State) (k i : Nat) (d : Din) : (s.setDin k i d).ends = s.ends := rfl
@[simp] theorem State.setDin_spi (s : State) (k i : Nat) (d : Din) : (s.setDin k i d).spi = s.spi := rfl
@[simp] theorem State.setDin_pcieFns (s : State) (k i : Nat) (d : Din) : (s.setDin k i d).pcieFns = s.pcieFns := rfl
@[simp] theorem State.setDin_jobs (s : State) (k i : Nat) (d : Din) : (s.setDin k i d).jobs = s.jobs := rfl
@[simp] theorem State.setDin_lastJob (s : State) (k i : Nat) (d : Din) : (s.setDin k i d).lastJob = s.lastJob := rfl
@[simp] theorem State.setDin_kerns (s : State) (k i : Nat) (d : Din) : (s.setDin k i d).kerns = s.kerns := rfl
@[simp] theorem State.setDin_irqs (s : State) (k i : Nat) (d : Din) : (s.setDin k i d).irqs = s.irqs := rfl
@[simp] theorem State.setDin_hooksDown (s : State) (k i : Nat) (d : Din) : (s.setDin k i d).hooksDown = s.hooksDown := rfl
@[simp] theorem State.setDin_ports (s : State) (k i : Nat) (d : Din) : (s.setDin k i d).ports = s.ports := rfl
@[simp] theorem State.setDin_gaugeWaits (s : State) (k i : Nat) (d : Din) : (s.setDin k i d).gaugeWaits = s.gaugeWaits := rfl
@[simp] theorem State.setDin_ctxs (s : State) (k i : Nat) (d : Din) : (s.setDin k i d).ctxs = s.ctxs := rfl
@[simp] theorem State.setDin_routeCtxs (s : State) (k i : Nat) (d : Din) : (s.setDin k i d).routeCtxs = s.routeCtxs := rfl
@[simp] theorem State.setDin_flights (s : State) (k i : Nat) (d : Din) : (s.setDin k i d).flights = s.flights := rfl
@[simp] theorem State.setDin_localRx (s : State) (k i : Nat) (d : Din) : (s.setDin k i d).localRx = s.localRx := rfl
@[simp] theorem State.setDin_outbox (s : State) (k i : Nat) (d : Din) : (s.setDin k i d).outbox = s.outbox := rfl
@[simp] theorem State.setDin_douts (s : State) (k i : Nat) (d : Din) : (s.setDin k i d).douts = s.douts := rfl
@[simp] theorem State.setDin_bridges (s : State) (k i : Nat) (d : Din) : (s.setDin k i d).bridges = s.bridges := rfl
@[simp] theorem State.setDin_hubs (s : State) (k i : Nat) (d : Din) : (s.setDin k i d).hubs = s.hubs := rfl
@[simp] theorem State.setDin_nets (s : State) (k i : Nat) (d : Din) : (s.setDin k i d).nets = s.nets := rfl
@[simp] theorem State.setDin_maps (s : State) (k i : Nat) (d : Din) : (s.setDin k i d).maps = s.maps := rfl
@[simp] theorem State.setDin_tb (s : State) (k i : Nat) (d : Din) : (s.setDin k i d).tb = s.tb := rfl
@[simp] theorem State.setDin_path (s : State) (k i : Nat) (d : Din) : (s.setDin k i d).path = s.path := rfl
@[simp] theorem State.setDin_hooks (s : State) (k i : Nat) (d : Din) : (s.setDin k i d).hooks = s.hooks := rfl
@[simp] theorem State.setDin_keys (s : State) (k i : Nat) (d : Din) : (s.setDin k i d).keys = s.keys := rfl
@[simp] theorem State.setDin_images (s : State) (k i : Nat) (d : Din) : (s.setDin k i d).images = s.images := rfl
@[simp] theorem State.setDin_part (s : State) (k i : Nat) (d : Din) : (s.setDin k i d).part = s.part := rfl
@[simp] theorem State.setDin_tap (s : State) (k i : Nat) (d : Din) : (s.setDin k i d).tap = s.tap := rfl
@[simp] theorem State.setDin_pending (s : State) (k i : Nat) (d : Din) : (s.setDin k i d).pending = s.pending := rfl
@[simp] theorem State.setDin_reg (s : State) (k i : Nat) (d : Din) (c : Nat) : (s.setDin k i d).reg c = s.reg c := rfl
@[simp] theorem State.setDin_rf (s : State) (k i : Nat) (d : Din) (c l m : Nat) : (s.setDin k i d).rf c l m = s.rf c l m := rfl
@[simp] theorem State.setDin_rb (s : State) (k i : Nat) (d : Din) (c j : Nat) : (s.setDin k i d).rb c j = s.rb c j := rfl
@[simp] theorem State.setDin_kernelState (s : State) (k i : Nat) (d : Din) (c : Nat) : (s.setDin k i d).kernelState c = s.kernelState c := rfl
@[simp] theorem State.setDin_domainState (s : State) (k i : Nat) (d : Din) (c d' : Nat) : (s.setDin k i d).domainState c d' = s.domainState c d' := rfl
@[simp] theorem State.setDin_portState (s : State) (k i : Nat) (d : Din) (c d' : Nat) : (s.setDin k i d).portState c d' = s.portState c d' := rfl
@[simp] theorem State.setDin_hasKernel (s : State) (k i : Nat) (d : Din) (c : Nat) : (s.setDin k i d).hasKernel c = s.hasKernel c := rfl
@[simp] theorem State.setDin_hasPort (s : State) (k i : Nat) (d : Din) (c d' : Nat) : (s.setDin k i d).hasPort c d' = s.hasPort c d' := rfl
@[simp] theorem State.setDin_port (s : State) (k i : Nat) (d : Din) (c d' : Nat) : (s.setDin k i d).port c d' = s.port c d' := rfl
@[simp] theorem State.setDin_ctxAt (s : State) (k i : Nat) (d : Din) (c t d' : Nat) : (s.setDin k i d).ctxAt c t d' = s.ctxAt c t d' := rfl
@[simp] theorem State.setDin_ep (s : State) (k i : Nat) (d : Din) (c : Via) : (s.setDin k i d).ep c = s.ep c := rfl
@[simp] theorem State.setDin_kern (s : State) (k i : Nat) (d : Din) (c : Nat) : (s.setDin k i d).kern c = s.kern c := rfl
@[simp] theorem State.setDin_hook (s : State) (k i : Nat) (d : Din) (c : Nat) : (s.setDin k i d).hook c = s.hook c := rfl

/-! ### setDout -/

@[simp] theorem State.setDout_variant (s : State) (k o : Nat) (d : Dout) : (s.setDout k o d).variant = s.variant := rfl
@[simp] theorem State.setDout_now (s : State) (k o : Nat) (d : Dout) : (s.setDout k o d).now = s.now := rfl
@[simp] theorem State.setDout_taiOff (s : State) (k o : Nat) (d : Dout) : (s.setDout k o d).taiOff = s.taiOff := rfl
@[simp] theorem State.setDout_taiFrac (s : State) (k o : Nat) (d : Dout) : (s.setDout k o d).taiFrac = s.taiFrac := rfl
@[simp] theorem State.setDout_free (s : State) (k o : Nat) (d : Dout) : (s.setDout k o d).free = s.free := rfl
@[simp] theorem State.setDout_readOut (s : State) (k o : Nat) (d : Dout) : (s.setDout k o d).readOut = s.readOut := rfl
@[simp] theorem State.setDout_lead (s : State) (k o : Nat) (d : Dout) : (s.setDout k o d).lead = s.lead := rfl
@[simp] theorem State.setDout_regs (s : State) (k o : Nat) (d : Dout) : (s.setDout k o d).regs = s.regs := rfl
@[simp] theorem State.setDout_ends (s : State) (k o : Nat) (d : Dout) : (s.setDout k o d).ends = s.ends := rfl
@[simp] theorem State.setDout_spi (s : State) (k o : Nat) (d : Dout) : (s.setDout k o d).spi = s.spi := rfl
@[simp] theorem State.setDout_pcieFns (s : State) (k o : Nat) (d : Dout) : (s.setDout k o d).pcieFns = s.pcieFns := rfl
@[simp] theorem State.setDout_jobs (s : State) (k o : Nat) (d : Dout) : (s.setDout k o d).jobs = s.jobs := rfl
@[simp] theorem State.setDout_lastJob (s : State) (k o : Nat) (d : Dout) : (s.setDout k o d).lastJob = s.lastJob := rfl
@[simp] theorem State.setDout_kerns (s : State) (k o : Nat) (d : Dout) : (s.setDout k o d).kerns = s.kerns := rfl
@[simp] theorem State.setDout_irqs (s : State) (k o : Nat) (d : Dout) : (s.setDout k o d).irqs = s.irqs := rfl
@[simp] theorem State.setDout_hooksDown (s : State) (k o : Nat) (d : Dout) : (s.setDout k o d).hooksDown = s.hooksDown := rfl
@[simp] theorem State.setDout_ports (s : State) (k o : Nat) (d : Dout) : (s.setDout k o d).ports = s.ports := rfl
@[simp] theorem State.setDout_gaugeWaits (s : State) (k o : Nat) (d : Dout) : (s.setDout k o d).gaugeWaits = s.gaugeWaits := rfl
@[simp] theorem State.setDout_ctxs (s : State) (k o : Nat) (d : Dout) : (s.setDout k o d).ctxs = s.ctxs := rfl
@[simp] theorem State.setDout_routeCtxs (s : State) (k o : Nat) (d : Dout) : (s.setDout k o d).routeCtxs = s.routeCtxs := rfl
@[simp] theorem State.setDout_flights (s : State) (k o : Nat) (d : Dout) : (s.setDout k o d).flights = s.flights := rfl
@[simp] theorem State.setDout_localRx (s : State) (k o : Nat) (d : Dout) : (s.setDout k o d).localRx = s.localRx := rfl
@[simp] theorem State.setDout_outbox (s : State) (k o : Nat) (d : Dout) : (s.setDout k o d).outbox = s.outbox := rfl
@[simp] theorem State.setDout_dins (s : State) (k o : Nat) (d : Dout) : (s.setDout k o d).dins = s.dins := rfl
@[simp] theorem State.setDout_bridges (s : State) (k o : Nat) (d : Dout) : (s.setDout k o d).bridges = s.bridges := rfl
@[simp] theorem State.setDout_hubs (s : State) (k o : Nat) (d : Dout) : (s.setDout k o d).hubs = s.hubs := rfl
@[simp] theorem State.setDout_nets (s : State) (k o : Nat) (d : Dout) : (s.setDout k o d).nets = s.nets := rfl
@[simp] theorem State.setDout_maps (s : State) (k o : Nat) (d : Dout) : (s.setDout k o d).maps = s.maps := rfl
@[simp] theorem State.setDout_tb (s : State) (k o : Nat) (d : Dout) : (s.setDout k o d).tb = s.tb := rfl
@[simp] theorem State.setDout_path (s : State) (k o : Nat) (d : Dout) : (s.setDout k o d).path = s.path := rfl
@[simp] theorem State.setDout_hooks (s : State) (k o : Nat) (d : Dout) : (s.setDout k o d).hooks = s.hooks := rfl
@[simp] theorem State.setDout_keys (s : State) (k o : Nat) (d : Dout) : (s.setDout k o d).keys = s.keys := rfl
@[simp] theorem State.setDout_images (s : State) (k o : Nat) (d : Dout) : (s.setDout k o d).images = s.images := rfl
@[simp] theorem State.setDout_part (s : State) (k o : Nat) (d : Dout) : (s.setDout k o d).part = s.part := rfl
@[simp] theorem State.setDout_tap (s : State) (k o : Nat) (d : Dout) : (s.setDout k o d).tap = s.tap := rfl
@[simp] theorem State.setDout_pending (s : State) (k o : Nat) (d : Dout) : (s.setDout k o d).pending = s.pending := rfl
@[simp] theorem State.setDout_reg (s : State) (k o : Nat) (d : Dout) (c : Nat) : (s.setDout k o d).reg c = s.reg c := rfl
@[simp] theorem State.setDout_rf (s : State) (k o : Nat) (d : Dout) (c l m : Nat) : (s.setDout k o d).rf c l m = s.rf c l m := rfl
@[simp] theorem State.setDout_rb (s : State) (k o : Nat) (d : Dout) (c j : Nat) : (s.setDout k o d).rb c j = s.rb c j := rfl
@[simp] theorem State.setDout_kernelState (s : State) (k o : Nat) (d : Dout) (c : Nat) : (s.setDout k o d).kernelState c = s.kernelState c := rfl
@[simp] theorem State.setDout_domainState (s : State) (k o : Nat) (d : Dout) (c d' : Nat) : (s.setDout k o d).domainState c d' = s.domainState c d' := rfl
@[simp] theorem State.setDout_portState (s : State) (k o : Nat) (d : Dout) (c d' : Nat) : (s.setDout k o d).portState c d' = s.portState c d' := rfl
@[simp] theorem State.setDout_hasKernel (s : State) (k o : Nat) (d : Dout) (c : Nat) : (s.setDout k o d).hasKernel c = s.hasKernel c := rfl
@[simp] theorem State.setDout_hasPort (s : State) (k o : Nat) (d : Dout) (c d' : Nat) : (s.setDout k o d).hasPort c d' = s.hasPort c d' := rfl
@[simp] theorem State.setDout_port (s : State) (k o : Nat) (d : Dout) (c d' : Nat) : (s.setDout k o d).port c d' = s.port c d' := rfl
@[simp] theorem State.setDout_ctxAt (s : State) (k o : Nat) (d : Dout) (c t d' : Nat) : (s.setDout k o d).ctxAt c t d' = s.ctxAt c t d' := rfl
@[simp] theorem State.setDout_ep (s : State) (k o : Nat) (d : Dout) (c : Via) : (s.setDout k o d).ep c = s.ep c := rfl
@[simp] theorem State.setDout_kern (s : State) (k o : Nat) (d : Dout) (c : Nat) : (s.setDout k o d).kern c = s.kern c := rfl
@[simp] theorem State.setDout_hook (s : State) (k o : Nat) (d : Dout) (c : Nat) : (s.setDout k o d).hook c = s.hook c := rfl

/-! ### setHook -/

@[simp] theorem State.setHook_variant (s : State) (h : Nat) (x : Hook) : (s.setHook h x).variant = s.variant := rfl
@[simp] theorem State.setHook_now (s : State) (h : Nat) (x : Hook) : (s.setHook h x).now = s.now := rfl
@[simp] theorem State.setHook_taiOff (s : State) (h : Nat) (x : Hook) : (s.setHook h x).taiOff = s.taiOff := rfl
@[simp] theorem State.setHook_taiFrac (s : State) (h : Nat) (x : Hook) : (s.setHook h x).taiFrac = s.taiFrac := rfl
@[simp] theorem State.setHook_free (s : State) (h : Nat) (x : Hook) : (s.setHook h x).free = s.free := rfl
@[simp] theorem State.setHook_readOut (s : State) (h : Nat) (x : Hook) : (s.setHook h x).readOut = s.readOut := rfl
@[simp] theorem State.setHook_lead (s : State) (h : Nat) (x : Hook) : (s.setHook h x).lead = s.lead := rfl
@[simp] theorem State.setHook_regs (s : State) (h : Nat) (x : Hook) : (s.setHook h x).regs = s.regs := rfl
@[simp] theorem State.setHook_ends (s : State) (h : Nat) (x : Hook) : (s.setHook h x).ends = s.ends := rfl
@[simp] theorem State.setHook_spi (s : State) (h : Nat) (x : Hook) : (s.setHook h x).spi = s.spi := rfl
@[simp] theorem State.setHook_pcieFns (s : State) (h : Nat) (x : Hook) : (s.setHook h x).pcieFns = s.pcieFns := rfl
@[simp] theorem State.setHook_jobs (s : State) (h : Nat) (x : Hook) : (s.setHook h x).jobs = s.jobs := rfl
@[simp] theorem State.setHook_lastJob (s : State) (h : Nat) (x : Hook) : (s.setHook h x).lastJob = s.lastJob := rfl
@[simp] theorem State.setHook_kerns (s : State) (h : Nat) (x : Hook) : (s.setHook h x).kerns = s.kerns := rfl
@[simp] theorem State.setHook_irqs (s : State) (h : Nat) (x : Hook) : (s.setHook h x).irqs = s.irqs := rfl
@[simp] theorem State.setHook_hooksDown (s : State) (h : Nat) (x : Hook) : (s.setHook h x).hooksDown = s.hooksDown := rfl
@[simp] theorem State.setHook_ports (s : State) (h : Nat) (x : Hook) : (s.setHook h x).ports = s.ports := rfl
@[simp] theorem State.setHook_gaugeWaits (s : State) (h : Nat) (x : Hook) : (s.setHook h x).gaugeWaits = s.gaugeWaits := rfl
@[simp] theorem State.setHook_ctxs (s : State) (h : Nat) (x : Hook) : (s.setHook h x).ctxs = s.ctxs := rfl
@[simp] theorem State.setHook_routeCtxs (s : State) (h : Nat) (x : Hook) : (s.setHook h x).routeCtxs = s.routeCtxs := rfl
@[simp] theorem State.setHook_flights (s : State) (h : Nat) (x : Hook) : (s.setHook h x).flights = s.flights := rfl
@[simp] theorem State.setHook_localRx (s : State) (h : Nat) (x : Hook) : (s.setHook h x).localRx = s.localRx := rfl
@[simp] theorem State.setHook_outbox (s : State) (h : Nat) (x : Hook) : (s.setHook h x).outbox = s.outbox := rfl
@[simp] theorem State.setHook_dins (s : State) (h : Nat) (x : Hook) : (s.setHook h x).dins = s.dins := rfl
@[simp] theorem State.setHook_douts (s : State) (h : Nat) (x : Hook) : (s.setHook h x).douts = s.douts := rfl
@[simp] theorem State.setHook_bridges (s : State) (h : Nat) (x : Hook) : (s.setHook h x).bridges = s.bridges := rfl
@[simp] theorem State.setHook_hubs (s : State) (h : Nat) (x : Hook) : (s.setHook h x).hubs = s.hubs := rfl
@[simp] theorem State.setHook_nets (s : State) (h : Nat) (x : Hook) : (s.setHook h x).nets = s.nets := rfl
@[simp] theorem State.setHook_maps (s : State) (h : Nat) (x : Hook) : (s.setHook h x).maps = s.maps := rfl
@[simp] theorem State.setHook_tb (s : State) (h : Nat) (x : Hook) : (s.setHook h x).tb = s.tb := rfl
@[simp] theorem State.setHook_path (s : State) (h : Nat) (x : Hook) : (s.setHook h x).path = s.path := rfl
@[simp] theorem State.setHook_keys (s : State) (h : Nat) (x : Hook) : (s.setHook h x).keys = s.keys := rfl
@[simp] theorem State.setHook_images (s : State) (h : Nat) (x : Hook) : (s.setHook h x).images = s.images := rfl
@[simp] theorem State.setHook_part (s : State) (h : Nat) (x : Hook) : (s.setHook h x).part = s.part := rfl
@[simp] theorem State.setHook_tap (s : State) (h : Nat) (x : Hook) : (s.setHook h x).tap = s.tap := rfl
@[simp] theorem State.setHook_pending (s : State) (h : Nat) (x : Hook) : (s.setHook h x).pending = s.pending := rfl
@[simp] theorem State.setHook_reg (s : State) (h : Nat) (x : Hook) (c : Nat) : (s.setHook h x).reg c = s.reg c := rfl
@[simp] theorem State.setHook_rf (s : State) (h : Nat) (x : Hook) (c l m : Nat) : (s.setHook h x).rf c l m = s.rf c l m := rfl
@[simp] theorem State.setHook_rb (s : State) (h : Nat) (x : Hook) (c j : Nat) : (s.setHook h x).rb c j = s.rb c j := rfl
@[simp] theorem State.setHook_kernelState (s : State) (h : Nat) (x : Hook) (c : Nat) : (s.setHook h x).kernelState c = s.kernelState c := rfl
@[simp] theorem State.setHook_domainState (s : State) (h : Nat) (x : Hook) (c d : Nat) : (s.setHook h x).domainState c d = s.domainState c d := rfl
@[simp] theorem State.setHook_portState (s : State) (h : Nat) (x : Hook) (c d : Nat) : (s.setHook h x).portState c d = s.portState c d := rfl
@[simp] theorem State.setHook_hasKernel (s : State) (h : Nat) (x : Hook) (c : Nat) : (s.setHook h x).hasKernel c = s.hasKernel c := rfl
@[simp] theorem State.setHook_hasPort (s : State) (h : Nat) (x : Hook) (c d : Nat) : (s.setHook h x).hasPort c d = s.hasPort c d := rfl
@[simp] theorem State.setHook_port (s : State) (h : Nat) (x : Hook) (c d : Nat) : (s.setHook h x).port c d = s.port c d := rfl
@[simp] theorem State.setHook_ctxAt (s : State) (h : Nat) (x : Hook) (c t d : Nat) : (s.setHook h x).ctxAt c t d = s.ctxAt c t d := rfl
@[simp] theorem State.setHook_ep (s : State) (h : Nat) (x : Hook) (c : Via) : (s.setHook h x).ep c = s.ep c := rfl
@[simp] theorem State.setHook_kern (s : State) (h : Nat) (x : Hook) (c : Nat) : (s.setHook h x).kern c = s.kern c := rfl

/-! ### setKeySlot -/

@[simp] theorem State.setKeySlot_variant (s : State) (i : Nat) (x : KeySlot) : (s.setKeySlot i x).variant = s.variant := rfl
@[simp] theorem State.setKeySlot_now (s : State) (i : Nat) (x : KeySlot) : (s.setKeySlot i x).now = s.now := rfl
@[simp] theorem State.setKeySlot_taiOff (s : State) (i : Nat) (x : KeySlot) : (s.setKeySlot i x).taiOff = s.taiOff := rfl
@[simp] theorem State.setKeySlot_taiFrac (s : State) (i : Nat) (x : KeySlot) : (s.setKeySlot i x).taiFrac = s.taiFrac := rfl
@[simp] theorem State.setKeySlot_free (s : State) (i : Nat) (x : KeySlot) : (s.setKeySlot i x).free = s.free := rfl
@[simp] theorem State.setKeySlot_readOut (s : State) (i : Nat) (x : KeySlot) : (s.setKeySlot i x).readOut = s.readOut := rfl
@[simp] theorem State.setKeySlot_lead (s : State) (i : Nat) (x : KeySlot) : (s.setKeySlot i x).lead = s.lead := rfl
@[simp] theorem State.setKeySlot_regs (s : State) (i : Nat) (x : KeySlot) : (s.setKeySlot i x).regs = s.regs := rfl
@[simp] theorem State.setKeySlot_ends (s : State) (i : Nat) (x : KeySlot) : (s.setKeySlot i x).ends = s.ends := rfl
@[simp] theorem State.setKeySlot_spi (s : State) (i : Nat) (x : KeySlot) : (s.setKeySlot i x).spi = s.spi := rfl
@[simp] theorem State.setKeySlot_pcieFns (s : State) (i : Nat) (x : KeySlot) : (s.setKeySlot i x).pcieFns = s.pcieFns := rfl
@[simp] theorem State.setKeySlot_jobs (s : State) (i : Nat) (x : KeySlot) : (s.setKeySlot i x).jobs = s.jobs := rfl
@[simp] theorem State.setKeySlot_lastJob (s : State) (i : Nat) (x : KeySlot) : (s.setKeySlot i x).lastJob = s.lastJob := rfl
@[simp] theorem State.setKeySlot_kerns (s : State) (i : Nat) (x : KeySlot) : (s.setKeySlot i x).kerns = s.kerns := rfl
@[simp] theorem State.setKeySlot_irqs (s : State) (i : Nat) (x : KeySlot) : (s.setKeySlot i x).irqs = s.irqs := rfl
@[simp] theorem State.setKeySlot_hooksDown (s : State) (i : Nat) (x : KeySlot) : (s.setKeySlot i x).hooksDown = s.hooksDown := rfl
@[simp] theorem State.setKeySlot_ports (s : State) (i : Nat) (x : KeySlot) : (s.setKeySlot i x).ports = s.ports := rfl
@[simp] theorem State.setKeySlot_gaugeWaits (s : State) (i : Nat) (x : KeySlot) : (s.setKeySlot i x).gaugeWaits = s.gaugeWaits := rfl
@[simp] theorem State.setKeySlot_ctxs (s : State) (i : Nat) (x : KeySlot) : (s.setKeySlot i x).ctxs = s.ctxs := rfl
@[simp] theorem State.setKeySlot_routeCtxs (s : State) (i : Nat) (x : KeySlot) : (s.setKeySlot i x).routeCtxs = s.routeCtxs := rfl
@[simp] theorem State.setKeySlot_flights (s : State) (i : Nat) (x : KeySlot) : (s.setKeySlot i x).flights = s.flights := rfl
@[simp] theorem State.setKeySlot_localRx (s : State) (i : Nat) (x : KeySlot) : (s.setKeySlot i x).localRx = s.localRx := rfl
@[simp] theorem State.setKeySlot_outbox (s : State) (i : Nat) (x : KeySlot) : (s.setKeySlot i x).outbox = s.outbox := rfl
@[simp] theorem State.setKeySlot_dins (s : State) (i : Nat) (x : KeySlot) : (s.setKeySlot i x).dins = s.dins := rfl
@[simp] theorem State.setKeySlot_douts (s : State) (i : Nat) (x : KeySlot) : (s.setKeySlot i x).douts = s.douts := rfl
@[simp] theorem State.setKeySlot_bridges (s : State) (i : Nat) (x : KeySlot) : (s.setKeySlot i x).bridges = s.bridges := rfl
@[simp] theorem State.setKeySlot_hubs (s : State) (i : Nat) (x : KeySlot) : (s.setKeySlot i x).hubs = s.hubs := rfl
@[simp] theorem State.setKeySlot_nets (s : State) (i : Nat) (x : KeySlot) : (s.setKeySlot i x).nets = s.nets := rfl
@[simp] theorem State.setKeySlot_maps (s : State) (i : Nat) (x : KeySlot) : (s.setKeySlot i x).maps = s.maps := rfl
@[simp] theorem State.setKeySlot_tb (s : State) (i : Nat) (x : KeySlot) : (s.setKeySlot i x).tb = s.tb := rfl
@[simp] theorem State.setKeySlot_path (s : State) (i : Nat) (x : KeySlot) : (s.setKeySlot i x).path = s.path := rfl
@[simp] theorem State.setKeySlot_hooks (s : State) (i : Nat) (x : KeySlot) : (s.setKeySlot i x).hooks = s.hooks := rfl
@[simp] theorem State.setKeySlot_images (s : State) (i : Nat) (x : KeySlot) : (s.setKeySlot i x).images = s.images := rfl
@[simp] theorem State.setKeySlot_part (s : State) (i : Nat) (x : KeySlot) : (s.setKeySlot i x).part = s.part := rfl
@[simp] theorem State.setKeySlot_tap (s : State) (i : Nat) (x : KeySlot) : (s.setKeySlot i x).tap = s.tap := rfl
@[simp] theorem State.setKeySlot_pending (s : State) (i : Nat) (x : KeySlot) : (s.setKeySlot i x).pending = s.pending := rfl
@[simp] theorem State.setKeySlot_reg (s : State) (i : Nat) (x : KeySlot) (c : Nat) : (s.setKeySlot i x).reg c = s.reg c := rfl
@[simp] theorem State.setKeySlot_rf (s : State) (i : Nat) (x : KeySlot) (c l m : Nat) : (s.setKeySlot i x).rf c l m = s.rf c l m := rfl
@[simp] theorem State.setKeySlot_rb (s : State) (i : Nat) (x : KeySlot) (c j : Nat) : (s.setKeySlot i x).rb c j = s.rb c j := rfl
@[simp] theorem State.setKeySlot_kernelState (s : State) (i : Nat) (x : KeySlot) (c : Nat) : (s.setKeySlot i x).kernelState c = s.kernelState c := rfl
@[simp] theorem State.setKeySlot_domainState (s : State) (i : Nat) (x : KeySlot) (c d : Nat) : (s.setKeySlot i x).domainState c d = s.domainState c d := rfl
@[simp] theorem State.setKeySlot_portState (s : State) (i : Nat) (x : KeySlot) (c d : Nat) : (s.setKeySlot i x).portState c d = s.portState c d := rfl
@[simp] theorem State.setKeySlot_hasKernel (s : State) (i : Nat) (x : KeySlot) (c : Nat) : (s.setKeySlot i x).hasKernel c = s.hasKernel c := rfl
@[simp] theorem State.setKeySlot_hasPort (s : State) (i : Nat) (x : KeySlot) (c d : Nat) : (s.setKeySlot i x).hasPort c d = s.hasPort c d := rfl
@[simp] theorem State.setKeySlot_port (s : State) (i : Nat) (x : KeySlot) (c d : Nat) : (s.setKeySlot i x).port c d = s.port c d := rfl
@[simp] theorem State.setKeySlot_ctxAt (s : State) (i : Nat) (x : KeySlot) (c t d : Nat) : (s.setKeySlot i x).ctxAt c t d = s.ctxAt c t d := rfl
@[simp] theorem State.setKeySlot_ep (s : State) (i : Nat) (x : KeySlot) (c : Via) : (s.setKeySlot i x).ep c = s.ep c := rfl
@[simp] theorem State.setKeySlot_kern (s : State) (i : Nat) (x : KeySlot) (c : Nat) : (s.setKeySlot i x).kern c = s.kern c := rfl
@[simp] theorem State.setKeySlot_hook (s : State) (i : Nat) (x : KeySlot) (c : Nat) : (s.setKeySlot i x).hook c = s.hook c := rfl

/-! ### setOutbox -/

@[simp] theorem State.setOutbox_variant (s : State) (k a : Nat) (l : List (List Byte)) : (s.setOutbox k a l).variant = s.variant := rfl
@[simp] theorem State.setOutbox_now (s : State) (k a : Nat) (l : List (List Byte)) : (s.setOutbox k a l).now = s.now := rfl
@[simp] theorem State.setOutbox_taiOff (s : State) (k a : Nat) (l : List (List Byte)) : (s.setOutbox k a l).taiOff = s.taiOff := rfl
@[simp] theorem State.setOutbox_taiFrac (s : State) (k a : Nat) (l : List (List Byte)) : (s.setOutbox k a l).taiFrac = s.taiFrac := rfl
@[simp] theorem State.setOutbox_free (s : State) (k a : Nat) (l : List (List Byte)) : (s.setOutbox k a l).free = s.free := rfl
@[simp] theorem State.setOutbox_readOut (s : State) (k a : Nat) (l : List (List Byte)) : (s.setOutbox k a l).readOut = s.readOut := rfl
@[simp] theorem State.setOutbox_lead (s : State) (k a : Nat) (l : List (List Byte)) : (s.setOutbox k a l).lead = s.lead := rfl
@[simp] theorem State.setOutbox_regs (s : State) (k a : Nat) (l : List (List Byte)) : (s.setOutbox k a l).regs = s.regs := rfl
@[simp] theorem State.setOutbox_ends (s : State) (k a : Nat) (l : List (List Byte)) : (s.setOutbox k a l).ends = s.ends := rfl
@[simp] theorem State.setOutbox_spi (s : State) (k a : Nat) (l : List (List Byte)) : (s.setOutbox k a l).spi = s.spi := rfl
@[simp] theorem State.setOutbox_pcieFns (s : State) (k a : Nat) (l : List (List Byte)) : (s.setOutbox k a l).pcieFns = s.pcieFns := rfl
@[simp] theorem State.setOutbox_jobs (s : State) (k a : Nat) (l : List (List Byte)) : (s.setOutbox k a l).jobs = s.jobs := rfl
@[simp] theorem State.setOutbox_lastJob (s : State) (k a : Nat) (l : List (List Byte)) : (s.setOutbox k a l).lastJob = s.lastJob := rfl
@[simp] theorem State.setOutbox_kerns (s : State) (k a : Nat) (l : List (List Byte)) : (s.setOutbox k a l).kerns = s.kerns := rfl
@[simp] theorem State.setOutbox_irqs (s : State) (k a : Nat) (l : List (List Byte)) : (s.setOutbox k a l).irqs = s.irqs := rfl
@[simp] theorem State.setOutbox_hooksDown (s : State) (k a : Nat) (l : List (List Byte)) : (s.setOutbox k a l).hooksDown = s.hooksDown := rfl
@[simp] theorem State.setOutbox_ports (s : State) (k a : Nat) (l : List (List Byte)) : (s.setOutbox k a l).ports = s.ports := rfl
@[simp] theorem State.setOutbox_gaugeWaits (s : State) (k a : Nat) (l : List (List Byte)) : (s.setOutbox k a l).gaugeWaits = s.gaugeWaits := rfl
@[simp] theorem State.setOutbox_ctxs (s : State) (k a : Nat) (l : List (List Byte)) : (s.setOutbox k a l).ctxs = s.ctxs := rfl
@[simp] theorem State.setOutbox_routeCtxs (s : State) (k a : Nat) (l : List (List Byte)) : (s.setOutbox k a l).routeCtxs = s.routeCtxs := rfl
@[simp] theorem State.setOutbox_flights (s : State) (k a : Nat) (l : List (List Byte)) : (s.setOutbox k a l).flights = s.flights := rfl
@[simp] theorem State.setOutbox_localRx (s : State) (k a : Nat) (l : List (List Byte)) : (s.setOutbox k a l).localRx = s.localRx := rfl
@[simp] theorem State.setOutbox_dins (s : State) (k a : Nat) (l : List (List Byte)) : (s.setOutbox k a l).dins = s.dins := rfl
@[simp] theorem State.setOutbox_douts (s : State) (k a : Nat) (l : List (List Byte)) : (s.setOutbox k a l).douts = s.douts := rfl
@[simp] theorem State.setOutbox_bridges (s : State) (k a : Nat) (l : List (List Byte)) : (s.setOutbox k a l).bridges = s.bridges := rfl
@[simp] theorem State.setOutbox_hubs (s : State) (k a : Nat) (l : List (List Byte)) : (s.setOutbox k a l).hubs = s.hubs := rfl
@[simp] theorem State.setOutbox_nets (s : State) (k a : Nat) (l : List (List Byte)) : (s.setOutbox k a l).nets = s.nets := rfl
@[simp] theorem State.setOutbox_maps (s : State) (k a : Nat) (l : List (List Byte)) : (s.setOutbox k a l).maps = s.maps := rfl
@[simp] theorem State.setOutbox_tb (s : State) (k a : Nat) (l : List (List Byte)) : (s.setOutbox k a l).tb = s.tb := rfl
@[simp] theorem State.setOutbox_path (s : State) (k a : Nat) (l : List (List Byte)) : (s.setOutbox k a l).path = s.path := rfl
@[simp] theorem State.setOutbox_hooks (s : State) (k a : Nat) (l : List (List Byte)) : (s.setOutbox k a l).hooks = s.hooks := rfl
@[simp] theorem State.setOutbox_keys (s : State) (k a : Nat) (l : List (List Byte)) : (s.setOutbox k a l).keys = s.keys := rfl
@[simp] theorem State.setOutbox_images (s : State) (k a : Nat) (l : List (List Byte)) : (s.setOutbox k a l).images = s.images := rfl
@[simp] theorem State.setOutbox_part (s : State) (k a : Nat) (l : List (List Byte)) : (s.setOutbox k a l).part = s.part := rfl
@[simp] theorem State.setOutbox_tap (s : State) (k a : Nat) (l : List (List Byte)) : (s.setOutbox k a l).tap = s.tap := rfl
@[simp] theorem State.setOutbox_pending (s : State) (k a : Nat) (l : List (List Byte)) : (s.setOutbox k a l).pending = s.pending := rfl
@[simp] theorem State.setOutbox_reg (s : State) (k a : Nat) (l : List (List Byte)) (c : Nat) : (s.setOutbox k a l).reg c = s.reg c := rfl
@[simp] theorem State.setOutbox_rf (s : State) (k a : Nat) (l : List (List Byte)) (c l' m : Nat) : (s.setOutbox k a l).rf c l' m = s.rf c l' m := rfl
@[simp] theorem State.setOutbox_rb (s : State) (k a : Nat) (l : List (List Byte)) (c j : Nat) : (s.setOutbox k a l).rb c j = s.rb c j := rfl
@[simp] theorem State.setOutbox_kernelState (s : State) (k a : Nat) (l : List (List Byte)) (c : Nat) : (s.setOutbox k a l).kernelState c = s.kernelState c := rfl
@[simp] theorem State.setOutbox_domainState (s : State) (k a : Nat) (l : List (List Byte)) (c d : Nat) : (s.setOutbox k a l).domainState c d = s.domainState c d := rfl
@[simp] theorem State.setOutbox_portState (s : State) (k a : Nat) (l : List (List Byte)) (c d : Nat) : (s.setOutbox k a l).portState c d = s.portState c d := rfl
@[simp] theorem State.setOutbox_hasKernel (s : State) (k a : Nat) (l : List (List Byte)) (c : Nat) : (s.setOutbox k a l).hasKernel c = s.hasKernel c := rfl
@[simp] theorem State.setOutbox_hasPort (s : State) (k a : Nat) (l : List (List Byte)) (c d : Nat) : (s.setOutbox k a l).hasPort c d = s.hasPort c d := rfl
@[simp] theorem State.setOutbox_port (s : State) (k a : Nat) (l : List (List Byte)) (c d : Nat) : (s.setOutbox k a l).port c d = s.port c d := rfl
@[simp] theorem State.setOutbox_ctxAt (s : State) (k a : Nat) (l : List (List Byte)) (c t d : Nat) : (s.setOutbox k a l).ctxAt c t d = s.ctxAt c t d := rfl
@[simp] theorem State.setOutbox_ep (s : State) (k a : Nat) (l : List (List Byte)) (c : Via) : (s.setOutbox k a l).ep c = s.ep c := rfl
@[simp] theorem State.setOutbox_kern (s : State) (k a : Nat) (l : List (List Byte)) (c : Nat) : (s.setOutbox k a l).kern c = s.kern c := rfl
@[simp] theorem State.setOutbox_hook (s : State) (k a : Nat) (l : List (List Byte)) (c : Nat) : (s.setOutbox k a l).hook c = s.hook c := rfl

/-! ### setPart -/

@[simp] theorem State.setPart_variant (s : State) (x : PartState) : (s.setPart x).variant = s.variant := rfl
@[simp] theorem State.setPart_now (s : State) (x : PartState) : (s.setPart x).now = s.now := rfl
@[simp] theorem State.setPart_taiOff (s : State) (x : PartState) : (s.setPart x).taiOff = s.taiOff := rfl
@[simp] theorem State.setPart_taiFrac (s : State) (x : PartState) : (s.setPart x).taiFrac = s.taiFrac := rfl
@[simp] theorem State.setPart_free (s : State) (x : PartState) : (s.setPart x).free = s.free := rfl
@[simp] theorem State.setPart_readOut (s : State) (x : PartState) : (s.setPart x).readOut = s.readOut := rfl
@[simp] theorem State.setPart_lead (s : State) (x : PartState) : (s.setPart x).lead = s.lead := rfl
@[simp] theorem State.setPart_regs (s : State) (x : PartState) : (s.setPart x).regs = s.regs := rfl
@[simp] theorem State.setPart_ends (s : State) (x : PartState) : (s.setPart x).ends = s.ends := rfl
@[simp] theorem State.setPart_spi (s : State) (x : PartState) : (s.setPart x).spi = s.spi := rfl
@[simp] theorem State.setPart_pcieFns (s : State) (x : PartState) : (s.setPart x).pcieFns = s.pcieFns := rfl
@[simp] theorem State.setPart_jobs (s : State) (x : PartState) : (s.setPart x).jobs = s.jobs := rfl
@[simp] theorem State.setPart_lastJob (s : State) (x : PartState) : (s.setPart x).lastJob = s.lastJob := rfl
@[simp] theorem State.setPart_kerns (s : State) (x : PartState) : (s.setPart x).kerns = s.kerns := rfl
@[simp] theorem State.setPart_irqs (s : State) (x : PartState) : (s.setPart x).irqs = s.irqs := rfl
@[simp] theorem State.setPart_hooksDown (s : State) (x : PartState) : (s.setPart x).hooksDown = s.hooksDown := rfl
@[simp] theorem State.setPart_ports (s : State) (x : PartState) : (s.setPart x).ports = s.ports := rfl
@[simp] theorem State.setPart_gaugeWaits (s : State) (x : PartState) : (s.setPart x).gaugeWaits = s.gaugeWaits := rfl
@[simp] theorem State.setPart_ctxs (s : State) (x : PartState) : (s.setPart x).ctxs = s.ctxs := rfl
@[simp] theorem State.setPart_routeCtxs (s : State) (x : PartState) : (s.setPart x).routeCtxs = s.routeCtxs := rfl
@[simp] theorem State.setPart_flights (s : State) (x : PartState) : (s.setPart x).flights = s.flights := rfl
@[simp] theorem State.setPart_localRx (s : State) (x : PartState) : (s.setPart x).localRx = s.localRx := rfl
@[simp] theorem State.setPart_outbox (s : State) (x : PartState) : (s.setPart x).outbox = s.outbox := rfl
@[simp] theorem State.setPart_dins (s : State) (x : PartState) : (s.setPart x).dins = s.dins := rfl
@[simp] theorem State.setPart_douts (s : State) (x : PartState) : (s.setPart x).douts = s.douts := rfl
@[simp] theorem State.setPart_bridges (s : State) (x : PartState) : (s.setPart x).bridges = s.bridges := rfl
@[simp] theorem State.setPart_hubs (s : State) (x : PartState) : (s.setPart x).hubs = s.hubs := rfl
@[simp] theorem State.setPart_nets (s : State) (x : PartState) : (s.setPart x).nets = s.nets := rfl
@[simp] theorem State.setPart_maps (s : State) (x : PartState) : (s.setPart x).maps = s.maps := rfl
@[simp] theorem State.setPart_tb (s : State) (x : PartState) : (s.setPart x).tb = s.tb := rfl
@[simp] theorem State.setPart_path (s : State) (x : PartState) : (s.setPart x).path = s.path := rfl
@[simp] theorem State.setPart_hooks (s : State) (x : PartState) : (s.setPart x).hooks = s.hooks := rfl
@[simp] theorem State.setPart_keys (s : State) (x : PartState) : (s.setPart x).keys = s.keys := rfl
@[simp] theorem State.setPart_images (s : State) (x : PartState) : (s.setPart x).images = s.images := rfl
@[simp] theorem State.setPart_tap (s : State) (x : PartState) : (s.setPart x).tap = s.tap := rfl
@[simp] theorem State.setPart_pending (s : State) (x : PartState) : (s.setPart x).pending = s.pending := rfl
@[simp] theorem State.setPart_reg (s : State) (x : PartState) (c : Nat) : (s.setPart x).reg c = s.reg c := rfl
@[simp] theorem State.setPart_rf (s : State) (x : PartState) (c l m : Nat) : (s.setPart x).rf c l m = s.rf c l m := rfl
@[simp] theorem State.setPart_rb (s : State) (x : PartState) (c j : Nat) : (s.setPart x).rb c j = s.rb c j := rfl
@[simp] theorem State.setPart_kernelState (s : State) (x : PartState) (c : Nat) : (s.setPart x).kernelState c = s.kernelState c := rfl
@[simp] theorem State.setPart_domainState (s : State) (x : PartState) (c d : Nat) : (s.setPart x).domainState c d = s.domainState c d := rfl
@[simp] theorem State.setPart_portState (s : State) (x : PartState) (c d : Nat) : (s.setPart x).portState c d = s.portState c d := rfl
@[simp] theorem State.setPart_hasKernel (s : State) (x : PartState) (c : Nat) : (s.setPart x).hasKernel c = s.hasKernel c := rfl
@[simp] theorem State.setPart_hasPort (s : State) (x : PartState) (c d : Nat) : (s.setPart x).hasPort c d = s.hasPort c d := rfl
@[simp] theorem State.setPart_port (s : State) (x : PartState) (c d : Nat) : (s.setPart x).port c d = s.port c d := rfl
@[simp] theorem State.setPart_ctxAt (s : State) (x : PartState) (c t d : Nat) : (s.setPart x).ctxAt c t d = s.ctxAt c t d := rfl
@[simp] theorem State.setPart_ep (s : State) (x : PartState) (c : Via) : (s.setPart x).ep c = s.ep c := rfl
@[simp] theorem State.setPart_kern (s : State) (x : PartState) (c : Nat) : (s.setPart x).kern c = s.kern c := rfl
@[simp] theorem State.setPart_hook (s : State) (x : PartState) (c : Nat) : (s.setPart x).hook c = s.hook c := rfl

/-! ### setImages -/

@[simp] theorem State.setImages_variant (s : State) (x : Images) : (s.setImages x).variant = s.variant := rfl
@[simp] theorem State.setImages_now (s : State) (x : Images) : (s.setImages x).now = s.now := rfl
@[simp] theorem State.setImages_taiOff (s : State) (x : Images) : (s.setImages x).taiOff = s.taiOff := rfl
@[simp] theorem State.setImages_taiFrac (s : State) (x : Images) : (s.setImages x).taiFrac = s.taiFrac := rfl
@[simp] theorem State.setImages_free (s : State) (x : Images) : (s.setImages x).free = s.free := rfl
@[simp] theorem State.setImages_readOut (s : State) (x : Images) : (s.setImages x).readOut = s.readOut := rfl
@[simp] theorem State.setImages_lead (s : State) (x : Images) : (s.setImages x).lead = s.lead := rfl
@[simp] theorem State.setImages_regs (s : State) (x : Images) : (s.setImages x).regs = s.regs := rfl
@[simp] theorem State.setImages_ends (s : State) (x : Images) : (s.setImages x).ends = s.ends := rfl
@[simp] theorem State.setImages_spi (s : State) (x : Images) : (s.setImages x).spi = s.spi := rfl
@[simp] theorem State.setImages_pcieFns (s : State) (x : Images) : (s.setImages x).pcieFns = s.pcieFns := rfl
@[simp] theorem State.setImages_jobs (s : State) (x : Images) : (s.setImages x).jobs = s.jobs := rfl
@[simp] theorem State.setImages_lastJob (s : State) (x : Images) : (s.setImages x).lastJob = s.lastJob := rfl
@[simp] theorem State.setImages_kerns (s : State) (x : Images) : (s.setImages x).kerns = s.kerns := rfl
@[simp] theorem State.setImages_irqs (s : State) (x : Images) : (s.setImages x).irqs = s.irqs := rfl
@[simp] theorem State.setImages_hooksDown (s : State) (x : Images) : (s.setImages x).hooksDown = s.hooksDown := rfl
@[simp] theorem State.setImages_ports (s : State) (x : Images) : (s.setImages x).ports = s.ports := rfl
@[simp] theorem State.setImages_gaugeWaits (s : State) (x : Images) : (s.setImages x).gaugeWaits = s.gaugeWaits := rfl
@[simp] theorem State.setImages_ctxs (s : State) (x : Images) : (s.setImages x).ctxs = s.ctxs := rfl
@[simp] theorem State.setImages_routeCtxs (s : State) (x : Images) : (s.setImages x).routeCtxs = s.routeCtxs := rfl
@[simp] theorem State.setImages_flights (s : State) (x : Images) : (s.setImages x).flights = s.flights := rfl
@[simp] theorem State.setImages_localRx (s : State) (x : Images) : (s.setImages x).localRx = s.localRx := rfl
@[simp] theorem State.setImages_outbox (s : State) (x : Images) : (s.setImages x).outbox = s.outbox := rfl
@[simp] theorem State.setImages_dins (s : State) (x : Images) : (s.setImages x).dins = s.dins := rfl
@[simp] theorem State.setImages_douts (s : State) (x : Images) : (s.setImages x).douts = s.douts := rfl
@[simp] theorem State.setImages_bridges (s : State) (x : Images) : (s.setImages x).bridges = s.bridges := rfl
@[simp] theorem State.setImages_hubs (s : State) (x : Images) : (s.setImages x).hubs = s.hubs := rfl
@[simp] theorem State.setImages_nets (s : State) (x : Images) : (s.setImages x).nets = s.nets := rfl
@[simp] theorem State.setImages_maps (s : State) (x : Images) : (s.setImages x).maps = s.maps := rfl
@[simp] theorem State.setImages_tb (s : State) (x : Images) : (s.setImages x).tb = s.tb := rfl
@[simp] theorem State.setImages_path (s : State) (x : Images) : (s.setImages x).path = s.path := rfl
@[simp] theorem State.setImages_hooks (s : State) (x : Images) : (s.setImages x).hooks = s.hooks := rfl
@[simp] theorem State.setImages_keys (s : State) (x : Images) : (s.setImages x).keys = s.keys := rfl
@[simp] theorem State.setImages_part (s : State) (x : Images) : (s.setImages x).part = s.part := rfl
@[simp] theorem State.setImages_tap (s : State) (x : Images) : (s.setImages x).tap = s.tap := rfl
@[simp] theorem State.setImages_pending (s : State) (x : Images) : (s.setImages x).pending = s.pending := rfl
@[simp] theorem State.setImages_reg (s : State) (x : Images) (c : Nat) : (s.setImages x).reg c = s.reg c := rfl
@[simp] theorem State.setImages_rf (s : State) (x : Images) (c l m : Nat) : (s.setImages x).rf c l m = s.rf c l m := rfl
@[simp] theorem State.setImages_rb (s : State) (x : Images) (c j : Nat) : (s.setImages x).rb c j = s.rb c j := rfl
@[simp] theorem State.setImages_kernelState (s : State) (x : Images) (c : Nat) : (s.setImages x).kernelState c = s.kernelState c := rfl
@[simp] theorem State.setImages_domainState (s : State) (x : Images) (c d : Nat) : (s.setImages x).domainState c d = s.domainState c d := rfl
@[simp] theorem State.setImages_portState (s : State) (x : Images) (c d : Nat) : (s.setImages x).portState c d = s.portState c d := rfl
@[simp] theorem State.setImages_hasKernel (s : State) (x : Images) (c : Nat) : (s.setImages x).hasKernel c = s.hasKernel c := rfl
@[simp] theorem State.setImages_hasPort (s : State) (x : Images) (c d : Nat) : (s.setImages x).hasPort c d = s.hasPort c d := rfl
@[simp] theorem State.setImages_port (s : State) (x : Images) (c d : Nat) : (s.setImages x).port c d = s.port c d := rfl
@[simp] theorem State.setImages_ctxAt (s : State) (x : Images) (c t d : Nat) : (s.setImages x).ctxAt c t d = s.ctxAt c t d := rfl
@[simp] theorem State.setImages_ep (s : State) (x : Images) (c : Via) : (s.setImages x).ep c = s.ep c := rfl
@[simp] theorem State.setImages_kern (s : State) (x : Images) (c : Nat) : (s.setImages x).kern c = s.kern c := rfl
@[simp] theorem State.setImages_hook (s : State) (x : Images) (c : Nat) : (s.setImages x).hook c = s.hook c := rfl

/-! ### setPath -/

@[simp] theorem State.setPath_variant (s : State) (x : PowerPath) : (s.setPath x).variant = s.variant := rfl
@[simp] theorem State.setPath_now (s : State) (x : PowerPath) : (s.setPath x).now = s.now := rfl
@[simp] theorem State.setPath_taiOff (s : State) (x : PowerPath) : (s.setPath x).taiOff = s.taiOff := rfl
@[simp] theorem State.setPath_taiFrac (s : State) (x : PowerPath) : (s.setPath x).taiFrac = s.taiFrac := rfl
@[simp] theorem State.setPath_free (s : State) (x : PowerPath) : (s.setPath x).free = s.free := rfl
@[simp] theorem State.setPath_readOut (s : State) (x : PowerPath) : (s.setPath x).readOut = s.readOut := rfl
@[simp] theorem State.setPath_lead (s : State) (x : PowerPath) : (s.setPath x).lead = s.lead := rfl
@[simp] theorem State.setPath_regs (s : State) (x : PowerPath) : (s.setPath x).regs = s.regs := rfl
@[simp] theorem State.setPath_ends (s : State) (x : PowerPath) : (s.setPath x).ends = s.ends := rfl
@[simp] theorem State.setPath_spi (s : State) (x : PowerPath) : (s.setPath x).spi = s.spi := rfl
@[simp] theorem State.setPath_pcieFns (s : State) (x : PowerPath) : (s.setPath x).pcieFns = s.pcieFns := rfl
@[simp] theorem State.setPath_jobs (s : State) (x : PowerPath) : (s.setPath x).jobs = s.jobs := rfl
@[simp] theorem State.setPath_lastJob (s : State) (x : PowerPath) : (s.setPath x).lastJob = s.lastJob := rfl
@[simp] theorem State.setPath_kerns (s : State) (x : PowerPath) : (s.setPath x).kerns = s.kerns := rfl
@[simp] theorem State.setPath_irqs (s : State) (x : PowerPath) : (s.setPath x).irqs = s.irqs := rfl
@[simp] theorem State.setPath_hooksDown (s : State) (x : PowerPath) : (s.setPath x).hooksDown = s.hooksDown := rfl
@[simp] theorem State.setPath_ports (s : State) (x : PowerPath) : (s.setPath x).ports = s.ports := rfl
@[simp] theorem State.setPath_gaugeWaits (s : State) (x : PowerPath) : (s.setPath x).gaugeWaits = s.gaugeWaits := rfl
@[simp] theorem State.setPath_ctxs (s : State) (x : PowerPath) : (s.setPath x).ctxs = s.ctxs := rfl
@[simp] theorem State.setPath_routeCtxs (s : State) (x : PowerPath) : (s.setPath x).routeCtxs = s.routeCtxs := rfl
@[simp] theorem State.setPath_flights (s : State) (x : PowerPath) : (s.setPath x).flights = s.flights := rfl
@[simp] theorem State.setPath_localRx (s : State) (x : PowerPath) : (s.setPath x).localRx = s.localRx := rfl
@[simp] theorem State.setPath_outbox (s : State) (x : PowerPath) : (s.setPath x).outbox = s.outbox := rfl
@[simp] theorem State.setPath_dins (s : State) (x : PowerPath) : (s.setPath x).dins = s.dins := rfl
@[simp] theorem State.setPath_douts (s : State) (x : PowerPath) : (s.setPath x).douts = s.douts := rfl
@[simp] theorem State.setPath_bridges (s : State) (x : PowerPath) : (s.setPath x).bridges = s.bridges := rfl
@[simp] theorem State.setPath_hubs (s : State) (x : PowerPath) : (s.setPath x).hubs = s.hubs := rfl
@[simp] theorem State.setPath_nets (s : State) (x : PowerPath) : (s.setPath x).nets = s.nets := rfl
@[simp] theorem State.setPath_maps (s : State) (x : PowerPath) : (s.setPath x).maps = s.maps := rfl
@[simp] theorem State.setPath_tb (s : State) (x : PowerPath) : (s.setPath x).tb = s.tb := rfl
@[simp] theorem State.setPath_hooks (s : State) (x : PowerPath) : (s.setPath x).hooks = s.hooks := rfl
@[simp] theorem State.setPath_keys (s : State) (x : PowerPath) : (s.setPath x).keys = s.keys := rfl
@[simp] theorem State.setPath_images (s : State) (x : PowerPath) : (s.setPath x).images = s.images := rfl
@[simp] theorem State.setPath_part (s : State) (x : PowerPath) : (s.setPath x).part = s.part := rfl
@[simp] theorem State.setPath_tap (s : State) (x : PowerPath) : (s.setPath x).tap = s.tap := rfl
@[simp] theorem State.setPath_pending (s : State) (x : PowerPath) : (s.setPath x).pending = s.pending := rfl
@[simp] theorem State.setPath_reg (s : State) (x : PowerPath) (c : Nat) : (s.setPath x).reg c = s.reg c := rfl
@[simp] theorem State.setPath_rf (s : State) (x : PowerPath) (c l m : Nat) : (s.setPath x).rf c l m = s.rf c l m := rfl
@[simp] theorem State.setPath_rb (s : State) (x : PowerPath) (c j : Nat) : (s.setPath x).rb c j = s.rb c j := rfl
@[simp] theorem State.setPath_kernelState (s : State) (x : PowerPath) (c : Nat) : (s.setPath x).kernelState c = s.kernelState c := rfl
@[simp] theorem State.setPath_domainState (s : State) (x : PowerPath) (c d : Nat) : (s.setPath x).domainState c d = s.domainState c d := rfl
@[simp] theorem State.setPath_portState (s : State) (x : PowerPath) (c d : Nat) : (s.setPath x).portState c d = s.portState c d := rfl
@[simp] theorem State.setPath_hasKernel (s : State) (x : PowerPath) (c : Nat) : (s.setPath x).hasKernel c = s.hasKernel c := rfl
@[simp] theorem State.setPath_hasPort (s : State) (x : PowerPath) (c d : Nat) : (s.setPath x).hasPort c d = s.hasPort c d := rfl
@[simp] theorem State.setPath_port (s : State) (x : PowerPath) (c d : Nat) : (s.setPath x).port c d = s.port c d := rfl
@[simp] theorem State.setPath_ctxAt (s : State) (x : PowerPath) (c t d : Nat) : (s.setPath x).ctxAt c t d = s.ctxAt c t d := rfl
@[simp] theorem State.setPath_ep (s : State) (x : PowerPath) (c : Via) : (s.setPath x).ep c = s.ep c := rfl
@[simp] theorem State.setPath_kern (s : State) (x : PowerPath) (c : Nat) : (s.setPath x).kern c = s.kern c := rfl
@[simp] theorem State.setPath_hook (s : State) (x : PowerPath) (c : Nat) : (s.setPath x).hook c = s.hook c := rfl

/-! ### mapJob -/

@[simp] theorem State.mapJob_variant (s : State) (n : Nat) (f : Job → Job) : (s.mapJob n f).variant = s.variant := rfl
@[simp] theorem State.mapJob_now (s : State) (n : Nat) (f : Job → Job) : (s.mapJob n f).now = s.now := rfl
@[simp] theorem State.mapJob_taiOff (s : State) (n : Nat) (f : Job → Job) : (s.mapJob n f).taiOff = s.taiOff := rfl
@[simp] theorem State.mapJob_taiFrac (s : State) (n : Nat) (f : Job → Job) : (s.mapJob n f).taiFrac = s.taiFrac := rfl
@[simp] theorem State.mapJob_free (s : State) (n : Nat) (f : Job → Job) : (s.mapJob n f).free = s.free := rfl
@[simp] theorem State.mapJob_readOut (s : State) (n : Nat) (f : Job → Job) : (s.mapJob n f).readOut = s.readOut := rfl
@[simp] theorem State.mapJob_lead (s : State) (n : Nat) (f : Job → Job) : (s.mapJob n f).lead = s.lead := rfl
@[simp] theorem State.mapJob_regs (s : State) (n : Nat) (f : Job → Job) : (s.mapJob n f).regs = s.regs := rfl
@[simp] theorem State.mapJob_ends (s : State) (n : Nat) (f : Job → Job) : (s.mapJob n f).ends = s.ends := rfl
@[simp] theorem State.mapJob_spi (s : State) (n : Nat) (f : Job → Job) : (s.mapJob n f).spi = s.spi := rfl
@[simp] theorem State.mapJob_pcieFns (s : State) (n : Nat) (f : Job → Job) : (s.mapJob n f).pcieFns = s.pcieFns := rfl
@[simp] theorem State.mapJob_lastJob (s : State) (n : Nat) (f : Job → Job) : (s.mapJob n f).lastJob = s.lastJob := rfl
@[simp] theorem State.mapJob_kerns (s : State) (n : Nat) (f : Job → Job) : (s.mapJob n f).kerns = s.kerns := rfl
@[simp] theorem State.mapJob_irqs (s : State) (n : Nat) (f : Job → Job) : (s.mapJob n f).irqs = s.irqs := rfl
@[simp] theorem State.mapJob_hooksDown (s : State) (n : Nat) (f : Job → Job) : (s.mapJob n f).hooksDown = s.hooksDown := rfl
@[simp] theorem State.mapJob_ports (s : State) (n : Nat) (f : Job → Job) : (s.mapJob n f).ports = s.ports := rfl
@[simp] theorem State.mapJob_gaugeWaits (s : State) (n : Nat) (f : Job → Job) : (s.mapJob n f).gaugeWaits = s.gaugeWaits := rfl
@[simp] theorem State.mapJob_ctxs (s : State) (n : Nat) (f : Job → Job) : (s.mapJob n f).ctxs = s.ctxs := rfl
@[simp] theorem State.mapJob_routeCtxs (s : State) (n : Nat) (f : Job → Job) : (s.mapJob n f).routeCtxs = s.routeCtxs := rfl
@[simp] theorem State.mapJob_flights (s : State) (n : Nat) (f : Job → Job) : (s.mapJob n f).flights = s.flights := rfl
@[simp] theorem State.mapJob_localRx (s : State) (n : Nat) (f : Job → Job) : (s.mapJob n f).localRx = s.localRx := rfl
@[simp] theorem State.mapJob_outbox (s : State) (n : Nat) (f : Job → Job) : (s.mapJob n f).outbox = s.outbox := rfl
@[simp] theorem State.mapJob_dins (s : State) (n : Nat) (f : Job → Job) : (s.mapJob n f).dins = s.dins := rfl
@[simp] theorem State.mapJob_douts (s : State) (n : Nat) (f : Job → Job) : (s.mapJob n f).douts = s.douts := rfl
@[simp] theorem State.mapJob_bridges (s : State) (n : Nat) (f : Job → Job) : (s.mapJob n f).bridges = s.bridges := rfl
@[simp] theorem State.mapJob_hubs (s : State) (n : Nat) (f : Job → Job) : (s.mapJob n f).hubs = s.hubs := rfl
@[simp] theorem State.mapJob_nets (s : State) (n : Nat) (f : Job → Job) : (s.mapJob n f).nets = s.nets := rfl
@[simp] theorem State.mapJob_maps (s : State) (n : Nat) (f : Job → Job) : (s.mapJob n f).maps = s.maps := rfl
@[simp] theorem State.mapJob_tb (s : State) (n : Nat) (f : Job → Job) : (s.mapJob n f).tb = s.tb := rfl
@[simp] theorem State.mapJob_path (s : State) (n : Nat) (f : Job → Job) : (s.mapJob n f).path = s.path := rfl
@[simp] theorem State.mapJob_hooks (s : State) (n : Nat) (f : Job → Job) : (s.mapJob n f).hooks = s.hooks := rfl
@[simp] theorem State.mapJob_keys (s : State) (n : Nat) (f : Job → Job) : (s.mapJob n f).keys = s.keys := rfl
@[simp] theorem State.mapJob_images (s : State) (n : Nat) (f : Job → Job) : (s.mapJob n f).images = s.images := rfl
@[simp] theorem State.mapJob_part (s : State) (n : Nat) (f : Job → Job) : (s.mapJob n f).part = s.part := rfl
@[simp] theorem State.mapJob_tap (s : State) (n : Nat) (f : Job → Job) : (s.mapJob n f).tap = s.tap := rfl
@[simp] theorem State.mapJob_pending (s : State) (n : Nat) (f : Job → Job) : (s.mapJob n f).pending = s.pending := rfl
@[simp] theorem State.mapJob_reg (s : State) (n : Nat) (f : Job → Job) (c : Nat) : (s.mapJob n f).reg c = s.reg c := rfl
@[simp] theorem State.mapJob_rf (s : State) (n : Nat) (f : Job → Job) (c l m : Nat) : (s.mapJob n f).rf c l m = s.rf c l m := rfl
@[simp] theorem State.mapJob_rb (s : State) (n : Nat) (f : Job → Job) (c j : Nat) : (s.mapJob n f).rb c j = s.rb c j := rfl
@[simp] theorem State.mapJob_kernelState (s : State) (n : Nat) (f : Job → Job) (c : Nat) : (s.mapJob n f).kernelState c = s.kernelState c := rfl
@[simp] theorem State.mapJob_domainState (s : State) (n : Nat) (f : Job → Job) (c d : Nat) : (s.mapJob n f).domainState c d = s.domainState c d := rfl
@[simp] theorem State.mapJob_portState (s : State) (n : Nat) (f : Job → Job) (c d : Nat) : (s.mapJob n f).portState c d = s.portState c d := rfl
@[simp] theorem State.mapJob_hasKernel (s : State) (n : Nat) (f : Job → Job) (c : Nat) : (s.mapJob n f).hasKernel c = s.hasKernel c := rfl
@[simp] theorem State.mapJob_hasPort (s : State) (n : Nat) (f : Job → Job) (c d : Nat) : (s.mapJob n f).hasPort c d = s.hasPort c d := rfl
@[simp] theorem State.mapJob_port (s : State) (n : Nat) (f : Job → Job) (c d : Nat) : (s.mapJob n f).port c d = s.port c d := rfl
@[simp] theorem State.mapJob_ctxAt (s : State) (n : Nat) (f : Job → Job) (c t d : Nat) : (s.mapJob n f).ctxAt c t d = s.ctxAt c t d := rfl
@[simp] theorem State.mapJob_ep (s : State) (n : Nat) (f : Job → Job) (c : Via) : (s.mapJob n f).ep c = s.ep c := rfl
@[simp] theorem State.mapJob_kern (s : State) (n : Nat) (f : Job → Job) (c : Nat) : (s.mapJob n f).kern c = s.kern c := rfl
@[simp] theorem State.mapJob_hook (s : State) (n : Nat) (f : Job → Job) (c : Nat) : (s.mapJob n f).hook c = s.hook c := rfl

/-! ### bump -/

@[simp] theorem State.bump_variant (s : State) (a n : Nat) : (s.bump a n).variant = s.variant := by unfold State.bump; split <;> rfl
@[simp] theorem State.bump_now (s : State) (a n : Nat) : (s.bump a n).now = s.now := by unfold State.bump; split <;> rfl
@[simp] theorem State.bump_taiOff (s : State) (a n : Nat) : (s.bump a n).taiOff = s.taiOff := by unfold State.bump; split <;> rfl
@[simp] theorem State.bump_taiFrac (s : State) (a n : Nat) : (s.bump a n).taiFrac = s.taiFrac := by unfold State.bump; split <;> rfl
@[simp] theorem State.bump_readOut (s : State) (a n : Nat) : (s.bump a n).readOut = s.readOut := by unfold State.bump; split <;> rfl
@[simp] theorem State.bump_lead (s : State) (a n : Nat) : (s.bump a n).lead = s.lead := by unfold State.bump; split <;> rfl
@[simp] theorem State.bump_ends (s : State) (a n : Nat) : (s.bump a n).ends = s.ends := by unfold State.bump; split <;> rfl
@[simp] theorem State.bump_spi (s : State) (a n : Nat) : (s.bump a n).spi = s.spi := by unfold State.bump; split <;> rfl
@[simp] theorem State.bump_pcieFns (s : State) (a n : Nat) : (s.bump a n).pcieFns = s.pcieFns := by unfold State.bump; split <;> rfl
@[simp] theorem State.bump_jobs (s : State) (a n : Nat) : (s.bump a n).jobs = s.jobs := by unfold State.bump; split <;> rfl
@[simp] theorem State.bump_lastJob (s : State) (a n : Nat) : (s.bump a n).lastJob = s.lastJob := by unfold State.bump; split <;> rfl
@[simp] theorem State.bump_kerns (s : State) (a n : Nat) : (s.bump a n).kerns = s.kerns := by unfold State.bump; split <;> rfl
@[simp] theorem State.bump_irqs (s : State) (a n : Nat) : (s.bump a n).irqs = s.irqs := by unfold State.bump; split <;> rfl
@[simp] theorem State.bump_hooksDown (s : State) (a n : Nat) : (s.bump a n).hooksDown = s.hooksDown := by unfold State.bump; split <;> rfl
@[simp] theorem State.bump_ports (s : State) (a n : Nat) : (s.bump a n).ports = s.ports := by unfold State.bump; split <;> rfl
@[simp] theorem State.bump_gaugeWaits (s : State) (a n : Nat) : (s.bump a n).gaugeWaits = s.gaugeWaits := by unfold State.bump; split <;> rfl
@[simp] theorem State.bump_ctxs (s : State) (a n : Nat) : (s.bump a n).ctxs = s.ctxs := by unfold State.bump; split <;> rfl
@[simp] theorem State.bump_routeCtxs (s : State) (a n : Nat) : (s.bump a n).routeCtxs = s.routeCtxs := by unfold State.bump; split <;> rfl
@[simp] theorem State.bump_flights (s : State) (a n : Nat) : (s.bump a n).flights = s.flights := by unfold State.bump; split <;> rfl
@[simp] theorem State.bump_localRx (s : State) (a n : Nat) : (s.bump a n).localRx = s.localRx := by unfold State.bump; split <;> rfl
@[simp] theorem State.bump_outbox (s : State) (a n : Nat) : (s.bump a n).outbox = s.outbox := by unfold State.bump; split <;> rfl
@[simp] theorem State.bump_dins (s : State) (a n : Nat) : (s.bump a n).dins = s.dins := by unfold State.bump; split <;> rfl
@[simp] theorem State.bump_douts (s : State) (a n : Nat) : (s.bump a n).douts = s.douts := by unfold State.bump; split <;> rfl
@[simp] theorem State.bump_bridges (s : State) (a n : Nat) : (s.bump a n).bridges = s.bridges := by unfold State.bump; split <;> rfl
@[simp] theorem State.bump_hubs (s : State) (a n : Nat) : (s.bump a n).hubs = s.hubs := by unfold State.bump; split <;> rfl
@[simp] theorem State.bump_nets (s : State) (a n : Nat) : (s.bump a n).nets = s.nets := by unfold State.bump; split <;> rfl
@[simp] theorem State.bump_maps (s : State) (a n : Nat) : (s.bump a n).maps = s.maps := by unfold State.bump; split <;> rfl
@[simp] theorem State.bump_tb (s : State) (a n : Nat) : (s.bump a n).tb = s.tb := by unfold State.bump; split <;> rfl
@[simp] theorem State.bump_path (s : State) (a n : Nat) : (s.bump a n).path = s.path := by unfold State.bump; split <;> rfl
@[simp] theorem State.bump_hooks (s : State) (a n : Nat) : (s.bump a n).hooks = s.hooks := by unfold State.bump; split <;> rfl
@[simp] theorem State.bump_keys (s : State) (a n : Nat) : (s.bump a n).keys = s.keys := by unfold State.bump; split <;> rfl
@[simp] theorem State.bump_images (s : State) (a n : Nat) : (s.bump a n).images = s.images := by unfold State.bump; split <;> rfl
@[simp] theorem State.bump_part (s : State) (a n : Nat) : (s.bump a n).part = s.part := by unfold State.bump; split <;> rfl
@[simp] theorem State.bump_tap (s : State) (a n : Nat) : (s.bump a n).tap = s.tap := by unfold State.bump; split <;> rfl
@[simp] theorem State.bump_pending (s : State) (a n : Nat) : (s.bump a n).pending = s.pending := by unfold State.bump; split <;> rfl
@[simp] theorem State.bump_hasKernel (s : State) (a n : Nat) (c : Nat) : (s.bump a n).hasKernel c = s.hasKernel c := by unfold State.bump; split <;> rfl
@[simp] theorem State.bump_hasPort (s : State) (a n : Nat) (c d : Nat) : (s.bump a n).hasPort c d = s.hasPort c d := by unfold State.bump; split <;> rfl
@[simp] theorem State.bump_port (s : State) (a n : Nat) (c d : Nat) : (s.bump a n).port c d = s.port c d := by unfold State.bump; split <;> rfl
@[simp] theorem State.bump_ctxAt (s : State) (a n : Nat) (c t d : Nat) : (s.bump a n).ctxAt c t d = s.ctxAt c t d := by unfold State.bump; split <;> rfl
@[simp] theorem State.bump_ep (s : State) (a n : Nat) (c : Via) : (s.bump a n).ep c = s.ep c := by unfold State.bump; split <;> rfl
@[simp] theorem State.bump_kern (s : State) (a n : Nat) (c : Nat) : (s.bump a n).kern c = s.kern c := by unfold State.bump; split <;> rfl
@[simp] theorem State.bump_hook (s : State) (a n : Nat) (c : Nat) : (s.bump a n).hook c = s.hook c := by unfold State.bump; split <;> rfl

/-! ### Reads of what was written -/

/-- A register reads as the word written to it. -/
theorem State.reg_setReg_self (s : State) (a : Nat) (w : Word) (h : s.Canonical) : (s.setReg a w).reg a = w :=
  smapGet_put_self _ _ _ _ h.regs

/-- A write to a register leaves every other register alone. -/
theorem State.reg_setReg_ne (s : State) {a b : Nat} (w : Word) (h : b ≠ a) : (s.setReg a w).reg b = s.reg b :=
  smapGet_put_ne _ _ _ _ _ h

theorem State.reg_setRf_ne (s : State) {a b : Nat} (lo n v : Nat) (h : b ≠ a) : (s.setRf a lo n v).reg b = s.reg b :=
  smapGet_put_ne _ _ _ _ _ h

theorem State.reg_setRb_ne (s : State) {a b : Nat} (i : Nat) (x : Bool) (h : b ≠ a) : (s.setRb a i x).reg b = s.reg b :=
  smapGet_put_ne _ _ _ _ _ h

theorem State.reg_setRf_self (s : State) (a lo n v : Nat) (h : s.Canonical) : (s.setRf a lo n v).reg a = setFld (s.reg a) lo n v :=
  smapGet_put_self _ _ _ _ h.regs

theorem State.reg_setRb_self (s : State) (a i : Nat) (b : Bool) (h : s.Canonical) : (s.setRb a i b).reg a = setBit (s.reg a) i b :=
  smapGet_put_self _ _ _ _ h.regs

/-- A counter raised leaves every other register alone. -/
theorem State.reg_bump_ne (s : State) {a b : Nat} (n : Nat) (h : b ≠ a) : (s.bump a n).reg b = s.reg b := by
  unfold State.bump; split
  · exact smapGet_put_ne _ _ _ _ _ h
  · exact smapGet_put_ne _ _ _ _ _ h

/-- Writing back what a register holds changes nothing. -/
theorem State.setReg_reg (s : State) (a : Nat) (h : s.Canonical) : s.setReg a (s.reg a) = s := by
  unfold State.setReg State.reg; rw [smapPut_get a h.regs]

theorem State.ep_setEp_self (s : State) (v : Via) (e : Endpoint) (h : s.Canonical) : (s.setEp v e).ep v = e :=
  smapGet_put_self _ _ _ _ h.ends

theorem State.pcieFn_setPcieFn_self (s : State) (k : Nat) (f : PcieFn) (h : s.Canonical) : (s.setPcieFn k f).pcieFn k = f :=
  smapGet_put_self _ _ _ _ h.pcieFns

theorem State.port_setPort_self (s : State) (k p : Nat) (x : Port) (h : s.Canonical) : (s.setPort k p x).port k p = x :=
  smapGet_put_self _ _ _ _ h.ports

theorem State.kern_setKern_self (s : State) (k : Nat) (x : Kern) (h : s.Canonical) : (s.setKern k x).kern k = x :=
  smapGet_put_self _ _ _ _ h.kerns

theorem State.ctxAt_setCtxAt_self (s : State) (k t p : Nat) (x : Ctx) (h : s.Canonical) : (s.setCtxAt k t p x).ctxAt k t p = x :=
  smapGet_put_self _ _ _ _ h.ctxs

theorem State.hook_setHook_self (s : State) (i : Nat) (x : Hook) (h : s.Canonical) : (s.setHook i x).hook i = x :=
  smapGet_put_self _ _ _ _ h.hooks

end Sys2Proof.Machine
end

