-- ==== Sys2Proof/Machine/Pixels.lean ====
section
/-! DEFINITION. The pixels at an output's pins (R244 to R249, R268), as the state determines them: decoding, chroma upsampling, conversion,
depth adjustment, placement and test patterns. -/

namespace Sys2Proof.Machine

/-- A pixel's red, green and blue. -/
abbrev Rgb := Nat × Nat × Nat

/-- KIND and samples of component c of a tile of FRONT; none where its record is not VALID. -/
def Dout.tileComp (d : Dout) (layout : Bool) (f : FrameSet) (row col c : Nat) : Option (Nat × List Nat) :=
  let groups := planeGroups layout f
  match (List.range groups.length).find? fun g => (groups.getD g []).contains c with
  | none => none
  | some g =>
    match f.index.find? fun e => e.1 == 3 * row + g with
    | none => none
    | some e =>
      match (d.recs.find? fun r => r.1 == e.2).bind fun r => r.2.tiles[col]? with
      | none => none
      | some t =>
        let comps := groups.getD g []
        (readComps f t.1 t.2.1 row col comps (bytesBits t.2.2)).map fun r => (t.1, r.1.getD (comps.idxOf c) [])

/-- A sample of component c of a tile by its place in the tile. -/
def Dout.tileSample (d : Dout) (layout : Bool) (f : FrameSet) (row col c x y : Nat) : Option (Nat × Nat) :=
  (d.tileComp layout f row col c).map fun t => (t.1, t.2.getD (y * (tileShape f t.1 row col c).1 + x) 0)

/-- The chroma sample at (cx, cy) of the coded plane as tile (row, col) sees it (R245): the nearest one inside the frame, and one that
would come from an exact tile is the nearest in the tile itself. -/
def Dout.chroma (d : Dout) (layout : Bool) (f : FrameSet) (row col c cx cy : Nat) : Option Nat :=
  let dv := chromaDiv (frameSampling f) c
  let tw := 32 / dv.1
  let th := 8 / dv.2
  let x := min cx (ceilDiv (frameWidth f) dv.1 - 1)
  let y := min cy (ceilDiv (frameHeight f) dv.2 - 1)
  let own := tileShape f 0 row col c
  let near : Option Nat :=
    (d.tileSample layout f row col c (min (x - tw * col) (own.1 - 1)) (min (y - th * row) (own.2 / max own.1 1 - 1))).map (·.2)
  match d.tileSample layout f (y / th) (x / tw) c (x % tw) (y % th) with
  | none => none
  | some t => if t.1 % 2 = 1 then near else some t.2

/-- Chroma after the vertical step at chroma column cx and luma row y (R245). -/
def Dout.chromaV (d : Dout) (layout : Bool) (f : FrameSet) (row col c cx y : Nat) : Option Nat :=
  if (chromaDiv (frameSampling f) c).2 = 1 then d.chroma layout f row col c cx y
  else
    match d.chroma layout f row col c cx (y / 2), d.chroma layout f row col c cx (if y % 2 = 0 then y / 2 - 1 else y / 2 + 1) with
    | some a, some b => some ((3 * a + b + 2) / 4)
    | _, _ => none

/-- Component c of a pixel of a non-exact tile at 4:4:4 (R245). -/
def Dout.comp444 (d : Dout) (layout : Bool) (f : FrameSet) (row col c x y : Nat) : Option Nat :=
  if (chromaDiv (frameSampling f) c).1 = 1 then d.chromaV layout f row col c x y
  else if x % 2 = 0 then d.chromaV layout f row col c (x / 2) y
  else
    match d.chromaV layout f row col c (x / 2) y, d.chromaV layout f row col c (x / 2 + 1) y with
    | some a, some b => some ((a + b + 1) / 2)
    | _, _ => none

/-- kY, kRcr, kGcb, kGcr and kBcb (Table 7.3). -/
def invRow (matrix : Nat) : Int × Int × Int × Int × Int :=
  if matrix = 0 then (76310, 117489, 13975, 34925, 138438) else (76310, 110014, 12277, 42626, 140363)

/-- A YCbCr pixel as full-range RGB (R246). -/
def yccToRgb (n matrix y cb cr : Nat) : Rgb :=
  let s : Int := 2 ^ (n - 8)
  let k := invRow matrix
  let y : Int := y - 16 * s
  let cb : Int := cb - 128 * s
  let cr : Int := cr - 128 * s
  (clampTo n ((k.1 * y + k.2.1 * cr + 32768) / 65536), clampTo n ((k.1 * y - k.2.2.1 * cb - k.2.2.2.1 * cr + 32768) / 65536),
   clampTo n ((k.1 * y + k.2.2.2.2 * cb + 32768) / 65536))

/-- Full range to limited range, and back (R246). -/
def toLimited (n v : Nat) : Nat := 16 * 2 ^ (n - 8) + (v * 56284 + 32768) / 65536
def toFull (n v : Nat) : Nat := clampTo n ((((v : Int) - 16 * 2 ^ (n - 8)) * 76310 + 32768) / 65536)

def Rgb.map (f : Nat → Nat) (p : Rgb) : Rgb := (f p.1, f p.2.1, f p.2.2)

/-- The ordered matrix M (R247). -/
def ditherM (r c : Nat) : Nat := [0, 8, 2, 10, 12, 4, 14, 6, 3, 11, 1, 9, 15, 7, 13, 5].getD (4 * (r % 4) + c % 4) 0

/-- Depth adjustment (R247): DITHER 0, 1 and 2 at output pixel (x, y) of output frame `frame`. -/
def adjustDepth (inTen outTen : Bool) (dither x y frame v : Nat) : Nat :=
  if inTen = outTen then v
  else if outTen then v * 4 + v / 64
  else if dither = 0 then min 255 ((v + 2) / 4)
  else min 255 ((4 * v + ditherM (if dither = 1 then y else y + 2 * (frame % 2)) x) / 16)

/-- A pixel of FRONT at frame place (x, y), brought to the output's range and depth for output pixel (ox, oy); none where its records are
not VALID. -/
def State.framePixel (s : State) (k d : Nat) (f : FrameSet) (timing : Word) (x y ox oy : Nat) : Option Rgb :=
  let st := s.dout k d
  let layout := s.rb (Reg.FST_CTRL k d) 0
  let row := y / 8
  let col := x / 32
  let n := frameDepth f
  let outLimited := bitAt timing 12
  match st.tileSample layout f row col 0 (x % 32) (y % 8) with
  | none => none
  | some (kind, a) =>
    let exact := kind % 2 == 1
    let other (c : Nat) : Option Nat :=
      if exact then (st.tileSample layout f row col c (x % 32) (y % 8)).map (·.2) else st.comp444 layout f row col c x y
    match other 1, other 2 with
    | some b, some c =>
      let rgb := if exact then bitAt f.form 8 else bitAt f.form 2
      let limited := bitAt f.form 5
      let p : Rgb :=
        if rgb then
          if limited == outLimited then (a, b, c) else if outLimited then Rgb.map (toLimited n) (a, b, c) else Rgb.map (toFull n) (a, b, c)
        else
          let q := yccToRgb n (fld f.form 4 1) a b c
          if outLimited then Rgb.map (toLimited n) q else q
      some (Rgb.map (adjustDepth (bitAt f.form 3) (bitAt timing 0) (if exact then 0 else fld timing 13 2) ox oy st.frames) p)
    | _, _ => none

def colorOf (w : Word) : Rgb := (fld w 0 10, fld w 10 10, fld w 20 10)

/-- The pixel of a test pattern (Table 7.10); none for the link patterns, which replace the symbols. `full` is the greatest value. -/
def patternPixel (p : Nat) (color : Rgb) (full width x y : Nat) : Option Rgb :=
  match p with
  | 1 => [(full, full, full), (full, full, 0), (0, full, full), (0, full, 0), (full, 0, full), (full, 0, 0), (0, 0, full), (0, 0, 0)][8 * x / width]?
  | 2 => let v := Config.rampValue x width full; some (v, v, v)
  | 3 => some (if (x + y) % 2 = 0 then color else (0, 0, 0))
  | 4 => some color
  | 5 => some (if x % 32 = 0 ∨ y % 8 = 0 then color else (0, 0, 0))
  | 6 => some (if y = 0 then (full, full, full) else (0, 0, 0))
  | _ => none

/-- The pixel that output o of kernel k sends at (x, y) of its active area; none while it sends no video. -/
def State.outPixel (s : State) (k o x y : Nat) : Option Rgb :=
  let d := s.sourceOf k o
  let st := s.dout k d
  let timing := s.reg (Reg.DOUT_TIM_ACTIVE k o 5)
  let ha := s.rf (Reg.DOUT_TIM_ACTIVE k o 0) 0 13
  let border := colorOf (s.reg (Reg.DOUT_BORDER k o))
  if !([3, 4].contains (s.doutState k o)) then none
  else if (s.dout k o).pattern ≠ 0 then
    patternPixel (s.dout k o).pattern (colorOf (s.dout k o).color) (2 ^ depthOf (bitAt timing 0) - 1) ha x y
  else
    let wide := if s.pairMode k = 0 ∧ o = 1 then x + ha else x
    let org := s.reg (Reg.DOUT_ORIGIN k d)
    match st.front with
    | none => some border
    | some f =>
      if (st.blanked ∧ s.rb (Reg.DOUT_CTRL k o) 2) ∨ wide < fld org 0 13 ∨ y < fld org 16 13 ∨ fld org 0 13 + frameWidth f ≤ wide ∨ fld org 16 13 + frameHeight f ≤ y then
        some border
      else
        some ((s.framePixel k d f timing (wide - fld org 0 13) (y - fld org 16 13) x y).getD border)

end Sys2Proof.Machine
end

