-- ==== Sys2Proof/WellFormed.lean ====
section
/-! DEFINITION. Which commands are well formed: header fields fit their widths (Table 2.1), and kernels, ports and Hooks are among those the
largest variant has (R1). The meanings are total all the same: one that names an absent unit faults. -/

namespace Sys2Proof

/-- A source of requests within Table 2.4. -/
def Via.wf : Via → Bool
  | .spi => true
  | .pcie k => decide (k < 8)
  | .usb k => decide (k < 8)
  | .link k p => decide (k < 8) && decide (p < 4)
  | .needle n => decide (n < 8)
  | .hook h => decide (h < 2)

/-- A packet whose fields fit Table 2.1. -/
def Packet.wf (p : Packet) : Bool :=
  decide (p.opcode < 65536) && decide (p.tag < 256) && decide (p.flags < 256) && decide (p.target < 65536) && decide (p.status < 65536)
    && decide (p.detail < 65536) && decide (p.data.length ≤ 256)

/-- A request whose header fields fit Table 2.1. -/
def Req.wf (r : Req) : Bool :=
  r.via.wf && decide (r.tag < 256) && decide (r.flags < 256) && decide (r.target < 65536) && decide (r.plen < 65536) && decide (r.slot < 8)

/-- A command that names units and fields within their ranges. -/
def Instr.wf : Instr → Bool
  | .spiWritePacket _ | .spiReadPacket _ | .spiReadStatus | .spiBadInstruction _ | .rcFieldRead _ | .regaugeStepTimeout _ | .ppsEdge
  | .irigFrame _ _ _ _ _ _ _ _ _ | .timeSourceChange _ | .holdoverExpiry | .timeInfoTimer | .powerOn | .vaonFall
  | .feedVoltageChange _ _ | .feedReverse _ _ | .feedOverVoltage _ _ | .feedOvRecover _ | .feedFault _ _ | .loadEnChange _
  | .rampComplete _ _ | .rampTimer _ _ _ | .soaTrip _ _ | .meterSample _ | .shortTrip _ _ | .loadDisableDelayEnd | .panelWarn _
  | .panelDrop _ | .panelRise _ | .panelHoldExpiry | .panelBelow8v _ | .sysPwrokRise | .sysPwrokFall | .resetNLow | .quietDrainEnd
  | .seedDelayExpiry | .seedWake _ | .leadTakeover | .leadLost | .fwSessionIdle | .jobExpiry _ | .refclkChange _ | .panelAboveDrop _
  | .fwCommitStep _ | .policyImageStep | .boardTableStep | .lifecycleFuseStep | .aonLockTimeSave => true
  | .usbCommandTransfer k _ | .cmdPost k _ _ | .rspReadyWrite k _ | .evtTailWrite k _ | .timeNowRead k | .logWinRead k
  | .openTimeout k _ | .prearrangedOpenResend k _ | .closeDrainExpiry k _ | .replayTimeout k _ _ _ | .packetHandover k _ _ _ _
  | .fenceLift k _ _ | .residueAgeExpiry k _ _ | .latSampleTick k _ | .seamFailed k _ | .seamUp k _ | .seamTestEnd k _ _ _
  | .storeTestStep k _ _ | .scanStep k | .dinTraining k _ _ | .dinSignalLost k _ _ | .inputFrameStart k _ _ | .hpdPulseEnd k _
  | .sinkEdid k _ | .refresh k _ | .sinkStatus k _ | .frameStart k _ | .tileRow k _ | .frameEnd k _ | .frameAbort k _
  | .recordScanDone k _ | .frameBoundary k _ | .underrun k _ _ | .recordCheckFail k _ _ _ | .panelHpdRise k _ _ _ _ | .panelHpdFall k _
  | .irqHpd k _ | .doutTrainFail k _ | .doutRetryTimer k _ | .hostTlp k _ | .tlpP k | .tlpNp k _ | .tlpCpl k | .bridgeCredit k
  | .linkState k | .linkCtrl k | .pcieWake k _ | .cplTimeout k _ _ | .readAheadAge k _ | .pxPerstLow k | .hostHotReset k _
  | .dockLinkDown k _ | .setupToken k _ _ | .inToken k _ _ | .outToken k _ _ _ | .pingToken k _ | .hubClassRequest k _
  | .upstreamBusReset k _ _ _ | .upstreamIdleSuspend k | .hostResume k _ | .deviceTransactionDone k _ _ _ _ _ _ _
  | .endpointIdleExpiry k _ _ _ | .setupPacket k | .fetch k | .inResult k _ | .outPacket k | .outResult k | .creditReq k | .isoOut k
  | .isoIn k | .sofPacket k | .portCmd k | .portStatus k | .busState k | .usbWake k | .ethFrameRx k _ _ _ _ | .ethFramePacket k _
  | .ptpFramePacket k _ | .ptpMessageRx k _ _ | .prpLifeCheckTimer k | .prpLanChange k _ | .prpEntryExpiry k _ _ _ | .gooseFrame k _ _
  | .gooseTalExpiry k _ | .gooseGatherEnd k _ | .gooseRetransmit k _ | .gpioDebounce k _ _ _ | .pipTimeout k _
  | .kernelRelease k _ _ _ _ _ | .quietWake k _ | .domainPowerUp k _ | .watchdogExpiry k | .heartbeatTimeout k | .internalFault k
  | .kernelRejoin k _ | .rejoinTimeout k | .lockIdleBreak k _ | .drbgHealthFail k _ | .usbUpstreamDisconnect k
  | .managementEp0Request k _ | .pxPerstRise k _ _ | .pxWakeNFall k | .dockLinkUp k _ _ | .perstReleaseTimer k | .doutTrainPass k _
  | .ethLinkChange k _ _ _ | .sfpModuleInsert k _ _ _ _ | .ptpIntervalTimer k _ _ | .usbFormReconnect k => decide (k < 8)
  | .sysInfo r | .sysStateSet r | .sysReset r | .getReply r | .eventSubscribe r | .jobStatus r | .jobAbort r | .nop r
  | .kernelRecover r | .portInfo r | .portCastOn r | .portBindOff r | .portPowerState r | .portEqSelect r | .portAlignMode r
  | .portBitSlip r | .portPrbs r | .plyForm r | .plySplit r | .roleSwapRequest r | .tunOpen r | .tunClose r | .tunInfo r | .tunModify r
  | .tunRelease r | .resumeWindowSet r | .rawRouteSet r | .rowTableRead r | .rowShadowWrite r | .rowSwap r | .regauge r
  | .regaugeRollback r | .gaugeCeilingSet r | .rawRouteRead r | .skeinCarve r | .skeinInfo r | .queueThresholdSet r | .schedNodeSet r
  | .shaperSet r | .mcastListSet r | .latSampleSet r | .latSampleRead r | .dinConfig r | .edidProxySet r | .purlModeSet r
  | .exactRegionSet r | .damageConfig r | .purlFrameReport r | .doutTimingStage r | .doutPairSet r | .frameLockSet r | .psrConfig r
  | .testPattern r | .doutStatus r | .pcieConfig r | .pcieWindow r | .pcieStatus r | .pcieReadaheadLog r | .usbConfig r
  | .usbEpLayout r | .usbPortPower r | .usbStatus r | .ethConfig r | .prpPairSet r | .ethStatus r | .timeSourceList r | .timeRead r
  | .timeSet r | .ptpConfig r | .asymmetrySet r | .logRead r | .blackboxRead r | .blackboxClear r | .smapSignalSet r
  | .smapSignalRead r | .gooseSubscribe r | .goosePublishSet r | .hidSnoopSet r | .checkUnitSet r | .checkScan r | .sealSet r
  | .pwrFeedStatus r | .pwrLoadEnable r | .pwrLoadDisable r | .pwrBreakerSet r | .pwrWarnSet r | .pwrMeterRead r | .pwrEnergyClear r
  | .pdStatus r | .pdRolePrefSet r | .pdSourceCapsSet r | .pdSinkRequest r | .pdFrsSet r | .hookPolicyUpdate r | .cableIdRead r
  | .keySlotInfo r | .keyDerive r | .keyErase r | .keyAttrSet r | .lifecycleAdvance r | .linkAuthPolicy r | .fwInfo r | .fwWriteBegin r
  | .fwWriteData r | .fwWriteCommit r | .fwSlotSelect r | .boardTableLoad r | .mboxWrite r | .mboxRead r | .doorbellRing r
  | .lockAcquire r | .lockRelease r | .lockBreak r | .lockStatus r | .diagCountersRead r | .diagLoopback r | .diagSensors r
  | .diagSeamTest r | .diagStoreTest r | .regRead r | .regWrite r | .regModify r => r.wf
  | .mboxLockRead via k _ | .mboxLockWrite via k _ _ | .mboxWord63Write via k _ _ | .mboxWord63Read via k _ | .dbRingWrite via k _
  | .dbPendWrite via k _ | .latCtrlWrite via k _ _ | .pciwCtrlWrite via k _ _ => via.wf && decide (k < 8)
  | .loadSwEnWrite via _ | .mtrSnapWrite via _ | .registerWrite via _ _ | .replyKeepExpiry via _ => via.wf
  | .remoteRequestRx k p _ | .remoteTimeout k p _ | .moduleAttach k p | .moduleReady k p _ _ _
  | .moduleDetach k p | .trainRx k p _ _ _ _ _ | .laneLockLoss k p _ | .relockTimeout k p | .castOnStepTimeout k p | .backoffExpiry k p
  | .ident k p _ | .authHello k p _ | .authCert k p _ _ _ _ | .authSig k p _ | .authDone k p _ | .roleMsg k p _ | .rateGo k p _
  | .prbsWindowEnd k p _ _ _ | .rateResult k p _ | .rowSync k p _ | .rowMarkRx k p _ _ | .rowInfoRx k p _ _ _ _ _ _ _
  | .shellIdleExpiry k p | .shellExit k p | .huskIdleExpiry k p | .huskReq k p _ | .huskAck k p | .huskNak k p _
  | .bindReq k p _ _ | .bindAck k p | .bindTimeout k p | .bindDrainEnd k p
  | .plyReq k p _ _ | .plyNak k p _ | .roleSwap k p _ _ _ _ | .roleSwapAck k p | .roleSwapNak k p _ | .roleFlip k p
  | .roleSwapRetry k p | .roleSwapTimeout k p | .openReq k p _ _ _ | .openAck k p _ _ _ | .openNak k p _ _ _ | .closeReq k p _ _ _
  | .closeDone k p _ _ | .credit k p _ | .epochAck k p _ | .resumeList k p _ | .resumePairingTimeout k p | .resumeWindowExpiry k p
  | .violationNotice k p _ _ _ | .quarantine k p _ _ | .cellRx k p _ _ _ _ _ | .stitchStart k p _ | .rowBoundary k p _
  | .deviceRemoteWake k p | .babble k p | .usbOverCurrent k p | .portResetEnd k p _ _ | .timeInfo k p | .hidReport k p _ _
  | .pipFrame k p | .pipHeartbeat k p | .phaseChange k p | .oldPhaseDiscard k p | .downstreamConnectChange k p _ _
  | .usbPowerCycleEnd k p | .roleSwapDone k p => decide (k < 8) && decide (p < 4)
  | .badControlPacket k path => decide (k < 8) && decide (path.port < 4)
  | .shellEnterRx k rx | .huskEnterRx k rx | .bindEndRx k rx => decide (k < 8) && decide (rx.port < 4)
  | .huskExit k wake => decide (k < 8) && decide (wake.port < 4)
  | .remoteReplyRx k p pk => decide (k < 8) && decide (p < 4) && pk.wf
  | .typecAttach h _ _ _ | .typecDetach h _ | .alavinModeEnter h _ | .ufpModeWaitExpiry h | .frsSignal h | .deadBatteryStart h
  | .hookRomStart h | .pdSourceCapabilities h _ _ _ | .pdRequest h _ _ _ _ | .pdPsRdy h | .pdHardReset h | .pdSwapRequest h _
  | .discoverMessage h _ _ _ | .cableDiscoverIdentity h _ | .pdKeepaliveTimer h | .pdKeepaliveLost h | .hookWatchdog h
  | .hookRestarted h | .alavinModeExit h | .pdAcceptOrReject h _ | .vbusTransitionComplete h => decide (h < 2)

end Sys2Proof
end

