-- ==== Sys2Proof/Tests/Slice0.lean ====
section
/-! SUPPORT. Own tests: ill-formed terms that well-formedness refuses, and for each statement a state and operands that meet its hypotheses. -/

open Sys2Proof Sys2Proof.Machine

section Witnesses

set_option Elab.async false

namespace Sys2Proof.Tests

/-- The two kernels of an ELN-2 run with all domains on, and nothing is attached. -/
def running : State :=
  [0, 1].foldl (fun s k => (s.setRf (Reg.KERNEL_STATE k) 0 4 2).setReg (Reg.PWR_DOM_STATE k) 0x555555)
    ({ State.reset with variant := .eln2 }.setRb Reg.AON_STATE 7 false)

/-- A request of Needle 0 with a target and parameter words. -/
def ask (target : Nat) (params : List Word) : Req :=
  { via := .needle 0, tag := 1, flags := 0, target := target, plen := 4 * params.length, received := 4 * params.length + 16,
    crcOk := true, slot := 0, params := params }

/-- A running job of K0 that SPI started. -/
def job (opcode step steps : Nat) (args : List Word) : Job :=
  { num := 1, opcode := opcode, tag := 1, via := some .spi, kernel := 0, target := 0, step := step, steps := steps, args := args }

/-- The SPI, USB, PCIe and link transports of kernel 0 are up, and port 0 is Open. -/
def connected : State :=
  [Via.spi, .usb 0, .pcie 0, .link 0 0].foldl (fun s v => s.setEp v { up := true }) (running.setRf (Reg.LNK_STATE 0 0) 0 4 3)

/-- A state with port p of kernel 0 in a port state. -/
def portAt (p st : Nat) : State := running.setRf (Reg.LNK_STATE 0 p) 0 4 st

/-- Context T8 of kernel 0 with adapter a and a tunnel type, in a state, on the Open port 0. -/
def tunnelTo (a ty st : Nat) : State :=
  ((portAt 0 3).setReg (Reg.TUN_CTRL 0 8) (packWord [(0, 3, st), (4, 4, ty)])).setReg (Reg.TUN_PATH 0 8) (packWord [(0, 4, a), (16, 4, a)])

/-- Context T8 of kernel 0 in a state, for the network adapter. -/
def tunnel (st : Nat) : State := tunnelTo 9 6 st

/-- The Open context T8 of adapter a with one packet that has arrived and waits. -/
def waiting (a ty : Nat) (packet : List Byte) : State := (tunnelTo a ty 2).setCtxAt 0 8 0 { rxq := [(false, packet)] }

/-- Port 3 of kernel 0 casting on at a step. -/
def casting (step : Nat) (x : Port) : State := ((portAt 3 2).setRf (Reg.LNK_CAST_STEP 0 3) 0 4 step).setPort 0 3 x

/-- Control blocks as they arrive on lanes whose scramblers stand at zero. -/
def line (cs : List Control) : List Block := cs.map (controlBlock 0)

/-- Thirty-three TRAIN blocks of a lane, both ends locked where `rxlock` is 1, at lane block `lbn`. -/
def burst (lane lbn : Nat) (rxlock : Bool) : Nat :=
  let b := controlBlock 0 (.train { lane := lane, lanes := 0, rxlock := rxlock, rate := 1, lbn := lbn, row := 0, epoch := 0, scr := 1 })
  (List.range 33).foldl (fun a _ => a * 2 ^ 195 + b.header.toNat * 2 ^ 192 + b.payload.toNat) 0

/-- The ROW_MARK blocks of a marker as they arrive on the two lanes of a port. -/
def marker (row epoch : Nat) : List Block := (List.range 2).map fun l => controlBlock (scrSeed l) (.rowMark l 0 row epoch true)

end Sys2Proof.Tests
open Sys2Proof.Tests

/-! ### Ill-formed terms are refused -/

namespace Sys2Proof.Tests

/-- A packet that is well formed. -/
def reply : Packet := { opcode := 1, tag := 1, flags := 0, target := 0, status := 0, detail := 0, data := [] }

theorem test_wf_accepts :
    (Instr.nop (ask 0 [])).wf = true ∧ (Instr.seamUp 7 0).wf = true ∧ (Instr.huskAck 7 3).wf = true ∧
    (Instr.remoteReplyRx 0 0 reply).wf = true ∧ (Instr.mboxLockRead (.hook 1) 0 0).wf = true ∧ (Instr.deadBatteryStart 1).wf = true := by
  decide

theorem test_wf_refuses_units :
    (Instr.seamUp 8 0).wf = false ∧ (Instr.huskAck 0 4).wf = false ∧ (Instr.huskAck 8 0).wf = false ∧
    (Instr.deadBatteryStart 2).wf = false ∧ (Instr.remoteReplyRx 0 4 reply).wf = false ∧
    (Instr.mboxLockRead .spi 8 0).wf = false := by decide

theorem test_wf_refuses_sources :
    (∀ v ∈ [Via.pcie 8, .usb 8, .link 8 0, .link 0 4, .needle 8, .hook 2],
      (Instr.replyKeepExpiry v 0).wf = false ∧ (Instr.nop { ask 0 [] with via := v }).wf = false) := by decide

theorem test_wf_refuses_requests :
    (∀ r ∈ [{ ask 0 [] with tag := 256 }, { ask 0 [] with flags := 256 }, { ask 0 [] with target := 65536 }, { ask 0 [] with plen := 65536 },
      { ask 0 [] with slot := 8 }], (Instr.regRead r).wf = false) := by decide

theorem test_wf_refuses_packets :
    (∀ p ∈ [{ reply with opcode := 65536 }, { reply with tag := 256 }, { reply with flags := 256 }, { reply with target := 65536 },
      { reply with status := 65536 }, { reply with detail := 65536 }, { reply with data := List.replicate 257 0 }],
      (Instr.remoteReplyRx 0 0 p).wf = false) := by decide +kernel

end Sys2Proof.Tests

theorem Sys2Proof.Tests.wit_SystemCommandsAnswer :
    admitted cmdSysInfo (ask 0 []) running = true ∧ admitted cmdNop (ask 0 [7]) running = true ∧
    (let s := running.setEp (.needle 0) { kept := [replyPacket 8 (ask 0 []) .done 0 [1]] }
     admitted cmdGetReply (ask 0 [1]) s = true ∧ (s.keptReply (.needle 0) 1).isSome = true) ∧
    admitted cmdEventSubscribe (ask 0 [5, 0xFFFFF]) running = true ∧
    (let s := running.addJob (job 0x0109 1 3 [])
     admitted cmdJobStatus (ask 0 [1]) s = true ∧ admitted cmdJobAbort (ask 0 [1]) s = true ∧ (s.job? 1).isSome = true) := by
  decide +kernel

theorem Sys2Proof.Tests.wit_PartStateCommandsRun :
    (let s := (running.setRf Reg.AON_STATE 0 2 1).setRf (Reg.KERNEL_STATE 0) 0 4 3
     allowed cmdSysStateSet (ask 0 [0, 0, 0]) s = true ∧ s.partState = 1 ∧ s.wakeAllowed 0 32 = true) ∧
    (allowed cmdSysStateSet (ask 0 [1, 0xFF, 0]) running = true ∧ passes (running.quietChecks 0xFF) = true) ∧
    allowed cmdSysStateSet (ask 0 [2, 0, 1000]) running = true ∧
    ((running.addJob (job 2 2 3 [1, 0])).stateJob 1).isSome = true ∧
    running.part.seedDue = false := by decide +kernel

theorem Sys2Proof.Tests.wit_PinsResetAndKernelsStart :
    State.reset.part.vaon = true ∧ State.reset.inSeed = false ∧ State.reset.part.seed = false ∧ running.rb Reg.AON_STATE 7 = false ∧
    (let s := State.reset.setRb Reg.AON_STATE 4 true
     s.hasKernel 0 = true ∧ s.inSeed = false ∧ s.rb Reg.AON_STATE 4 = true ∧ s.kernelState 0 ≤ 1) ∧
    (let s := running.setDomain 1 10 3
     s.domainState 1 10 = 3 ∧ s.kernelState 1 = 2) := by decide +kernel

theorem Sys2Proof.Tests.wit_KernelFaultsAreRecovered :
    allowed cmdSysReset (ask 1 [1]) running = true ∧ allowed cmdSysReset (ask 15 [0x502]) running = true ∧
    (allowed cmdKernelRecover (ask 1 []) running = true ∧ running.kernelState 1 = 2 ∧ running.recovery? 1 = none) ∧
    (running.hasKernel 1 = true ∧ running.kernelRuns 1 = true ∧ running.lead = 0 ∧ running.kernelState 0 = 2 ∧
     running.canPassLead 1 = true) ∧
    (let s := (running.setRf (Reg.KERNEL_STATE 1) 0 4 5).addJob (job 9 5 5 [1, 0, 0, 1])
     s.kernelState 1 = 5 ∧ (s.recovery? 1).isSome = true) := by decide +kernel

theorem Sys2Proof.Tests.wit_HostTransportsMove :
    connected.spiSpace = true ∧ (State.reset.setPart { State.reset.part with spiSeen := true }).spiSpace = false ∧ connected.viaUp (.usb 0) = true ∧
    (let s := connected.setEp .spi { up := true, replies := [replyPacket 8 (ask 0 []) .done 0 []] }
     (s.ep .spi).reading = none ∧ (s.ep .spi).replies = [replyPacket 8 (ask 0 []) .done 0 []]) ∧
    connected.viaUp (.pcie 0) = true ∧ (connected.pcieFn 0).busy.testBit 7 = false ∧
    ((connected.setPcieFn 0 { busy := 128 }).pcieFn 0).busy.testBit 7 = true := by decide +kernel

theorem Sys2Proof.Tests.wit_RemoteRequestsRunAndReturn :
    connected.hears 0 0 = true ∧ connected.portOpen 0 0 = true ∧ (connected.taken 0 0).viaUp (.link 0 0) = true ∧
    (let b := packetBytes (replyPacket 8 { ask 0 [] with flags := 0 } .done 0 [])
     let b' := packetBytes { opcode := 8, tag := 1, flags := 0, target := 0, status := 0, detail := 0, data := [] }
     ctrlGood b' = true ∧ isLinkOpcode (halfAt b' 0) = false ∧ byteAt b' 3 % 2 = 0 ∧ ctrlGood (b.drop 1) = false) ∧
    (let q : RemoteReq := { linkTag := 5, via := .spi, slot := 0, opcode := 8, tag := 9, flags := 2, target := 0, job := none }
     let s := connected.setPort 0 0 { remote := [q], late := [(6, 8, 9)] }
     s.hears 0 0 = true ∧ ((s.port 0 0).remote.find? fun q => q.linkTag == 5) = some q ∧
     ((s.port 0 0).remote.find? fun q => q.linkTag == 6) = none ∧ ((s.port 0 0).late.find? fun l => l.1 == 6) = some (6, 8, 9)) := by
  decide +kernel

theorem Sys2Proof.Tests.wit_LinkPortCommandsRun :
    admitted cmdPortInfo (ask 0x30 []) running = true ∧
    (let s := (portAt 3 5).setPort 0 3 { attached := true }
     admitted cmdPortCastOn (ask 0x30 [1]) s = true ∧ s.portState 0 3 = 5 ∧ (s.port 0 3).attached = true) ∧
    (let s := portAt 3 3
     admitted cmdPortBindOff (ask 0x30 [1000]) s = true ∧ s.portState 0 3 = 3 ∧ (portHeld s 0 3).1 = false ∧
     admitted cmdPortPowerState (ask 0x30 [2, 64, 1000]) s = true) ∧
    admitted cmdPortEqSelect (ask 0x30 [15]) running = true ∧ admitted cmdPortAlignMode (ask 0x30 [1]) running = true ∧
    (admitted cmdPortBitSlip (ask 0x30 [1, 194]) (portAt 3 6) = true ∧ admitted cmdPortPrbs (ask 0x30 [0x301]) (portAt 3 6) = true ∧
     (portAt 3 6).portState 0 3 = 6) := by decide +kernel

theorem Sys2Proof.Tests.wit_PliesRun :
    (let s := (((portAt 0 3).setRf (Reg.LNK_STATE 0 1) 0 4 3).setPort 0 0 { ident := List.replicate 9 0 ++ [0, 0, 4] }).setPort 0 1
       { ident := List.replicate 9 0 ++ [1, 0, 4] }
     admitted cmdPlyForm (ask 0 [0]) s = true ∧ s.tightCondition 0 0 = true ∧ (portHeld s 0 1).1 = false) ∧
    (let s := ((portAt 0 3).setRf (Reg.LNK_STATE 0 0) 10 2 1)
     admitted cmdPlySplit (ask 0 []) s = true ∧ s.isTight 0 0 = true ∧ s.portCtxs 0 0 = [] ∧ s.portRoutes 0 0 = []) := by decide +kernel

theorem Sys2Proof.Tests.wit_RoleSwapsRun :
    (admitted cmdRoleSwapRequest (ask 0x30 [200]) (portAt 3 3) = true ∧ (portAt 3 3).prefersRole 0 3 = false ∧
     (portAt 3 3).swapUnsettled 0 3 = false ∧ (portAt 3 3).drbgUp 0 = true ∧ ((portAt 3 3).port 0 3).swap = none ∧
     (portAt 3 3).formsPly 0 3 = false ∧ (portAt 3 3).hears 0 3 = true ∧ ((portAt 3 3).taken 0 3).swapRefusal 0 3 = none) ∧
    (let s := (portAt 3 3).setRf (Reg.LNK_CTRL 0 3) 4 2 1
     ((s.taken 0 3).swapRefusal 0 3).isSome = true) ∧
    (let s := (portAt 3 3).setPort 0 3 { swap := some { priority := 1, token := 2, attempt := 1, job := some 1, acked := true } }
     s.hears 0 3 = true ∧ ((s.port 0 3).swap.map (·.acked)) = some true ∧ ((s.port 0 3).swap.map (·.flipRow)) = some 0) := by decide +kernel

theorem Sys2Proof.Tests.wit_AttachAndLanesFollow :
    (State.reset.hasPort 7 3 = true ∧ isTypeC 7 3 = false ∧ (State.reset.port 7 3).attached = false ∧ State.reset.kernelState 7 ≠ 2) ∧
    (let s := (portAt 3 0).setPort 0 3 { attached := true }
     (s.port 0 3).attached = true ∧ (s.port 0 3).ready = false ∧ s.castAt 0 3 1 = false) ∧
    (let s := (portAt 3 3).setRb (Reg.LANE_ALIGN 0 3 1) 8 true
     s.rb (Reg.LANE_ALIGN 0 3 1) 8 = true ∧ s.portState 0 3 ≠ 6 ∧ 24 < validIn (2 ^ 25 - 1) ∧ validIn (2 ^ 24 - 1) ≤ 24) ∧
    (let s := (portAt 3 3).setPort 0 3 { hunting := 3 }
     s.portState 0 3 = 3 ∧ (s.port 0 3).hunting ≠ 0) ∧ (portAt 3 5).portState 0 3 = 5 := by decide +kernel

theorem Sys2Proof.Tests.wit_TrainingBursts :
    (casting 3 {}).castAt 0 3 3 = true ∧
    (((casting 3 {}).trainLocks 0 3 ([burst 0 5 true, burst 1 13 true, 0, 0].take 2)).map fun l => (skewOf l, l.all fun a => a.2.2.rxlock)) = some (8, true) ∧
    (((casting 3 {}).trainLocks 0 3 ([burst 1 5 false, burst 0 14 true, 0, 0].take 2)).map fun l => (skewOf l, l.all fun a => a.2.2.rxlock)) = some (9, false) := by
  decide +kernel

theorem Sys2Proof.Tests.wit_CastOnStepsAdvance :
    ([1, 3, 4, 8].all fun n => (casting n {}).castStep 0 3 == n && !(casting n {}).plyForming 0 3 && (casting n {}).portState 0 3 == 2) = true ∧
    (let s := (portAt 3 3).setRf (Reg.LNK_CAST_STEP 0 3) 0 4 9
     s.plyForming 0 3 = false ∧ s.portState 0 3 = 3 ∧ s.castStep 0 3 = 9 ∧ s.tunState 0 (s.ctrlCtx 0 3) ≠ 2) ∧
    (casting 4 {}).authMode 0 3 ≠ 2 ∧
    ((casting 7 {}).castAt 0 3 7 = true ∧ ((casting 7 {}).port 0 3).myErr = none ∧ (casting 8 {}).castAt 0 3 8 = true) := by decide +kernel

theorem Sys2Proof.Tests.wit_CastOnMessages :
    (let s := casting 4 {}
     let b := (List.range 40).map fun i => (i : Byte)
     ((s.castGets 0 3 4 0x10 40 (line (fragments 0x10 b))).map (·.1)) = some b ∧ s.castHears 0 3 = true ∧ s.castStep 0 3 = 4 ∧
     s.castMsgs 0 3 (line [.linkMsg 0x10 1 true []]) ≠ [] ∧ assemble 0x10 40 (s.castMsgs 0 3 (line [.linkMsg 0x10 1 true []])) = none) ∧
    (((casting 6 { role := some 0 }).castGets 0 3 6 0x20 16 (line (fragments 0x20 (1 :: List.replicate 15 0)))).map fun x =>
      (x.1.getD 0 0, (x.2.port 0 3).role)) = some (1, some 0) ∧
    (((casting 7 { rateTry := 2 }).castGets 0 3 7 0x30 16 (line (fragments 0x30 (2 :: List.replicate 15 0)))).map fun x =>
      (byteAt x.1 0 % 4, (x.2.port 0 3).rateTry)) = some (2, 2) ∧
    (((casting 7 {}).castGets 0 3 7 0x31 16 (line (fragments 0x31 (List.replicate 16 0)))).isSome = true) ∧
    (let r := (casting 8 {}).receiveMarker 0 3 (marker 7 65535)
     r.1 = some (7, 65535, true) ∧ r.2.castAt 0 3 8 = true) := by decide +kernel

theorem Sys2Proof.Tests.wit_LinkAuthenticationAdvances :
    ([1, 2, 3].all fun n => (casting 5 { authGot := n }).castAt 0 3 5 && ((casting 5 { authGot := n }).port 0 3).authGot == n) = true ∧
    (((casting 5 {}).castGets 0 3 5 0x50 129 (line (fragments 0x50 (List.replicate 129 7)))).map fun x =>
      (x.1, (x.2.port 0 3).authGot)) = some (List.replicate 129 7, 0) ∧
    (let s := (casting 5 { authGot := 1, policy := [0, 1, 0] }).setReg (Reg.ROOT_STATUS 0) 3
     s.isAnchor 0 3 1 = true ∧ s.engineUp = true) := by decide +kernel

theorem Sys2Proof.Tests.wit_MarkersAndLowPowerStatesFollow :
    (let s := (portAt 3 3).setRf (Reg.LNK_CTRL 0 3) 0 2 2
     s.portState 0 3 = 3 ∧ s.portOpen 0 3 = true ∧ s.rf (Reg.LNK_STATE 0 3) 4 2 = 0 ∧
     1 ≤ s.rf (Reg.LNK_CTRL 0 3) 0 2 ∧ s.cellWaits 0 3 = false ∧ s.huskRefusal 0 3 = none ∧ s.hears 0 3 = true ∧
     (s.taken 0 3).huskRefusal 0 3 = none ∧ (s.receiveMarker 0 3 [⟨0, 0⟩]).1 = none ∧
     s.rf (Reg.LNK_SHELL_IDLE 0 3) 0 16 ≤ ((s.setPort 0 3 { idleRun := 65535 }).port 0 (s.linePort 0 3)).idleRun ∧
     (controlsOf (s.receive 0 3 (line [.shellEnter])).1).any (· == .shellEnter) = true ∧
     (controlsOf (s.receive 0 3 (line [.huskEnter])).1).any (· == .huskEnter) = true) ∧
    (let r := (portAt 3 3).receiveMarker 0 3 (marker 7 65535)
     r.1 = some (7, 65535, true) ∧ r.2.portState 0 3 = 3 ∧ r.2.rf (Reg.ROW_EPOCH 0 (r.2.rowPort 0 3)) 16 16 ≠ 65535) ∧
    ((portAt 3 3).setRf (Reg.LNK_CTRL 0 3) 0 2 0).huskRefusal 0 3 ≠ none ∧
    (let s := (portAt 3 3).setRf (Reg.LNK_STATE 0 3) 4 2 1
     s.rf (Reg.LNK_STATE 0 3) 4 2 = 1 ∧ (s.port 0 (s.linePort 0 3)).shellUntil ≤ (s.port 0 (s.linePort 0 3)).laneBlock (s.laneCount 0 3)) ∧
    (let s := (running.setRf (Reg.LNK_STATE 1 3) 0 4 3).setPort 1 3 { huskAsked := true }
     s.hears 1 3 = true ∧ ((s.taken 1 3).port 1 3).huskAsked = true ∧ s.stateJob 1 = none ∧
     (s.setRf (Reg.LNK_STATE 1 3) 4 2 2).portOpen 1 3 = true ∧ (s.setRf (Reg.LNK_STATE 1 3) 4 2 2).rf (Reg.LNK_STATE 1 3) 4 2 = 2) := by
  decide +kernel

theorem Sys2Proof.Tests.wit_BindOffAndPlyMessagesRun :
    (portAt 3 3).hears 0 3 = true ∧
    (let s := (portAt 3 4).setPort 0 3 { bindCause := 1 }
     s.hears 0 3 = true ∧ s.portState 0 3 = 4 ∧ (s.port 0 3).bindCause ≠ 2) ∧
    ([2, 3, 4].all fun n =>
      let r := (portAt 3 n).receive 0 3 (line [.bindEnd 1])
      (controlsOf r.1).any (· == .bindEnd 1) && r.2.portState 0 3 == n) = true ∧
    (((portAt 2 3).addJob (job 0x0109 1 5 [2])).plyJob? [(0, 2)]).isSome = true := by decide +kernel

theorem Sys2Proof.Tests.wit_TunnelCommandsRun :
    (allowed cmdTunClose (ask 0 [8, 1000]) (tunnel 2) = true ∧ (tunnel 2).tunState 0 8 = 2 ∧ (tunnel 2).ctxJob 0 8 = none) ∧
    admitted cmdTunInfo (ask 0 [511]) running = true ∧ (admitted cmdTunModify (ask 0 [511, 1]) running = true ∧ running.tunState 0 511 = 0) ∧
    (allowed cmdTunRelease (ask 0 [8, 0]) (tunnel 5) = true ∧ (tunnel 5).tunState 0 8 = 5 ∧ (tunnel 5).ctxJob 0 8 = none) ∧
    admitted cmdResumeWindowSet (ask 0x30 [10000]) running = true ∧
    (let s := running.setReg (Reg.RAW_ROUTE_A 0 1023) 0x80000000
     allowed cmdRawRouteSet (ask 0 [1023, 0]) s = true ∧ s.routeValid 0 1023 = true ∧ admitted cmdRawRouteRead (ask 0 [1023]) s = true) ∧
    (let r := ask 0 [1023, packWord [(0, 2, 3), (16, 12, 1023), (31, 1, 1)], packWord [(0, 3, 0), (4, 2, 2), (16, 12, 77)], 920]
     allowed cmdRawRouteSet r running = true ∧ running.routeValid 0 1023 = false ∧ running.reaches 0 0 = true ∧ running.routeIn? 0 3 1023 = none ∧
     running.labelHasSource 0 2 77 = false ∧ (1, 511) ∉ running.portCtxs 0 3 ∧ 920 ≤ running.freeFor 0 2 (some 77)) := by decide +kernel

theorem Sys2Proof.Tests.wit_RowAndGaugeCommandsRun :
    allowed cmdRowTableRead (ask 0x30 [0, 1023, 1]) running = true ∧
    (allowed cmdRowShadowWrite (ask 0x30 [1023, 1, 0x8008]) running = true ∧ running.swapArmed 0 3 = false ∧ running.rowHeld 0 3 = false) ∧
    admitted cmdRowSwap (ask 0x30 []) running = true ∧ admitted cmdGaugeCeilingSet (ask 0x30 [920]) running = true := by decide +kernel

theorem Sys2Proof.Tests.wit_RowAndGaugeCommandsRun_rowSwap :
    running.shadowStray 0 3 = false ∧ running.reserved true 0 3 + running.pendingGauge 0 3 ≤ running.ceiling 0 3 ∧ running.reservedAll 0 3 ≤ 920 := by decide +kernel

theorem Sys2Proof.Tests.wit_TunnelCommandsRun_open :
    (let s := portAt 0 3
     let r := ask 0 [packWord [(0, 16, 0xFFFF), (16, 4, 6), (20, 4, 9)], packWord [(8, 4, 9), (16, 16, 0xFFFF)], 0, 0]
     allowed cmdTunOpen r s = true ∧ s.freeCtx? 0 0 0 = some 8 ∧ s.portOpen 0 0 = true ∧ s.reaches 0 0 = true ∧
     (∀ c ∈ s.adapterChecks true 0 9 0 0 [], c.1 = false) ∧ s.adapterCtx? 0 9 = none ∧ s.routeIn? 0 0 8 = none) := by decide +kernel

theorem Sys2Proof.Tests.wit_OpenAndCloseMessagesRun :
    (let s := (portAt 0 3).setReg (Reg.TUN_ACCEPT 0) 0xFFFFFFFF
     let w : List Word := [packWord [(0, 12, 520), (12, 4, 6), (16, 4, 9)], packWord [(11, 4, 9)], 0]
     s.hears 0 0 = true ∧ (s.taken 0 0).crossing 0 0 (openReqOf w) = none ∧ ((s.taken 0 0).openConditions 0 0 (openReqOf w)).find? (·.1) = none ∧
     (((s.setReg (Reg.TUN_ACCEPT 0) 0).taken 0 0).openConditions 0 0 (openReqOf w)).find? (·.1) ≠ none) ∧
    ((tunnel 1).hears 0 0 = true ∧ ((tunnel 1).taken 0 0).ctxByTag 0 0 0 [1] = some (0, 8) ∧ (tunnel 1).ctxJob 0 8 = none ∧
     ((tunnel 1).taken 0 0).labelTaken 0 8 520 = false ∧ (tunnel 1).hasCtx 0 511 = true) ∧
    ((tunnel 1).setRb (Reg.TUN_CTRL 0 8) 12 true).rb (Reg.TUN_CTRL 0 8) 12 = true ∧
    ((tunnel 2).tunState (labelK 8) (labelT 8) = 2 ∧ ((tunnel 2).taken 0 0).legOn? 0 8 0 0 = none ∧ ((tunnel 3).taken 0 0).ctxByTag 0 0 0 [3] = some (0, 8)) := by decide +kernel

theorem Sys2Proof.Tests.wit_CreditResumeAndViolationMessagesRun :
    (tunnel 2).hears 0 0 = true ∧
    (let c : Cell := { label := 8, cls := 3, first := true, last := true, seq := 0, payload := [] }
     (((tunnel 2).setCtxAt 0 8 0 { unacked := [c] }).ctxAt 0 8 0).unacked ≠ []) ∧
    (let g : Gauge := { items := [], plan := [[{ kind := 0, kernel := 0, index := 8, label := 8, k := 0, p := 0, far := false, hop := 0, old := 0,
                                                  new := 1 }]], ports := [], epoch := 7 }
     let s := (portAt 0 3).addJob { job 0x0304 1 1 [] with gauge := some g }
     s.hears 0 0 = true ∧ s.epochJob 0 0 7 = some 1 ∧ 1 ∈ s.gaugeJobs fun _ => true) ∧
    (let s := (portAt 0 3).setPort 0 0 { pairing := true }
     s.hears 0 0 = true ∧ s.portOpen 0 0 = true ∧ (s.port 0 0).pairing = true ∧ ((s.port 0 0).noticeLog.find? fun v => v.1 == 7) = none) ∧
    (let s := (tunnel 4).setRf (Reg.LNK_STATE 0 0) 0 4 1
     s.portOpen 0 0 = false ∧ s.heldCtxs 0 0 ≠ []) := by decide +kernel

theorem Sys2Proof.Tests.wit_RowAndGaugeCommandsRun_regauges :
    (let s := tunnel 2
     let r := ask 0 [1, packWord [(4, 10, 8)], 5]
     allowed cmdRegauge r s = true ∧ passes (s.gaugeChecks r 0) = true ∧ s.gaugeLink r = none ∧
     s.gaugeOver? ((gaugeEntries r).map fun e => s.gaugeNearItem e.2) [] = none) ∧
    (let g : Gauge := { items := [], plan := [], ports := [] }
     let j := { job 0x0304 1 1 [] with gauge := some g, state := .partly }
     let s := running.addJob j
     allowed cmdRegaugeRollback (ask 0 [1]) s = true ∧ s.gaugeJob? 1 = some j ∧ passes (s.rollbackChecks j g) = true ∧
     farPorts (s.rollbackItems g) = [] ∧ s.gaugeOver? (s.rollbackItems g) [] = none) := by decide +kernel

theorem Sys2Proof.Tests.wit_SwitchCommandsRun :
    (let s := (running.setReg (Reg.SKEIN_SIZE 0 2) 0x400000)
     allowed cmdSkeinCarve (ask 0 [704, 0, 0]) s = true ∧ (∀ i ∈ [2, 3, 4], s.skeinBusy 0 i = false) ∧ s.diagJob 0 = none) ∧
    admitted cmdSkeinInfo (ask 0 []) running = true ∧
    (let r := ask 0 [0x80000005, 0x4002, 0]
     allowed cmdQueueThresholdSet r running = true ∧
     (running.setReg (Reg.CLASS_THRESH 0 5) (packWord [(0, 4, reqField r 16 0 4), (8, 8, reqField r 16 8 8)])).minTotal 0 ≤ running.bufFree 0) ∧
    allowed cmdSchedNodeSet (ask 0 [512, 0x100]) running = true ∧ allowed cmdSchedNodeSet (ask 0 [704, 0x100]) running = true ∧
    allowed cmdShaperSet (ask 0 [576, 5, 6, 0]) running = true ∧ allowed cmdMcastListSet (ask 0 [0x01FF00FF, 1]) running = true ∧
    (allowed cmdLatSampleSet (ask 0 [512, 0x101]) running = true ∧ allowed cmdLatSampleRead (ask 0 [575]) running = true) := by decide +kernel

theorem Sys2Proof.Tests.wit_SwitchEventsAndTestsRun :
    (running.hasCtx 0 8 = true ∧ (running.setRf (Reg.TUN_TYPEREF 0 8) 0 10 3).ctxList? 0 8 ≠ none) ∧ running.hasKernel 1 = true ∧
    (let f : Fence := { set := 0, bucket := 255, member := 0 }
     f ∈ ((running.setKern 0 { fences := [f] }).kern 0).fences ∧ (running.setKern 0 { fences := [f] }).fenceDrained 0 f = true) ∧
    running.noQueue 0 575 = false ∧
    (let s := running.setReg (Reg.LAT_CTRL 0 575) 0x140
     1 ≤ s.rf (Reg.LAT_CTRL 0 575) 0 7 ∧ s.rf (Reg.LAT_CTRL 0 575) 0 7 ≤ 64) ∧
    (let s := running.setSeam 0 0 2
     s.seamState 0 0 = 2 ∧ allowed cmdDiagSeamTest (ask 0 [10000]) s = true ∧ s.diagJob 0 = none ∧ seamPeer s.variant 0 0 ≠ none) ∧
    (running.setSeam 0 0 3).seamState 0 0 = 3 ∧
    (let s := running.addJob (job 0x1104 2 3 [0])
     (s.findRunning fun j => j.opcode == 0x1104 && j.kernel == 0 && (j.args.getD 0 0).toNat == 0 && j.step == 2).isSome = true) ∧
    (let s := running.setReg (Reg.SKEIN_SIZE 0 5) 0x400000
     allowed cmdDiagStoreTest (ask 0 [5, 0, 0x10000]) s = true ∧ s.diagJob 0 = none) ∧
    (let s := running.addJob (job 0x1105 0 1 [5, 0, 0x10000, 0, 0])
     (s.findRunning fun j => j.opcode == 0x1105 && j.kernel == 0).isSome = true) := by decide +kernel

theorem Sys2Proof.Tests.wit_CellsAreSortedByTheirLabel :
    (let s := portAt 0 3
     s.portState 0 0 ∈ [3, 4] ∧ s.lanesHunt 0 0 = false ∧ ((s.setPort 0 0 { hunting := 1 }).lanesHunt 0 0 = true) ∧
     cellOfBlocks (s.receive 0 0 (line [.idle, .idle, .idle])).1 = none ∧
     (cellOfBlocks (s.receive 0 0 (List.replicate 3 ⟨headerData, 0⟩)).1).map cellOfBits = some (List.replicate 72 0)) ∧
    crc8 (List.replicate 7 0) ≠ (1 : Byte) ∧
    (let h : List Byte := [0, 0, 0, 0, 0, 0, 0]
     let raw := h ++ [crc8 h] ++ List.replicate 64 0
     let s := portAt 0 3
     let l := (cellOf raw).label
     crc8 (raw.take 7) = raw.getD 7 0 ∧ s.routeIn? 0 0 l = none ∧
     ((s.setReg (Reg.TUN_CTRL 0 l) 2).setRf (Reg.LNK_STATE 0 0) 0 4 3).labelCtx 0 0 l [1, 2, 3] = true ∧
     (s.setReg (Reg.TUN_CTRL 0 l) 4).labelCtx 0 0 l [1, 2, 3] = false ∧ (s.setReg (Reg.TUN_CTRL 0 l) 4).labelCtx 0 0 l [4, 5] = true ∧
     s.labelCtx 0 0 l [1, 2, 3] = false ∧ s.labelCtx 0 0 l [4, 5] = false) := by decide +kernel

theorem Sys2Proof.Tests.wit_RowsAndHandoversAdvance :
    (let s := (portAt 0 3).setPort 0 0 { pos := 1 }
     s.sendsRows 0 0 = true ∧ s.portState 0 0 ≠ 2 ∧ s.rf (Reg.LNK_STATE 0 0) 4 2 ≠ 1 ∧ (s.port 0 0).pos < s.rowLen 0 0 ∧
     (s.setRf (Reg.LNK_STATE 0 0) 4 2 1).sendsRows 0 0 = true ∧ (s.setRf (Reg.LNK_STATE 0 0) 4 2 1).rf (Reg.LNK_STATE 0 0) 4 2 = 1 ∧
     (s.moveFlights.rowStart 0 0).portState 0 0 ≠ 2) ∧
    (let s := casting 4 { pos := 1 }
     s.sendsRows 0 3 = true ∧ s.portState 0 3 = 2 ∧ (s.port 0 3).pos < s.rowLen 0 3) ∧
    (((tunnel 2).setReg (Reg.TUN_CTRL 0 4) 2).handover? 0 4 0 false [0, 0, 0, 0]).isSome = true ∧
    (let s := (tunnel 2).setOutbox 0 9 [[0, 0, 0, 0]]
     s.outboxOf 0 (s.tunAdapter 0 8) = [[0, 0, 0, 0]] ∧ (s.handover? 0 8 0 false [0, 0, 0, 0]).isSome = true) := by decide +kernel

theorem Sys2Proof.Tests.wit_InputCommandsRun :
    allowed cmdDinConfig (ask 0x10 [0x611, 0]) running = true ∧ allowed cmdEdidProxySet (ask 0x10 [3]) running = true ∧
    (let r := ask 0x10 (4 :: List.replicate 32 0)
     allowed cmdEdidProxySet r running = true ∧ reqBit r 12 2 = true) ∧
    allowed cmdPurlModeSet (ask 0x10 [0x2002]) running = true ∧ allowed cmdExactRegionSet (ask 0x10 [0]) running = true ∧
    allowed cmdDamageConfig (ask 0x10 [1]) running = true ∧ allowed cmdPurlFrameReport (ask 0x10 [1]) running = true := by decide +kernel

/-- Display input 0 of kernel 0 in a state, with its lanes trained. -/
def Sys2Proof.Tests.inputAt (st : Nat) : State :=
  (running.setReg (Reg.DIN_STATUS 0 0) (packWord [(0, 4, st), (4, 3, 4)])).setReg (Reg.DIN_CTRL 0 0) 0x641

theorem Sys2Proof.Tests.wit_InputsFollowTheirSource :
    (inputAt 1).dinState 0 0 = 1 ∧ ((inputAt 2).dinState 0 0 = 2 ∧ 4 ≤ (inputAt 2).rf (Reg.DIN_CTRL 0 0) 4 3 ∧ 6 ≤ (inputAt 2).rf (Reg.DIN_CTRL 0 0) 8 4) ∧
    (inputAt 3).dinState 0 0 = 3 ∧ (inputAt 4).dinState 0 0 ∈ [2, 4] ∧ ((inputAt 3).setDin 0 0 { pulse := true }).hasKernel 0 = true ∧
    (((inputAt 3).setDin 0 0 { pulse := true }).din 0 0).pulse = true ∧
    (let f : InFrame := { width := 640, height := 480, hTotal := 800, vTotal := 525, pixelRate := 25200, period := 16666667, sampling := 0,
                          rgb := true, ten := false, limited := false, matrix := 0,
                          interlaced := false, standard := true, planes := [] }
     let t := (((((inputAt 1).noteForm 0 0 f).setDinState 0 0 3).noteFrame 0 0 f).bump (Reg.DIN_FRAMES 0 0) 1).noteExact 0 0 f
     frameAccepted f = true ∧ t.adapterOpen? 0 3 = none) := by decide +kernel

theorem Sys2Proof.Tests.wit_InputsCodeFrames :
    (let f : InFrame := { width := 640, height := 480, hTotal := 800, vTotal := 525, pixelRate := 25200, period := 16666667, sampling := 0,
                          rgb := true, ten := false, limited := false, matrix := 0, interlaced := false, standard := true, planes := [] }
     let s := (tunnelTo 3 3 2).setRegs [(Reg.DIN_STATUS 0 0, packWord [(0, 4, 1), (4, 3, 4)]), (Reg.DIN_CTRL 0 0, 0x641)]
     let t := ((((s.noteForm 0 0 f).setDinState 0 0 3).noteFrame 0 0 f).bump (Reg.DIN_FRAMES 0 0) 1).noteExact 0 0 f
     let v := (((((s.setDin 0 0 { sending := true }).noteForm 0 0 f).setDinState 0 0 3).noteFrame 0 0 f).bump (Reg.DIN_FRAMES 0 0) 1).noteExact 0 0 f
     frameAccepted f = true ∧ t.adapterOpen? 0 3 ≠ none ∧ (t.din 0 0).sending = false ∧ v.adapterOpen? 0 3 ≠ none ∧ (v.din 0 0).sending = true ∧
     frameAccepted { f with interlaced := true } = false ∧ (s.noteFrame 0 0 { f with interlaced := true }).dinState 0 0 ≠ 4 ∧
     ((s.setDinState 0 0 4).noteFrame 0 0 { f with interlaced := true }).dinState 0 0 = 4) := by decide +kernel

theorem Sys2Proof.Tests.wit_ReversePacketsAreRead :
    (let p (a b : Byte) : List Byte := [a, 1, 0, 0, b] ++ List.replicate 200 0
     let one (b : List Byte) : Bool := (((waiting 3 3 b).adapterOpen? 0 3).bind fun t => (waiting 3 3 b).takeAdapter 0 t).map (·.1.2) == some b
     one (p 0x11 1) = true ∧ one (p 0x11 0) = true ∧ one (p 0x12 0) = true ∧ one (p 0x13 0) = true ∧ one (p 0x14 0) = true ∧ one [0x11, 1] = true ∧
     (reverseOk (p 0x11 1) = true ∧ reverseOk (p 0x11 0) = true ∧ ptypeOf (p 0x11 1) = 0x11 ∧ byteAt (p 0x11 1) 4 % 2 = 1 ∧ byteAt (p 0x11 0) 4 % 2 = 0) ∧
     (reverseOk (p 0x12 0) = true ∧ reverseOk (p 0x13 0) = true ∧ reverseOk [0x11, 1] = false ∧ reverseOk (p 0x14 0) = false)) := by decide +kernel

theorem Sys2Proof.Tests.wit_ForwardPacketsBuildFrames :
    (let p (a : Byte) : List Byte := [a, 1, 0, 0] ++ List.replicate 20 0
     let one (b : List Byte) : Bool := ((waiting 5 3 b).sinkTake 0 0).map (·.1) == some b
     one (p 1) = true ∧ one (p 2) = true ∧ one (p 3) = true ∧ one (p 4) = true ∧ one (p 5) = true ∧ one [1, 1] = true ∧
     ([1, 2, 3, 4].all fun a => forwardOk (p a)) = true ∧ forwardOk (p 5) = false ∧ forwardOk [1, 1] = false ∧
     (((waiting 5 3 (p 4)).sinkTake 0 0).map fun u => (u.2.dout 0 0).ended) = some false) ∧
    ((running.setDout 0 0 { scanning := true }).dout 0 0).scanning = true ∧
    (let f : FrameSet := { set := 0, frame := 0, size := 0, form := 0, index := [(0, 1)] }
     let s := (running.setRf (Reg.CHK_CFG 0 2) 12 2 3).setDout 0 0 { front := some f }
     s.guarded 0 0 = true ∧ (s.dout 0 0).front = some f ∧ (f.index.find? fun x => x.1 == 0 && decide (0 < 3)) = some (0, 1)) := by decide +kernel

/-- Display output 0 of kernel 0 enabled, in a state, in INDEPENDENT mode. -/
def Sys2Proof.Tests.outputAt (st : Nat) : State :=
  running.setRegs [(Reg.DOUT_STATUS 0 0, word st), (Reg.DOUT_CTRL 0 0, 1), (Reg.DOUT_PAIR 0 0, 3), (Reg.DOUT_TIM_ACTIVE 0 0 0, 0x04380780)]

theorem Sys2Proof.Tests.wit_OutputCommandsRun :
    (let r := ask 0 [0x01E00280, 0x020D0320, 0x00600010, 0x020A, 25200, 0x0140]
     allowed cmdDoutTimingStage r (outputAt 1) = true ∧ (outputAt 1).rb (Reg.DOUT_CTRL 0 0) 0 = true ∧ (outputAt 1).pairMode 0 = 3) ∧
    (allowed cmdDoutPairSet (ask 0 [0x33]) running = true ∧ running.dout1Used 0 = false) ∧
    allowed cmdFrameLockSet (ask 0 [0x07D00003, 16666667, 0, 1000]) running = true ∧
    allowed cmdPsrConfig (ask 0x10 [0x200]) running = true ∧ allowed cmdTestPattern (ask 0 [1, 0]) (outputAt 1) = true ∧
    allowed cmdDoutStatus (ask 0x10 [1]) running = true := by decide +kernel

theorem Sys2Proof.Tests.wit_OutputsFollowTheirPanel :
    (outputAt 3).generatorRuns 0 0 = true ∧ ((outputAt 4).outputOn 0 0 = true ∧ (outputAt 4).doutState 0 0 ∈ [3, 4] ∧
      1079 < (outputAt 4).rf (Reg.DOUT_TIM_ACTIVE 0 0 0) 16 13 ∧ (outputAt 4).pairMode 0 = 3) ∧
    (outputAt 1).rb (Reg.DOUT_STATUS 0 0) 4 = false ∧ (outputAt 0x14).rb (Reg.DOUT_STATUS 0 0) 4 = true ∧
    ((outputAt 2).doutState 0 0 = 2 ∧ ((outputAt 2).dout 0 0).up = false ∧
     (((outputAt 2).setRf (Reg.DOUT_STATUS 0 0) 12 3 4).setRf (Reg.DOUT_STATUS 0 0) 16 4 5).doutState 0 0 = 2) ∧
    (let s := (outputAt 5).setDout 0 0 { behind := true }
     s.doutState 0 0 = 5 ∧ (s.dout 0 0).behind = true ∧
     ((s.setRf (Reg.DOUT_STATUS 0 0) 12 3 4).setRf (Reg.DOUT_STATUS 0 0) 16 4 5).doutState 0 0 = 5) ∧ (outputAt 6).doutState 0 0 = 6 := by decide +kernel

/-- Kernel 0 with its bridge in a form, with words of PCIE_STATUS. -/
def Sys2Proof.Tests.bridged (form : Nat) (status : Word) : State :=
  ((tunnelTo pcieAdapter 1 2).setBridge 0 { form := form }).setReg (Reg.PCIE_STATUS 0) status

theorem Sys2Proof.Tests.wit_PcieCommandsRun :
    (allowed cmdPcieConfig (ask 0 [0x15, 4000, 64]) running = true ∧ running.pcieUsed 0 = false) ∧
    (allowed cmdPcieWindow (ask 0 [0x107, 0x1000, 0, 0x1000, 0, 16]) (bridged 1 0) = true ∧ ((bridged 1 0).bridge 0).form = 1) ∧
    ((bridged 1 0).windowFault 0 7 0x1000 0x1000 16 = none ∧ (bridged 1 0).windowFault 0 7 0 0 0 ≠ none) ∧
    allowed cmdPcieStatus (ask 0 [1]) running = true ∧ allowed cmdPcieReadaheadLog (ask 0 [0x201F]) running = true := by decide +kernel

theorem Sys2Proof.Tests.wit_BridgePacketsAreTaken :
    (let p (a : Byte) : List Byte := [a, 1, 0, 0] ++ List.replicate 12 0
     let s (a : Byte) (form : Nat) : State := (waiting pcieAdapter 1 (p a)).setBridge 0 { form := form }
     let form (a : Byte) (f : Nat) : Bool := (((s a f).adapterOpen? 0 pcieAdapter).bind fun t => (s a f).takeAdapter 0 t).map
       (fun u => (u.1, (u.2.bridge 0).form)) == some ((false, p a), f)
     form 1 1 = true ∧ form 2 1 = true ∧ form 3 2 = true ∧ form 0x10 1 = true ∧ form 0x11 1 = true ∧ form 0x12 2 = true ∧ form 0x13 1 = true ∧
     form 0x14 1 = true ∧ displayOk (p 1) 0 = true ∧ byteAt (p 0x14) 0 ∉ [1, 2, 3, 0x10, 0x11, 0x12, 0x13]) := by decide +kernel

theorem Sys2Proof.Tests.wit_BridgesFollowTheirLinks :
    (let q : NpOut := { reqId := 1, tag := 2, addr := 0, left := 0, resvH := 0, resvD := 0, hdr := [] }
     let s := running.setBridge 0 { form := 1, np := [q] }
     ((s.bridge 0).np.find? fun q => q.reqId == 1 && q.tag == 2) = some q ∧
     ((s.bridge 0).raReqs.find? fun q => (s.bridge 0).form == 1 && 1 == (s.bridge 0).downId && q.tag == 2) = none) ∧
    ((bridged 1 2).bridge 0).form = 1 ∧ ((bridged 1 2).bridge 0).perst = false ∧ (bridged 1 2).rf (Reg.PCIE_STATUS 0) 0 4 = 2 ∧
    (bridged 2 3).rf (Reg.PCIE_STATUS 0) 0 4 = 3 ∧ ((bridged 2 3).bridge 0).form = 2 ∧
    ((bridged 2 1).rb (Reg.PCIE_STATUS 0) 13 = false ∧ (bridged 2 1).rf (Reg.PCIE_STATUS 0) 0 4 = 1) ∧
    ((bridged 2 0x2000).bridgeOpen 0 = true ∧ (bridged 2 0x2000).rb (Reg.PCIE_STATUS 0) 13 = true) ∧
    (tlpOk ([0, 0, 0, 1] ++ List.replicate 8 0) = true ∧ running.domainOn 0 9 = true) := by decide +kernel

/-- Kernel 0 with a hub of a form, its tunnel Open with a packet waiting; a host end is connected and enabled. -/
def Sys2Proof.Tests.hubbed (form : Nat) (packet : List Byte) (status : Word := 1) (eps : List (Nat × UsbEp) := []) : State :=
  ((waiting usbAdapter 2 packet).setHub 0 { form := form, conn := true, hubAddr := 5, hubConf := 1, port5 := 2, eps := eps }).setReg
    (Reg.USBH_STATUS 0) status

theorem Sys2Proof.Tests.wit_HubCommandsAndBusEventsRun :
    (allowed cmdUsbConfig (ask 0 [0x441]) running = true ∧ running.usbNoTunnel 0 = true) ∧
    (allowed cmdUsbEpLayout (ask 0 [0x00400000, 0x06000040, 0x06000640, 0x02000C40]) running = true ∧ running.usbConfigured 0 = false) ∧
    (allowed cmdUsbPortPower (ask 0 [0x203]) (hubbed 2 []) = true ∧ ((hubbed 2 []).hub 0).form = 2) ∧
    allowed cmdUsbStatus (ask 0 [0]) running = true ∧
    (((hubbed 1 []).hub 0).form = 1 ∧ ((hubbed 1 []).hub 0).conn = true ∧ (hubbed 1 []).rf (Reg.USBH_STATUS 0) 0 4 = 1 ∧
     (hubbed 1 []).domainOn 0 11 = true) ∧
    (let s := ((hubbed 1 []).setHub 0 { form := 1, resuming := true }).setReg (Reg.USBH_STATUS 0) 3
     s.rf (Reg.USBH_STATUS 0) 0 4 = 3 ∧ (s.hub 0).resuming = true) ∧
    (let e : UsbEp := {}
     let s := { (hubbed 1 []).setHub 0 { form := 1, eps := [(epKey 1 1 true, e)] } with now := 1000000000 }
     (s.hub 0).ep? (epKey 1 1 true) = some e ∧ e.used + 1000000000 ≤ s.now ∧ e.credit = 0 ∧ e.want = 0) := by decide +kernel

theorem Sys2Proof.Tests.wit_TokensAreAnswered :
    (let s := hubbed 1 []
     let t : UsbTok := { addr := 5, ep := 1, uf := 8, port := 0, complete := false, low := false, ty := 2 }
     (s.hub 0).conn = true ∧ s.rf (Reg.USBH_STATUS 0) 0 4 = 1 ∧ bitAt (s.hub 0).port5 1 = true ∧
     s.usbConfigured 0 = false ∧ (s.hub 0).hubConf ≠ 0 ∧ t.addr = (s.hub 0).hubAddr ∧
     ((s.setReg (Reg.USBD_STATUS 0) 0x502).usbConfigured 0 = true ∧ (s.setReg (Reg.USBD_STATUS 0) 0x502).rf (Reg.USBD_STATUS 0) 8 7 = 5) ∧
     (let u := (s.setHub 0 { form := 1, conn := true }).hostFrame 0 (t.uf % 16384)
      ((u.adapterCtx? 0 usbAdapter).map (u.tunState 0)) = some 2 ∧
      u.takeEp 0 (epKey 5 1 true) (upAttr t) = some { attr := upAttr t } ∧ u.takeEp 0 (epKey 5 1 false) (upAttr t) = some { attr := upAttr t })) := by
  decide +kernel

/-- The state after the one packet that waits in context T8 has been taken. -/
def Sys2Proof.Tests.after (s : State) : State := ((s.takeAdapter 0 8).map (·.2)).getD s

theorem Sys2Proof.Tests.wit_TokensAreAnswered_results :
    (let b : List Byte := [3, 1, 0, 0, 1, 0, 0, 0, 0, 0, 0, 0]
     hubHears 0 1 [3, 5, 8, 0x12, 0x14] (hubbed 1 b) 8 b (after (hubbed 1 b)) ∧ tokenFits 0 (hubbed 1 b) b ∧
     dataOk (b.drop 4) 8 = true ∧ byteAt (b.drop 4) 4 % 8 = 0) ∧
    (let b (c : Byte) : List Byte := [5, 1, 0, 0, 1, 0, 0, 0, c, 0, 0, 0]
     let s (c : Byte) : State := hubbed 1 (b c) 1 [(tokKey 1, {})]
     (hubHears 0 1 [3, 5, 8, 0x12, 0x14] (s 2) 8 (b 2) (after (s 2)) ∧ tokenFits 0 (s 2) (b 2) ∧
      ((after (s 2)).hub 0).ep? (tokKey ((bytesWords (((b 2).drop 4).take 4)).getD 0 0)) = some {} ∧ byteAt ((b 2).drop 4) 4 % 8 = 2) ∧
     (hubHears 0 1 [3, 5, 8, 0x12, 0x14] (s 3) 8 (b 3) (after (s 3)) ∧ tokenFits 0 (s 3) (b 3) ∧
      ((after (s 3)).hub 0).ep? (tokKey ((bytesWords (((b 3).drop 4).take 4)).getD 0 0)) = some {} ∧ byteAt ((b 3).drop 4) 4 % 8 = 3)) := by
  decide +kernel

theorem Sys2Proof.Tests.wit_TokensAreAnswered_isochronous :
    (let b : List Byte := [8, 1, 0, 0, 1, 0, 0, 0, 0, 0, 0, 0]
     hubHears 0 1 [3, 5, 8, 0x12, 0x14] (hubbed 1 b) 8 b (after (hubbed 1 b)) ∧ tokenFits 0 (hubbed 1 b) b ∧ dataOk (b.drop 4) 8 = true) := by
  decide +kernel

theorem Sys2Proof.Tests.wit_HubPacketsAreTaken_host :
    (let b : List Byte := [0x12, 1, 0, 0, 4, 0, 0, 0, 0, 0, 0, 0]
     hubHears 0 1 [3, 5, 8, 0x12, 0x14] (hubbed 1 b) 8 b (after (hubbed 1 b)) ∧ byteAt (b.drop 4) 0 % 8 = 4 ∧
     bitAt ((bytesWords (slice (b.drop 4) 4 4)).getD 0 0) 17 = false ∧ ((after (hubbed 1 b)).hub 0).waitReq = none) ∧
    (let b : List Byte := [0x14, 1, 0, 0, 1, 0, 0, 0]
     let s := hubbed 1 b 0x23
     hubHears 0 1 [3, 5, 8, 0x12, 0x14] s 8 b (after s) ∧ byteAt (b.drop 4) 0 % 8 = 1 ∧ (after s).rf (Reg.USBH_STATUS 0) 0 4 = 3 ∧
     ((after s).hub 0).resuming = false ∧ (after s).rb (Reg.USBH_STATUS 0) 5 = true) := by decide +kernel

theorem Sys2Proof.Tests.wit_HubPacketsAreTaken_dockData :
    (let b : List Byte := [1, 1, 0, 0, 1, 0, 0x80, 0] ++ List.replicate 8 0
     let w := (bytesWords ((b.drop 4).take 4)).getD 0 0
     hubHears 0 2 [1, 2, 4, 6, 7, 0x10, 0x11, 0x13] (hubbed 2 b) 8 b (after (hubbed 2 b)) ∧ tokenFits 0 (hubbed 2 b) b ∧ b.length = 16 ∧
     fld w 20 12 = 8 ∧ (((after (hubbed 2 b)).takeEp 0 (tokKey w) (tokAttr w)).getD {}).onBus = false) ∧
    (let b : List Byte := [2, 1, 0, 0, 0x81, 0, 0, 0, 4, 0, 0, 0]
     hubHears 0 2 [1, 2, 4, 6, 7, 0x10, 0x11, 0x13] (hubbed 2 b) 8 b (after (hubbed 2 b)) ∧ tokenFits 0 (hubbed 2 b) b ∧
     byteAt (b.drop 4) 4 % 8 = 4) ∧
    (let b : List Byte := [4, 1, 0, 0, 0x81, 0, 0, 0]
     let w := (bytesWords ((b.drop 4).take 4)).getD 0 0
     let s := hubbed 2 b 1 [(tokKey w, { credit := 1 })]
     hubHears 0 2 [1, 2, 4, 6, 7, 0x10, 0x11, 0x13] s 8 b (after s) ∧ tokenFits 0 s b ∧ dataOk (b.drop 4) 4 = true ∧ tokKey w % 32 ≠ 0 ∧
     (((after s).takeEp 0 (tokKey w) (tokAttr w)).getD {}).credit ≠ 0) := by decide +kernel

theorem Sys2Proof.Tests.wit_HubPacketsAreTaken_dockState :
    (let b : List Byte := [6, 1, 0, 0, 0x81, 0, 0, 0]
     hubHears 0 2 [1, 2, 4, 6, 7, 0x10, 0x11, 0x13] (hubbed 2 b) 8 b (after (hubbed 2 b)) ∧ tokenFits 0 (hubbed 2 b) b) ∧
    (let b : List Byte := [7, 1, 0, 0, 0x81, 0, 0, 0, 0, 0, 0, 0]
     hubHears 0 2 [1, 2, 4, 6, 7, 0x10, 0x11, 0x13] (hubbed 2 b) 8 b (after (hubbed 2 b)) ∧ tokenFits 0 (hubbed 2 b) b ∧
     dataOk (b.drop 4) 8 = true) := by decide +kernel

theorem Sys2Proof.Tests.wit_HubPacketsAreTaken_dockBus :
    (let b : List Byte := [0x10, 1, 0, 0, 0xFF, 0x3F, 0, 0]
     hubHears 0 2 [1, 2, 4, 6, 7, 0x10, 0x11, 0x13] (hubbed 2 b) 8 b (after (hubbed 2 b))) ∧
    (let b : List Byte := [0x11, 1, 0, 0, 0x74, 0, 0, 0]
     hubHears 0 2 [1, 2, 4, 6, 7, 0x10, 0x11, 0x13] (hubbed 2 b) 8 b (after (hubbed 2 b)) ∧ byteAt (b.drop 4) 0 % 8 = 4 ∧
     byteAt (b.drop 4) 0 / 16 = 7) ∧
    (let b : List Byte := [0x13, 1, 0, 0, 1, 0, 0, 0]
     hubHears 0 2 [1, 2, 4, 6, 7, 0x10, 0x11, 0x13] (hubbed 2 b) 8 b (after (hubbed 2 b)) ∧ byteAt (b.drop 4) 0 / 16 % 2 = 0 ∧
     byteAt (b.drop 4) 0 % 4 = 1) := by decide +kernel

theorem Sys2Proof.Tests.wit_DownstreamPortsFollow :
    (let x : UsbEp := { attr := 2 }
     let s := (hubbed 2 []).setHub 0 { form := 2, bus := 1, eps := [(epKey 1 1 false, x)] }
     (s.hub 0).form = 2 ∧ s.domainOn 0 11 = true ∧ s.adapterOpen? 0 usbAdapter ≠ none ∧ (s.hub 0).ep? (epKey 1 1 false) = some x ∧
     (let w := (s.setReg (Reg.USBH_PORT 0 3) 0x113).portStatus 0 3
      w.testBit 0 = true ∧ w.testBit 1 = true ∧ w.testBit 4 = true ∧ w.testBit 8 = true) ∧ (s.hub 0).bus ≠ 0 ∧ (s.hub 0).waking.testBit 3 = false ∧
     ((s.setReg (Reg.USBH_PORT 0 3) 0x100).portStatus 0 3).testBit 0 = false ∧ s.rf (Reg.USBH_PORT_PWR 0 3) 0 2 = 0 ∧
     (s.setRf (Reg.USBH_PORT_PWR 0 3) 0 2 2).rf (Reg.USBH_PORT_PWR 0 3) 0 2 = 2) := by decide +kernel

/-- Kernel 0 with Ethernet port 0 on a medium and its link up, and a tunnel with one packet waiting. -/
def Sys2Proof.Tests.wired (packet : List Byte) : State :=
  (waiting (ethAdapter 0) 6 packet).setRegs [(Reg.ETH_CTRL 0 0, 0x24000001), (Reg.ETH_STATUS 0 0, 7), (Reg.PTP_CTRL 0, 1)]

theorem Sys2Proof.Tests.wit_EthernetPortsFollow_commands :
    (allowed cmdEthConfig (ask 0x10 [1, 9216]) running = true ∧ running.ethBusy 0 1 = false ∧
     reqField (ask 0x10 [1, 9216]) 12 0 3 ≠ fld (running.reg (Reg.ETH_CTRL 0 1)) 0 3) ∧
    (allowed cmdEthConfig (ask 0x10 [0, 1518]) running = true ∧
     reqField (ask 0x10 [0, 1518]) 12 0 3 = fld (running.reg (Reg.ETH_CTRL 0 1)) 0 3) ∧
    (let s := running.setRegs [(Reg.ETH_CTRL 0 0, 1), (Reg.ETH_CTRL 0 1, 1)]
     allowed cmdPrpPairSet (ask 0 [3, 10000, 10]) s = true ∧ s.medium 0 0 ≠ 0 ∧ s.medium 0 1 ≠ 0 ∧ s.ethBusy 0 0 = false ∧ s.ethBusy 0 1 = false) ∧
    allowed cmdEthStatus (ask 0x10 [1]) running = true := by decide +kernel

theorem Sys2Proof.Tests.wit_EthernetPortsFollow_ports :
    (let s := wired []
     s.domainOn 0 10 = true ∧ s.ethLink 0 0 = true ∧
     (let u := s.setReg (Reg.ETH_STATUS 0 0) 0
      u.medium 0 0 ≠ 0 ∧ u.rb (Reg.ETH_STATUS 0 0) 5 = false ∧ u.ethLink 0 0 = false) ∧
     ((s.setRb (Reg.ETH_STATUS 0 0) 4 true).setRb (Reg.ETH_STATUS 0 0) 5 false).rb (Reg.ETH_STATUS 0 0) 5 = false ∧
     (let u := s.setReg (Reg.PRP_CTRL 0) 3
      u.paired 0 = true ∧ u.rb (Reg.PRP_STATUS 0) 0 ≠ u.ethLink 0 0 ∧ u.rb (Reg.PRP_CTRL 0) 1 = true)) := by decide +kernel

theorem Sys2Proof.Tests.wit_EthernetPortsFollow_packets :
    (let b (a : Byte) : List Byte := [a, 1, 0, 0] ++ List.replicate 60 0
     (wired (b 1)).adapterOpen? 0 (ethAdapter 0) = some 8 ∧ (((wired (b 1)).net 0).eth 0).pauseEnd ≤ (wired (b 1)).now ∧
     ((wired (b 1)).takeAdapter 0 8).map (·.1) = some (false, b 1) ∧ (b 1).length ≤ (wired (b 1)).maxFrame 0 0 ∧
     etherType ((b 1).drop 4) ≠ 0x88F7 ∧ (((wired (b 1)).takeAdapter 0 8).map fun x => x.2.paired 0) = some false ∧
     ((wired (b 3)).takeAdapter 0 8).map (·.1) = some (false, b 3) ∧ byteAt (b 3) 0 ∉ [1, 2]) := by decide +kernel

theorem Sys2Proof.Tests.wit_TimeCommandsRun :
    allowed cmdTimeSourceList (ask 0 [0x3C01, 0x01]) running = true ∧
    (allowed cmdTimeRead (ask 0 []) (running.putTimeState 0 7 0) = true ∧ (running.putTimeState 0 7 0).timeSource = 7) ∧
    (allowed cmdTimeSet (ask 0 [5, 0, 0, 37]) running = true ∧ running.timeState = 0) ∧
    (allowed cmdPtpConfig (ask 0 [0x30001, 0]) running = false ∧ allowed cmdPtpConfig (ask 0 [0x20001, 0]) running = true) ∧
    allowed cmdAsymmetrySet (ask 0x30 [100000000]) running = true ∧ allowed cmdLogRead (ask 0 [0, 31]) running = true ∧
    allowed cmdBlackboxRead (ask 0 [255, 31]) running = true := by decide +kernel

theorem Sys2Proof.Tests.wit_TimeCommandsRun_ptp :
    (let b : List Byte := [2, 1, 0, 0] ++ List.replicate 60 0
     let s := (wired b).setRb (Reg.TUN_CTRL 0 8) 12 true
     s.adapterOpen? 0 (ethAdapter 0) = some 8 ∧ ((s.net 0).eth 0).pauseEnd ≤ s.now ∧ b.length ≤ s.maxFrame 0 0 ∧
     ((s.takeAdapter 0 8).map fun x => (x.1, x.2.rb (Reg.TUN_CTRL 0 8) 12, decide (x.2.timeState ≠ 2))) = some ((false, b), true, true)) ∧
    ((wired []).ethLink 0 0 = true ∧ (wired []).rf (Reg.PTP_CTRL 0) 0 2 ≠ 0) := by decide +kernel

theorem Sys2Proof.Tests.wit_TimebaseFollowsItsInputs :
    (let s := ({ running with tb := { running.tb with refclk := true } } : State).setTime (timeSrcOff 0) 0x04
     let t := s.putTimeState 0 7 0
     t.bestSource = 0 ∧ t.timeSource = 7) ∧
    (let s : State := { running.putTimeState 3 7 0 with now := 70000000000000 }
     s.timeState = 3 ∧ s.tb.lostAt + fld (s.timeReg 0x018) 0 16 * 1000000000 ≤ s.now) ∧
    running.tb.refclk = !true ∧ (running.putTimeState 2 0 1).timeState = 2 ∧ running.tb.irigSec = none ∧ running.rb (Reg.TIME_CTRL 0) 2 = false ∧
    ((portAt 3 3).portOpen 0 3 = true ∧ (portAt 3 3).rf (Reg.LNK_STATE 0 3) 4 2 ≠ 2 ∧
      (let x := (portAt 3 3).port 0 3
       let q := (portAt 3 3).linePort 0 3
       let n := (portAt 3 3).laneCount 0 3
       let c := controlBlock ((scrOf n n).getD 0 0) (.rowInfo 5 0 0 2 true 0)
       let b := [c, c, c, c, c, c].take 1
       controlsOf (((portAt 3 3).setPort 0 q { x with rxBlk := n, rxScr := scrOf n n }).receive 0 3 b).1 = [.rowInfo 5 0 0 2 true 0])) ∧
    (((portAt 3 3).setCtxAt 0 4 3 { rxq := [(false, [])] }).ctxAt 0 4 3).rxq = [(false, [])] := by decide +kernel

theorem Sys2Proof.Tests.wit_MapperCommandsRun :
    (let r := ask 0xFF0 [0, 0, 0, 0, 0, 0, 0]
     allowed cmdSmapSignalSet r running = true ∧ running.sigPublished 0 255 = false ∧ admitted cmdSmapSignalRead (ask 0xFF0 []) running = true) ∧
    allowed cmdGooseSubscribe (ask 0xF0 [0, 0, 0, 0]) running = true ∧ allowed cmdGoosePublishSet (ask 0x30 [0, 0, 0, 0, 0, 0]) running = true ∧
    (allowed cmdHidSnoopSet (ask 0x70 [0, 0x00200000]) (running.setHub 0 { form := 2 }) = true ∧ ((running.setHub 0 { form := 2 }).hub 0).form = 2) ∧
    (let r := ask 0x30 [32, 0x04C11DB7, 0, 0, 0]
     allowed cmdCheckUnitSet r running = true ∧ running.unitScan 0 3 = none ∧ running.feedLocked 0 3 0 = false) ∧
    (let s := running.setRegs [(Reg.CHK_CFG 0 3, 0x2000), (Reg.SKEIN_SIZE 0 5, 0x400000)]
     allowed cmdCheckScan (ask 0x30 [0x105, 0, 0x400000]) s = true ∧ s.scanJob 0 = none ∧ s.rf (Reg.CHK_CFG 0 3) 12 2 = 2) ∧
    (allowed cmdSealSet (ask 0 [511, 8]) running = true ∧ allowed cmdSealSet (ask 0 [511, 1]) running = true ∧ running.tunState 0 511 = 0) := by
  decide +kernel

theorem Sys2Proof.Tests.wit_MapperEventsRun :
    ((running.addJob (job 0x0B07 1 4 [3, 0x400000])).scanJob 0 = some (job 0x0B07 1 4 [3, 0x400000])) ∧
    (let s := running.setSub 0 15 { talEnd := some 5 }
     ((s.mapper 0).sub 15).talEnd ≠ none) ∧
    (let s := (running.setPub 0 3 { gather := some 5, newAt := some 1 }).setReg (Reg.GPUB_CTRL 0 3) 1
     ((s.mapper 0).pub 3).gather = some 5 ∧ ((s.mapper 0).pub 3).newAt ≠ none ∧ s.rb (Reg.GPUB_CTRL 0 3) 0 = true) ∧
    running.rf (Reg.GPIO_CFG 0 15) 0 2 ∉ [1, 2] ∧ (∀ f < 8, bitAt (running.reg (Reg.HID_FIELD_A 0 f)) 0 = false) ∧
    (let s := (portAt 3 3).setCtxAt 0 5 3 { rxq := [(false, [])] }
     s.portState 0 3 ∈ [3, 4] ∧ (s.ctxAt 0 5 3).rxq = [(false, [])]) ∧
    ((portAt 3 3).setReg (Reg.TUN_CTRL 0 5) 2).pipPort 0 3 = true ∧
    (let s := (running.setRegs [(Reg.SMAP_CTRL 0 255, 0x80000002), (Reg.SMAP_TIMEOUT 0 255, 1)]).setSig 0 255 { rxAt := some 0 }
     s.sigOn 0 255 = true ∧ s.rf (Reg.SMAP_CTRL 0 255) 0 3 = 2 ∧ s.rf (Reg.SMAP_TIMEOUT 0 255) 0 16 ≠ 0 ∧ ((s.mapper 0).sig 255).rxAt ≠ none) := by
  decide +kernel

/-- A request to the power die. -/
def Sys2Proof.Tests.askPower (params : List Word) : Req := ask 15 params

/-- A running part whose power path has its supply, with LOAD in a state and the feeds in another. -/
def Sys2Proof.Tests.powered (load feed : Nat) : State :=
  let s := running.setRegs ([(Reg.LOAD_STATUS, word load)] ++ (List.range 4).map fun f => (Reg.FEED_STATUS f, word feed))
  { s with part := { s.part with vaon := true } }

theorem Sys2Proof.Tests.wit_PowerCommandsRun :
    allowed cmdPwrFeedStatus (askPower []) running = true ∧
    (let s := running.setReg Reg.LOAD_CTRL 0
     allowed cmdPwrLoadEnable (askPower []) s = true ∧ s.loadState ≠ 4 ∧ s.swEn = false) ∧
    allowed cmdPwrLoadDisable (askPower [10000]) running = true ∧
    allowed cmdPwrBreakerSet (askPower ([0x00010019, 0x000A000A, 6, 25, 8, 50, 7, 75, 6, 100, 5, 125, 4, 150, 3, 175, 2, 200, 1])) running = true ∧
    allowed cmdPwrWarnSet (askPower [0x0050005A, 0x00010001]) running = true ∧ allowed cmdPwrMeterRead (askPower [0x3F]) running = true ∧
    (allowed cmdPwrEnergyClear (askPower [0x1F]) (running.setReg Reg.MTR_SNAP 1) = true ∧ (running.setReg Reg.MTR_SNAP 1).rb Reg.MTR_SNAP 0 = true) ∧
    (powered 4 0).loadState = 4 := by decide +kernel

theorem Sys2Proof.Tests.wit_FeedsAndPanelFollow :
    ((powered 0 3).inSeed = false ∧ (powered 0 3).feedState 3 = 3) ∧ ((powered 0 2).inSeed = false ∧ (powered 0 2).feedState 3 = 2) ∧
    ((powered 0 4).inSeed = false ∧ (powered 0 4).feedState 3 = 4) ∧
    (let s := powered 0 0
     let l := (List.range 6).map fun _ => ((0 : Nat), (0 : Int))
     ((((s.meterSample l).setPanel (codeMilli (l.getD 5 (0, 0)).1).toNat).showMeter).curveSample 0 0).path.feedDue = false ∧ s.pfw = false) ∧
    (let s := powered 0x40 0
     s.inSeed = false ∧ s.pfw = true ∧ (s.setPanel 9000).pfw = true ∧ (s.setPanel 9000).path.dipDur = none) ∧
    (let s := (powered 0x40 0).setPath { (powered 0x40 0).path with dipDur := some 5 }
     s.inSeed = false ∧ s.path.dipDur = some 5 ∧ s.path.dropped = false ∧ s.path.rising = false) := by decide +kernel

theorem Sys2Proof.Tests.wit_LoadFollowsItsInputs :
    ((powered 0 0).inSeed = false ∧ ((powered 0 0).setPanel 5000).panelBelowWarn.path.dropped = false ∧
      ((powered 0 0).setReg Reg.PWR_WARN 50).warnMv ≤ 5000) ∧
    (powered 0 0).loadEn = false ∧ ((powered 8 0).loadEn = true ∧ (powered 8 0).loadState ≠ 4) ∧ (powered 0x80 0).rb Reg.LOAD_STATUS 7 = true ∧
    (let s := powered 1 0
     s.inSeed = false ∧ s.loadState = 1 ∧ s.rf Reg.LOAD_SHORT 16 16 * 10 < 100000 ∧
     ((((s.setRf Reg.LOAD_STATUS 0 3 2).setRb Reg.LOAD_STATUS 5 true).setRegs
        [(Reg.LOAD_FET_ENERGY, 0), (Reg.LOAD_RAMP_TIME, 0)]).logPower Ev.loadOn 2 [0, 0]).path.dropped = false) := by decide +kernel

/-- A running part whose Hooks run an image, with port 0 in a state, with more PDC_STATUS bits, and with what its Hook holds. -/
def Sys2Proof.Tests.cabled (st : Nat) (bits : Word) (x : Hook) : State :=
  let s := { running with part := { running.part with romDue := 0 } }
  ((s.setReg (Reg.PDC_STATUS 0) (bits ||| word st)).setReg (Reg.PDC_CTRL 0) 0x32).setHook 0 { x with image := 1 }

theorem Sys2Proof.Tests.wit_CablePowerCommandsRun :
    allowed cmdPdStatus (ask 15 []) running = true ∧ allowed cmdPdRolePrefSet (ask 15 [0x31]) running = true ∧
    (let s := cabled 5 0x10 {}
     allowed cmdPdSourceCapsSet (ask 15 [1, 0x0001912C]) s = true ∧ s.pdState 0 ∉ [6, 7] ∧ (s.hook 0).image ≠ 0 ∧ s.rf (Reg.PDC_CTRL 0) 0 3 ≠ 4) ∧
    (let s := cabled 4 0 {}
     allowed cmdPdSinkRequest (ask 15 [0, 0]) s = true ∧ s.pdState 0 = 4 ∧ (s.hook 0).ask = none ∧ reqBit (ask 15 [0, 0]) 12 0 = false) ∧
    allowed cmdPdFrsSet (ask 15 [3]) running = true ∧ (allowed cmdCableIdRead (ask 15 []) (cabled 2 0 {}) = true ∧ 2 ≤ (cabled 2 0 {}).pdState 0) ∧
    (let r := ask 15 [1, 0, 4, 0x314E4C45]
     allowed cmdHookPolicyUpdate r running = true ∧ running.findRunning (fun j => j.opcode == 0x0D06) = none ∧
       imageDone (joinImage running.images.hook r) = false) ∧
    [1, 2, 3].all (fun i => ({ running with jobs := [job 0x0D06 i 3 []] }.findRunning fun j => j.opcode == 0x0D06) == some (job 0x0D06 i 3 [])) = true ∧
    { running with images := {} }.imageFault [] 2 ≠ none ∧ (cabled 0 0 {}).hookUp 1 = true ∧
    (let s := { running with hooksDown := [1] }
     s.inSeed = false ∧ s.hooksDown.contains 1 = true ∧ s.pdState 1 ≤ 1) := by decide +kernel

theorem Sys2Proof.Tests.wit_HooksStartAndEnterModes :
    { running with part := { running.part with vaon := false } }.part.vaon = false ∧
    (let s := { running with part := { running.part with romDue := 3 } }
     s.inSeed = false ∧ s.part.romDue.testBit 1 = true) ∧
    ((cabled 4 0 {}).inSeed = false ∧ (cabled 4 0 {}).pdState 0 ∈ [2, 3, 4, 5]) ∧
    ((cabled 0 0 {}).hookUp 0 = true ∧ (cabled 0 0 {}).pdState 0 ≤ 1 ∧ (cabled 0 0 {}).roleAllowed 0 true = true) ∧
    (let s := cabled 4 0x20 {}
     s.hookUp 0 = true ∧ s.attachedPd 0 = true ∧ s.rb (Reg.PDC_STATUS 0) 5 = true) := by decide +kernel

theorem Sys2Proof.Tests.wit_HooksFollowTheirPartner :
    ((cabled 4 0 {}).hookUp 0 = true ∧ (cabled 4 0 {}).attachedPd 0 = true) ∧
    ((cabled 2 0 {}).hookUp 0 = true ∧ (cabled 2 0 {}).pdSource 0 = false ∧ (cabled 2 0 {}).pdState 0 ∈ [2, 4, 8]) ∧
    (let s := cabled 5 0x10 { offer := [0x0001912C] }
     let t := s.setHook 0 { s.hook 0 with partnerFrs := false }
     s.hookUp 0 = true ∧ s.pdSource 0 = true ∧ s.pdState 0 ∈ [3, 5] ∧ 250 * 100 / 50 + s.sourcePower 1 ≤ 10000 ∧
       t.sourcePower 1 = s.sourcePower 1 ∧ t.requestFits 0 0 250 100 = true) ∧
    ((cabled 7 0 {}).hookUp 0 = true ∧ (cabled 7 0 {}).pdState 0 = 7) ∧
    (let s := cabled 4 0 { pend := some (0, 0) }
     s.hookUp 0 = true ∧ (s.hook 0).drAsked = false ∧ (s.hook 0).vconnAsked = false ∧ (s.hook 0).pend ≠ none ∧ s.pdSource 0 = false) ∧
    ((cabled 6 0x10 {}).hookUp 0 = true ∧ (cabled 6 0x10 {}).pdSource 0 = true ∧ (cabled 6 0x10 {}).pdState 0 = 6) ∧
    (let s := cabled 4 0x20 {}
     s.hookUp 0 = true ∧ s.attachedPd 0 = true ∧ s.pdState 0 ∉ [6, 7] ∧ (s.hook 0).image ≠ 0 ∧ s.rf (Reg.PDC_CTRL 0) 0 3 < 3) := by decide +kernel

theorem Sys2Proof.Tests.wit_HooksStartAndEnterModes_2 :
    (let s := (cabled 4 0 {}).setReg (Reg.PDC_CONTRACT 0) 0x20
     s.hookUp 0 = true ∧ s.rb (Reg.PDC_CONTRACT 0) 5 = true ∧ (s.hook 0).image ≠ 0 ∧ s.rb (Reg.PDC_STATUS 0) 10 = false) ∧
    ((cabled 4 0x400 {}).hookUp 0 = true ∧ (cabled 4 0x400 {}).rb (Reg.PDC_STATUS 0) 10 = true) ∧
    (let s := cabled 4 0 { modeWait := true }
     s.hookUp 0 = true ∧ (s.hook 0).modeWait = true ∧ (s.setHook 0 { s.hook 0 with modeWait := false } |>.hook 0).ufpSwap = false) ∧
    (let s := cabled 4 0 { cableAsked := true }
     s.hookUp 0 = true ∧ (s.hook 0).cableAsked = true) := by decide +kernel

theorem Sys2Proof.Tests.wit_HooksFollowTheirPartner_2 :
    (let s := (cabled 4 0 {}).setReg (Reg.PDC_CONTRACT 0) 0x28
     s.hookUp 0 = true ∧ s.pdSource 0 = false ∧ s.rb (Reg.PDC_CONTRACT 0) 5 = true ∧ s.rf (Reg.PDC_CONTRACT 0) 3 2 ≠ 0 ∧ s.pdState 0 ∉ [6, 7]) ∧
    (let s := (cabled 5 0x10 {}).setReg (Reg.PDC_CONTRACT 0) 0x28
     s.hookUp 0 = true ∧ s.pdSource 0 = true ∧ s.pdState 0 = 5 ∧ s.rf (Reg.PDC_CONTRACT 0) 3 2 = 1) ∧
    ((cabled 4 0 {}).hookUp 0 = true ∧ (cabled 4 0 {}).attachedPd 0 = true ∧ (cabled 4 0 {}).pdSource 0 = false ∧
      (cabled 4 0 {}).rb (Reg.PDC_STATUS 0) 8 = false) := by decide +kernel

/-- A running part in Manufacture with a job of K0. -/
def Sys2Proof.Tests.working (opcode step steps : Nat) (args : List Word) : State := { running with jobs := [job opcode step steps args] }

/-- A write session of Needle 0 for an image of 300 bytes, with some data. -/
def Sys2Proof.Tests.writing (data : List Byte) : State :=
  let s := running.setFwSession true 8
  { s with images := { s.images with fw := data, fwLen := 300 } }

theorem Sys2Proof.Tests.wit_KeyCommandsRun :
    allowed cmdKeySlotInfo (ask 0 [5]) running = true ∧
    (let r := ask 0 [0x00040005, 0x47000100, 0]
     allowed cmdKeyDerive r running = true ∧ running.domainOn 0 12 = true ∧ derives r = false ∧ running.keyKind 5 = 0 ∧
       bitAt (running.keyAttr 5) 23 = false) ∧
    (let s := running.setReg (Reg.KEY_ATTR 0 5) 0x47000100
     allowed cmdKeyErase (ask 0 [5]) s = true ∧ s.keyKind 5 ≠ 0 ∧ bitAt (s.keyAttr 5) 23 = false ∧ s.slotInUse 5 = false ∧
       allowed cmdKeyAttrSet (ask 0 [5, 0x43000100]) s = true) ∧
    (allowed cmdLifecycleAdvance (ask 0 [0x4C430001]) running = true ∧ running.lifeCycle ≠ 3 ∧ running.lifeCycle ≠ 1 ∧ (jobLimit running).1 = false ∧
      running.findRunning (fun j => j.opcode == 0x0E05) = none) ∧
    ((working 0x0E05 1 2 []).findRunning (fun j => j.opcode == 0x0E05) = some (job 0x0E05 1 2 []) ∧ (job 0x0E05 1 2 []).abort = false) ∧
    (let r := ask 0 [0, 0xFFFFFFFF, 3600]
     allowed cmdLinkAuthPolicy r running = true ∧ running.kernelRuns (reqTarget r) = true ∧ running.keyKind (reqField r 12 8 6) ≠ 0 ∧
       (List.range 4).all (fun i => reqField r 16 (8 * i) 8 == 0xFF) = true) ∧
    (running.hasKernel 1 = true ∧ running.kernelState 1 ∉ [0, 6] ∧ running.domainOn 1 12 = true) ∧
    (let s := connected.setReg (Reg.CRYPT_STATUS 0 0) 1
     s.hasPort 0 0 = true ∧ s.cryptActive 0 0 = true ∧ s.portOpen 0 0 = true) ∧
    (let s := connected.setPort 0 0 { oldKeys := true }
     s.hasPort 0 0 = true ∧ (s.port 0 0).oldKeys = true) := by decide +kernel

theorem Sys2Proof.Tests.wit_FirmwareAndTablesRun :
    allowed cmdFwInfo (ask 0 []) running = true ∧
    (allowed cmdFwWriteBegin (ask 0 [300]) running = true ∧ running.fwSelected ≠ running.fwSpare ∧ running.fwTrial ≠ running.fwSpare + 1 ∧
      running.fwOpen = false ∧ running.commitJob = none) ∧
    (let s := writing []
     allowed cmdFwWriteData (ask 0 [0, 4, 0x314E4C45]) s = true ∧ s.fwOpen = true ∧ s.fwOwner = master (ask 0 []).via) ∧
    (let s := writing (List.replicate 300 0)
     allowed cmdFwWriteCommit (ask 0 []) s = true ∧ s.images.fw.length = s.images.fwLen ∧ (jobLimit s).1 = false) ∧
    [1, 2, 3].all (fun i => (working 0x0F04 i 3 [1]).commitJob == some (job 0x0F04 i 3 [1])) = true ∧
    (working 0x0F04 3 4 [1]).commitJob = some (job 0x0F04 3 4 [1]) ∧ (working 0x0F04 1 3 [1]).imageFault [] 1 = some 3 ∧
    [1, 2, 3].all (fun i => (working 0x0F06 i 3 []).findRunning (fun j => j.opcode == 0x0F06) == some (job 0x0F06 i 3 [])) = true ∧
    (let r := ask 0 [0, 0, 4, 0x314E4C45]
     allowed cmdBoardTableLoad r running = true ∧ running.findRunning (fun j => j.opcode == 0x0F06) = none ∧
       imageDone (joinImage running.images.table r) = false) ∧
    allowed cmdBlackboxClear (ask 0 []) running = true := by decide +kernel

theorem Sys2Proof.Tests.wit_FwSlotSelect :
    (let s := running.setImages { running.images with headers := [[0, 0, 0, 0, 0, 0, 0, 0, 7, 0], []] }
     [0x000, 0x100, 0x200, 0x300].all (fun w => allowed cmdFwSlotSelect (ask 0 [w]) s) = true ∧ s.slotValid 0 = true ∧
       s.rf (Reg.SVN_MIN 0) 0 6 ≤ s.fwSvn 0 ∧ s.fwSelected = s.fwRunning ∧ s.rf (Reg.SVN_MIN 0) 0 6 < s.fwSvn s.fwRunning) ∧
    (let s := running
     allowed cmdFwSlotSelect (ask 0 [0x300]) s = true ∧ s.fwSelected = s.fwRunning) := by decide +kernel

theorem Sys2Proof.Tests.wit_MailboxesRun :
    (running.hasKernel 1 = true ∧ running.kernelRuns 1 = true) ∧
    (let r := ask 0x20 [0x003E0000, 2, 7, 8]
     allowed cmdMboxWrite r running = true ∧ running.isStale 0 2 (master r.via) = false ∧ running.mboxFull 0 2 = false ∧ running.lockOwner 0 2 = 0) ∧
    (let r := ask 0x20 [0x00000000, 1, 7]
     let s := running.setReg (Reg.MBOX_LOCK 0 2) 8
     allowed cmdMboxWrite r s = true ∧ s.isStale 0 2 (master r.via) = false ∧ s.mboxFull 0 2 = false ∧ s.lockOwner 0 2 = master r.via ∧
       reqField r 12 0 16 = s.lockGen 0 2) ∧
    allowed cmdMboxRead (ask 0x20 [0x00014000]) running = true ∧ allowed cmdDoorbellRing (ask 0 [0x80000001]) running = true := by decide +kernel

theorem Sys2Proof.Tests.wit_LocksRun :
    (running.hasKernel 1 = true ∧ running.kernelRuns 1 = true) ∧
    (let s := (running.setReg (Reg.MBOX_LOCK 0 15) 1).setReg (Reg.MBOX_LOCK_IDLE 0) 0
     s.lockOwner 0 15 = 1 ∧ s.spiIdle 0 = true) ∧
    ((running.setReg (Reg.MBOX_LOCK 0 15) 2).lockOwner 0 15 ∈ [2, 3, 4] ∧ (running.setReg (Reg.MBOX_LOCK 0 15) 2).ownerInFault 0 2 = true) ∧
    (allowed cmdLockAcquire (ask 0x20 []) running = true ∧ running.lockOwner 0 2 = 0) ∧
    (let s := running.setReg (Reg.MBOX_LOCK 0 2) 8
     allowed cmdLockRelease (ask 0x20 [0]) s = true ∧ s.lockOwner 0 2 = master (ask 0x20 [0]).via ∧ reqField (ask 0x20 [0]) 12 0 16 = s.lockGen 0 2 ∧
       s.isStale 0 2 (master (ask 0x20 [0]).via) = false) ∧
    (let s := running.setReg (Reg.MBOX_LOCK 0 2) 9
     allowed cmdLockBreak (ask 0x20 [1]) s = true ∧ s.lockOwner 0 2 ≠ 0 ∧ master (ask 0 []).via = 8 + s.lead) ∧
    allowed cmdLockStatus (ask 0x20 []) running = true := by decide +kernel

theorem Sys2Proof.Tests.wit_RegisterAccessesRun :
    (let r := ask 0 [word (Reg.MBOX_DATA 0 2 0), 64]
     allowed cmdRegRead r running = true ∧ passes (running.reachChecks (regAddrOf r)) = true) ∧
    (let r := ask 0 [word (Reg.KERNEL_STATE 1), 1]
     allowed cmdRegRead r running = true ∧ (reqWord r 16).toNat = 1 ∧ running.leadAnswers (regAddrOf r) 1 = true) ∧
    (let r := ask 0 [word (Reg.MBOX_DATA 0 2 0), 2, 5, 6]
     allowed cmdRegWrite r running = true ∧ passes (running.reachChecks (regAddrOf r)) = true) ∧
    (let r := ask 0 [word (Reg.MBOX_DATA 0 2 0), 0xFF, 5]
     allowed cmdRegModify r running = true ∧ passes (running.reachChecks (regAddrOf r)) = true) ∧
    (running.hasKernel 1 = true ∧ running.kernelRuns 1 = true) ∧
    (let a := Reg.KEY_DENIED 0
     isRc a = true ∧ running.hasKernel (addrUnit a) = true ∧ passes (running.reachChecks a) = true) ∧
    (let a := Reg.MBOX_DATA 0 2 0
     running.hasKernel (addrUnit a) = true ∧ a % 4 = 0 ∧ running.mapped (.hook 0) a = true ∧
       writeAllowed (master (.hook 0)) (addrUnit a) (addrBlock a) = true ∧ passes (running.reachChecks a) = true) ∧
    (let r := ask 0 [0x80000008, 0]
     allowed cmdDiagCountersRead r running = true ∧ running.domainOn 0 (kernelBlockDomain 8) = true) ∧
    (let r := ask 0x30 [2]
     let s := portAt 3 6
     allowed cmdDiagLoopback r s = true ∧ s.domainOn 0 (4 + 3 / 2) = true ∧ s.portState 0 3 = 6) ∧
    allowed cmdDiagSensors (ask 15 []) running = true ∧ allowed cmdDiagSensors (ask 1 []) running = true := by decide +kernel

theorem Sys2Proof.Tests.wit_RegisterWritesChangeOneWord : running.Canonical ∧ connected.Canonical := by
  constructor <;> constructor <;> decide +kernel

theorem Sys2Proof.Tests.wit_TheFrontCommandRuns : State.reset.pending = [] := by decide

theorem Sys2Proof.Tests.wit_EveryStepKeepsTheForm :
    (∃ t, step { running with pending := [.nop (ask 0 [])] } = .next t) ∧ ∃ t, step running = .next t := ⟨⟨_, rfl⟩, ⟨_, rfl⟩⟩

theorem Sys2Proof.Tests.wit_EveryCommandAnswers :
    request? (.nop (ask 0 [])) = some (cmdNop, ask 0 []) ∧ State.reset.viaUp (.needle 0) = false ∧ running.hasPort 2 0 = false :=
  ⟨rfl, by decide +kernel, by decide +kernel⟩

/-- A request whose parameter field is not a multiple of 4 bytes. -/
def Sys2Proof.Tests.askBadly : Req := { ask 0 [] with plen := 3 }

theorem Sys2Proof.Tests.wit_RefusalsLeaveThePartAsItWas :
    (request? (.nop askBadly) = some (cmdNop, askBadly) ∧ running.viaUp askBadly.via = true ∧
      firstFail (earlyChecks askBadly running) = some (.badLength, 16)) ∧
    (request? (.lockRelease (ask 0x20 [1])) = some (cmdLockRelease, ask 0x20 [1]) ∧ passes (earlyChecks (ask 0x20 [1]) running) = true ∧
      passes (flagChecks (ask 0x20 [1]) running) = true ∧ isForward (ask 0x20 [1]) = false ∧
      (runLocal cmdLockRelease (ask 0x20 [1]) running).status = .wrongState) := by
  refine ⟨⟨rfl, ?_, ?_⟩, rfl, ?_, ?_, ?_, ?_⟩ <;> decide +kernel

theorem Sys2Proof.Tests.wit_ReadingCommandsChangeNothing :
    allowed cmdSysInfo (ask 0 []) running = true ∧ (runLocal cmdSysInfo (ask 0 []) running).status = .done ∧
    request? (.sysInfo (ask 0 [])) = some (cmdSysInfo, ask 0 []) := by
  refine ⟨?_, ?_, rfl⟩ <;> decide +kernel

theorem Sys2Proof.Tests.wit_LocksAreTakenByReading :
    (running.hasKernel 1 = true ∧ running.kernelRuns 1 = true ∧ running.lockOwner 1 15 = 0) ∧
    ((running.setReg (Reg.MBOX_LOCK 1 15) 9).lockOwner 1 15 = master (.needle 1)) ∧
    (let s := running.setReg (Reg.MBOX_LOCK 1 15) 2
     s.lockOwner 1 15 ≠ 0 ∧ s.lockOwner 1 15 ≠ master (.needle 1) ∧ allowed cmdLockAcquire (ask 0xF1 []) s = true) ∧
    allowed cmdLockStatus (ask 0xF1 []) running = true := by decide +kernel

theorem Sys2Proof.Tests.wit_ClosedGroupsAreDeniedToTheFarPart :
    (let r := { ask 0 [] with via := .link 0 0 }
     let s := connected
     s.viaUp r.via = true ∧ passes (earlyChecks r s) = true ∧ passes (flagChecks r s) = true ∧ passes (unitChecks cmdNop r s) = true ∧
     passes (cmdNop.bad r (reqTarget r) s) = true ∧ (s.reg (Reg.REMOTE_GROUPS 0)).getLsbD (cmdNop.opcode / 256) = false) := by decide +kernel

theorem Sys2Proof.Tests.wit_TheTapServesTheOpenInstructions :
    (let s := running.setReg (Reg.LC_STATE 0) (lifeWord 2)
     s.rb (Reg.LC_STATE 0) 4 = false ∧ TapInstr.debug ∉ s.tap.instrs) := by decide +kernel

end Witnesses
end

section
/-! Refusals: a request that is not done changes nothing but the counts and the log of refusals (R53, R59). Hardware locks: what a read of
MBOX_LOCK and LOCK_ACQUIRE do for each owner of the lock (R73). -/

namespace Sys2Proof.Machine

/-! ### Check lists -/

/-- The refusal that a check list comes to is that of one of its checks. -/
theorem mem_of_firstFail {l : List Check} {f : Status × Nat} (h : firstFail l = some f) : ∃ c ∈ l, c.2 = f := by
  induction l with
  | nil => cases h
  | cons c t ih =>
    have ih' (h' : firstFail t = some f) : ∃ x ∈ c :: t, x.2 = f :=
      (ih h').imp fun _ hx => ⟨List.mem_cons_of_mem _ hx.1, hx.2⟩
    unfold firstFail at h
    split at h
    · cases ht : firstFail t with
      | none => exact ⟨c, List.mem_cons_self, by simpa [ht] using h⟩
      | some d =>
        simp only [ht] at h
        split at h
        · exact ih' (ht.trans h)
        · exact ⟨c, List.mem_cons_self, Option.some.inj h⟩
    · exact ih' h

/-- Checks that pass leave the verdict to those listed after them. -/
theorem firstFail_append_of_passes {a : List Check} (b : List Check) (h : passes a = true) : firstFail (a ++ b) = firstFail b := by
  induction a with
  | nil => rfl
  | cons c t ih =>
    simp only [passes_cons, Bool.and_eq_true, Bool.not_eq_true'] at h
    simp [firstFail, h.1, ih h.2]

/-- A check that fails decides the refusal when none listed after it has an earlier place in Table 2.7. -/
theorem firstFail_cons_of_order {st : Status} {d : Nat} {t : List Check} (h : ∀ x ∈ t, checkOrder st ≤ checkOrder x.2.1) :
    firstFail ((true, st, d) :: t) = some (st, d) := by
  cases ht : firstFail t with
  | none => simp [firstFail, ht]
  | some f =>
    obtain ⟨x, hx, rfl⟩ := mem_of_firstFail ht
    simp [firstFail, ht, Nat.not_lt.2 (h x hx)]

/-- The early checks (checks 1 to 3 of Table 2.7) refuse, and do nothing else. -/
theorem earlyChecks_refuse {r : Req} {s : State} {st : Status} {d : Nat} (h : firstFail (earlyChecks r s) = some (st, d)) :
    st ≠ .done ∧ st ≠ .accepted := by
  obtain ⟨c, hc, he⟩ := mem_of_firstFail h
  obtain rfl : c.2.1 = st := congrArg Prod.fst he
  simp only [earlyChecks, List.mem_cons, List.not_mem_nil, or_false] at hc
  rcases hc with rfl | rfl | rfl | rfl <;> exact ⟨nofun, nofun⟩

/-- The checks on the executing kernel and on the domain of the unit refuse with WRONG_STATE. -/
theorem runsChecks_status {c : Cmd} {r : Req} {u : Nat} {s : State} : ∀ x ∈ runsChecks c r u s, x.2.1 = .wrongState := by
  unfold runsChecks
  split
  · simp
  · split <;> simp

/-! ### What a command's own effect may come to -/

/-- An outcome that leaves the part as it was unless its status is DONE or ACCEPTED, and that then does not put off its reply. -/
def Res.RefusesInPlace (s : State) (res : Res) : Prop :=
  res.status ≠ .done → res.status ≠ .accepted → res.later = false ∧ res.state = s

theorem Res.refusesInPlace_of_done {s : State} {res : Res} (h : res.status = .done) : res.RefusesInPlace s := fun h' => absurd h h'

theorem Res.refusesInPlace_of_accepted {s : State} {res : Res} (h : res.status = .accepted) : res.RefusesInPlace s :=
  fun _ h' => absurd h h'

@[simp] theorem Res.refusesInPlace_ok {s t : State} {data : List Word} : (Res.ok t data).RefusesInPlace s := refusesInPlace_of_done rfl

@[simp] theorem Res.refusesInPlace_accepted {s t : State} {n : Nat} {data : List Word} : (Res.accepted n t data).RefusesInPlace s :=
  refusesInPlace_of_accepted rfl

@[simp] theorem Res.refusesInPlace_fail {s : State} {st : Status} {d : Nat} : (Res.fail st d s).RefusesInPlace s := fun _ _ => ⟨rfl, rfl⟩

/-- Checks before an effect refuse in place. -/
theorem Res.refusesInPlace_checked {s : State} {cs : List Check} {ok : Res} (h : ok.RefusesInPlace s) :
    (Res.checked cs s ok).RefusesInPlace s := by
  cases hf : firstFail cs with
  | none => rwa [checked_of_passes s ok (firstFail_eq_none.1 hf)]
  | some f => rw [checked_of_fail s ok hf]; exact refusesInPlace_fail

@[simp] theorem Res.refusesInPlace_checked_ok {s t : State} {cs : List Check} {data : List Word} :
    (Res.checked cs s (.ok t data)).RefusesInPlace s := refusesInPlace_checked refusesInPlace_ok

@[simp] theorem Res.refusesInPlace_checked_accepted {s t : State} {cs : List Check} {n : Nat} {data : List Word} :
    (Res.checked cs s (.accepted n t data)).RefusesInPlace s := refusesInPlace_checked refusesInPlace_accepted

@[simp] theorem State.gaugeGo_refusesInPlace (s : State) (opcode : Nat) (r : Req) (k : Nat) (items : List GaugeItem) (link : Nat × Nat)
    (lost : List GaugePort) (tables : List (Nat × List Nat)) : (s.gaugeGo opcode r k items link lost tables).RefusesInPlace s := by
  unfold State.gaugeGo
  split <;> simp

@[simp] theorem State.waitGauge_refusesInPlace (s : State) (w : GaugeWait) : (s.waitGauge w).RefusesInPlace s :=
  Res.refusesInPlace_of_accepted rfl

/-! ### The effects of the commands -/

/-- Every command of Table 2.9 refuses in place: an effect is one answer, checks and then one answer, or it branches and each branch is such. -/
theorem act_refusesInPlace {i : Instr} {c : Cmd} {r : Req} (h : request? i = some (c, r)) (u : Nat) (s : State) :
    (c.act r u s).RefusesInPlace s := by
  cases i with
  -- one answer
  | sysInfo _ | eventSubscribe _ | nop _ | portInfo _ | portEqSelect _ | tunInfo _ | resumeWindowSet _ | rowTableRead _ | rawRouteRead _
  | skeinInfo _ | shaperSet _ | latSampleSet _ | latSampleRead _ | dinConfig _ | edidProxySet _ | purlModeSet _ | damageConfig _
  | purlFrameReport _ | psrConfig _ | doutStatus _ | pcieStatus _ | pcieReadaheadLog _ | usbStatus _ | ethStatus _ | timeSourceList _
  | timeRead _ | ptpConfig _ | asymmetrySet _ | logRead _ | blackboxRead _ | blackboxClear _ | smapSignalRead _ | gooseSubscribe _
  | goosePublishSet _ | pwrFeedStatus _ | pwrLoadDisable _ | pwrBreakerSet _ | pwrWarnSet _ | pwrMeterRead _ | pwrEnergyClear _ | pdStatus _
  | pdRolePrefSet _ | pdFrsSet _ | keySlotInfo _ | fwInfo _ | mboxRead _ | doorbellRing _ | lockStatus _ =>
    cases h
    exact Res.refusesInPlace_ok
  -- checks, then one answer
  | sysReset _ | portPowerState _ | portAlignMode _ | portBitSlip _ | tunModify _ | rowShadowWrite _ | rowSwap _ | gaugeCeilingSet _
  | mcastListSet _ | exactRegionSet _ | doutTimingStage _ | doutPairSet _ | frameLockSet _ | testPattern _ | pcieConfig _ | pcieWindow _
  | usbConfig _ | usbEpLayout _ | usbPortPower _ | ethConfig _ | prpPairSet _ | timeSet _ | smapSignalSet _ | hidSnoopSet _ | checkUnitSet _
  | pwrLoadEnable _ | pdSourceCapsSet _ | cableIdRead _ | keyDerive _ | keyErase _ | keyAttrSet _ | linkAuthPolicy _ | fwWriteBegin _
  | fwWriteData _ | mboxWrite _ | lockAcquire _ | lockRelease _ | lockBreak _ | diagCountersRead _ | diagLoopback _ | regRead _ | regWrite _
  | regModify _ =>
    cases h
    exact Res.refusesInPlace_checked_ok
  | portCastOn _ | plyForm _ | plySplit _ | roleSwapRequest _ | tunOpen _ | tunClose _ | checkScan _ | lifecycleAdvance _ | fwWriteCommit _
  | diagStoreTest _ =>
    cases h
    exact Res.refusesInPlace_checked_accepted
  -- the effect branches
  | sysStateSet _ | getReply _ | jobStatus _ | jobAbort _ | rawRouteSet _ | sealSet _ | diagSensors _ | fwSlotSelect _ =>
    cases h
    dsimp only [cmdSysStateSet, cmdGetReply, cmdJobStatus, cmdJobAbort, cmdRawRouteSet, cmdSealSet, cmdDiagSensors,
      cmdFwSlotSelect, fwCmd]
    split <;> simp
  -- checks, then an effect that branches
  | kernelRecover _ | portBindOff _ | portPrbs _ | tunRelease _ | regauge _ | diagSeamTest _ | hookPolicyUpdate _ | boardTableLoad _ =>
    cases h
    dsimp only [cmdKernelRecover, cmdPortBindOff, cmdPortPrbs, cmdTunRelease, cmdRegauge, cmdDiagSeamTest, cmdHookPolicyUpdate,
      cmdBoardTableLoad, cableCmd, fwCmd]
    refine Res.refusesInPlace_checked ?_
    split <;> simp
  -- checks over numbers that the unifier must not evaluate
  | skeinCarve _ | queueThresholdSet _ =>
    cases h
    simp [cmdSkeinCarve, cmdQueueThresholdSet]
  -- the reply waits, and its status stands as DONE
  | pdSinkRequest _ =>
    cases h
    exact Res.refusesInPlace_checked (Res.refusesInPlace_of_done rfl)
  -- branches within branches
  | schedNodeSet _ =>
    cases h
    dsimp only [cmdSchedNodeSet]
    split
    · simp
    · split <;> simp
  | regaugeRollback _ =>
    cases h
    dsimp only [cmdRegaugeRollback]
    split
    · simp
    · split
      · simp
      · refine Res.refusesInPlace_checked ?_
        split <;> simp
  | _ => cases h

/-! ### The DENIED conditions of the commands -/

theorem rightChecks_status {s : State} {m right : Nat} : ∀ x ∈ s.rightChecks m right, x.2.1 = .denied := by
  simp [State.rightChecks]

theorem parentDenied_status {s : State} {r : Req} : ∀ x ∈ s.parentDenied r, x.2.1 = .denied := by
  simp [State.parentDenied]

theorem permChecks_status {r : Req} : ∀ x ∈ permChecks r, x.2.1 = .denied := by
  simp [permChecks]

/-- What a command lists as its DENIED conditions refuses with DENIED. -/
theorem denied_status {i : Instr} {c : Cmd} {r : Req} (h : request? i = some (c, r)) (u : Nat) (s : State) :
    ∀ x ∈ c.denied r u s, x.2.1 = .denied := by
  cases i with
  | regWrite _ | regModify _ =>
    cases h
    exact permChecks_status
  | keyDerive _ =>
    cases h
    intro x hx
    exact (List.mem_append.1 hx).elim (rightChecks_status x) (parentDenied_status x)
  | blackboxClear _ | hookPolicyUpdate _ | fwWriteBegin _ | fwWriteData _ | fwWriteCommit _ | fwSlotSelect _ | boardTableLoad _ | keyErase _
  | keyAttrSet _ | lifecycleAdvance _ | linkAuthPolicy _ | lockBreak _ =>
    cases h
    exact rightChecks_status
  | _ => cases h <;> exact fun _ hx => nomatch hx

/-! ### The refusal of a request -/

/-- A request that is not allowed to reach its effect, or that its effect refuses, leaves the part as it was. -/
theorem runLocal_refusesInPlace {i : Instr} {c : Cmd} {r : Req} (h : request? i = some (c, r)) (s : State) :
    (runLocal c r s).RefusesInPlace s :=
  Res.refusesInPlace_checked (act_refusesInPlace h _ s)

/-- A row that carries a command packet runs its request; after SYS_RESET the resets that wait follow (R465). -/
theorem exec_of_request? {i : Instr} {c : Cmd} {r : Req} {s : State} (h : request? i = some (c, r)) (hv : s.viaUp r.via = true) :
    exec i s = .next ((runCmd c r s).settled i) := by
  have hc : onCommand c r s = .next (runCmd c r s) := if_pos hv
  cases i with
  | sysReset r' =>
    cases h
    simp [exec, execSysReset, hc, State.settled]
  | _ => cases h <;> exact hc

/-- A refusal answers without data. -/
theorem replyPacket_of_refusal {opcode : Nat} {r : Req} {st : Status} (d : Nat) (data : List Word) (hd : st ≠ .done) (ha : st ≠ .accepted) :
    replyPacket opcode r st d data = replyPacket opcode r st d [] := by
  simp [replyPacket, hd, ha]

theorem countReject_of_refusal {ek m : Nat} {st : Status} (s : State) (hd : st ≠ .done) (ha : st ≠ .accepted) :
    countReject ek m st s = s.bump (Reg.DIAG_REJECT ek m) 1 := by
  simp [countReject, hd, ha]

/-- A request that an early check refuses, other than for its CRC. -/
theorem runCmd_of_earlyFail {c : Cmd} {r : Req} {s : State} {st : Status} {d : Nat} (h : firstFail (earlyChecks r s) = some (st, d))
    (hb : st ≠ .badCheck) : runCmd c r s =
      (s.bump (Reg.DIAG_REJECT (localKernel r.via) (master r.via)) 1).deliver r.via r.slot (replyPacket c.opcode r st d []) := by
  obtain ⟨hd, ha⟩ := earlyChecks_refuse h
  rw [← countReject_of_refusal s hd ha]
  unfold runCmd
  rw [h]
  cases st with
  | badCheck => exact absurd rfl hb
  | _ => rfl

/-- A request that this part runs and refuses in place. -/
theorem runCmd_of_refusal {c : Cmd} {r : Req} {s : State} (he : passes (earlyChecks r s) = true) (hf : passes (flagChecks r s) = true)
    (hi : isForward r = false) (hp : (runLocal c r s).RefusesInPlace s) (hd : (runLocal c r s).status ≠ .done)
    (ha : (runLocal c r s).status ≠ .accepted) : runCmd c r s =
      ((s.bump (Reg.DIAG_REJECT (rejectKernel c r s) (master r.via)) 1).noteDenied (rejectKernel c r s) (master r.via) c.opcode
        (runLocal c r s).status (runLocal c r s).detail).deliver r.via r.slot
          (replyPacket c.opcode r (runLocal c r s).status (runLocal c r s).detail []) := by
  obtain ⟨hl, hs⟩ := hp hd ha
  simp [runCmd, firstFail_eq_none.2 he, firstFail_eq_none.2 hf, hi, hl, hs, countReject_of_refusal s hd ha,
    replyPacket_of_refusal _ (runLocal c r s).data hd ha]

/-- Settles O55: the early checks only refuse, and each command's own effect refuses in place. -/
theorem refusalsLeaveThePartAsItWas : Obligations.RefusalsLeaveThePartAsItWas := by
  intro i c r s h hv
  rw [exec_of_request? h hv]
  refine ⟨fun st d hf hb => ?_, ?_⟩
  · rw [runCmd_of_earlyFail hf hb]
  · rintro _ _ he hf hi rfl rfl hd ha
    rw [runCmd_of_refusal he hf hi (runLocal_refusesInPlace h s) hd ha]

/-! ### A closed opcode group (R53) -/

/-- The group check fails for a far part whose opcode group REMOTE_GROUPS does not allow. -/
theorem groupCheck_of_closed {c : Cmd} {r : Req} {s : State} {k p : Nat} (hv : r.via = .link k p)
    (hg : (s.reg (Reg.REMOTE_GROUPS k)).getLsbD (c.opcode / 256) = false) : groupCheck c r s = [(true, .denied, 4)] := by
  simp [groupCheck, hv, bitAt, hg]

/-- DENIED by the group check comes before whatever the DENIED conditions and the state of the part would refuse. -/
theorem runLocal_of_closed {i : Instr} {c : Cmd} {r : Req} {s : State} {k p : Nat} (h : request? i = some (c, r)) (hv : r.via = .link k p)
    (hu : passes (unitChecks c r s) = true) (hb : passes (c.bad r (reqTarget r) s) = true)
    (hg : (s.reg (Reg.REMOTE_GROUPS k)).getLsbD (c.opcode / 256) = false) : runLocal c r s = .fail .denied 4 s := by
  have later : ∀ x ∈ c.denied r (reqTarget r) s ++ runsChecks c r (reqTarget r) s, checkOrder .denied ≤ checkOrder x.2.1 := by
    intro x hx
    rcases List.mem_append.1 hx with hx | hx
    · rw [denied_status h _ s x hx]
    · rw [runsChecks_status x hx]; decide
  refine checked_of_fail (f := (.denied, 4)) s _ ?_
  rw [groupCheck_of_closed hv hg, List.append_assoc, List.append_assoc, firstFail_append_of_passes _ (by simp [hu, hb])]
  exact firstFail_cons_of_order later

/-- Settles O60: the group check is the first to fail, so the request is a refusal of O55 with status DENIED. -/
theorem closedGroupsAreDeniedToTheFarPart : Obligations.ClosedGroupsAreDeniedToTheFarPart := by
  intro i c r s k p h hv hup he hf hu hb hg
  have hm : master r.via = 4 := by rw [hv]; rfl
  have hi : isForward r = false := by simp [isForward, hm]
  have hl := runLocal_of_closed h hv hu hb hg
  have key := (refusalsLeaveThePartAsItWas i c r s h hup).2 _ _ he hf hi hl.symm rfl nofun nofun
  rwa [hm] at key

/-! ### Hardware locks (R73) -/

/-- The variants have at most 8 kernels. -/
theorem lt_eight_of_hasKernel {s : State} {k : Nat} (h : s.hasKernel k = true) : k < 8 := by
  have hk : k < s.variant.kernels := of_decide_eq_true h
  have : s.variant.kernels ≤ 8 := by cases s.variant <;> decide
  omega

/-- An allowed request of a command that names a kernel in its target counts its refusals in that kernel. -/
theorem rejectKernel_of_allowed {c : Cmd} {r : Req} {s : State} (h : allowed c r s = true) (ht : c.unitInTarget = true)
    (hp : c.powerUnit = false) (hk : c.inK0 = false) : rejectKernel c r s = reqTarget r := by
  simp only [allowed, admitted, Bool.and_eq_true] at h
  obtain ⟨⟨⟨⟨⟨-, hu⟩, -⟩, -⟩, -⟩, -⟩ := h
  have hs : s.hasKernel (reqTarget r) = true := by
    simp only [unitChecks, ht, hp, Bool.and_false, Bool.or_false, Bool.true_and, passes_cons, Bool.and_eq_true, Bool.not_eq_true',
      Bool.not_eq_false'] at hu
    exact hu.1.1
  have hlt := lt_eight_of_hasKernel hs
  have hne : reqTarget r ≠ 15 := by omega
  simp [rejectKernel, execKernel, hk, ht, hs, hne]

/-- No transport stands for owner 0, which a free lock shows. -/
theorem master_ne_zero (v : Via) : master v ≠ 0 := by
  cases v <;> simp [master]

/-- The state in which a read of MBOX_LOCK leaves the refusal of a stale owner (R77). -/
def State.staleEnded (s : State) (k m o : Nat) : State := if s.isStale k m o then s.endStale k m o else s

section
variable {s : State} {v : Via} {k m : Nat}

/-- A free lock goes to its reader. -/
theorem lockRead_of_free (h : s.lockOwner k m = 0) : s.lockRead v k m =
    (packWord [(16, 16, s.lockGen k m)], (s.staleEnded k m (master v)).setRf (Reg.MBOX_LOCK k m) 0 5 (master v)) := by
  simp [State.lockRead, State.staleEnded, h]

/-- The owner reads the lock as free and keeps it. -/
theorem lockRead_of_owner (h : s.lockOwner k m = master v) :
    s.lockRead v k m = (packWord [(16, 16, s.lockGen k m)], s.staleEnded k m (master v)) := by
  simp [State.lockRead, State.staleEnded, h, master_ne_zero]

/-- Another master reads who owns the lock. -/
theorem lockRead_of_other (h0 : s.lockOwner k m ≠ 0) (h : s.lockOwner k m ≠ master v) :
    s.lockRead v k m = (packWord [(0, 5, s.lockOwner k m), (16, 16, s.lockGen k m)], s.staleEnded k m (master v)) := by
  simp [State.lockRead, State.staleEnded, h0, h]

/-- A register read of MBOX_LOCK where the kernel runs. -/
theorem exec_mboxLockRead (hk : s.hasKernel k = true) (hm : m < 16) (hr : s.kernelRuns k = true) :
    exec (.mboxLockRead v k m) s = .next { (s.lockRead v k m).2 with readOut := (s.lockRead v k m).1 } := by
  simp [exec, execMboxLockRead, onMbox, onUnit, hk, hm, hr]

end

section
variable {r : Req} {s : State}

/-- LOCK_ACQUIRE of a lock that is free or the reader's own: what a register read does, and GEN in the reply. -/
theorem exec_lockAcquire_of_got (h : allowed cmdLockAcquire r s = true)
    (ho : s.lockOwner (reqTarget r) (reqSub r) = 0 ∨ s.lockOwner (reqTarget r) (reqSub r) = master r.via) :
    exec (.lockAcquire r) s = .next ((s.lockRead r.via (reqTarget r) (reqSub r)).2.answer 0x1004 r
      [word (s.lockGen (reqTarget r) (reqSub r))]) := by
  refine onCommand_done h (checked_of_passes s _ ?_)
  rcases ho with ho | ho <;> simp [ho]

/-- LOCK_ACQUIRE of another master's lock is refused with its owner. -/
theorem exec_lockAcquire_of_other (h : allowed cmdLockAcquire r s = true) (h0 : s.lockOwner (reqTarget r) (reqSub r) ≠ 0)
    (ho : s.lockOwner (reqTarget r) (reqSub r) ≠ master r.via) :
    exec (.lockAcquire r) s = .next (refuse 0x1004 (reqTarget r) r .lockedByOther (s.lockOwner (reqTarget r) (reqSub r)) s) := by
  have hf : cmdLockAcquire.act r (reqTarget r) s = .fail .lockedByOther (s.lockOwner (reqTarget r) (reqSub r)) s :=
    checked_of_fail (f := (.lockedByOther, s.lockOwner (reqTarget r) (reqSub r))) s _ (by simp [firstFail, h0, ho])
  have key := onCommand_refused (st := .lockedByOther) h nofun hf
  rwa [rejectKernel_of_allowed h rfl rfl rfl] at key

end

/-- Settles O58, by the three cases of the lock's owner: none, the reader, another master. -/
theorem locksAreTakenByReading : Obligations.LocksAreTakenByReading := by
  refine ⟨?_, ?_, ?_⟩
  · rintro v k m s _ _ _ hk hm hr rfl rfl rfl
    rw [exec_mboxLockRead hk hm hr]
    refine ⟨fun h => ?_, fun h => ?_, fun h0 h => ?_⟩
    · rw [lockRead_of_free h]; rfl
    · rw [lockRead_of_owner h]; rfl
    · rw [lockRead_of_other h0 h]; rfl
  · rintro r s _ _ _ _ ha rfl rfl rfl rfl
    refine ⟨fun h => ?_, fun h => ?_, fun h0 h => ?_⟩
    · rw [exec_lockAcquire_of_got ha (.inl h), lockRead_of_free h]; rfl
    · rw [exec_lockAcquire_of_got ha (.inr h), lockRead_of_owner h]; rfl
    · exact exec_lockAcquire_of_other ha h0 h
  · rintro r s _ _ ha rfl rfl
    exact ⟨_, onCommand_done ha rfl⟩

end Sys2Proof.Machine
end

section
/-! The part as a whole: a step, power-on reset, a register write, the test access port (R475, R502). -/

namespace Sys2Proof.Machine

/-- Settles O51, from the two cases of `step`. -/
theorem theFrontCommandRuns : Obligations.TheFrontCommandRuns :=
  ⟨fun _ _ => rfl, fun s h => by simp [step, idle, h]⟩

/-! ### Power-on reset -/

section
variable {u blk off : Nat}

/-- UNIT, BLOCK and OFFSET of an address are those that it is made of (Table 16.1). -/
theorem addrUnit_regAddr (hb : blk < 0x100) (ho : off < 0x100000) : addrUnit (regAddr u blk off) = u := by
  simp only [addrUnit, regAddr]; omega

theorem addrBlock_regAddr (hb : blk < 0x100) (ho : off < 0x100000) : addrBlock (regAddr u blk off) = blk := by
  simp only [addrBlock, regAddr]; omega

theorem addrOff_regAddr (ho : off < 0x100000) : addrOff (regAddr u blk off) = off := by
  simp only [addrOff, regAddr]; omega

/-- A tunnel's words beside TUN_LABELS, as Table 16.8 resets them. -/
theorem resetWord_tunnel {k t i : Nat} (hk : k < 8) (ht : t < 512) (hi : i < 64) (h4 : i ≠ 4) :
    resetWord (regAddr k 0x10 (i + t * 0x40)) = kernelReset 0x10 (i + t * 0x40) := by
  have ho : i + t * 0x40 < 0x100000 := by omega
  have hmi : i % 64 ≠ 4 := by omega
  have hk15 : k ≠ 15 := by omega
  simp [resetWord, addrUnit_regAddr, addrBlock_regAddr, addrOff_regAddr, ho, hmi, hk15, Nat.not_le.2 hk]

/-- TUN_LABELS shows the local label at reset (Table 4.4). -/
theorem resetWord_tunLabels {k t : Nat} (hk : k < 8) (ht : t < 512) : resetWord (Reg.TUN_LABELS k t) = word (512 * k + t) := by
  have ho : 4 + t * 0x40 < 0x100000 := by omega
  have hl : 4 + t * 0x40 < 0x8000 := by omega
  have hm : (4 + t * 0x40) % 64 = 4 := by omega
  have hd : (4 + t * 0x40) / 64 = t := by omega
  have hk15 : k ≠ 15 := by omega
  simp [resetWord, Reg.TUN_LABELS, addrUnit_regAddr, addrBlock_regAddr, addrOff_regAddr, ho, hl, hm, hd, hk15, Nat.not_le.2 hk]

end

/-- The part after power-on reset lists no register, so each reads as its reset word. -/
theorem rf_reset (a lo n : Nat) : State.reset.rf a lo n = fld (resetWord a) lo n := rfl

/-- No context is anything but Closed after power-on reset. -/
theorem tunState_reset {k t : Nat} (hk : k < 8) (ht : t < 512) : State.reset.tunState k t = 0 := by
  have hl : t * 64 < 0x8000 := by omega
  rw [State.tunState, rf_reset, Reg.TUN_CTRL, resetWord_tunnel hk ht (by decide) (by decide)]
  by_cases h4 : t = 4
  · subst h4; decide
  by_cases h5 : t = 5
  · subst h5; decide
  simp [kernelReset, hl, tunCtrlReset, h4, h5, fld]

/-- Settles O52: no map lists anything, and each register named holds its reset word. -/
theorem resetLeavesTheTableValues : Obligations.ResetLeavesTheTableValues := by
  refine ⟨by constructor <;> rfl, rfl, rfl, fun _ => rfl, by decide, fun k hk t ht => ⟨tunState_reset hk ht, ?_⟩, by decide⟩
  have hlt : 512 * k + t < 2 ^ 12 := by omega
  rw [rf_reset, resetWord_tunLabels hk ht]
  simpa [fld] using Nat.mod_eq_of_lt hlt

/-- Settles O57, by the rules of a sparse map and of a field write. -/
theorem registerWritesChangeOneWord : Obligations.RegisterWritesChangeOneWord := by
  intro s a w hs
  refine ⟨s.reg_setReg_self a w hs, fun b hb => smapGet_put_ne _ _ _ _ _ hb, rfl, fun lo n v hn hv => ⟨?_, ?_, ?_, rfl⟩⟩
  · rw [State.rf, s.reg_setRf_self _ _ _ _ hs, fld_setFld _ _ _ _ hn hv]
  · intro lo' n' hd
    rw [State.rf, s.reg_setRf_self _ _ _ _ hs, fld_setFld_of_disjoint _ _ _ _ _ _ hd, State.rf]
  · exact fun b hb => s.reg_setRf_ne lo n v hb

/-! ### The test access port -/

/-- An edge takes the controller to its next state. -/
theorem tapClock_ctrl (s : State) (tms tdi : Bool) : (s.tapClock tms tdi).tap.ctrl = s.tap.ctrl.next tms := rfl

/-- Five edges with TMS high end in Test-Logic-Reset from every state of the controller. -/
theorem next_five_high (t : TapState) : (((((t.next true).next true).next true).next true).next true) = .logicReset := by
  cases t <;> rfl

/-- An edge changes nothing of the part but the TAP and the counter of free values. -/
theorem tapClock_frame (s : State) (tms tdi : Bool) : { s.tapClock tms tdi with tap := s.tap, free := s.free } = s := by
  dsimp only [State.tapClock]
  split <;> split <;> rfl

/-- While JTAG_OPEN is 0 no code selects an instruction that Field does not serve. -/
theorem debug_notMem_tapLoaded {s : State} (h : s.rb (Reg.LC_STATE 0) 4 = false) : TapInstr.debug ∉ s.tapLoaded := by
  have served (i : TapInstr) : s.tapServes i ≠ .debug := by
    cases i <;> simp [State.tapServes, h]
  simp only [State.tapLoaded, List.mem_map, not_exists, not_and]
  exact fun _ _ => served _

/-- What is in force after an edge is what was loaded, nothing, or what was in force. -/
theorem debug_notMem_tapClock {s : State} (tms tdi : Bool) (h : s.rb (Reg.LC_STATE 0) 4 = false) (hi : TapInstr.debug ∉ s.tap.instrs) :
    TapInstr.debug ∉ (s.tapClock tms tdi).tap.instrs := by
  dsimp only [State.tapClock]
  split
  · split <;> exact debug_notMem_tapLoaded h
  · exact List.not_mem_nil
  · split <;> exact hi

/-- Settles O59, by the controller's next-state table and the effect of an edge in each state of the controller. -/
theorem theTapServesTheOpenInstructions : Obligations.TheTapServesTheOpenInstructions :=
  ⟨fun s _ => next_five_high s.tap.ctrl, tapClock_frame, fun _ tms tdi h hi => debug_notMem_tapClock tms tdi h hi⟩

end Sys2Proof.Machine
end

section
/-! What every step keeps: the canonical form of the sparse maps, the variant, and that time and the counter of free values do not turn back. One
rule per operation of the state, in the order of the model, and each follows the operation's own definition; a step is the last of them. -/

namespace Sys2Proof.Machine


/-- What every operation keeps on the way from s to t: the canonical form, the queue, the variant, and that the time and the counter of free
values do not turn back. -/
structure State.Keeps (s t : State) : Prop where
  canonical : s.Canonical → t.Canonical
  pending : t.pending = s.pending
  variant : t.variant = s.variant
  now : s.now ≤ t.now
  free : s.free ≤ t.free

/-- A meaning that answers a next state which keeps all that. -/
def State.Yields (s : State) (r : Result) : Prop := ∃ t, r = .next t ∧ s.Keeps t

/-- The next state keeps all that, where there is one. -/
def State.KeepsAny (s : State) (o : Option State) : Prop := ∀ t, o = some t → s.Keeps t

variable {s₀ s : State}

theorem State.Keeps.refl : s.Keeps s := ⟨id, rfl, rfl, le_rfl, le_rfl⟩

theorem State.Keeps.trans {t u : State} (h : s.Keeps t) (h' : t.Keeps u) : s.Keeps u :=
  ⟨h'.canonical ∘ h.canonical, h'.pending.trans h.pending, h'.variant.trans h.variant, h.now.trans h'.now, h.free.trans h'.free⟩

/-- A change of the sparse maps that keeps their form. -/
theorem State.Keeps.remap {t : State} (h : s₀.Keeps s) (hp : t.pending = s.pending) (hv : t.variant = s.variant) (hn : t.now = s.now)
    (hf : t.free = s.free) (hc : s.Canonical → t.Canonical) : s₀.Keeps t :=
  h.trans ⟨hc, hp, hv, hn.ge, hf.ge⟩

/-- Free values drawn. -/
theorem State.Keeps.draw {n : Nat} (h : s₀.Keeps s) : s₀.Keeps { s with free := s.free + n } :=
  h.trans ⟨fun c => { c with }, rfl, rfl, le_rfl, Nat.le_add_right _ _⟩

section
variable {t u : State} {α β : Type}

theorem State.Keeps.ite {c : Prop} [Decidable c] (ht : s₀.Keeps t) (hu : s₀.Keeps u) : s₀.Keeps (if c then t else u) := by
  split <;> assumption

theorem State.Keeps.ite_snd {c : Prop} [Decidable c] {p q : α × State} (hp : s₀.Keeps p.2) (hq : s₀.Keeps q.2) :
    s₀.Keeps (if c then p else q).2 := by
  split <;> assumption

theorem State.Keeps.ite_fst {c : Prop} [Decidable c] {p q : State × α} (hp : s₀.Keeps p.1) (hq : s₀.Keeps q.1) :
    s₀.Keeps (if c then p else q).1 := by
  split <;> assumption

theorem State.Keeps.ite_state {c : Prop} [Decidable c] {p q : Res} (hp : s₀.Keeps p.state) (hq : s₀.Keeps q.state) :
    s₀.Keeps (if c then p else q).state := by
  split <;> assumption

theorem State.Keeps.getD {o : Option State} (ho : s₀.KeepsAny o) (h : s₀.Keeps s) : s₀.Keeps (o.getD s) := by
  cases o with
  | none => exact h
  | some t => exact ho t rfl

theorem State.Keeps.of_snd {p : α × State} {a : α} (e : p = (a, t)) (h : s₀.Keeps p.2) : s₀.Keeps t := by
  rwa [e] at h

theorem State.Keeps.of_fst {p : State × α} {a : α} (e : p = (t, a)) (h : s₀.Keeps p.1) : s₀.Keeps t := by
  rwa [e] at h

theorem State.Keeps.foldl {f : State → α → State} {l : List α} (h : s₀.Keeps s) (hf : ∀ {t x}, s₀.Keeps t → s₀.Keeps (f t x)) :
    s₀.Keeps (l.foldl f s) :=
  List.foldlRecOn l f h fun _ ht _ _ => hf ht

theorem State.Keeps.foldl_snd {f : β × State → α → β × State} {l : List α} {b : β × State} (h : s₀.Keeps b.2)
    (hf : ∀ {t x}, s₀.Keeps t.2 → s₀.Keeps (f t x).2) : s₀.Keeps (l.foldl f b).2 :=
  List.foldlRecOn l f (motive := fun b => s₀.Keeps b.2) h fun _ ht _ _ => hf ht

theorem State.Keeps.foldl_fst {f : State × β → α → State × β} {l : List α} {b : State × β} (h : s₀.Keeps b.1)
    (hf : ∀ {t x}, s₀.Keeps t.1 → s₀.Keeps (f t x).1) : s₀.Keeps (l.foldl f b).1 :=
  List.foldlRecOn l f (motive := fun b => s₀.Keeps b.1) h fun _ ht _ _ => hf ht

theorem State.KeepsAny.none : s₀.KeepsAny none := fun _ e => absurd e.symm (Option.some_ne_none _)

theorem State.KeepsAny.some (h : s₀.Keeps t) : s₀.KeepsAny (some t) := fun _ e => Option.some.inj e ▸ h

theorem State.KeepsAny.ite {c : Prop} [Decidable c] {o p : Option State} (ho : s₀.KeepsAny o) (hp : s₀.KeepsAny p) :
    s₀.KeepsAny (if c then o else p) := by
  split <;> assumption

theorem State.Yields.next (h : s₀.Keeps t) : s₀.Yields (.next t) := ⟨t, rfl, h⟩

theorem State.Yields.ite {c : Prop} [Decidable c] {r q : Result} (hr : s₀.Yields r) (hq : s₀.Yields q) : s₀.Yields (if c then r else q) := by
  split <;> assumption

end

/-! ### Changes of what the form does not speak of -/

theorem State.Keeps.with_part {part'} (h : s₀.Keeps s) :
    s₀.Keeps { s with part := part' } := h.remap rfl rfl rfl rfl fun c => { c with }

theorem State.Keeps.with_path {path'} (h : s₀.Keeps s) :
    s₀.Keeps { s with path := path' } := h.remap rfl rfl rfl rfl fun c => { c with }

theorem State.Keeps.with_jobs_lastJob {jobs' lastJob'} (h : s₀.Keeps s) :
    s₀.Keeps { s with jobs := jobs', lastJob := lastJob' } := h.remap rfl rfl rfl rfl fun c => { c with }

theorem State.Keeps.with_jobs {jobs'} (h : s₀.Keeps s) :
    s₀.Keeps { s with jobs := jobs' } := h.remap rfl rfl rfl rfl fun c => { c with }

theorem State.Keeps.with_flights {flights'} (h : s₀.Keeps s) :
    s₀.Keeps { s with flights := flights' } := h.remap rfl rfl rfl rfl fun c => { c with }

theorem State.Keeps.with_taiOff_taiFrac {taiOff' taiFrac'} (h : s₀.Keeps s) :
    s₀.Keeps { s with taiOff := taiOff', taiFrac := taiFrac' } := h.remap rfl rfl rfl rfl fun c => { c with }

theorem State.Keeps.with_tb {tb'} (h : s₀.Keeps s) :
    s₀.Keeps { s with tb := tb' } := h.remap rfl rfl rfl rfl fun c => { c with }

theorem State.Keeps.with_readOut {readOut'} (h : s₀.Keeps s) :
    s₀.Keeps { s with readOut := readOut' } := h.remap rfl rfl rfl rfl fun c => { c with }

theorem State.Keeps.with_gaugeWaits {gaugeWaits'} (h : s₀.Keeps s) :
    s₀.Keeps { s with gaugeWaits := gaugeWaits' } := h.remap rfl rfl rfl rfl fun c => { c with }

theorem State.Keeps.with_images {images'} (h : s₀.Keeps s) :
    s₀.Keeps { s with images := images' } := h.remap rfl rfl rfl rfl fun c => { c with }

theorem State.Keeps.with_hooksDown {hooksDown'} (h : s₀.Keeps s) :
    s₀.Keeps { s with hooksDown := hooksDown' } := h.remap rfl rfl rfl rfl fun c => { c with }

theorem State.Keeps.with_lead {lead'} (h : s₀.Keeps s) :
    s₀.Keeps { s with lead := lead' } := h.remap rfl rfl rfl rfl fun c => { c with }

theorem State.Keeps.with_hooksDown_part {hooksDown' part'} (h : s₀.Keeps s) :
    s₀.Keeps { s with hooksDown := hooksDown', part := part' } := h.remap rfl rfl rfl rfl fun c => { c with }

theorem State.Keeps.with_taiOff_part {taiOff' part'} (h : s₀.Keeps s) :
    s₀.Keeps { s with taiOff := taiOff', part := part' } := h.remap rfl rfl rfl rfl fun c => { c with }

theorem State.Keeps.with_spi {spi'} (h : s₀.Keeps s) :
    s₀.Keeps { s with spi := spi' } := h.remap rfl rfl rfl rfl fun c => { c with }


/-! ### Operations of the state -/

theorem State.Yields.onUnit {present : Bool} {f : State} (h : s₀.Keeps s) (hs1 : s₀.Keeps f) : s₀.Yields (onUnit s present f) := .next (.ite hs1 h)

theorem State.Keeps.setReg {a : Nat} {w : Word} (h : s₀.Keeps s) : s₀.Keeps (s.setReg a w) :=
  h.remap rfl rfl rfl rfl fun c => { c with regs := smapPut_wf _ _ c.regs }

theorem State.Keeps.setRf {a lo n v : Nat} (h : s₀.Keeps s) : s₀.Keeps (s.setRf a lo n v) := h.setReg

theorem State.Keeps.setRb {a i : Nat} {b : Bool} (h : s₀.Keeps s) : s₀.Keeps (s.setRb a i b) := h.setReg

theorem State.Keeps.setRegs {l : List (Nat × Word)} (h : s₀.Keeps s) : s₀.Keeps (s.setRegs l) := .foldl h (fun ht => ht.setReg)

theorem State.Keeps.resetRange {lo hi : Nat} (h : s₀.Keeps s) : s₀.Keeps (s.resetRange lo hi) :=
  h.remap rfl rfl rfl rfl fun c => { c with regs := smapFilter_wf _ c.regs }

theorem State.Keeps.resetBlock {u blk : Nat} (h : s₀.Keeps s) : s₀.Keeps (s.resetBlock u blk) := h.resetRange

theorem State.Keeps.fresh (h : s₀.Keeps s) : s₀.Keeps s.fresh.2 := h.draw

theorem State.Keeps.bump {a n : Nat} (h : s₀.Keeps s) : s₀.Keeps (s.bump a n) := .ite h.setReg h.fresh.setReg

theorem State.Keeps.bumpSat {a lo n inc : Nat} (h : s₀.Keeps s) : s₀.Keeps (s.bumpSat a lo n inc) := h.setRf

theorem State.Keeps.setEp {v : Via} {e : Endpoint} (h : s₀.Keeps s) : s₀.Keeps (s.setEp v e) :=
  h.remap rfl rfl rfl rfl fun c => { c with ends := smapPut_wf _ _ c.ends }

theorem State.Keeps.setPcieFn {k : Nat} {f : PcieFn} (h : s₀.Keeps s) : s₀.Keeps (s.setPcieFn k f) :=
  h.remap rfl rfl rfl rfl fun c => { c with pcieFns := smapPut_wf _ _ c.pcieFns }

theorem State.Keeps.setKern {k : Nat} {x : Kern} (h : s₀.Keeps s) : s₀.Keeps (s.setKern k x) :=
  h.remap rfl rfl rfl rfl fun c => { c with kerns := smapPut_wf _ _ c.kerns }

theorem State.Keeps.setHub {k : Nat} {x : Hub} (h : s₀.Keeps s) : s₀.Keeps (s.setHub k x) :=
  h.remap rfl rfl rfl rfl fun c => { c with hubs := smapPut_wf _ _ c.hubs }

theorem State.Keeps.setNet {k : Nat} {x : Net} (h : s₀.Keeps s) : s₀.Keeps (s.setNet k x) :=
  h.remap rfl rfl rfl rfl fun c => { c with nets := smapPut_wf _ _ c.nets }

theorem State.Keeps.setMapper {k : Nat} {x : Mapper} (h : s₀.Keeps s) : s₀.Keeps (s.setMapper k x) :=
  h.remap rfl rfl rfl rfl fun c => { c with maps := smapPut_wf _ _ c.maps }

theorem State.Keeps.setPort {k p : Nat} {x : Port} (h : s₀.Keeps s) : s₀.Keeps (s.setPort k p x) :=
  h.remap rfl rfl rfl rfl fun c => { c with ports := smapPut_wf _ _ c.ports }

theorem State.Keeps.setCtxAt {k t p : Nat} {x : Ctx} (h : s₀.Keeps s) : s₀.Keeps (s.setCtxAt k t p x) :=
  h.remap rfl rfl rfl rfl fun c => { c with ctxs := smapPut_wf _ _ c.ctxs }

theorem State.Keeps.setRouteCtx {key : Nat} {x : Ctx} (h : s₀.Keeps s) : s₀.Keeps (s.setRouteCtx key x) :=
  h.remap rfl rfl rfl rfl fun c => { c with routeCtxs := smapPut_wf _ _ c.routeCtxs }

theorem State.Keeps.setCtx {k t : Nat} {x : Ctx} (h : s₀.Keeps s) : s₀.Keeps (s.setCtx k t x) := h.setCtxAt

/-! ### What `Machine/Packets` changes -/

theorem State.Keeps.queueCells {k t p cls leg : Nat} {sealed : Bool} {bs : List Byte} (h : s₀.Keeps s) : s₀.Keeps (s.queueCells k t p cls leg
    sealed bs) :=
  h.setCtxAt

theorem State.Keeps.queueBytes {k t p cls : Nat} {sealed : Bool} {bs : List Byte} (h : s₀.Keeps s) : s₀.Keeps (s.queueBytes k t p cls sealed bs) :=
  h.queueCells

theorem State.Keeps.ctrlSend {k p : Nat} {pk : Packet} (h : s₀.Keeps s) : s₀.Keeps (s.ctrlSend k p pk) := h.queueBytes

theorem State.Keeps.linkMsg {k p opcode : Nat} {data : List Word} (h : s₀.Keeps s) : s₀.Keeps (s.linkMsg k p opcode data) := h.setPort.ctrlSend

theorem State.Keeps.linkAnswer {k p opcode tag : Nat} {data : List Word} (h : s₀.Keeps s) : s₀.Keeps (s.linkAnswer k p opcode tag data) := h.ctrlSend

/-! ### What `Machine/Log` changes -/

theorem State.Keeps.queueEvent {v : Via} {i : EventItem} (h : s₀.Keeps s) : s₀.Keeps (s.queueEvent v i) :=
  .ite h (by split; exacts [.ite h.setPcieFn h.setEp.setPcieFn, h.setEp.ctrlSend, .ite h.setEp h.setEp])

theorem State.Keeps.deliverEvent {forced : List Via} {sev : Nat} {i : EventItem} (h : s₀.Keeps s) : s₀.Keeps (s.deliverEvent forced sev i) :=
  .foldl h (fun ht => .ite ht.queueEvent ht)

theorem State.Keeps.setQuiet {k : Nat} {v : Nat × Nat} (h : s₀.Keeps s) : s₀.Keeps (s.setQuiet k v) := h.with_part

theorem State.Keeps.logTo {ring src : Nat} {d : EvDef} {idx : Nat} {forced : List Via} {tag : Nat} {ps : List Nat} (h : s₀.Keeps s) : s₀.Keeps
    (s.logTo ring src d idx forced tag ps) :=
  .deliverEvent (.ite (.bump (.ite (.ite h.setKern.setQuiet h.setKern) (.bump (.ite h.setKern.setQuiet h.setKern)))) (.ite (.ite
      h.setKern.setQuiet h.setKern) (.bump (.ite h.setKern.setQuiet h.setKern))))

theorem State.Keeps.log {k : Nat} {d : EvDef} {idx : Nat} {ps : List Nat} (h : s₀.Keeps s) : s₀.Keeps (s.log k d idx ps) := h.logTo

theorem State.Keeps.logPower {d : EvDef} {idx : Nat} {ps : List Nat} (h : s₀.Keeps s) : s₀.Keeps (s.logPower d idx ps) := .ite h.logTo h.with_path

theorem State.Keeps.addJob {j : Job} (h : s₀.Keeps s) : s₀.Keeps (s.addJob j) := h.with_jobs_lastJob

theorem State.Keeps.mapJob {n : Nat} {f : Job → Job} (h : s₀.Keeps s) : s₀.Keeps (s.mapJob n f) := h.with_jobs

theorem State.Keeps.endJob {n : Nat} {st : JobState} {status detail : Nat} (h : s₀.Keeps s) : s₀.Keeps (s.endJob n st status detail) := by
  unfold State.endJob
  split
  · exact h
  · exact .ite h.mapJob.logTo h

theorem State.Keeps.jobStep {n k : Nat} (h : s₀.Keeps s) : s₀.Keeps (s.jobStep n k) := h.mapJob

theorem State.Keeps.nextStep {n : Nat} (h : s₀.Keeps s) : s₀.Keeps (s.nextStep n) := by
  unfold State.nextStep
  split
  · exact h
  · exact .ite h.endJob (.ite h.endJob h.jobStep)

/-! ### What `Machine/Seams` changes -/

theorem State.Keeps.seamCredits {k i n : Nat} (h : s₀.Keeps s) : s₀.Keeps (s.seamCredits k i n) := .foldl h (fun ht => ht.setRf)

theorem State.Keeps.setSeam {k i st : Nat} (h : s₀.Keeps s) : s₀.Keeps (s.setSeam k i st) := h.setRf.seamCredits

theorem State.Keeps.releaseHop {f : Flight} (h : s₀.Keeps s) : s₀.Keeps (s.releaseHop f) := .ite h h.setRf

theorem State.Keeps.hop? {f : Flight} {x : Flight × State} (e : s.hop? f = some x) (h : s₀.Keeps s) : s₀.Keeps x.2 := by
  unfold State.hop? at e
  split at e
  · cases e
  · split at e
    · cases e
    · dsimp only at e
      split at e
      · cases e
      · cases e
        exact h.setRf.releaseHop.bump.bump

theorem State.Keeps.dropFlights {mine : Flight → Bool} (h : s₀.Keeps s) : s₀.Keeps (s.dropFlights mine) :=
  .foldl h.with_flights (fun ht => ht.releaseHop)

/-! ### What `Machine/Rows` changes -/

theorem State.Keeps.setRate {k p v : Nat} (h : s₀.Keeps s) : s₀.Keeps (s.setRate k p v) := .ite h h.setRf.setPort

theorem State.Keeps.setRowEntry {shadow : Bool} {k p e v : Nat} (h : s₀.Keeps s) : s₀.Keeps (s.setRowEntry shadow k p e v) := .ite h h.setRf

theorem State.Keeps.writeTable {shadow : Bool} {k p : Nat} {t : List Nat} (h : s₀.Keeps s) : s₀.Keeps (s.writeTable shadow k p t) :=
  .foldl h (fun ht => ht.setRowEntry)

theorem State.Keeps.place {k p label g : Nat} (h : s₀.Keeps s) : s₀.Keeps (s.place k p label g) := h.writeTable.writeTable

theorem State.Keeps.releaseRows {k p label : Nat} (h : s₀.Keeps s) : s₀.Keeps (s.releaseRows k p label) := h.writeTable.writeTable

theorem State.Keeps.holdRows {k p : Nat} {job : Option Nat} (h : s₀.Keeps s) : s₀.Keeps (s.holdRows k p job) := h.setRb.setRf

theorem State.Keeps.holdFar {k p : Nat} {link : Option (Nat × Nat)} (h : s₀.Keeps s) : s₀.Keeps (s.holdFar k p link) := h.setPort.holdRows

theorem State.Keeps.doSwap {k p : Nat} (h : s₀.Keeps s) : s₀.Keeps (s.doSwap k p) :=
  .ite h.writeTable.setRb.setRf.bump.holdFar h.writeTable.setRb.setRf.bump

theorem State.Keeps.clearRoute {k r : Nat} (h : s₀.Keeps s) : s₀.Keeps (s.clearRoute k r) :=
  .foldl h.setRouteCtx.setRouteCtx.dropFlights (fun ht => ht.setKern.setPort)

theorem State.Keeps.dropRoute {k r : Nat} (h : s₀.Keeps s) : s₀.Keeps (s.dropRoute k r) := .setRb (.clearRoute (.foldl h (fun ht => ht.releaseRows)))

/-! ### What `Machine/Adapters` changes -/

theorem State.Keeps.setOutbox {k a : Nat} {l : List (List Byte)} (h : s₀.Keeps s) : s₀.Keeps (s.setOutbox k a l) :=
  h.remap rfl rfl rfl rfl fun c => { c with outbox := smapPut_wf _ _ c.outbox }

theorem State.Keeps.viaDown {v : Via} (h : s₀.Keeps s) : s₀.Keeps (s.viaDown v) := h.setEp

theorem State.Keeps.viaUpNow {v : Via} (h : s₀.Keeps s) : s₀.Keeps (s.viaUpNow v) := h.setEp

theorem State.Keeps.takeAdapter {k t : Nat} {x : (Bool × List Byte) × State} (e : s.takeAdapter k t = some x) (h : s₀.Keeps s) :
    s₀.Keeps x.2 := by
  obtain ⟨m, -, he⟩ := List.exists_of_findSome?_eq_some e
  dsimp only at he
  split at he
  · cases he
  · cases he
    exact h.setCtxAt

theorem State.Keeps.emit {k a : Nat} {bs : List Byte} (h : s₀.Keeps s) : s₀.Keeps (s.emit k a bs) := h.setOutbox

/-! ### What `Machine/Time` changes -/

theorem State.Keeps.setTaiX {x : Int} (h : s₀.Keeps s) : s₀.Keeps (s.setTaiX x) := h.with_taiOff_taiFrac

theorem State.Keeps.setTime {off : Nat} {w : Word} (h : s₀.Keeps s) : s₀.Keeps (s.setTime off w) := h.setRegs

theorem State.Keeps.putTimeState {st src kind : Nat} (h : s₀.Keeps s) : s₀.Keeps (s.putTimeState st src kind) := h.setTime

theorem State.Keeps.sendTimeInfo {k p : Nat} (h : s₀.Keeps s) : s₀.Keeps (s.sendTimeInfo k p) := .ite h.queueBytes h

theorem State.Keeps.sendTimeInfos (h : s₀.Keeps s) : s₀.Keeps (s.sendTimeInfos) := .foldl h (fun ht => ht.sendTimeInfo)

theorem State.Keeps.moveSource {i : Nat} (h : s₀.Keeps s) : s₀.Keeps (s.moveSource i) :=
  .sendTimeInfos (.log (.putTimeState (.with_tb (.ite h.with_tb h))))

theorem State.Keeps.steer {o : Int} (h : s₀.Keeps s) : s₀.Keeps (s.steer o) :=
  .ite h.setTaiX.putTimeState.with_tb.log.sendTimeInfos (.ite h.fresh.fresh.setTime.setTaiX.with_tb.putTimeState.sendTimeInfos
      h.fresh.fresh.setTime.setTaiX.with_tb)

theorem State.Keeps.rowInfoRx {k p tx echoRow echoRx : Nat} {you : Bool} (h : s₀.Keeps s) : s₀.Keeps (s.rowInfoRx k p tx echoRow echoRx you) := by
  unfold State.rowInfoRx
  dsimp only
  split
  · exact h.setPort
  · exact .ite (.steer (.setReg (.ite h.setPort.setReg h.setPort.fresh.setReg))) (.setReg (.ite h.setPort.setReg h.setPort.fresh.setReg))

/-! ### What `Machine/Ether` changes -/

theorem State.Keeps.setEth {k e : Nat} {p : EthPort} (h : s₀.Keeps s) : s₀.Keeps (s.setEth k e p) := h.setNet

theorem State.Keeps.ethSend {k e : Nat} {b : List Byte} (h : s₀.Keeps s) : s₀.Keeps (s.ethSend k e b) := .ite h.setEth.bump h

theorem State.Keeps.prpCount {k : Nat} (h : s₀.Keeps s) : s₀.Keeps (s.prpCount k) := h.setRf.setRf

theorem State.Keeps.pairSend {k : Nat} {own : Bool} {b : List Byte} (h : s₀.Keeps s) : s₀.Keeps (s.pairSend k own b) :=
  .ite (.ite h.setNet.ethSend.ethSend.bump h.setNet.ethSend.ethSend) (by
    split
    · exact .ite h.setNet.ethSend.ethSend.bump h.setNet.ethSend.ethSend
    · exact .ite (.ite h.setNet.prpCount.ethSend.ethSend.bump h.setNet.prpCount.ethSend.ethSend) h.ethSend.ethSend.bump)

theorem State.Keeps.pairReceive {k e : Nat} {b : List Byte} (h : s₀.Keeps s) : s₀.Keeps (s.pairReceive k e b).2 :=
  .ite_snd h (.ite_snd h.bump (.ite_snd h.bump (.prpCount (.setNet (.ite h.bump h)))))

theorem State.Keeps.ownSend {k port : Nat} {b : List Byte} (h : s₀.Keeps s) : s₀.Keeps (s.ownSend k port b) := .ite h.pairSend h.ethSend

theorem State.Keeps.ethTunnel {k e : Nat} {on : Bool} (h : s₀.Keeps s) : s₀.Keeps (s.ethTunnel k e on) := h.setRb

/-! ### What `Machine/Mapper` changes -/

theorem State.Keeps.setSig {k g : Nat} {v : Sig} (h : s₀.Keeps s) : s₀.Keeps (s.setSig k g v) := h.setMapper

theorem State.Keeps.setSub {k i : Nat} {v : GooseSub} (h : s₀.Keeps s) : s₀.Keeps (s.setSub k i v) := h.setMapper

theorem State.Keeps.setPub {k i : Nat} {v : GoosePub} (h : s₀.Keeps s) : s₀.Keeps (s.setPub k i v) := h.setMapper

theorem State.Keeps.gooseSend {k i : Nat} (h : s₀.Keeps s) : s₀.Keeps (s.gooseSend k i) := h.ownSend.bump

theorem State.Keeps.gooseNew {k i time : Nat} (h : s₀.Keeps s) : s₀.Keeps (s.gooseNew k i time) := h.setRegs.setPub.gooseSend

theorem State.Keeps.gooseChange {k i time : Nat} (h : s₀.Keeps s) : s₀.Keeps (s.gooseChange k i time) := .ite h.setPub h.gooseNew

theorem State.Keeps.driveGpio {k g : Nat} (h : s₀.Keeps s) : s₀.Keeps (s.driveGpio k g) := h.setRb

theorem State.Keeps.publish {k g : Nat} {y : Int} {out : Word} {q time : Nat} (h : s₀.Keeps s) : s₀.Keeps (s.publish k g y out q time) :=
  .foldl (by
    split
    · exact h.setReg.bump.setSig.setMapper
    · exact h.setReg.bump.setSig.driveGpio
    · exact h.setReg.bump.setSig) (fun ht => ht.gooseChange)

theorem State.Keeps.requality {k g q : Nat} (h : s₀.Keeps s) : s₀.Keeps (s.requality k g q) := .ite h.setRf h.setRf.publish

theorem State.Keeps.sigInvalid {k g : Nat} (h : s₀.Keeps s) : s₀.Keeps (s.sigInvalid k g) := h.requality

theorem State.Keeps.sigUpdate {k g ty : Nat} {w : Word} {q time : Nat} (h : s₀.Keeps s) : s₀.Keeps (s.sigUpdate k g ty w q time) := by
  unfold State.sigUpdate
  dsimp only
  split
  · exact h.setReg.bump.requality
  · exact .ite (.publish (.ite h.setReg.bump.setReg.setRegs.bump.log h.setReg.bump.setReg.setRegs)) (.ite h.setReg.bump.setReg.setRegs.bump.log
      h.setReg.bump.setReg.setRegs)

theorem State.Keeps.pipSend {k p : Nat} {gs : List Nat} (h : s₀.Keeps s) : s₀.Keeps (s.pipSend k p gs) :=
  .foldl h.setPort.queueBytes (fun ht => ht.setSig)

theorem State.Keeps.pipSendAll {fuel k p : Nat} {gs : List Nat} (h : s₀.Keeps s) : s₀.Keeps (s.pipSendAll fuel k p gs) := by
  induction fuel generalizing s gs with
  | zero => exact h
  | succ n ih => exact .ite h (ih h.pipSend)

theorem State.Keeps.pipFlush {k : Nat} (h : s₀.Keeps s) : s₀.Keeps (s.pipFlush k) := .foldl h.setMapper (fun ht => .ite ht.pipSendAll ht)

theorem State.Keeps.sigsInvalid {k : Nat} {gs : List Nat} (h : s₀.Keeps s) : s₀.Keeps (s.sigsInvalid k gs) :=
  .ite h (.pipFlush (.foldl h (fun ht => ht.sigInvalid)))

theorem State.Keeps.pipPortLost {k p : Nat} (h : s₀.Keeps s) : s₀.Keeps (s.pipPortLost k p) := h.sigsInvalid

theorem State.Keeps.hidLost {k : Nat} {ports : Nat → Bool} (h : s₀.Keeps s) : s₀.Keeps (s.hidLost k ports) := h.sigsInvalid

/-! ### What `Machine/Flags` changes -/

theorem State.Keeps.state {self : Res} (h : s₀.Keeps self.state) : s₀.Keeps (self.state) := h

theorem State.Keeps.ok {data : List Word} (h : s₀.Keeps s) : s₀.Keeps (Res.ok s data).state := h

theorem State.Keeps.fail {st : Status} {detail : Nat} (h : s₀.Keeps s) : s₀.Keeps (Res.fail st detail s).state := h

theorem State.Keeps.checked {cs : List Check} {ok : Res} (h : s₀.Keeps s) (hs1 : s₀.Keeps ok.state) : s₀.Keeps (Res.checked cs s ok).state := by
  unfold Machine.Res.checked
  split
  · exact h.fail
  · exact hs1

/-! ### What `Machine/Transport` changes -/

theorem State.Keeps.keep {v : Via} {pk : Packet} (h : s₀.Keeps s) : s₀.Keeps (s.keep v pk) := h.setEp

theorem State.Keeps.deliver {v : Via} {slot : Nat} {pk : Packet} (h : s₀.Keeps s) : s₀.Keeps (s.deliver v slot pk) := by
  unfold State.deliver
  split
  · exact h.setEp
  · exact h.setEp
  · exact h.setPcieFn.keep
  · exact h.ctrlSend.keep
  · exact h.keep

theorem State.Keeps.runLocal {c : Cmd} {r : Req} (h : s₀.Keeps s) (hc : s₀.Keeps (c.act r (reqTarget r) s).state) :
    s₀.Keeps (runLocal c r s).state := .checked h hc

theorem State.Keeps.countReject {ek m : Nat} {st : Status} (h : s₀.Keeps s) : s₀.Keeps (countReject ek m st s) := .ite h h.bump

theorem State.Keeps.noteDenied {ek m opcode : Nat} {st : Status} {detail : Nat} (h : s₀.Keeps s) : s₀.Keeps (s.noteDenied ek m opcode st detail) :=
  .ite (.ite h.bump h.bump.with_part.log) h

theorem State.Keeps.sendRemote {k p : Nat} {q : RemoteReq} {data : List Word} (h : s₀.Keeps s) : s₀.Keeps (s.sendRemote k p q data) :=
  h.setPort.ctrlSend

theorem State.Keeps.forward {opcode : Nat} {r : Req} (h : s₀.Keeps s) : s₀.Keeps (s.forward opcode r) := h.sendRemote

theorem State.Keeps.refuse {opcode ek : Nat} {r : Req} {st : Status} {detail : Nat} (h : s₀.Keeps s) : s₀.Keeps (refuse opcode ek r st detail s) :=
  h.countReject.deliver

theorem State.Keeps.runCmd {c : Cmd} {r : Req} (h : s₀.Keeps s) (hc : s₀.Keeps (c.act r (reqTarget r) s).state) :
    s₀.Keeps (runCmd c r s) := by
  unfold Machine.runCmd
  split
  · exact h.countReject.deliver
  · exact h.refuse
  · split
    · exact h.refuse
    · refine .ite ?_ (.ite (h.runLocal hc) (h.runLocal hc).countReject.noteDenied.deliver)
      split
      · exact h.refuse
      · exact h.forward

theorem State.Yields.onCommand {c : Cmd} {r : Req} (h : s₀.Keeps s) (hc : s₀.Keeps (c.act r (reqTarget r) s).state) :
    s₀.Yields (onCommand c r s) := .ite (.next (h.runCmd hc)) (.next h)

theorem State.Keeps.startJob {opcode : Nat} {r : Req} {k steps : Nat} {args : List Word} (h : s₀.Keeps s) : s₀.Keeps (s.startJob opcode r k steps
    args) :=
  h.addJob

theorem State.Keeps.accepted {num : Nat} {data : List Word} (h : s₀.Keeps s) : s₀.Keeps (Res.accepted num s data).state := h

/-! ### What `Machine/System` changes -/

theorem State.Keeps.cmdSysInfo {r : Req} {u : Nat} (h : s₀.Keeps s) : s₀.Keeps (cmdSysInfo.act r u s).state := h.ok

theorem State.Keeps.cmdNop {r : Req} {u : Nat} (h : s₀.Keeps s) : s₀.Keeps (cmdNop.act r u s).state := h.ok

theorem State.Keeps.cmdGetReply {r : Req} {u : Nat} (h : s₀.Keeps s) : s₀.Keeps (cmdGetReply.act r u s).state := by
  dsimp only [Machine.cmdGetReply]
  split
  · exact h.ok
  · exact h.fail

theorem State.Keeps.cmdEventSubscribe {r : Req} {u : Nat} (h : s₀.Keeps s) : s₀.Keeps (cmdEventSubscribe.act r u s).state := h.setEp.ok

theorem State.Keeps.cmdJobStatus {r : Req} {u : Nat} (h : s₀.Keeps s) : s₀.Keeps (cmdJobStatus.act r u s).state := by
  dsimp only [Machine.cmdJobStatus]
  split
  · exact h.ok
  · exact h.fail

theorem State.Yields.execJobExpiry {job : Nat} (h : s₀.Keeps s) : s₀.Yields (execJobExpiry job s) := .next h.with_jobs

theorem State.Yields.execReplyKeepExpiry {via : Via} {tag : Nat} (h : s₀.Keeps s) : s₀.Yields (execReplyKeepExpiry via tag s) := .next h.setEp

/-! ### What `Machine/Mbox` changes -/

theorem State.Keeps.wakeIrq {owner : Nat} (h : s₀.Keeps s) : s₀.Keeps (s.wakeIrq owner) :=
  h.remap rfl rfl rfl rfl fun c => { c with irqs := smapPut_wf _ _ c.irqs }

theorem State.Keeps.wakeDomain {k d : Nat} (h : s₀.Keeps s) : s₀.Keeps (s.wakeDomain k d) := .ite h h.setRb.setRf

theorem State.Keeps.usbNoticeWake {k : Nat} (h : s₀.Keeps s) : s₀.Keeps (s.usbNoticeWake k) := .ite h.setHub h

theorem State.Keeps.wakeEvent {k : Nat} {d : EvDef} {idx p0 : Nat} {recvs : List Nat} (h : s₀.Keeps s) : s₀.Keeps (s.wakeEvent k d idx p0 recvs) :=
  .logTo (.foldl (.foldl (.foldl h (fun ht => ht.wakeDomain)) (fun ht => ht.wakeIrq)) (fun ht =>
      by split; exacts [ht.setPcieFn, ht.usbNoticeWake, ht]))

theorem State.Keeps.endStale {k m o : Nat} (h : s₀.Keeps s) : s₀.Keeps (s.endStale k m o) := h.setKern.setRb

theorem State.Keeps.mboxPut {via : Via} {k m i : Nat} {w : Word} (h : s₀.Keeps s) : s₀.Keeps (s.mboxPut via k m i w) :=
  .ite h.setReg.setRb.wakeEvent h.setReg

theorem State.Keeps.ignoreWrite {k a : Nat} (h : s₀.Keeps s) : s₀.Keeps (s.ignoreWrite k a) := h.bump.setReg

theorem State.Keeps.mboxReject {k m a : Nat} (h : s₀.Keeps s) : s₀.Keeps (s.mboxReject k m a) := h.bumpSat.ignoreWrite

theorem State.Keeps.mboxDataWrite {via : Via} {k m i : Nat} {w : Word} (h : s₀.Keeps s) : s₀.Keeps (s.mboxDataWrite via k m i w) :=
  .ite h.setRb.mboxReject (.ite h.mboxReject (.ite h.mboxReject h.mboxPut))

theorem State.Keeps.mboxConsume {k m : Nat} (h : s₀.Keeps s) : s₀.Keeps (s.mboxConsume k m) := .ite h.setRb.bumpSat h

theorem State.Keeps.lockRead {via : Via} {k m : Nat} (h : s₀.Keeps s) : s₀.Keeps (s.lockRead via k m).2 :=
  .ite_snd (.setRf (.ite h.endStale h)) (.ite_snd (.ite h.endStale h) (.ite h.endStale h))

theorem State.Keeps.lockWrite {via : Via} {k m : Nat} {w : Word} (h : s₀.Keeps s) : s₀.Keeps (s.lockWrite via k m w) :=
  .ite h.mboxReject (.ite h.setRf h.ignoreWrite)

theorem State.Keeps.mboxZero {k m : Nat} (h : s₀.Keeps s) : s₀.Keeps (s.mboxZero k m) := h.setRegs

theorem State.Keeps.breakLock {k m breaker : Nat} {flush : Bool} (h : s₀.Keeps s) : s₀.Keeps (s.breakLock k m breaker flush) :=
  .log (.ite h.setKern.setReg.setRb.setRb.mboxZero h.setKern.setReg.setRb)

theorem State.Keeps.breakLocks {breaker : Nat} {p : Nat → Nat → Nat → Bool} (h : s₀.Keeps s) : s₀.Keeps (s.breakLocks breaker p) :=
  .foldl h (fun ht => .ite ht.breakLock ht)

theorem State.Keeps.ringDoorbells {k : Nat} {mask : Word} (h : s₀.Keeps s) : s₀.Keeps (s.ringDoorbells k mask) := .ite h.setReg h.setReg.wakeEvent

theorem State.Yields.onMbox {k m : Nat} {f : State} (h : s₀.Keeps s) (hs1 : s₀.Keeps f) : s₀.Yields (onMbox k m s f) := .onUnit h (.ite hs1 h)

theorem State.Yields.execMboxLockRead {via : Via} {k m : Nat} (h : s₀.Keeps s) : s₀.Yields (execMboxLockRead via k m s) :=
  .onMbox h h.lockRead.with_readOut

theorem State.Yields.execMboxLockWrite {via : Via} {k m : Nat} {w : Word} (h : s₀.Keeps s) : s₀.Yields (execMboxLockWrite via k m w s) :=
  .onMbox h h.lockWrite

theorem State.Yields.execMboxWord63Write {via : Via} {k m : Nat} {w : Word} (h : s₀.Keeps s) : s₀.Yields (execMboxWord63Write via k m w s) :=
  .onMbox h h.mboxDataWrite

theorem State.Yields.execMboxWord63Read {_via : Via} {k m : Nat} (h : s₀.Keeps s) : s₀.Yields (execMboxWord63Read _via k m s) :=
  .onMbox h h.mboxConsume.with_readOut

theorem State.Yields.execDbRingWrite {_via : Via} {k : Nat} {w : Word} (h : s₀.Keeps s) : s₀.Yields (execDbRingWrite _via k w s) :=
  .onMbox h h.ringDoorbells

theorem State.Yields.execDbPendWrite {_via : Via} {k : Nat} {w : Word} (h : s₀.Keeps s) : s₀.Yields (execDbPendWrite _via k w s) := .onMbox h h.setReg

theorem State.Yields.execLockIdleBreak {k m : Nat} (h : s₀.Keeps s) : s₀.Yields (execLockIdleBreak k m s) := .onUnit h (.ite h.breakLock h)

theorem State.Keeps.cmdMboxWrite {r : Req} {u : Nat} (h : s₀.Keeps s) : s₀.Keeps (cmdMboxWrite.act r u s).state :=
  .checked h (.ok (.ite (.mboxPut (.foldl h (fun ht => ht.mboxPut))) (.foldl h (fun ht => ht.mboxPut))))

theorem State.Keeps.cmdMboxRead {r : Req} {u : Nat} (h : s₀.Keeps s) : s₀.Keeps (cmdMboxRead.act r u s).state := .ok (.ite h.mboxConsume h)

theorem State.Keeps.cmdDoorbellRing {r : Req} {u : Nat} (h : s₀.Keeps s) : s₀.Keeps (cmdDoorbellRing.act r u s).state := h.ringDoorbells.ok

theorem State.Keeps.cmdLockAcquire {r : Req} {u : Nat} (h : s₀.Keeps s) : s₀.Keeps (cmdLockAcquire.act r u s).state := h.checked h.lockRead.ok

theorem State.Keeps.cmdLockRelease {r : Req} {u : Nat} (h : s₀.Keeps s) : s₀.Keeps (cmdLockRelease.act r u s).state :=
  .checked h (.ok (.ite h h.setRf))

theorem State.Keeps.cmdLockStatus {r : Req} {u : Nat} (h : s₀.Keeps s) : s₀.Keeps (cmdLockStatus.act r u s).state := h.ok

/-! ### What `Machine/Display` changes -/

theorem State.Keeps.setDin {k i : Nat} {d : Din} (h : s₀.Keeps s) : s₀.Keeps (s.setDin k i d) :=
  h.remap rfl rfl rfl rfl fun c => { c with dins := smapPut_wf _ _ c.dins }

theorem State.Keeps.dinHpd {k i : Nat} {opened : Bool} (h : s₀.Keeps s) : s₀.Keeps (s.dinHpd k i opened) := h.setRb.setRb

theorem State.Keeps.presentChange {old : State} {k i : Nat} (hs1 : s₀.Keeps s) : s₀.Keeps (old.presentChange s k i) := .dinHpd (.ite hs1.setDin hs1)

theorem State.Keeps.encAbort {k i cause : Nat} {opened : Bool} (h : s₀.Keeps s) : s₀.Keeps (s.encAbort k i cause opened) :=
  .ite h h.setDin.setOutbox.setRb.bump

theorem State.Keeps.dinStart {k i : Nat} (h : s₀.Keeps s) : s₀.Keeps (s.dinStart k i) := h.setDin.setOutbox.dinHpd

theorem State.Keeps.dinStop {k i : Nat} (h : s₀.Keeps s) : s₀.Keeps (s.dinStop k i) := h.encAbort.setOutbox.dinHpd

theorem State.Keeps.setDout {k o : Nat} {d : Dout} (h : s₀.Keeps s) : s₀.Keeps (s.setDout k o d) :=
  h.remap rfl rfl rfl rfl fun c => { c with douts := smapPut_wf _ _ c.douts }

theorem State.Keeps.setDoutState {k o v : Nat} (h : s₀.Keeps s) : s₀.Keeps (s.setDoutState k o v) := h.setRf

theorem State.Keeps.sinkSend {k o : Nat} {bs : List Byte} (h : s₀.Keeps s) : s₀.Keeps (s.sinkSend k o bs) := by
  unfold State.sinkSend
  dsimp only
  split
  · exact h.emit
  · split
    · exact h.setCtx
    · exact h

theorem State.Keeps.sendEdid {k o : Nat} (h : s₀.Keeps s) : s₀.Keeps (s.sendEdid k o) := .ite (.foldl h (fun ht => ht.sinkSend)) h.sinkSend

theorem State.Keeps.sendSinkStatus {k o : Nat} (h : s₀.Keeps s) : s₀.Keeps (s.sendSinkStatus k o) := h.sinkSend

theorem State.Keeps.sendRefresh {k o frame : Nat} {rows : Option (Nat × Nat)} (h : s₀.Keeps s) : s₀.Keeps (s.sendRefresh k o frame rows) :=
  h.sinkSend.bump

theorem State.Keeps.doutOpened {k o : Nat} (h : s₀.Keeps s) : s₀.Keeps (s.doutOpened k o) := h.setDout.sendEdid

theorem State.Keeps.doutStart {k o t : Nat} (h : s₀.Keeps s) : s₀.Keeps (s.doutStart k o t) := .doutOpened (.ite h.setReg h)

theorem State.Keeps.doutClosed {k o : Nat} (h : s₀.Keeps s) : s₀.Keeps (s.doutClosed k o) := h.setDout.setOutbox

theorem State.Keeps.legsOpened {k t : Nat} (h : s₀.Keeps s) : s₀.Keeps (s.legsOpened k t) := .foldl h (fun ht => ht.doutOpened)

theorem State.Keeps.legsClosed {k t : Nat} (h : s₀.Keeps s) : s₀.Keeps (s.legsClosed k t) := .foldl h (fun ht => ht.doutClosed)

/-! ### What `Machine/Pcie` changes -/

theorem State.Keeps.setBridge {k : Nat} {b : Bridge} (h : s₀.Keeps s) : s₀.Keeps (s.setBridge k b) :=
  h.remap rfl rfl rfl rfl fun c => { c with bridges := smapPut_wf _ _ c.bridges }

theorem State.Keeps.xSend {k : Nat} {b : List Byte} (h : s₀.Keeps s) : s₀.Keeps (s.xSend k b) := h.setBridge

theorem State.Keeps.synth {k : Nat} {hdr : List Byte} {ca : Bool} (h : s₀.Keeps s) : s₀.Keeps (s.synth k hdr ca) := h.xSend.bump

theorem State.Keeps.setNp {k : Nat} {l : List NpOut} (h : s₀.Keeps s) : s₀.Keeps (s.setNp k l) := h.setBridge.setRf.setReg

theorem State.Keeps.raNote {k addr len cause : Nat} (h : s₀.Keeps s) : s₀.Keeps (s.raNote k addr len cause) :=
  .ite (.setBridge (.ite h.bump.setRegs.setRf.bump h.bump.setRegs.setRf)) (.log (.setBridge (.ite h.bump.setRegs.setRf.bump h.bump.setRegs.setRf)))

theorem State.Keeps.raDrop {k cause : Nat} {p : RaPiece → Bool} (h : s₀.Keeps s) : s₀.Keeps (s.raDrop k cause p) :=
  .foldl h.setBridge (fun ht => ht.raNote)

theorem State.Keeps.raClear {k cause : Nat} (h : s₀.Keeps s) : s₀.Keeps (s.raClear k cause) := h.raDrop.setBridge.setNp

theorem State.Keeps.setSlot {k : Nat} {pds dll : Bool} (h : s₀.Keeps s) : s₀.Keeps (s.setSlot k pds dll) := h.setBridge

theorem State.Keeps.surpriseDown {k : Nat} (h : s₀.Keeps s) : s₀.Keeps (s.surpriseDown k) := .ite h.setBridge.bump.xSend h.setBridge.bump

theorem State.Keeps.pathLost {k lost : Nat} (h : s₀.Keeps s) : s₀.Keeps (s.pathLost k lost) :=
  .setRb (.setNp (.raClear (.ite (.setBridge (.foldl (.foldl h (fun ht => ht.synth)) (fun ht => .ite ht.synth ht))) (.bump (.setBridge (.foldl
      (.foldl h (fun ht => ht.synth)) (fun ht => .ite ht.synth ht)))))))

theorem State.Keeps.dropX {k f : Nat} (h : s₀.Keeps s) : s₀.Keeps (s.dropX k f) := h.viaDown.setRf.setRf.setRb

theorem State.Keeps.pcieSync {k : Nat} (h : s₀.Keeps s) : s₀.Keeps (s.pcieSync k) := .ite h.pathLost.setBridge.dropX (.ite h.dropX h)

theorem State.Keeps.bridgeStart {k : Nat} (h : s₀.Keeps s) : s₀.Keeps (s.bridgeStart k) := h.setBridge.setRegs

theorem State.Keeps.bridgeHeld {k t : Nat} (h : s₀.Keeps s) : s₀.Keeps (s.bridgeHeld k t) := .ite h.pathLost.setSlot.surpriseDown.setRf h.pathLost

theorem State.Keeps.bridgeResume {k : Nat} (h : s₀.Keeps s) : s₀.Keeps (s.bridgeResume k) := .ite h.emit (.ite h.setBridge.emit h)

theorem State.Keeps.clearWindows {k : Nat} (h : s₀.Keeps s) : s₀.Keeps (s.clearWindows k) := .foldl h.setBridge (fun ht => ht.setRb)

theorem State.Keeps.bridgeDrain {k : Nat} (h : s₀.Keeps s) : s₀.Keeps (s.bridgeDrain k) := .ite h.pathLost.setSlot.setRf h.pathLost

theorem State.Keeps.bridgeClosed {k t : Nat} (h : s₀.Keeps s) : s₀.Keeps (s.bridgeClosed k t) :=
  .ite h.pathLost.clearWindows.setOutbox.setSlot.setRf h.pathLost.clearWindows.setOutbox

/-! ### What `Machine/Usb` changes -/

theorem State.Keeps.setEps {k : Nat} {l : List (Nat × UsbEp)} (h : s₀.Keeps s) : s₀.Keeps (s.setEps k l) := h.setHub.setRf.setRf

theorem State.Keeps.putEp {k key : Nat} {e : UsbEp} (h : s₀.Keeps s) : s₀.Keeps (s.putEp k key e) := h.setEps

theorem State.Keeps.discardNote {k bytes count : Nat} (h : s₀.Keeps s) : s₀.Keeps (s.discardNote k bytes count) := .ite h.setHub h.setHub.log

theorem State.Keeps.countDrop {k bytes count : Nat} (h : s₀.Keeps s) : s₀.Keeps (s.countDrop k bytes count) := .ite h (.ite h.bump.discardNote h.bump)

theorem State.Keeps.dropData {k : Nat} {p : Nat × UsbEp → Bool} {f : UsbEp → UsbEp} (h : s₀.Keeps s) : s₀.Keeps (s.dropData k p f) :=
  h.setHub.countDrop

theorem State.Keeps.freeEps {k : Nat} {p : Nat × UsbEp → Bool} (h : s₀.Keeps s) : s₀.Keeps (s.freeEps k p) := h.dropData.setEps

theorem State.Keeps.resyncEps {k : Nat} {p : Nat → Bool} (h : s₀.Keeps s) : s₀.Keeps (s.resyncEps k p) := h.dropData.bump

theorem State.Keeps.setIso {k : Nat} {l : List UsbIso} (h : s₀.Keeps s) : s₀.Keeps (s.setIso k l) := h.setHub.setRf

theorem State.Keeps.selectIso {k addr : Nat} {p sel : UsbDesc → Bool} (h : s₀.Keeps s) : s₀.Keeps (s.selectIso k addr p sel) := h.setHub.setIso

theorem State.Keeps.ctlDone {k key : Nat} {e : UsbEp} (h : s₀.Keeps s) : s₀.Keeps (s.ctlDone k key e) := by
  unfold State.ctlDone
  dsimp only
  split
  · exact h.setHub
  · exact h.resyncEps.selectIso
  · exact h.resyncEps.selectIso
  · exact .ite h.resyncEps h
  · exact .ite h.setHub h
  · exact .ite h.setHub h
  · exact h

theorem State.Keeps.setUsbPort {k p : Nat} {w : Word} (h : s₀.Keeps s) : s₀.Keeps (s.setUsbPort k p w) := h.setReg.setRb.setRb.setRb.setRb

theorem State.Keeps.reportPort {k p status change : Nat} (h : s₀.Keeps s) : s₀.Keeps (s.reportPort k p status change) :=
  .ite h.setUsbPort.emit h.setUsbPort.emit.hidLost

theorem State.Keeps.usbDetach {k : Nat} (h : s₀.Keeps s) : s₀.Keeps (s.usbDetach k) := h.viaDown.setReg.setHub

theorem State.Keeps.usbSync {k : Nat} (h : s₀.Keeps s) : s₀.Keeps (s.usbSync k) :=
  .ite h (.setRf (.setRf (.foldl h.freeEps.usbDetach.setHub.setIso (fun ht => ht.setUsbPort))))

theorem State.Keeps.usbStart {k : Nat} (h : s₀.Keeps s) : s₀.Keeps (s.usbStart k) :=
  .ite (.foldl h.setRb.setRb (fun ht => ht.reportPort)) h.setRb.setRb

theorem State.Keeps.usbHeld {k st : Nat} (h : s₀.Keeps s) : s₀.Keeps (s.usbHeld k st) :=
  .ite h.setRb.setRb.hidLost.dropData.setHub.setHub h.setRb.setRb.hidLost.dropData.setHub

theorem State.Keeps.usbResume {k : Nat} (h : s₀.Keeps s) : s₀.Keeps (s.usbResume k) :=
  .ite (.foldl h.setHub (fun ht => .ite ht.reportPort.reportPort ht)) h

theorem State.Keeps.usbPortsGone {k : Nat} (h : s₀.Keeps s) : s₀.Keeps (s.usbPortsGone k) := .foldl h (fun ht => ht.setUsbPort)

theorem State.Keeps.usbClosed {k : Nat} (h : s₀.Keeps s) : s₀.Keeps (s.usbClosed k) := by
  unfold State.usbClosed
  exact h.setRb.setRb.freeEps.setHub.setIso.usbPortsGone.hidLost

/-! ### What `Machine/Hooks` changes -/

theorem State.Keeps.adapterStart {k t : Nat} (h : s₀.Keeps s) : s₀.Keeps (s.adapterStart k t) := by
  unfold State.adapterStart
  split
  · exact h.dinStart.legsOpened
  · exact h.dinStart.legsOpened
  · exact h.doutStart
  · exact h.doutStart
  · exact h.bridgeStart
  · exact h.usbStart
  · exact h.ethTunnel
  · exact h.ethTunnel
  · exact h

theorem State.Keeps.adapterDrain {k t : Nat} (h : s₀.Keeps s) : s₀.Keeps (s.adapterDrain k t) := by
  unfold State.adapterDrain
  split
  · exact h.dinStop
  · exact h.dinStop
  · exact h.bridgeDrain.setOutbox
  · exact h.usbHeld.setOutbox
  · exact h.ethTunnel.setOutbox
  · exact h.ethTunnel.setOutbox
  · exact h.setOutbox

theorem State.Keeps.adapterHeld {k t : Nat} (h : s₀.Keeps s) : s₀.Keeps (s.adapterHeld k t) := by
  unfold State.adapterHeld
  split
  · exact h.dinStop
  · exact h.dinStop
  · exact h.bridgeHeld.setOutbox
  · exact h.usbHeld.setOutbox
  · exact h.ethTunnel.setOutbox
  · exact h.ethTunnel.setOutbox
  · exact h.setOutbox

theorem State.Keeps.adapterResume {k t : Nat} (h : s₀.Keeps s) : s₀.Keeps (s.adapterResume k t) := by
  unfold State.adapterResume
  split
  · exact h.bridgeResume
  · exact h.usbResume
  · exact h

theorem State.Keeps.adapterMoved {k t : Nat} (h : s₀.Keeps s) : s₀.Keeps (s.adapterMoved k t) := by
  unfold State.adapterMoved
  split
  · exact h.pcieSync
  · exact h.usbSync
  · exact h

theorem State.Keeps.adapterClosed {k t : Nat} (h : s₀.Keeps s) : s₀.Keeps (s.adapterClosed k t) := by
  unfold State.adapterClosed
  split
  · exact h.dinStop.legsClosed
  · exact h.dinStop.legsClosed
  · exact h.doutClosed
  · exact h.doutClosed
  · exact h.bridgeClosed
  · exact h.usbClosed.setOutbox
  · exact h.ethTunnel.setOutbox
  · exact h.ethTunnel.setOutbox
  · exact h

/-! ### What `Machine/Contexts` changes -/

theorem State.Keeps.moveCtx {k t st cause : Nat} (h : s₀.Keeps s) : s₀.Keeps (s.moveCtx k t st cause) := .ite h.setRf.log.adapterMoved h.setRf.log

theorem State.Keeps.dropFetched {mine : Src → Bool} (h : s₀.Keeps s) : s₀.Keeps (s.dropFetched mine) := .foldl h.dropFlights (fun ht => ht.setPort)

theorem State.Keeps.discardQueued {k t p : Nat} (h : s₀.Keeps s) : s₀.Keeps (s.discardQueued k t p) :=
  .ite h.setCtxAt.dropFetched h.setCtxAt.dropFetched.bump

theorem State.Keeps.discardFlights {k t : Nat} (h : s₀.Keeps s) : s₀.Keeps (s.discardFlights k t) := .ite h h.dropFlights.bump

theorem State.Keeps.discardAll {k t : Nat} (h : s₀.Keeps s) : s₀.Keeps (s.discardAll k t) := .foldl h.discardFlights (fun ht => ht.discardQueued)

theorem State.Keeps.clearParts {k t : Nat} (h : s₀.Keeps s) : s₀.Keeps (s.clearParts k t) := .foldl h (fun ht => ht.setCtxAt)

theorem State.Keeps.holdCtx {k t : Nat} {job : Option Nat} (h : s₀.Keeps s) : s₀.Keeps (s.holdCtx k t job) := h.setRb.setRf

theorem State.Keeps.closeCtx {k t cause : Nat} (h : s₀.Keeps s) : s₀.Keeps (s.closeCtx k t cause) :=
  .clearParts (.setCtx (.holdCtx (.moveCtx (.discardAll (.ite h.adapterClosed h.adapterClosed.releaseRows)))))

theorem State.Keeps.holdOff {k t cause : Nat} (h : s₀.Keeps s) : s₀.Keeps (s.holdOff k t cause) := h.adapterHeld.discardAll.moveCtx

theorem State.Keeps.faultCtx {k t cause : Nat} (h : s₀.Keeps s) : s₀.Keeps (s.faultCtx k t cause) := h.adapterHeld.discardAll.moveCtx

theorem State.Keeps.openCtx {k t cause : Nat} (h : s₀.Keeps s) : s₀.Keeps (s.openCtx k t cause) := h.clearParts.setCtx.moveCtx.adapterStart

theorem State.Keeps.resumeCtx {k t cause : Nat} (h : s₀.Keeps s) : s₀.Keeps (s.resumeCtx k t cause) := h.openCtx.adapterResume

theorem State.Keeps.endCtxJob {k t : Nat} {st : JobState} {status : Status} {detail : Nat} (h : s₀.Keeps s) : s₀.Keeps (s.endCtxJob k t st status
    detail) := by
  unfold State.endCtxJob
  split
  · exact h.endJob
  · exact h

theorem State.Keeps.forCtxs {l : List (Nat × Nat)} {f : State → Nat → Nat → State} (h : s₀.Keeps s) (hf : ∀ {t x1 x2}, s₀.Keeps t → s₀.Keeps (f t
    x1 x2)) : s₀.Keeps (s.forCtxs l f) :=
  .foldl h (fun ht => hf ht)

theorem State.Keeps.setMember {k t : Nat} (h : s₀.Keeps s) : s₀.Keeps (s.setMember k t) := h.setRf

theorem State.Keeps.roleSync {k p : Nat} (h : s₀.Keeps s) : s₀.Keeps (s.roleSync k p) := .forCtxs h (fun ht => ht.adapterMoved)

theorem State.Keeps.sendMsg {k p opcode : Nat} {data : List Word} (h : s₀.Keeps s) : s₀.Keeps (s.sendMsg k p opcode data) := h.linkMsg

theorem State.Keeps.sendAnswer {k p opcode tag : Nat} {data : List Word} (h : s₀.Keeps s) : s₀.Keeps (s.sendAnswer k p opcode tag data) :=
  h.linkAnswer

theorem State.Keeps.ctxMsg {k t opcode tag flags : Nat} {data : List Word} (h : s₀.Keeps s) : s₀.Keeps (s.ctxMsg k t opcode tag flags data) :=
  .ite h.queueBytes h.ctrlSend

theorem State.Keeps.legMsg {n t leg opcode tag : Nat} {data : List Word} (h : s₀.Keeps s) : s₀.Keeps (s.legMsg n t leg opcode tag data) :=
  h.queueCells

theorem State.Keeps.ctxRequest {k t opcode : Nat} {data : List Word} (h : s₀.Keeps s) : s₀.Keeps (s.ctxRequest k t opcode data) :=
  h.setPort.setCtx.ctxMsg

theorem State.Keeps.setupCtx {k t ty adapter ek ep farA farK out : Nat} {fixed : Bool} {sub : Option Nat} {svc : Nat} (h : s₀.Keeps s) : s₀.Keeps
    (s.setupCtx k t ty adapter ek ep farA farK out fixed sub svc) :=
  h.setReg.setReg.setReg.setReg.setReg.setMember

/-! ### What `Machine/Remote` changes -/

theorem State.Keeps.sendJobRemote {k p : Nat} {q : RemoteReq} {data : List Word} (h : s₀.Keeps s) : s₀.Keeps (s.sendJobRemote k p q data) :=
  .ite h.sendRemote h.setPort

theorem State.Keeps.freeRemote {k p lt : Nat} (h : s₀.Keeps s) : s₀.Keeps (s.freeRemote k p lt) := by
  unfold State.freeRemote
  dsimp only
  split
  · exact h.setPort
  · exact h.setPort.setPort.sendRemote

theorem State.Keeps.answerRemote {q : RemoteReq} {status detail : Nat} {data : List Word} (h : s₀.Keeps s) : s₀.Keeps (s.answerRemote q status
    detail data) :=
  h.deliver

theorem State.Keeps.timeoutRemote {k p detail : Nat} {q : RemoteReq} (h : s₀.Keeps s) : s₀.Keeps (s.timeoutRemote k p detail q) :=
  .ite h.freeRemote.setPort.answerRemote h.freeRemote.setPort

/-! ### What `Machine/Lanes` changes -/

theorem State.Keeps.sendControls {k p : Nat} {cs : List Control} (h : s₀.Keeps s) : s₀.Keeps (s.sendControls k p cs) := h.setPort

theorem State.Keeps.sendOnLanes {k p n : Nat} {c : Control} (h : s₀.Keeps s) : s₀.Keeps (s.sendOnLanes k p n c) := h.sendControls

theorem State.Keeps.sendTrain {k p : Nat} {rxlock : Bool} {n : Nat} (h : s₀.Keeps s) : s₀.Keeps (s.sendTrain k p rxlock n) := h.setPort

theorem State.Keeps.sendMarker {k p : Nat} (h : s₀.Keeps s) : s₀.Keeps (s.sendMarker k p) := h.setPort

theorem State.Keeps.loseLock {k p l : Nat} (h : s₀.Keeps s) : s₀.Keeps (s.loseLock k p l) :=
  .ite (.setPort (.ite h.setRb.bump.log h.setRb.bump)) h.setRb.bump

theorem State.Keeps.rxHeaders {k p l : Nat} {hs : List (BitVec 3)} (h : s₀.Keeps s) : s₀.Keeps (s.rxHeaders k p l hs) :=
  .ite h.setPort.setRf.bump.loseLock h.setPort.setRf.bump

theorem State.Keeps.receive {k p : Nat} {bs : List Block} (h : s₀.Keeps s) : s₀.Keeps (s.receive k p bs).2 :=
  .bump (.foldl h.setPort (fun ht => .ite ht.rxHeaders.bump ht.rxHeaders))

theorem State.Keeps.lockTrain {k p : Nat} {ls : List (Nat × Bool × TrainInfo)} (h : s₀.Keeps s) : s₀.Keeps (s.lockTrain k p ls) :=
  .setPort (.foldl h (fun ht => by split; exacts [ht, ht.setReg.setPort]))

theorem State.Keeps.relock {k p : Nat} {streams : List Nat} (h : s₀.Keeps s) : s₀.Keeps (s.relock k p streams) :=
  .foldl h (fun ht => .ite ht (by dsimp only; split; exacts [ht, ht.setRf.setRb.setRf.setPort]))

/-! ### What `Machine/Shapers` changes -/

theorem State.Keeps.setTokens {k n : Nat} {v : Int} (h : s₀.Keeps s) : s₀.Keeps (s.setTokens k n v) := h.setKern

theorem State.Keeps.accrue {k p n : Nat} (h : s₀.Keeps s) : s₀.Keeps (s.accrue k p n) := .foldl h (fun ht => .ite ht.setTokens ht)

theorem State.Keeps.charge {k n l : Nat} (h : s₀.Keeps s) : s₀.Keeps (s.charge k n l) := .ite h h.setTokens

/-! ### What `Machine/Wake` changes -/

theorem State.Keeps.setPwr {k p v : Nat} (h : s₀.Keeps s) : s₀.Keeps (s.setPwr k p v) := .ite h.setRf.setRf h.setRf

theorem State.Keeps.rowBegins {k p : Nat} (h : s₀.Keeps s) : s₀.Keeps (s.rowBegins k p) := .ite h.accrue.setPort.doSwap h.accrue.setPort

theorem State.Keeps.rowStart {k p : Nat} (h : s₀.Keeps s) : s₀.Keeps (s.rowStart k p) := .ite h.rowBegins.setPort h.rowBegins.setPort.sendMarker

theorem State.Keeps.enterShell {k p : Nat} (h : s₀.Keeps s) : s₀.Keeps (s.enterShell k p) := h.sendOnLanes.setPwr.bump.setPort

theorem State.Keeps.leaveShell {k p : Nat} (h : s₀.Keeps s) : s₀.Keeps (s.leaveShell k p) :=
  .setPwr (.setPort (.ite h.sendTrain.rowBegins h.sendTrain))

theorem State.Keeps.wakeShell {k p : Nat} (h : s₀.Keeps s) : s₀.Keeps (s.wakeShell k p) := .ite h.leaveShell h.setPort

theorem State.Keeps.leaveHusk {k p : Nat} {far : Bool} (h : s₀.Keeps s) : s₀.Keeps (s.leaveHusk k p far) := h.setPort.setPwr.sendTrain.sendTimeInfo

theorem State.Keeps.wakePort {k p : Nat} (h : s₀.Keeps s) : s₀.Keeps (s.wakePort k p) := by
  unfold State.wakePort
  split
  · exact h.wakeShell
  · exact h.leaveHusk
  · exact h

theorem State.Keeps.wakeHusk {k p : Nat} (h : s₀.Keeps s) : s₀.Keeps (s.wakeHusk k p) := .ite h.leaveHusk h

theorem State.Keeps.armSwap {k p : Nat} (h : s₀.Keeps s) : s₀.Keeps (s.armSwap k p) := h.wakeHusk.setPort.setRb

/-! ### What `Machine/Regauge` changes -/

theorem State.Keeps.endGauge {n : Nat} {st : JobState} {status detail : Nat} (h : s₀.Keeps s) : s₀.Keeps (s.endGauge n st status detail) := by
  unfold State.endGauge
  split
  · exact h
  · exact .endJob (.mapJob (.foldl (.foldl h (fun ht1 => ht1.holdCtx)) (fun ht1 => ht1.holdRows)))

theorem State.Keeps.settleGauge {n : Nat} (h : s₀.Keeps s) : s₀.Keeps (s.settleGauge n) := by
  unfold State.settleGauge
  split
  · exact h
  · split
    · exact h
    · exact .mapJob (by split; exacts [.ite h.setRb.writeTable h, h])

theorem State.Keeps.stopGauge {n : Nat} (h : s₀.Keeps s) : s₀.Keeps (s.stopGauge n) := h.settleGauge.endGauge

theorem State.Keeps.farUnreached {n : Nat} (h : s₀.Keeps s) : s₀.Keeps (s.farUnreached n) := h.mapJob

theorem State.Keeps.farGauge {n : Nat} {g : Gauge} {i : GaugeItem} (h : s₀.Keeps s) : s₀.Keeps (s.farGauge n g i) := by
  unfold State.farGauge
  dsimp only
  split
  · exact h.sendJobRemote
  · exact h.sendJobRemote
  · exact h.sendJobRemote
  · exact h.sendJobRemote

theorem State.Keeps.startGaugeStep {n k : Nat} (h : s₀.Keeps s) : s₀.Keeps (s.startGaugeStep n k) := by
  unfold State.startGaugeStep
  split
  · exact h
  · split
    · exact h.endGauge
    · dsimp only
      split
      · exact h.jobStep.stopGauge
      · exact .ite h.jobStep.mapJob.farGauge (by split; exacts [h.jobStep.stopGauge, h.jobStep.writeTable.armSwap.mapJob])

theorem State.Keeps.gaugeStepDone {n epoch : Nat} (h : s₀.Keeps s) : s₀.Keeps (s.gaugeStepDone n epoch) := by
  unfold State.gaugeStepDone
  split
  · exact h
  · split
    · exact h
    · split
      · exact h
      · exact .ite h.mapJob.log.endGauge (.ite h.mapJob.log.endGauge h.mapJob.log.startGaugeStep)

theorem State.Keeps.farGaugeReply {n status : Nat} {data : List Word} (h : s₀.Keeps s) : s₀.Keeps (s.farGaugeReply n status data) := by
  unfold State.farGaugeReply
  split
  · exact h
  · split
    · exact h
    · split
      · exact h
      · exact .ite h (.ite (by
          split
          · exact h.stopGauge
          · exact h.mapJob.farGauge
          · split
            · exact h.stopGauge
            · exact h.mapJob.farGauge) (.ite h.stopGauge (by
          split
          · exact .ite h.mapJob.farGauge h.mapJob.farGauge
          · exact h.mapJob.farGauge
          · exact .ite h.mapJob.farGauge h.gaugeStepDone)))

theorem State.Keeps.gaugePortLost {k p : Nat} (h : s₀.Keeps s) : s₀.Keeps (s.gaugePortLost k p) :=
  .foldl h (fun ht => .stopGauge (by split; exacts [.ite ht.farUnreached ht, ht]))

theorem State.Keeps.gaugeTunLost {k t : Nat} (h : s₀.Keeps s) : s₀.Keeps (s.gaugeTunLost k t) := .foldl h (fun ht => ht.stopGauge)

/-! ### What `Machine/Slots` changes -/

theorem State.Keeps.setKeySlot {slot : Nat} {x : KeySlot} (h : s₀.Keeps s) : s₀.Keeps (s.setKeySlot slot x) :=
  h.remap rfl rfl rfl rfl fun c => { c with keys := smapPut_wf _ _ c.keys }

/-! ### What `Machine/Checks` changes -/

theorem State.Keeps.chkLatch {k u : Nat} (h : s₀.Keeps s) : s₀.Keeps (s.chkLatch k u) := h.setReg

theorem State.Keeps.chkInit {k u : Nat} (h : s₀.Keeps s) : s₀.Keeps (s.chkInit k u) := h.setReg

theorem State.Keeps.chkBytes {k u : Nat} {bs : List Byte} (h : s₀.Keeps s) : s₀.Keeps (s.chkBytes k u bs) := h.setReg.chkLatch.bump

theorem State.Keeps.snoop {k t : Nat} {dir busy : Bool} {bs : List Byte} (h : s₀.Keeps s) : s₀.Keeps (s.snoop k t dir busy bs) :=
  .ite h (.ite h.bump.setRb (.bump (.chkBytes (.ite h.chkInit h))))

theorem State.Keeps.sealFail {k t m : Nat} (h : s₀.Keeps s) : s₀.Keeps (s.sealFail k t m) := .ite h.bump.setCtxAt h.bump.setCtxAt.log

/-! ### What `Machine/Store` changes -/

theorem State.Keeps.setTransit {k q : Nat} {l : List (Nat × Cell)} (h : s₀.Keeps s) : s₀.Keeps (s.setTransit k q l) := h.setKern

theorem State.Keeps.notePeak {k : Nat} (h : s₀.Keeps s) : s₀.Keeps (s.notePeak k) := .ite h.setReg h

theorem State.Keeps.markCells {k q depth : Nat} {cs : List Cell} (h : s₀.Keeps s) : s₀.Keeps (s.markCells k q depth cs).2 := .ite h h.bump

theorem State.Keeps.restartOn {n b m : Nat} (h : s₀.Keeps s) : s₀.Keeps (s.restartOn n b m) :=
  .foldl (.foldl h (fun ht => .ite ht.setCtxAt ht)) (fun ht => ht.setRouteCtx)

theorem State.Keeps.moveBucket {k set b m : Nat} (h : s₀.Keeps s) : s₀.Keeps (s.moveBucket k set b m) := by
  unfold State.moveBucket
  dsimp only
  split
  · exact h.setKern
  · exact .ite h (.bump (.setKern (.ite h.setRb.restartOn h.setRb)))

theorem State.Keeps.defaultBuckets {k set : Nat} (h : s₀.Keeps s) : s₀.Keeps (s.defaultBuckets k set) := .foldl h (fun ht => ht.moveBucket)

theorem State.Keeps.giveLocal {o : Nat} {bs : List Byte} (h : s₀.Keeps s) : s₀.Keeps (s.giveLocal o bs) :=
  h.remap rfl rfl rfl rfl fun c => { c with localRx := smapPut_wf _ _ c.localRx }

theorem State.Keeps.admitOne {k t m : Nat} (h : s₀.Keeps s) : s₀.Keeps (s.admitOne k t m) := by
  unfold State.admitOne
  dsimp only
  split
  · exact h
  · exact .ite h.markCells.setCtxAt.notePeak h

theorem State.Keeps.admitWaiting {k t m : Nat} (h : s₀.Keeps s) : s₀.Keeps (s.admitWaiting k t m) := .foldl h (fun ht => ht.admitOne)

theorem State.KeepsAny.handover? {k t p : Nat} {busy : Bool} {bs : List Byte} (h : s₀.Keeps s) : s₀.KeepsAny (s.handover? k t p busy bs) := by
  unfold State.handover?
  exact .ite .none (.ite (.ite (.some (.notePeak (.foldl h.snoop.markCells.setCtxAt fun ht => ht.giveLocal.bump))) (.some h.bump.bump))
    (.ite (.some (.admitWaiting (.foldl h.snoop.setCtxAt fun ht => ht.giveLocal.bump))) .none))

theorem State.Keeps.handover? {k t p : Nat} {busy : Bool} {bs : List Byte} {u : State} (e : s.handover? k t p busy bs = some u)
    (h : s₀.Keeps s) : s₀.Keeps u := State.KeepsAny.handover? h u e

/-! ### What `Machine/Ports` changes -/

theorem State.Keeps.setPortState {k p st : Nat} (h : s₀.Keeps s) : s₀.Keeps (s.setPortState k p st) := h.setRf

theorem State.Keeps.castTo {k p st : Nat} (h : s₀.Keeps s) : s₀.Keeps (s.castTo k p st) := h.setRf

theorem State.Keeps.castReason {k p reason : Nat} (h : s₀.Keeps s) : s₀.Keeps (s.castReason k p reason) := h.setRf

theorem State.Keeps.endPortJob {k p opcode : Nat} {st : JobState} {status detail : Nat} (h : s₀.Keeps s) : s₀.Keeps (s.endPortJob k p opcode st
    status detail) := by
  unfold State.endPortJob
  split
  · exact h.endJob
  · exact h

theorem State.Keeps.stepPortJob {k p opcode n : Nat} (h : s₀.Keeps s) : s₀.Keeps (s.stepPortJob k p opcode n) := by
  unfold State.stepPortJob
  split
  · exact h.jobStep
  · exact h

theorem State.Keeps.failPly {j : Job} {status detail : Nat} (h : s₀.Keeps s) : s₀.Keeps (s.failPly j status detail) := .endJob (.ite h.setReg h)

theorem State.Keeps.freshBytes {n : Nat} (h : s₀.Keeps s) : s₀.Keeps (s.freshBytes n).2 := h.draw

theorem State.Keeps.castSend {k p msg : Nat} {body : List Byte} (h : s₀.Keeps s) : s₀.Keeps (s.castSend k p msg body) := h.setPort

theorem State.Keeps.useRow {k p row : Nat} (h : s₀.Keeps s) : s₀.Keeps (s.useRow k p row) := h.setRf.setRf

theorem State.Keeps.startCast {k p st : Nat} {params : Option (Nat × Nat)} (h : s₀.Keeps s) : s₀.Keeps (s.startCast k p st params) :=
  .ite h.wakeDomain.setPort.setPortState.castTo.useRow.sendTrain h.wakeDomain.setPort.setPortState.castTo.useRow

theorem State.Keeps.castFail {k p reason : Nat} (h : s₀.Keeps s) : s₀.Keeps (s.castFail k p reason) :=
  h.castReason.bumpSat.setPort.setPortState.log.endPortJob

theorem State.Keeps.startIdent {k p : Nat} (h : s₀.Keeps s) : s₀.Keeps (s.startIdent k p) :=
  .ite h.castTo.endPortJob.castFail h.draw.setPort.castTo.castSend

theorem State.Keeps.startRole {k p : Nat} (h : s₀.Keeps s) : s₀.Keeps (s.startRole k p) := h.setPort.castTo.castSend

theorem State.Keeps.startRate {k p rate : Nat} (h : s₀.Keeps s) : s₀.Keeps (s.startRate k p rate) := h.setPort.castTo.castSend

theorem State.Keeps.dropRemotes {k p : Nat} (h : s₀.Keeps s) : s₀.Keeps (s.dropRemotes k p) := .foldl h.setPort (fun ht => ht.timeoutRemote)

theorem State.Keeps.dropWaits {k p : Nat} (h : s₀.Keeps s) : s₀.Keeps (s.dropWaits k p) := .foldl h.with_gaugeWaits (fun ht => ht.deliver)

theorem State.Keeps.syncShared {k : Nat} (h : s₀.Keeps s) : s₀.Keeps (s.syncShared k) :=
  .foldl h (fun ht => .ite ht.moveCtx.setReg (.ite ht.moveCtx.setReg ht))

theorem State.Keeps.releaseFar {k p : Nat} (h : s₀.Keeps s) : s₀.Keeps (s.releaseFar k p) := .foldl h (fun ht => ht.holdFar)

theorem State.Keeps.leaveOpen {k p st : Nat} (h : s₀.Keeps s) : s₀.Keeps (s.leaveOpen k p st) :=
  .setPort (.pipPortLost (.setRegs (by
    split
    · exact .failPly (.endPortJob (.setReg (.setRate (.setRb (.setRf (.syncShared (.setPortState (.setCtxAt (.setCtxAt (.setCtx (.ite
        h.dropRemotes.dropWaits.releaseFar.viaDown.gaugePortLost
        h.dropRemotes.dropWaits.releaseFar.viaDown.gaugePortLost.discardQueued.moveCtx)))))))))))
    · exact .endPortJob (.setReg (.setRate (.setRb (.setRf (.syncShared (.setPortState (.setCtxAt (.setCtxAt (.setCtx (.ite
        h.dropRemotes.dropWaits.releaseFar.viaDown.gaugePortLost
        h.dropRemotes.dropWaits.releaseFar.viaDown.gaugePortLost.discardQueued.moveCtx)))))))))))))

theorem State.Keeps.loseTun {k t : Nat} (h : s₀.Keeps s) : s₀.Keeps (s.loseTun k t) := h.endCtxJob.closeCtx

theorem State.Keeps.loseTunnels {k p : Nat} (h : s₀.Keeps s) : s₀.Keeps (s.loseTunnels k p) :=
  .setPort (.forCtxs (.forCtxs (.forCtxs h (fun ht => ht.loseTun)) (fun ht => ht.gaugeTunLost)) (fun ht => .ite ht.closeCtx ht.holdOff))

theorem State.Keeps.closeTunnels {k p : Nat} (h : s₀.Keeps s) : s₀.Keeps (s.closeTunnels k p) := .forCtxs h (fun ht => ht.gaugeTunLost.loseTun)

theorem State.Keeps.movePath {l : List (Nat × Nat)} {k p : Nat} (h : s₀.Keeps s) : s₀.Keeps (s.movePath l k p) :=
  .forCtxs h (fun ht => ht.setRf.setRf)

theorem State.Keeps.restartLink {k t : Nat} (h : s₀.Keeps s) : s₀.Keeps (s.restartLink k t) := h.setCtx

theorem State.Keeps.mergeMembers {k t keep : Nat} (h : s₀.Keeps s) : s₀.Keeps (s.mergeMembers k t keep) :=
  .ite h.setCtxAt.setCtx.dropFetched h.setCtxAt.setCtx.dropFetched.bump

theorem State.Keeps.movePort {k a v : Nat} (h : s₀.Keeps s) : s₀.Keeps (s.movePort k a v) :=
  .foldl (.foldl (.foldl (.foldl h (fun ht => .ite (.setRf (.ite ht.setRf ht)) (.ite ht.setRf ht))) (fun ht => .ite ht.setRf ht)) (fun ht =>
      ht.setTransit.setTransit)) (fun ht => ht.setCtxAt.setCtxAt)

theorem State.Keeps.rekeyCells {k p a b : Nat} (h : s₀.Keeps s) : s₀.Keeps (s.rekeyCells k p a b) := .foldl h.setPort (fun ht => ht.setTransit)

theorem State.Keeps.rekeyRoutes {k p a b : Nat} (h : s₀.Keeps s) : s₀.Keeps (s.rekeyRoutes k p a b) :=
  .foldl h (fun ht => .ite (.rekeyCells (.setRouteCtx (.setRouteCtx (.ite ht.setRouteCtx.setRouteCtx ht)))) (.ite ht.setRouteCtx.setRouteCtx ht))

theorem State.Keeps.routesReopen {k p : Nat} (h : s₀.Keeps s) : s₀.Keeps (s.routesReopen k p) :=
  .foldl h (fun ht => .ite (.foldl (.setRouteCtx (.ite ht.setRouteCtx ht)) (fun ht1 => .ite ht1 ht1.setTransit.setRouteCtx)) (.ite ht.setRouteCtx ht))

theorem State.Keeps.setMates {a b : Nat × Nat} (h : s₀.Keeps s) : s₀.Keeps (s.setMates a b) := h.setPort.setPort

theorem State.Keeps.clearRows {k p n : Nat} (h : s₀.Keeps s) : s₀.Keeps (s.clearRows k p n) := h.writeTable.writeTable

theorem State.Keeps.untie {k a st : Nat} (h : s₀.Keeps s) : s₀.Keeps (s.untie k a st) := .setRf (.foldl h.clearRows (fun ht => ht.setRf.setRf.setRf))

theorem State.Keeps.degradeTight {k q : Nat} (h : s₀.Keeps s) : s₀.Keeps (s.degradeTight k q) :=
  .log (.sendTrain (.setPort (.ite (.movePath (.foldl h.untie.setMates (fun ht => ht.place))) (.moveCtx (.moveCtx (.setCtx (.setReg (.forCtxs
      (.movePort (.movePath (.foldl h.untie.setMates (fun ht => ht.place)))) (fun ht => ht.restartLink)))))))))

theorem State.Keeps.allBuckets {a cnt m : Nat} (h : s₀.Keeps s) : s₀.Keeps (s.allBuckets a cnt m) :=
  .ite (.foldl h (fun ht => ht.setReg)) (.bump (.foldl h (fun ht => ht.setReg)))

theorem State.Keeps.dropFences {n : Nat} (h : s₀.Keeps s) : s₀.Keeps (s.dropFences n) := h.setKern

theorem State.Keeps.moveRoutes {k p : Nat} {v : Nat × Nat} (h : s₀.Keeps s) : s₀.Keeps (s.moveRoutes k p v) :=
  .ite (.foldl h (fun ht => .ite (.setRf (.setRf (.ite (.setRf (.setRouteCtx (.foldl ht (fun ht1 => .ite ht1
      ht1.setTransit.setTransit.setRouteCtx)))) (.setRouteCtx (.foldl ht (fun ht1 => .ite ht1 ht1.setTransit.setTransit.setRouteCtx)))))) (.ite
      (.setRf (.setRouteCtx (.foldl ht (fun ht1 => .ite ht1 ht1.setTransit.setTransit.setRouteCtx)))) (.setRouteCtx (.foldl ht (fun ht1 => .ite
      ht1 ht1.setTransit.setTransit.setRouteCtx)))))) (.rekeyRoutes (.foldl h (fun ht => .ite (.setRf (.setRf (.ite (.setRf (.setRouteCtx (.foldl
      ht (fun ht1 => .ite ht1 ht1.setTransit.setTransit.setRouteCtx)))) (.setRouteCtx (.foldl ht (fun ht1 => .ite ht1
      ht1.setTransit.setTransit.setRouteCtx)))))) (.ite (.setRf (.setRouteCtx (.foldl ht (fun ht1 => .ite ht1
      ht1.setTransit.setTransit.setRouteCtx)))) (.setRouteCtx (.foldl ht (fun ht1 => .ite ht1 ht1.setTransit.setTransit.setRouteCtx)))))))

theorem State.Keeps.degradeLoose {k p : Nat} (h : s₀.Keeps s) : s₀.Keeps (s.degradeLoose k p) := by
  unfold State.degradeLoose
  split
  · exact h
  · exact .log (.setRf (.dropFences (.moveRoutes (.forCtxs (.setMates (.movePath (.setRf (.setRf (.allBuckets (.forCtxs h (fun ht1 => .ite ht1
      ht1.releaseRows))))))) (fun ht1 => ht1.mergeMembers)))))

theorem State.Keeps.degradePly {k p : Nat} (h : s₀.Keeps s) : s₀.Keeps (s.degradePly k p) := by
  unfold State.degradePly
  split
  · exact h.degradeTight
  · exact h.degradeLoose
  · exact h

theorem State.Keeps.endSplits {k p : Nat} (h : s₀.Keeps s) : s₀.Keeps (s.endSplits k p) :=
  .foldl h (fun ht => by split; exacts [ht, .ite ht.movePath.mergeMembers (.ite ht.mergeMembers ht)])

theorem State.Keeps.plyEnds {k p : Nat} (h : s₀.Keeps s) : s₀.Keeps (s.plyEnds k p) :=
  .ite h.setReg.log (by dsimp only; split; exacts [h.setReg.log, h])

theorem State.Keeps.quietBoundary {n : Nat} (h : s₀.Keeps s) : s₀.Keeps (s.quietBoundary n) := .ite h.with_part.endJob h.nextStep

theorem State.Keeps.quietStep (h : s₀.Keeps s) : s₀.Keeps (s.quietStep) := by
  unfold State.quietStep
  split
  · exact .ite h.quietBoundary h
  · exact h

theorem State.Keeps.logBoxed {k : Nat} {d : EvDef} {idx : Nat} {ps : List Nat} (h : s₀.Keeps s) : s₀.Keeps (s.logBoxed k d idx ps) :=
  .ite h.log h.log.setKern

theorem State.Keeps.seedStep (h : s₀.Keeps s) : s₀.Keeps (s.seedStep) := by
  unfold State.seedStep
  split
  · exact .ite (.ite h.nextStep h.nextStep.setRf.logBoxed.with_part.nextStep) h
  · exact h

theorem State.Keeps.formingLost {k p : Nat} (h : s₀.Keeps s) : s₀.Keeps (s.formingLost k p) :=
  .ite h (.startCast (.setRf (.leaveOpen (.setReg (by split; exacts [h.failPly, h])))))

theorem State.Keeps.portLost {k p : Nat} {detach : Bool} (h : s₀.Keeps s) : s₀.Keeps (s.portLost k p detach) := by
  unfold State.portLost
  split
  · exact .leaveOpen (.endPortJob (.ite h.formingLost.endSplits.loseTunnels.plyEnds h.formingLost.degradePly))
  · exact .seedStep (.leaveOpen (.endPortJob (.ite h.closeTunnels.untie.leaveOpen h.closeTunnels.degradePly)))
  · exact .ite h.setPortState.endPortJob.seedStep h
  · exact .ite h.setPortState h
  · exact .ite h.setPortState h

theorem State.Keeps.detachPort {k p : Nat} (h : s₀.Keeps s) : s₀.Keeps (s.detachPort k p) := .setPort (.setRf (.ite h h.portLost))

theorem State.Keeps.sendResumeLists {k p : Nat} (h : s₀.Keeps s) : s₀.Keeps (s.sendResumeLists k p) := .foldl h (fun ht => ht.sendMsg)

theorem State.Keeps.takeMate {k p : Nat} (h : s₀.Keeps s) : s₀.Keeps (s.takeMate k p) := by
  unfold State.takeMate
  split
  · exact h
  · exact .ite h (.setPort (.movePath (.forCtxs h (fun ht1 => ht1.releaseRows.place))))

theorem State.Keeps.dropMate {k p : Nat} (h : s₀.Keeps s) : s₀.Keeps (s.dropMate k p) := h.setPort

theorem State.Keeps.dropWords {k p : Nat} (h : s₀.Keeps s) : s₀.Keeps (s.dropWords k p) := .foldl h (fun ht => ht.setCtx)

theorem State.Keeps.portOpens {k p : Nat} (h : s₀.Keeps s) : s₀.Keeps (s.portOpens k p) :=
  .ite
      h.takeMate.routesReopen.dropWords.setPort.setRf.setPortState.castTo.setRate.setRf.roleSync.setReg.setReg.setCtx.moveCtx.syncShared.viaUpNow.sendResumeLists
      h.takeMate.routesReopen.dropWords.setPort.setRf.setPortState.castTo.setRate.setRf.roleSync.setReg.setReg.setCtx.moveCtx.syncShared.viaUpNow.sendResumeLists.endPortJob

theorem State.Keeps.castJobStep {k p : Nat} (h : s₀.Keeps s) : s₀.Keeps (s.castJobStep k p) := h.stepPortJob

theorem State.Keeps.autoCast {k p : Nat} (h : s₀.Keeps s) : s₀.Keeps (s.autoCast k p) := .ite h.startCast h

theorem State.Keeps.startBind {k p cause drain : Nat} (h : s₀.Keeps s) : s₀.Keeps (s.startBind k p cause drain) :=
  .foldl h (fun ht => ht.setPortState.setPort)

theorem State.Keeps.bindDrain {k p : Nat} (h : s₀.Keeps s) : s₀.Keeps (s.bindDrain k p) := .forCtxs h (fun ht => ht.gaugeTunLost.adapterDrain.moveCtx)

theorem State.Keeps.finishBind {k p : Nat} (h : s₀.Keeps s) : s₀.Keeps (s.finishBind k p) :=
  .seedStep (.foldl (.ite h.closeTunnels.sendMarker.sendOnLanes.untie h.closeTunnels.sendMarker.sendOnLanes.degradePly) (fun ht =>
      ht.leaveOpen.dropMate.log))

theorem State.Keeps.castOff {k p cause : Nat} (h : s₀.Keeps s) : s₀.Keeps (s.castOff k p cause) :=
  .seedStep (.endPortJob (.log (.setPortState (.ite h.sendOnLanes h))))

theorem State.Keeps.logViolation {k p cls label : Nat} (h : s₀.Keeps s) : s₀.Keeps (s.logViolation k p cls label) := by
  unfold State.logViolation
  dsimp only
  split
  · exact .ite h.setPort.log h.setPort
  · exact h.setPort.log

theorem State.Keeps.violation {k p cls label : Nat} {ctx : Option (Nat × Nat)} (h : s₀.Keeps s) : s₀.Keeps (s.violation k p cls label ctx) :=
  .ite (.sendMsg (.log (.startBind (.ite (.logViolation (.ite (.setPort (by split; exacts [h.bump.bump, h.bump])) (.sendMsg (.setPort (.setPort
      (by split; exacts [h.bump.bump, h.bump])))))) (.setPort (by split; exacts [h.bump.bump, h.bump])))))) (.ite (.logViolation (.ite (.setPort
      (by split; exacts [h.bump.bump, h.bump])) (.sendMsg (.setPort (.setPort (by split; exacts [h.bump.bump, h.bump])))))) (.setPort
      (by split; exacts [h.bump.bump, h.bump])))

theorem State.Keeps.quarantine {k t cls : Nat} (h : s₀.Keeps s) : s₀.Keeps (s.quarantine k t cls) := .log (.ctxMsg (.ite h.gaugeTunLost.faultCtx h))

theorem State.Keeps.quarantineShared {k t p cls : Nat} (h : s₀.Keeps s) : s₀.Keeps (s.quarantineShared k t p cls) :=
  .log (.ite (.ite (.ite h.faultCtx h) h.setPort.discardQueued) (.sendMsg (.ite (.ite h.faultCtx h) h.setPort.discardQueued)))

theorem State.Keeps.enterHusk {k p : Nat} (h : s₀.Keeps s) : s₀.Keeps (s.enterHusk k p) := h.sendOnLanes.setPwr.bump.setPort.quietStep

theorem State.Keeps.askHusk {k p : Nat} (h : s₀.Keeps s) : s₀.Keeps (s.askHusk k p) := h.setPort.sendMsg

theorem State.Keeps.tightForming {k a : Nat} (h : s₀.Keeps s) : s₀.Keeps (s.tightForming k a) := h.setRf.sendTrain

theorem State.Keeps.tightFormed {k a : Nat} (h : s₀.Keeps s) : s₀.Keeps (s.tightFormed k a) :=
  .setRf (.setPort (.ite (.setRf (.setRf (.setRf (.clearRows (.foldl h (fun ht => ht.clearRows.setRf.dropMate)))))) (.moveCtx (.setCtx (.setRf
      (.setRf (.setRf (.clearRows (.foldl h (fun ht => ht.clearRows.setRf.dropMate))))))))))

theorem State.Keeps.tightApart {k a : Nat} (h : s₀.Keeps s) : s₀.Keeps (s.tightApart k a) :=
  .foldl (.ite h.untie h.setReg) (fun ht => ht.leaveOpen.setRf.startCast)

theorem State.Keeps.raiseFence {n b v : Nat} (h : s₀.Keeps s) : s₀.Keeps (s.raiseFence n b v) := .ite h h.setKern

theorem State.Keeps.pinTunnel {n k t i : Nat} (h : s₀.Keeps s) : s₀.Keeps (s.pinTunnel n k t i) :=
  .ite h.setRf (.foldl h.setRf (fun ht => ht.raiseFence))

theorem State.Keeps.looseFormed {n m : Nat} (h : s₀.Keeps s) : s₀.Keeps (s.looseFormed n m) := by
  unfold State.looseFormed
  exact .forCtxs (.forCtxs (.forCtxs h.setRf.setRf.setReg.dropMate.dropMate.rekeyRoutes.defaultBuckets.movePath (fun ht => ht.setCtxAt.setCtx))
      (fun ht => ht.pinTunnel)) (fun ht => ht.pinTunnel)

/-! ### What `Machine/LinkCmds` changes -/

theorem State.Keeps.cmdPortInfo {r : Req} {u : Nat} (h : s₀.Keeps s) : s₀.Keeps (cmdPortInfo.act r u s).state := h.ok

theorem State.Keeps.cmdPortCastOn {r : Req} {u : Nat} (h : s₀.Keeps s) : s₀.Keeps (cmdPortCastOn.act r u s).state :=
  h.checked h.startJob.startCast.castJobStep.accepted

theorem State.Keeps.cmdPortBindOff {r : Req} {u : Nat} (h : s₀.Keeps s) : s₀.Keeps (cmdPortBindOff.act r u s).state :=
  .checked h (.ite_state h.startJob.castOff.jobStep.endJob.accepted h.startJob.endPortJob.startBind.sendMsg.accepted)

theorem State.Keeps.setPolicy {k p v : Nat} (h : s₀.Keeps s) : s₀.Keeps (s.setPolicy k p v) := .ite h.setRf.wakePort h.setRf

theorem State.Keeps.cmdPortPowerState {r : Req} {u : Nat} (h : s₀.Keeps s) : s₀.Keeps (cmdPortPowerState.act r u s).state :=
  .checked h (.ok (.ite h.setPolicy.setReg.setReg.askHusk h.setPolicy.setReg.setReg))

theorem State.Keeps.cmdPortEqSelect {r : Req} {u : Nat} (h : s₀.Keeps s) : s₀.Keeps (cmdPortEqSelect.act r u s).state :=
  .ok (.ite (.useRow (.ite h.setRb h.setRb.setRf)) (.ite h.setRb h.setRb.setRf))

theorem State.Keeps.leaveTest {k p : Nat} (h : s₀.Keeps s) : s₀.Keeps (s.leaveTest k p) := h.setPortState.setRb.setRb.setPort

theorem State.Keeps.cmdPortAlignMode {r : Req} {u : Nat} (h : s₀.Keeps s) : s₀.Keeps (cmdPortAlignMode.act r u s).state :=
  .checked h (.ok (.ite h.setPortState (.ite h.leaveTest h)))

theorem State.Keeps.cmdPortBitSlip {r : Req} {u : Nat} (h : s₀.Keeps s) : s₀.Keeps (cmdPortBitSlip.act r u s).state := h.checked h.setRf.fresh.ok

theorem State.Keeps.readPrbs {k p mask : Nat} (h : s₀.Keeps s) : s₀.Keeps (s.readPrbs k p mask).2 :=
  .foldl_snd h (fun ht => .ite_snd ht.fresh.fresh.setReg ht)

theorem State.Keeps.cmdPortPrbs {r : Req} {u : Nat} (h : s₀.Keeps s) : s₀.Keeps (cmdPortPrbs.act r u s).state :=
  .checked h (by split; exacts [h.setPort.ok, h.setPort.ok, h.readPrbs.ok])

theorem State.Keeps.sendPlyReq {k p kind nb : Nat} (h : s₀.Keeps s) : s₀.Keeps (s.sendPlyReq k p kind nb) := .foldl h (fun ht => ht.sendMsg)

theorem State.Keeps.cmdPlyForm {r : Req} {u : Nat} (h : s₀.Keeps s) : s₀.Keeps (cmdPlyForm.act r u s).state :=
  .checked h (.accepted (.sendPlyReq (.ite h.startJob.setReg h.startJob)))

theorem State.Keeps.looseSplit {n m : Nat} (h : s₀.Keeps s) : s₀.Keeps (s.looseSplit n m) :=
  .rekeyRoutes (.foldl (.forCtxs (.forCtxs h.setRf.setRf.dropFences.movePath.setReg (fun ht => ht.mergeMembers.setRb)) (fun ht => ht.setCtx))
      (fun ht => ht.setRf.setRf))

theorem State.Keeps.cmdPlySplit {r : Req} {u : Nat} (h : s₀.Keeps s) : s₀.Keeps (cmdPlySplit.act r u s).state :=
  .checked h (.accepted (.endJob (.ite h.startJob.tightApart (by split; exacts [h.startJob, h.startJob.looseSplit]))))

/-! ### What `Machine/LinkEvents` changes -/

theorem State.Yields.onPort {k p : Nat} {c : Bool} {f : State} (h : s₀.Keeps s) (hs1 : s₀.Keeps f) : s₀.Yields (onPort k p c s f) :=
  .onUnit h (.ite hs1 h)

theorem State.Yields.execModuleAttach {k p : Nat} (h : s₀.Keeps s) : s₀.Yields (execModuleAttach k p s) :=
  .onPort h (.ite h.setPort.startCast h.setPort)

theorem State.Yields.execModuleReady {k p mtype len : Nat} {maker : ModuleMaker} (h : s₀.Keeps s) : s₀.Yields (execModuleReady k p mtype len
    maker s) :=
  .onPort h (.ite h.setPort.useRow.castTo.castJobStep h.setPort)

theorem State.Yields.execModuleDetach {k p : Nat} (h : s₀.Keeps s) : s₀.Yields (execModuleDetach k p s) := .onPort h h.detachPort

theorem State.Keeps.plyFails {k p : Nat} {reason : Option Nat} (h : s₀.Keeps s) : s₀.Keeps (s.plyFails k p reason) := by
  unfold State.plyFails
  exact .tightApart (.endPortJob (by split; exacts [h.castReason.castReason, h]))

theorem State.Keeps.plySteps {k p : Nat} {ls : List (Nat × Bool × TrainInfo)} (h : s₀.Keeps s) : s₀.Keeps (s.plySteps k p ls) := by
  unfold State.plySteps
  dsimp only
  split
  · exact h
  · exact h.setRate.setRate.log

theorem State.Keeps.trained {k p : Nat} {ls : List (Nat × Bool × TrainInfo)} (h : s₀.Keeps s) : s₀.Keeps (s.trained k p ls) :=
  .ite (.ite h.castFail (.ite h.lockTrain.startIdent.castJobStep h.lockTrain.sendTrain)) (.ite (.ite h.plyFails (.ite
      h.lockTrain.setRf.stepPortJob h.lockTrain.setRf.sendTrain)) (.ite h.lockTrain (.ite (.plySteps (.ite h.lockTrain.setPort.sendTrain
      h.lockTrain.setPort)) h)))

theorem State.Yields.execTrainRx {k p lanes stream0 stream1 stream2 stream3 : Nat} (h : s₀.Keeps s) : s₀.Yields (execTrainRx k p lanes stream0
    stream1 stream2 stream3 s) :=
  .onPort h (by dsimp only; split; exacts [h.trained, .ite h.relock h])

theorem State.Yields.execLaneLockLoss {k p : Nat} {shown : LaneHeaders} (h : s₀.Keeps s) : s₀.Yields (execLaneLockLoss k p shown s) :=
  .onUnit h h.rxHeaders

theorem State.Yields.execRelockTimeout {k p : Nat} (h : s₀.Keeps s) : s₀.Yields (execRelockTimeout k p s) :=
  .onPort h (.ite h.log.portLost h.log.portLost.autoCast)

theorem State.Keeps.authFail {k p reason : Nat} (h : s₀.Keeps s) : s₀.Keeps (s.authFail k p reason) := h.log.castFail

theorem State.Yields.execCastOnStepTimeout {k p : Nat} (h : s₀.Keeps s) : s₀.Yields (execCastOnStepTimeout k p s) :=
  .onPort h (.ite h.plyFails (.ite (by split; exacts [.ite h.authFail h.castFail, h]) (.ite h.leaveOpen.castFail h)))

theorem State.Yields.execBackoffExpiry {k p : Nat} (h : s₀.Keeps s) : s₀.Yields (execBackoffExpiry k p s) := .onPort h h.startCast

theorem State.Keeps.startAuth {k p : Nat} (h : s₀.Keeps s) : s₀.Keeps (s.startAuth k p) :=
  .ite (.setPort (.ite h.castTo.castJobStep.wakeDomain.wakeDomain h.castTo.castJobStep)) (.ite (.castSend (.freshBytes (.setPort (.ite
      h.castTo.castJobStep.wakeDomain.wakeDomain h.castTo.castJobStep)))) (.authFail (.setPort (.ite h.castTo.castJobStep.wakeDomain.wakeDomain
      h.castTo.castJobStep))))

theorem State.Keeps.checkSession {k p : Nat} (h : s₀.Keeps s) : s₀.Keeps (s.checkSession k p) :=
  .ite h (.dropMate (.forCtxs h (fun ht => ht.closeCtx)))

theorem State.Yields.onCast {k p st msg len : Nat} {blocks : List Block} {f : List Byte → State → State} (h : s₀.Keeps s) (hf : ∀ {x t1},
    s₀.Keeps t1 → s₀.Keeps (f x t1)) : s₀.Yields (onCast k p st msg len blocks s f) :=
  .onPort h (.ite h.receive (.ite h.receive.castFail (by split; exacts [h.receive.castFail, hf h.receive])))

theorem State.Yields.onAuth {k p : Nat} {f : State} (h : s₀.Keeps s) (hs1 : s₀.Keeps f) : s₀.Yields (onAuth k p s f) :=
  .onPort h (.ite hs1 h.castFail)

theorem State.Yields.execIdent {k p : Nat} {blocks : List Block} (h : s₀.Keeps s) : s₀.Yields (execIdent k p blocks s) :=
  .onCast h (fun ht => .ite (.ite ht.setPort.setReg.setReg.checkSession.castTo.authFail
      ht.setPort.setReg.setReg.checkSession.startRole.castJobStep) ht.setPort.setReg.setReg.checkSession.startAuth)

theorem State.Yields.execAuthHello {k p : Nat} {blocks : List Block} (h : s₀.Keeps s) : s₀.Yields (execAuthHello k p blocks s) :=
  .onCast h (fun ht => .ite ht.castFail ht.setPort.castSend)

theorem State.Yields.execAuthCert {k p leaf anchor : Nat} {signed valid : Bool} (h : s₀.Keeps s) : s₀.Yields (execAuthCert k p leaf anchor signed
    valid s) :=
  .onAuth h (.ite h.castFail (.ite h.authFail (.ite h.authFail (.ite h.authFail h.setPort.freshBytes.castSend))))

theorem State.Yields.execAuthSig {k p : Nat} {good : Bool} (h : s₀.Keeps s) : s₀.Yields (execAuthSig k p good s) :=
  .onAuth h (.ite h.castFail (.ite h.authFail h.setPort.freshBytes.castSend))

theorem State.Yields.execAuthDone {k p : Nat} {good : Bool} (h : s₀.Keeps s) : s₀.Yields (execAuthDone k p good s) :=
  .onAuth h (.ite h.castFail (.ite h.authFail h.setRb.setReg.setReg.setReg.setPort.startRole.castJobStep))

theorem State.Yields.execRoleMsg {k p : Nat} {blocks : List Block} (h : s₀.Keeps s) : s₀.Yields (execRoleMsg k p blocks s) :=
  .onCast h (fun ht => by dsimp only; split; exacts [ht.log.castFail, .ite ht.castFail ht.startRate.castJobStep])

theorem State.Yields.execRateGo {k p : Nat} {blocks : List Block} (h : s₀.Keeps s) : s₀.Yields (execRateGo k p blocks s) :=
  .onCast h (fun ht => .ite ht.castFail ht.setRate.sendTrain)

theorem State.Keeps.rateVerdict {k p : Nat} (h : s₀.Keeps s) : s₀.Keeps (s.rateVerdict k p) := by
  unfold State.rateVerdict
  dsimp only
  split
  · exact .ite h.castFail (.ite (.ite h.setPort.startRate h.setPort.castTo.castJobStep) (.ite h.castFail h.log.setRate.castTo.castJobStep))
  · exact h

theorem State.Yields.execPrbsWindowEnd {k p err0 err1 bits : Nat} (h : s₀.Keeps s) : s₀.Yields (execPrbsWindowEnd k p err0 err1 bits s) :=
  .onPort h h.setPort.bump.bump.castSend.rateVerdict

theorem State.Yields.execRateResult {k p : Nat} {blocks : List Block} (h : s₀.Keeps s) : s₀.Yields (execRateResult k p blocks s) :=
  .onCast h (fun ht => ht.setPort.rateVerdict)

theorem State.Keeps.receiveMarker {k p : Nat} {blocks : List Block} (h : s₀.Keeps s) : s₀.Keeps (s.receiveMarker k p blocks).2 :=
  h.setPort.receive.setPort

theorem State.Keeps.rowSynced {k p epoch : Nat} (h : s₀.Keeps s) : s₀.Keeps (s.rowSynced k p epoch) :=
  .ite h.setRf.portOpens.castJobStep (.ite h.tightFormed.stepPortJob.endPortJob h)

theorem State.Yields.execRowSync {k p : Nat} {blocks : List Block} (h : s₀.Keeps s) : s₀.Yields (execRowSync k p blocks s) :=
  .onPort h (by
    split
    · next he =>
        exact .rowSynced (.of_snd he h.receiveMarker)
    · next he =>
        exact .of_snd he h.receiveMarker)

theorem State.Keeps.newEpoch {k p epoch : Nat} (h : s₀.Keeps s) : s₀.Keeps (s.newEpoch k p epoch) := .ite h h.setRf.sendMsg

theorem State.Yields.execRowMarkRx {k p : Nat} {first : Block} {others : List Block} (h : s₀.Keeps s) : s₀.Yields (execRowMarkRx k p first others
    s) :=
  .onPort h (by
    split
    · next he =>
        exact .ite (.of_snd he h.receiveMarker) (.newEpoch (.of_snd he h.receiveMarker))
    · next he =>
        exact .of_snd he h.receiveMarker)

theorem State.Yields.onControl {k p : Nat} {c : Bool} {is : Control → Bool} {blocks : List Block} {f : State → State} (h : s₀.Keeps s) (hf : ∀
    {t}, s₀.Keeps t → s₀.Keeps (f t)) : s₀.Yields (onControl k p c is blocks s f) :=
  .onPort h (.ite (hf h.receive) h.receive)

theorem State.Yields.execShellEnterRx {k : Nat} {rx : PortBlocks} (h : s₀.Keeps s) : s₀.Yields (execShellEnterRx k rx s) :=
  .onControl h (fun ht => ht.setPort)

theorem State.Yields.execHuskIdleExpiry {k p : Nat} (h : s₀.Keeps s) : s₀.Yields (execHuskIdleExpiry k p s) := .onPort h h.askHusk

theorem State.Keeps.takeRx {k t p : Nat} (h : s₀.Keeps s) : s₀.Keeps (s.takeRx k t p) := by
  unfold State.takeRx
  dsimp only
  split
  · exact h
  · exact h.setCtxAt

theorem State.Yields.onMsg {k p : Nat} {f : State → State} (h : s₀.Keeps s) (hf : ∀ {t}, s₀.Keeps t → s₀.Keeps (f t)) : s₀.Yields (onMsg k p s f) :=
  .onPort h (hf h.takeRx)

theorem State.Yields.execHuskReq {k p tag : Nat} (h : s₀.Keeps s) : s₀.Yields (execHuskReq k p tag s) :=
  .onMsg h (fun ht => .ite ht.enterHusk (by split; exacts [ht.sendAnswer, ht.sendAnswer.enterHusk]))

theorem State.Yields.execHuskEnterRx {k : Nat} {rx : PortBlocks} (h : s₀.Keeps s) : s₀.Yields (execHuskEnterRx k rx s) :=
  .onControl h (fun ht => ht.enterHusk)

theorem State.Yields.execBindReq {k p tag drain : Nat} (h : s₀.Keeps s) : s₀.Yields (execBindReq k p tag drain s) :=
  .onMsg h (fun ht => .stepPortJob (.bindDrain (.ite ht.sendAnswer ht.sendAnswer.startBind)))

theorem State.Yields.execBindAck {k p : Nat} (h : s₀.Keeps s) : s₀.Yields (execBindAck k p s) :=
  .onMsg h (fun ht => .ite ht.bindDrain.stepPortJob ht.violation)

theorem State.Yields.execBindTimeout {k p : Nat} (h : s₀.Keeps s) : s₀.Yields (execBindTimeout k p s) := .onPort h h.setPort.bindDrain.stepPortJob

theorem State.Keeps.bindEnds {k p : Nat} (h : s₀.Keeps s) : s₀.Keeps (s.bindEnds k p) :=
  .ite h.stepPortJob.finishBind.endPortJob h.stepPortJob.finishBind.endPortJob

theorem State.Yields.execBindDrainEnd {k p : Nat} (h : s₀.Keeps s) : s₀.Yields (execBindDrainEnd k p s) := .onPort h h.bindEnds

theorem State.Yields.execBindEndRx {k : Nat} {rx : PortBlocks} (h : s₀.Keeps s) : s₀.Yields (execBindEndRx k rx s) :=
  .onControl h (fun ht => by split; exacts [ht.castOff, ht.startBind.bindEnds, ht.bindEnds, ht])

theorem State.Keeps.joinPly {k p tag kind : Nat} (h : s₀.Keeps s) : s₀.Keeps (s.joinPly k p tag kind) :=
  .ite (.ite h (.ite h.sendPlyReq.tightForming h.sendAnswer)) (.ite h (by split; exacts [h.sendPlyReq.looseFormed, h.sendAnswer]))

theorem State.Keeps.plyRequest {k p tag kind : Nat} (h : s₀.Keeps s) : s₀.Keeps (s.plyRequest k p tag kind) := by
  unfold State.plyRequest
  dsimp only
  split
  · exact h.joinPly
  · exact .ite (.ite (.ite h h.tightForming.jobStep) (.ite h h.looseFormed.jobStep.endJob)) (.ite h h.failPly.joinPly)

theorem State.Yields.execPlyReq {k p tag kind : Nat} (h : s₀.Keeps s) : s₀.Yields (execPlyReq k p tag kind s) := .onMsg h (fun ht => ht.plyRequest)

theorem State.Yields.execPlyNak {k p status : Nat} (h : s₀.Keeps s) : s₀.Yields (execPlyNak k p status s) :=
  .onMsg h (fun ht => by split; exacts [ht.failPly, ht.violation])

/-! ### What `Machine/TunnelCmds` changes -/

theorem State.Keeps.sendOpenReq {k t : Nat} (h : s₀.Keeps s) : s₀.Keeps (s.sendOpenReq k t) := h.ctxRequest

theorem State.Keeps.cmdTunOpen {r : Req} {u : Nat} (h : s₀.Keeps s) : s₀.Keeps (cmdTunOpen.act r u s).state :=
  .checked h (.accepted (.sendOpenReq (.jobStep (.holdCtx (.moveCtx (.ite h.startJob.wakeHusk.setCtx.setupCtx.place
      h.startJob.wakeHusk.setCtx.setupCtx))))))

theorem State.Keeps.closeProgress {k t : Nat} (h : s₀.Keeps s) : s₀.Keeps (s.closeProgress k t) :=
  .ite h (.ite (.closeCtx (.endCtxJob (.ite h.setCtx.ctxMsg h))) (.ite h.setCtx.ctxMsg h))

theorem State.Keeps.sendCloseReq {k t drain : Nat} (h : s₀.Keeps s) : s₀.Keeps (s.sendCloseReq k t drain) := h.ctxRequest

theorem State.Keeps.cmdTunClose {r : Req} {u : Nat} (h : s₀.Keeps s) : s₀.Keeps (cmdTunClose.act r u s).state :=
  h.checked h.startJob.adapterDrain.holdCtx.sendCloseReq.moveCtx.jobStep.closeProgress.accepted

theorem State.Keeps.cmdTunInfo {r : Req} {u : Nat} (h : s₀.Keeps s) : s₀.Keeps (cmdTunInfo.act r u s).state := h.ok

theorem State.Keeps.cmdTunModify {r : Req} {u : Nat} (h : s₀.Keeps s) : s₀.Keeps (cmdTunModify.act r u s).state := h.checked h.setReg.ok

theorem State.Keeps.cmdTunRelease {r : Req} {u : Nat} (h : s₀.Keeps s) : s₀.Keeps (cmdTunRelease.act r u s).state :=
  .checked h (.ite_state h.setCtx.moveCtx.wakeHusk.sendOpenReq.ok h.closeCtx.ok)

theorem State.Keeps.cmdResumeWindowSet {r : Req} {u : Nat} (h : s₀.Keeps s) : s₀.Keeps (cmdResumeWindowSet.act r u s).state := h.setReg.ok

theorem State.Keeps.cmdRawRouteSet {r : Req} {u : Nat} (h : s₀.Keeps s) : s₀.Keeps (cmdRawRouteSet.act r u s).state :=
  .ite_state (.ok (.ite h.dropRoute h)) (h.checked h.clearRoute.setReg.setReg.place.ok)

theorem State.Keeps.cmdRawRouteRead {r : Req} {u : Nat} (h : s₀.Keeps s) : s₀.Keeps (cmdRawRouteRead.act r u s).state := h.ok

theorem State.Keeps.cmdRowTableRead {r : Req} {u : Nat} (h : s₀.Keeps s) : s₀.Keeps (cmdRowTableRead.act r u s).state := h.ok

theorem State.Keeps.cmdRowShadowWrite {r : Req} {u : Nat} (h : s₀.Keeps s) : s₀.Keeps (cmdRowShadowWrite.act r u s).state :=
  .checked h (.ok (by
    split
    · exact .holdFar (.ite h (.foldl h (fun ht1 => ht1.setRowEntry)))
    · exact .ite h (.foldl h (fun ht1 => ht1.setRowEntry))))

theorem State.Keeps.cmdRowSwap {r : Req} {u : Nat} (h : s₀.Keeps s) : s₀.Keeps (cmdRowSwap.act r u s).state := h.checked h.armSwap.ok

theorem State.Keeps.cmdGaugeCeilingSet {r : Req} {u : Nat} (h : s₀.Keeps s) : s₀.Keeps (cmdGaugeCeilingSet.act r u s).state := h.checked h.setReg.ok

/-! ### What `Machine/TunnelEvents` changes -/

theorem State.Keeps.badMsg {k p label : Nat} (h : s₀.Keeps s) : s₀.Keeps (s.badMsg k p label) := h.violation

theorem State.Keeps.acceptOpen {k p tag : Nat} {q : OpenReq} (h : s₀.Keeps s) : s₀.Keeps (s.acceptOpen k p tag q) := by
  unfold State.acceptOpen
  exact h.setupCtx.setReg.setCtx.place.moveCtx.sendAnswer.openCtx

theorem State.Keeps.openReqDirect {k p tag : Nat} {q : OpenReq} (h : s₀.Keeps s) : s₀.Keeps (s.openReqDirect k p tag q) := by
  unfold State.openReqDirect
  dsimp only
  split
  · exact .ite h (by split; exacts [h.endCtxJob.closeCtx.sendAnswer, h.endCtxJob.closeCtx.acceptOpen])
  · split
    · exact h.sendAnswer
    · exact h.acceptOpen

theorem State.Keeps.openDone {k t cause : Nat} (h : s₀.Keeps s) : s₀.Keeps (s.openDone k t cause) := by
  unfold State.openDone
  dsimp only
  split
  · exact h.openCtx.holdCtx.jobStep.endJob
  · exact h.openCtx.holdCtx

theorem State.Keeps.openReqInBand {k p tag n t : Nat} {q : OpenReq} (h : s₀.Keeps s) : s₀.Keeps (s.openReqInBand k p tag n t q) := by
  unfold State.openReqInBand
  split
  · exact .ite h.badMsg (.ite h.legMsg h.legMsg)
  · exact .ite h.badMsg (.ite h.ctxMsg (.ite h.ctxMsg.openDone h.ctxMsg))

theorem State.Yields.execOpenReq {k p tag : Nat} {inBand : Option Nat} {w : List Word} (h : s₀.Keeps s) : s₀.Yields (execOpenReq k p tag inBand w
    s) :=
  .onMsg h (fun ht => by split; exacts [ht.openReqInBand, ht.openReqDirect])

theorem State.Keeps.learnLabel {k t label : Nat} (h : s₀.Keeps s) : s₀.Keeps (s.learnLabel k t label) :=
  .place (.setMember (.setCtx (.setRf (.ite h h.releaseRows))))

theorem State.Yields.execOpenAck {k p tag label : Nat} {inBand : Option Nat} (h : s₀.Keeps s) : s₀.Yields (execOpenAck k p tag label inBand s) :=
  .onMsg h (fun ht => by
    split
    · exact .ite ht.badMsg (.ite ht.openDone (.ite ht ht.badMsg))
    · split
      · exact ht.badMsg
      · exact .ite ht.setRf.sendCloseReq.setRf.setCtx.endCtxJob.closeCtx ht.learnLabel.openDone)

theorem State.Yields.execOpenNak {k p tag status : Nat} {inBand : Option Nat} (h : s₀.Keeps s) : s₀.Yields (execOpenNak k p tag status inBand s) :=
  .onMsg h (fun ht => by dsimp only; split; exacts [ht.badMsg, ht.endCtxJob.closeCtx])

theorem State.Yields.execOpenTimeout {k t : Nat} (h : s₀.Keeps s) : s₀.Yields (execOpenTimeout k t s) := .onUnit h (.ite h.endCtxJob.closeCtx h)

theorem State.Yields.execPrearrangedOpenResend {k t : Nat} (h : s₀.Keeps s) : s₀.Yields (execPrearrangedOpenResend k t s) :=
  .onUnit h (.ite h.sendOpenReq h)

theorem State.Yields.execCloseReq {k p tag label drain : Nat} (h : s₀.Keeps s) : s₀.Yields (execCloseReq k p tag label drain s) :=
  .onMsg h (fun ht => .ite ht.sendAnswer.badMsg (by
    split
    · exact ht.legMsg
    · exact .ite ht.gaugeTunLost.adapterDrain.setCtx.moveCtx.setPort.closeProgress (.ite ht.setCtx ht.badMsg)))

theorem State.Yields.execCloseDone {k p tag label : Nat} (h : s₀.Keeps s) : s₀.Yields (execCloseDone k p tag label s) :=
  .onMsg h (fun ht => by dsimp only; split; exacts [ht.setCtx.closeProgress, ht.badMsg])

theorem State.Yields.execCloseDrainExpiry {k t : Nat} (h : s₀.Keeps s) : s₀.Yields (execCloseDrainExpiry k t s) :=
  .onUnit h (.ite h.endCtxJob.closeCtx h)

theorem State.Keeps.resend {k t m : Nat} {cs : List Cell} (h : s₀.Keeps s) : s₀.Keeps (s.resend k t m cs) := .ite h h.setCtxAt.dropFetched

theorem State.Keeps.requeue {k p key : Nat} {cs : List Cell} (h : s₀.Keeps s) : s₀.Keeps (s.requeue k p key cs) := by
  unfold State.requeue
  split
  · exact h
  · exact h.setTransit.dropFetched

theorem State.Keeps.creditEntry {k p : Nat} {w : Word} (h : s₀.Keeps s) : s₀.Keeps (s.creditEntry k p w) := by
  unfold State.creditEntry
  dsimp only
  split
  · exact h.setCtxAt.resend.closeProgress
  · split
    · exact h.setRouteCtx.requeue
    · exact h

theorem State.Yields.execCredit {k p : Nat} {entries : List Word} (h : s₀.Keeps s) : s₀.Yields (execCredit k p entries s) :=
  .onMsg h (fun ht => .foldl ht (fun ht1 => ht1.creditEntry))

theorem State.Yields.execReplayTimeout {k t p : Nat} {route : Bool} (h : s₀.Keeps s) : s₀.Yields (execReplayTimeout k t p route s) :=
  .ite (.onUnit h h.setRouteCtx.requeue) (.onUnit h h.setCtxAt.resend)

theorem State.Yields.execEpochAck {k p epoch : Nat} (h : s₀.Keeps s) : s₀.Yields (execEpochAck k p epoch s) :=
  .onMsg h (fun ht => by split; exacts [ht.gaugeStepDone, ht])

theorem State.Yields.execRegaugeStepTimeout {job : Nat} (h : s₀.Keeps s) : s₀.Yields (execRegaugeStepTimeout job s) :=
  .next (.ite (.stopGauge (.ite h.farUnreached h)) h)

theorem State.Keeps.pairingEnds {k p : Nat} (h : s₀.Keeps s) : s₀.Keeps (s.pairingEnds k p) := h.setPort.endPortJob

theorem State.Keeps.pairTunnels {k p : Nat} (h : s₀.Keeps s) : s₀.Keeps (s.pairTunnels k p) :=
  .pairingEnds (.forCtxs h (fun ht => .ite ht.resumeCtx ht.closeCtx))

theorem State.Yields.execResumeList {k p : Nat} {w : List Word} (h : s₀.Keeps s) : s₀.Yields (execResumeList k p w s) :=
  .onMsg h (fun ht => .ite ht.badMsg (.ite ht.setPort.pairTunnels ht.setPort))

theorem State.Yields.execResumePairingTimeout {k p : Nat} (h : s₀.Keeps s) : s₀.Yields (execResumePairingTimeout k p s) :=
  .onPort h (.pairingEnds (.forCtxs h (fun ht => ht.closeCtx)))

theorem State.Yields.execResumeWindowExpiry {k p : Nat} (h : s₀.Keeps s) : s₀.Yields (execResumeWindowExpiry k p s) :=
  .onPort h (.log (.forCtxs h (fun ht => ht.closeCtx)))

theorem State.Yields.execViolationNotice {k p cls label count : Nat} (h : s₀.Keeps s) : s₀.Yields (execViolationNotice k p cls label count s) :=
  .onMsg h (fun ht => .ite ht ht.setPort.log)

theorem State.Yields.execQuarantine {k p label cls : Nat} (h : s₀.Keeps s) : s₀.Yields (execQuarantine k p label cls s) :=
  .onMsg h (fun ht => .ite ht.gaugeTunLost.faultCtx.log (.ite ht.setPort.discardQueued.log ht.badMsg))

theorem State.Yields.execBadControlPacket {k : Nat} {path : PacketPath} (h : s₀.Keeps s) : s₀.Yields (execBadControlPacket k path s) := by
  unfold Machine.execBadControlPacket
  split
  · exact .onPort h h.violation
  · exact .onMsg h (fun ht1 => ht1.violation)

/-! ### What `Machine/RoleSwapCmds` changes -/

theorem State.Keeps.holdForSwap {k p : Nat} (h : s₀.Keeps s) : s₀.Keeps (s.holdForSwap k p) :=
  .forCtxs h (fun ht => .ite ht.gaugeTunLost.holdOff.usbPortsGone ht.gaugeTunLost.holdOff)

theorem State.Keeps.setSwap {k p : Nat} {x : Option RoleSwap} (h : s₀.Keeps s) : s₀.Keeps (s.setSwap k p x) := h.setPort

theorem State.Keeps.cmdRoleSwapRequest {r : Req} {u : Nat} (h : s₀.Keeps s) : s₀.Keeps (cmdRoleSwapRequest.act r u s).state :=
  h.checked h.fresh.startJob.setSwap.sendMsg.accepted

theorem State.Keeps.acceptSwap {k p tag prio tok att : Nat} {job : Option Nat} (h : s₀.Keeps s) : s₀.Keeps (s.acceptSwap k p tag prio tok att job) :=
  h.sendAnswer.setSwap.holdForSwap

theorem State.Yields.execRoleSwap {k p tag prio tok att : Nat} (h : s₀.Keeps s) : s₀.Yields (execRoleSwap k p tag prio tok att s) :=
  .onMsg h (fun ht => by
    split
    · exact .ite ht.sendAnswer (by
        split
        · exact ht.sendAnswer
        · exact .ite ht.acceptSwap (.ite ht (.ite ht.acceptSwap (.ite (.ite ht ht.acceptSwap) ht.setSwap))))
    · split
      · exact ht.sendAnswer
      · exact ht.acceptSwap)

theorem State.Yields.execRoleSwapAck {k p : Nat} (h : s₀.Keeps s) : s₀.Yields (execRoleSwapAck k p s) :=
  .onMsg h (fun ht => by split; exacts [.ite ht.badMsg ht.setSwap.holdForSwap.stepPortJob, ht.badMsg])

theorem State.Yields.execRoleSwapNak {k p status : Nat} (h : s₀.Keeps s) : s₀.Yields (execRoleSwapNak k p status s) :=
  .onMsg h (fun ht => by split; exacts [.ite ht.badMsg ht.setSwap.endPortJob, ht.badMsg])

theorem State.Yields.execRoleFlip {k p : Nat} (h : s₀.Keeps s) : s₀.Yields (execRoleFlip k p s) :=
  .onPort h (by split; exacts [h, h.setRf.setSwap.roleSync.log.stepPortJob])

theorem State.Yields.execRoleSwapRetry {k p : Nat} (h : s₀.Keeps s) : s₀.Yields (execRoleSwapRetry k p s) :=
  .onPort h (by split; exacts [h, h.fresh.setSwap.sendMsg])

theorem State.Yields.execRoleSwapTimeout {k p : Nat} (h : s₀.Keeps s) : s₀.Yields (execRoleSwapTimeout k p s) := .onPort h h.setSwap.endPortJob

theorem State.Yields.execRoleSwapDone {k p : Nat} (h : s₀.Keeps s) : s₀.Yields (execRoleSwapDone k p s) :=
  .onPort h (by split; exacts [h, .endPortJob (.setSwap (.forCtxs h (fun ht1 => ht1.resumeCtx)))])

/-! ### What `Machine/GaugeCmds` changes -/

theorem State.Keeps.startGauge {opcode : Nat} {r : Req} {k : Nat} {g : Gauge} (h : s₀.Keeps s) : s₀.Keeps (s.startGauge opcode r k g) :=
  .startGaugeStep (.foldl (.foldl h.startJob.mapJob (fun ht => ht.holdCtx)) (fun ht => ht.holdRows))

theorem State.Keeps.gaugeGo {opcode : Nat} {r : Req} {k : Nat} {items : List GaugeItem} {link : Nat × Nat} {lost : List GaugePort} {tables : List
    (Nat × List Nat)} (h : s₀.Keeps s) : s₀.Keeps (s.gaugeGo opcode r k items link lost tables).state := by
  unfold State.gaugeGo
  split
  · exact h.fail
  · exact h.startGauge.accepted

theorem State.Keeps.askPartner {w : GaugeWait} (h : s₀.Keeps s) : s₀.Keeps (s.askPartner w) := by
  unfold State.askPartner
  dsimp only
  split
  · exact h.sendJobRemote
  · exact h.sendJobRemote
  · exact h

theorem State.Keeps.endGaugeWait {w : GaugeWait} {st statusDetail : Nat} {data : List Word} (h : s₀.Keeps s) : s₀.Keeps (s.endGaugeWait w st
    statusDetail data) :=
  .deliver (.ite h.with_gaugeWaits h.with_gaugeWaits.bump)

theorem State.Keeps.waitGauge {w : GaugeWait} (h : s₀.Keeps s) : s₀.Keeps (s.waitGauge w).state := h.with_gaugeWaits.askPartner

theorem State.Keeps.finishWait {w : GaugeWait} (h : s₀.Keeps s) : s₀.Keeps (s.finishWait w).state :=
  .ite_state (h.checked h.gaugeGo) (by
    split
    · exact h.fail
    · split
      · exact h.fail
      · exact h.checked h.gaugeGo)

theorem State.Keeps.wentOn {w : GaugeWait} (h : s₀.Keeps s) : s₀.Keeps (s.wentOn w) :=
  .ite h.with_gaugeWaits.finishWait.endGaugeWait h.with_gaugeWaits.askPartner

theorem State.Keeps.routeRead {w : GaugeWait} {x : Nat × Nat × Nat} {rest : List (Nat × Nat × Nat)} {data : List Word} (h : s₀.Keeps s) :
    s₀.Keeps (s.routeRead w x rest data) :=
  .ite h.endGaugeWait h.wentOn

theorem State.Keeps.gaugeWaitReply {id status detail : Nat} {data : List Word} (h : s₀.Keeps s) : s₀.Keeps (s.gaugeWaitReply id status detail data) := by
  unfold State.gaugeWaitReply
  split
  · exact h
  · split
    · exact .ite h.endGaugeWait h.routeRead
    · split
      · exact h.endGaugeWait
      · exact h.wentOn
      · exact h.wentOn
    · exact h

theorem State.Keeps.cmdRegauge {r : Req} {u : Nat} (h : s₀.Keeps s) : s₀.Keeps (cmdRegauge.act r u s).state :=
  .checked h (by split; exacts [h.gaugeGo, h.waitGauge])

theorem State.Keeps.cmdRegaugeRollback {r : Req} {u : Nat} (h : s₀.Keeps s) : s₀.Keeps (cmdRegaugeRollback.act r u s).state := by
  dsimp only [Machine.cmdRegaugeRollback]
  split
  · exact h.fail
  · split
    · exact h.fail
    · exact .checked h (.ite_state h.gaugeGo h.waitGauge)

/-! ### What `Machine/Switch` changes -/

theorem State.Keeps.authReject {k p n t m label : Nat} (h : s₀.Keeps s) : s₀.Keeps (s.authReject k p n t m label) :=
  .ite h.bump.setCtxAt.violation.quarantine h.bump.setCtxAt.violation

theorem State.Keeps.phaseRx {k p phase : Nat} (h : s₀.Keeps s) : s₀.Keeps (s.phaseRx k p phase) := .ite h.setPort h

theorem State.Keeps.decrypt {k p n t m label : Nat} {bs : List Byte} {plain : Option (List Byte)} (h : s₀.Keeps s) : s₀.Keeps (s.decrypt k p n t
    m label bs plain).2 := by
  unfold State.decrypt
  dsimp only
  split
  · exact h.authReject
  · exact .ite_snd h.authReject (by split; exacts [h.bump.authReject, h.setCtxAt.phaseRx])

theorem State.Keeps.sealReject {n t m : Nat} (h : s₀.Keeps s) : s₀.Keeps (s.sealReject n t m) := .ite h.sealFail.quarantine h.sealFail

theorem State.Keeps.rxPacket {k p n t m : Nat} {c : Cell} {enc cm : Bool} {bs : List Byte} {plain : Option (List Byte)} {busy : Bool} (h :
    s₀.Keeps s) : s₀.Keeps (s.rxPacket k p n t m c enc cm bs plain busy) := by
  unfold State.rxPacket
  dsimp only
  split
  · exact .ite_snd h.decrypt h
  · exact .ite (.sealReject (.ite_snd h.decrypt h)) (.setCtxAt (.snoop (.ite_snd h.decrypt h)))

theorem State.Keeps.dropOpen {n t m : Nat} {dropping : Bool} (h : s₀.Keeps s) : s₀.Keeps (s.dropOpen n t m dropping) := .setCtxAt (.ite h h.bump)

theorem State.Keeps.rxBody {k p n t m count : Nat} {c : Cell} {enc : Bool} {plain : Option (List Byte)} {busy : Bool} (h : s₀.Keeps s) : s₀.Keeps
    (s.rxBody k p n t m count c enc plain busy) :=
  .ite h.dropOpen.violation (.ite (.ite h.bump.setCtxAt h.setCtxAt.violation) (.ite (.bump (.bump (.dropOpen (.ite h.dropOpen h)))) (.ite
      (.notePeak (.rxPacket (.setCtxAt (.markCells (.ite h.dropOpen h))))) (.notePeak (.setCtxAt (.markCells (.ite h.dropOpen h)))))))

theorem State.Keeps.rxLand {k p n t m count : Nat} {c : Cell} {enc : Bool} {plain : Option (List Byte)} {busy : Bool} (h : s₀.Keeps s) : s₀.Keeps
    (s.rxLand k p n t m count c enc plain busy) :=
  .ite h.bump.bump (.ite h.bump (.ite h.bump.violation (.ite (.ite h.bump.violation (.ite (.setCtxAt (.ite h.bump h.bump.bump)) (by
    split
    · exact .ite h.bump.violation.quarantine h.bump.violation.quarantineShared
    · exact h.bump.setCtxAt.rxBody))) (.rxBody (.setCtxAt (.ite h.bump h.bump.bump.dropOpen))))))

theorem State.Keeps.storeRouted {k q key : Nat} {cs : List Cell} (h : s₀.Keeps s) : s₀.Keeps (s.storeRouted k q key cs) :=
  h.markCells.setTransit.notePeak

theorem State.Keeps.storeCut {k p : Nat} (h : s₀.Keeps s) : s₀.Keeps (s.storeCut k p) := by
  unfold State.storeCut
  dsimp only
  split
  · exact h
  · exact h.setPort.storeRouted

theorem State.Keeps.queueRoute {k p n r : Nat} {cs : List Cell} (h : s₀.Keeps s) : s₀.Keeps (s.queueRoute k p n r cs) := by
  unfold State.queueRoute
  dsimp only
  split
  · exact .ite h.setRouteCtx.setPort h.setRouteCtx.storeCut.storeRouted
  · exact h.setRouteCtx.storeCut.storeRouted

theorem State.Keeps.dropPartial {n r : Nat} {c : Cell} (h : s₀.Keeps s) : s₀.Keeps (s.dropPartial n r c) := h.setTransit.dropFetched.bump

theorem State.Keeps.routeLand {k p n r : Nat} {c : Cell} (h : s₀.Keeps s) : s₀.Keeps (s.routeLand k p n r c) :=
  .ite h (.ite h.setRouteCtx (.ite (.bump (.setRouteCtx (.ite h.dropPartial h))) h.setRouteCtx.queueRoute))

theorem State.Keeps.land {c : Cell} {fin : FlightEnd} (h : s₀.Keeps s) : s₀.Keeps (s.land c fin) := by
  unfold State.land
  split
  · exact h.rxLand
  · exact h.routeLand
  · exact h.setPort

theorem State.Keeps.arrive {a b bucket : Nat} {c : Cell} {fin : FlightEnd} (h : s₀.Keeps s) : s₀.Keeps (s.arrive a b bucket c fin) :=
  .ite h.land h.with_flights

theorem State.Keeps.loseFlight {f : Flight} (h : s₀.Keeps s) : s₀.Keeps (s.loseFlight f) := by
  unfold State.loseFlight
  dsimp only
  split
  · exact h.releaseHop.bump
  · exact h.releaseHop.bump
  · exact h.releaseHop

theorem State.Keeps.moveFlights (h : s₀.Keeps s) : s₀.Keeps (s.moveFlights) :=
  .foldl_fst h.with_flights (fun ht => .ite_fst (.ite_fst ht.with_flights ht.releaseHop.land) (.ite_fst ht.loseFlight (.ite_fst ht.with_flights (by
    split
    · next he1 =>
        exact .with_flights (.hop? he1 ht)
    · exact ht.with_flights))))

theorem State.Keeps.rxCtx {k p n t count : Nat} {c : Cell} {plain : Option (List Byte)} {busy : Bool} (h : s₀.Keeps s) : s₀.Keeps (s.rxCtx k p n
    t count c plain busy) :=
  .ite h.arrive (.ite (.setCtxAt (.foldl h (fun ht => ht.arrive))) (.foldl (.setCtxAt (.foldl h (fun ht => ht.arrive))) (fun ht => ht.arrive)))

theorem State.Keeps.routeBody {k p n r : Nat} {c : Cell} {plain : Option (List Byte)} (h : s₀.Keeps s) : s₀.Keeps (s.routeBody k p n r c plain) :=
  .ite h.bump (.ite h.setRouteCtx (.ite (.ite (by
    dsimp only
    split
    · exact h.setRouteCtx.bump.violation
    · exact h.bump.setRouteCtx.bump.violation
    · exact .foldl h.setRouteCtx.phaseRx (fun ht1 => ht1.arrive)) h.setRouteCtx) h.setRouteCtx.arrive))

theorem State.Keeps.rxRoute {k p n r count : Nat} {c : Cell} {plain : Option (List Byte)} (h : s₀.Keeps s) : s₀.Keeps (s.rxRoute k p n r count c
    plain) :=
  .ite h.violation (.ite h.violation (.ite (.ite h.violation (.ite h.setRouteCtx (by split; exacts [h.violation, h.setRouteCtx.routeBody])))
      h.setRouteCtx.routeBody))

theorem State.Keeps.cellRx {k p : Nat} {raw : List Byte} {plain : Option (List Byte)} {busy : Bool} (h : s₀.Keeps s) : s₀.Keeps (s.cellRx k p raw
    plain busy) :=
  .ite h.violation (by split; exacts [h.rxRoute, .ite h.bump (.ite h.rxCtx (.ite h.bump h.violation))])

theorem State.Keeps.loseStitch {k p : Nat} (h : s₀.Keeps s) : s₀.Keeps (s.loseStitch k p) := h.setPort.bump

theorem State.Yields.execCellRx {k p : Nat} {b0 b1 b2 : Block} {plain : Option (List Byte)} {busy : Bool} (h : s₀.Keeps s) : s₀.Yields
    (execCellRx k p b0 b1 b2 plain busy s) :=
  .onPort h (.ite h.loseStitch (by dsimp only; split; exacts [.ite h.receive h.receive.cellRx.moveFlights, h.receive]))

/-! ### What `Machine/Stitch` changes -/

theorem State.Keeps.schedule {k p : Nat} (h : s₀.Keeps s) : s₀.Keeps (s.schedule k p).2 := by
  unfold State.schedule
  extract_lets l l' l'' svcs x live first anew here t
  have ht : s₀.Keeps t := .ite h.setPort h
  refine .ite_snd h ?_
  split
  · exact ht
  · extract_lets
    split
    · exact ht
    · exact .ite_snd ht.setPort ht.setPort

theorem State.Keeps.chargeReady {k p : Nat} {r : Ready} (h : s₀.Keeps s) : s₀.Keeps (s.chargeReady k p r) :=
  .ite (.ite h h.setRouteCtx) (.charge (.charge (by split; exacts [.charge (.charge (.ite h h.setRouteCtx)), .charge (.ite h h.setRouteCtx)])))

theorem State.Keeps.noCharge {x : Src} {c : Cell} (h : s₀.Keeps s) : s₀.Keeps (s.noCharge x c) := .ite h h.setRouteCtx

theorem State.Keeps.fetchOne {k p : Nat} {x : Src} {want : Nat} (h : s₀.Keeps s) : s₀.Keeps (s.fetchOne k p x want) := by
  unfold State.fetchOne
  dsimp only
  split
  · exact h
  · exact .ite h.arrive h

theorem State.Keeps.fetchAll {k p : Nat} (h : s₀.Keeps s) : s₀.Keeps (s.fetchAll k p) := .foldl h (fun ht => .foldl ht (fun ht1 => ht1.fetchOne))

theorem State.Keeps.planAhead {k p : Nat} (h : s₀.Keeps s) : s₀.Keeps (s.planAhead k p) :=
  .ite h (by dsimp only; split; exacts [h.schedule, h.schedule.setPort])

theorem State.Keeps.nextPhase {k p : Nat} (h : s₀.Keeps s) : s₀.Keeps (s.nextPhase k p) := h.setPort.setRegs.setRf.setRf.bump.log

theorem State.Keeps.cipher {k p : Nat} {c : Cell} (h : s₀.Keeps s) : s₀.Keeps (s.cipher k p c).2 :=
  .ite_snd h (.ite h.freshBytes (.ite h.freshBytes.nextPhase h.freshBytes.setReg.setRf))

theorem State.Keeps.noteLeft {k p : Nat} {c : Cell} (h : s₀.Keeps s) : s₀.Keeps (s.noteLeft k p c) := .ite h h.setKern

theorem State.Keeps.takeRouted {k p : Nat} {x : Src} {c : Cell} (h : s₀.Keeps s) : s₀.Keeps (s.takeRouted k p x c) :=
  .ite (.setRouteCtx (.ite h.setPort h.setTransit)) (.ite h.setPort h.setTransit)

theorem State.Keeps.takeQueued {x : Src} {c : Cell} (h : s₀.Keeps s) : s₀.Keeps (s.takeQueued x c) :=
  .ite h.bump.setCtxAt (by
    split
    · exact .ite (.bump (.ite h.bump.setCtxAt h.bump.setCtxAt.setCtx)) (.ite h.bump.setCtxAt h.bump.setCtxAt.setCtx)
    · exact .ite h.bump.setCtxAt h.bump.setCtxAt.setCtx)

theorem State.Keeps.takeCell {k p : Nat} {x : Src} {c : Cell} (h : s₀.Keeps s) : s₀.Keeps (s.takeCell k p x c) :=
  .noteLeft (.ite h.setPort.takeRouted h.setPort.takeQueued)

theorem State.Keeps.lineCell {k p : Nat} {x : Src} {c : Cell} (h : s₀.Keeps s) : s₀.Keeps (s.lineCell k p x c).2 := h.cipher

theorem State.Keeps.sendIdle {k p : Nat} (h : s₀.Keeps s) : s₀.Keeps (s.sendIdle k p) := h.sendControls.setPort

theorem State.Keeps.gaugeMiss {k p : Nat} {x : Src} (h : s₀.Keeps s) : s₀.Keeps (s.gaugeMiss k p x) := .ite h.bump h.bump.bump

theorem State.Keeps.sendCell {k p : Nat} {x : Src} {c : Cell} {sched : Option Ready} (h : s₀.Keeps s) : s₀.Keeps (s.sendCell k p x c sched) := by
  unfold State.sendCell
  exact .ite (.ite h.bump.sendIdle.gaugeMiss h.bump.sendIdle) (.setPort (.takeCell
      (by split; exacts [h.lineCell.chargeReady.bump, h.lineCell.noCharge])))

theorem State.Keeps.ownStitch {k p : Nat} {late : Bool} {x : Src} {c : Cell} (h : s₀.Keeps s) : s₀.Keeps (s.ownStitch k p late x c) :=
  .ite (.sendIdle (.gaugeMiss (.ite h h.storeCut))) (.sendCell (.ite h h.storeCut))

theorem State.Keeps.givenStitch {k p : Nat} {late : Bool} {x : Src} (h : s₀.Keeps s) : s₀.Keeps (s.givenStitch k p late x) := by
  unfold State.givenStitch
  dsimp only
  split
  · exact .ite h.storeCut.sendIdle h.storeCut.sendCell
  · exact h.storeCut.sendIdle

theorem State.Keeps.cutStitch {k p : Nat} {other : State → State} (h : s₀.Keeps s) (hf : ∀ {t}, s₀.Keeps t → s₀.Keeps (other t)) : s₀.Keeps
    (s.cutStitch k p other) := by
  unfold State.cutStitch
  split
  · exact .ite h.sendCell (hf h.storeCut)
  · exact hf h.storeCut

theorem State.Keeps.stitch {k p : Nat} {late : Bool} (h : s₀.Keeps s) : s₀.Keeps (s.stitch k p late) :=
  .ite (by
    split
    · exact h.accrue.planAhead.fetchAll.setPort.ownStitch
    · exact .cutStitch h.accrue.planAhead.fetchAll.setPort (fun ht1 =>
        by dsimp only; split; exacts [ht1.schedule.fetchOne.givenStitch, ht1.schedule.sendIdle])) (by
    split
    · exact h.accrue.planAhead.fetchAll.setPort.givenStitch
    · exact .cutStitch h.accrue.planAhead.fetchAll.setPort (fun ht1 => ht1.sendIdle))

theorem State.Keeps.admitPort {k p : Nat} (h : s₀.Keeps s) : s₀.Keeps (s.admitPort k p) := .foldl h (fun ht => ht.admitWaiting)

theorem State.Keeps.closeDrained {k p : Nat} (h : s₀.Keeps s) : s₀.Keeps (s.closeDrained k p) := .forCtxs h (fun ht => ht.closeProgress)

theorem State.Keeps.castStitch {k p : Nat} (h : s₀.Keeps s) : s₀.Keeps (s.castStitch k p) := h.setPort.sendControls

theorem State.Keeps.shellStitch {k p : Nat} (h : s₀.Keeps s) : s₀.Keeps (s.shellStitch k p) := .ite h.accrue.setPort.leaveShell h.accrue.setPort

theorem State.Keeps.sendCredit {k p : Nat} (h : s₀.Keeps s) : s₀.Keeps (s.sendCredit k p) :=
  .foldl (.foldl_snd (.foldl_snd h (fun ht => ht.setCtxAt)) (fun ht => ht.setRouteCtx)) (fun ht => .ite ht ht.sendMsg)

/-! ### What `Machine/LowPower` changes -/

theorem State.Yields.execShellIdleExpiry {k p : Nat} (h : s₀.Keeps s) : s₀.Yields (execShellIdleExpiry k p s) := .onPort h h.enterShell

theorem State.Yields.execShellExit {k p : Nat} (h : s₀.Keeps s) : s₀.Yields (execShellExit k p s) := .onPort h h.wakeShell

/-! ### What `Machine/SwitchCmds` changes -/

theorem State.Keeps.cmdSkeinCarve {r : Req} {u : Nat} (h : s₀.Keeps s) : s₀.Keeps (cmdSkeinCarve.act r u s).state := by
  dsimp only [Machine.cmdSkeinCarve]
  exact h.checked h.setRegs.ok

theorem State.Keeps.cmdSkeinInfo {r : Req} {u : Nat} (h : s₀.Keeps s) : s₀.Keeps (cmdSkeinInfo.act r u s).state := h.ok

theorem State.Keeps.setThresh {k : Nat} {cls : Bool} {n kv : Nat} {kDefault : Bool} {min mark : Nat} (h : s₀.Keeps s) : s₀.Keeps (s.setThresh k
    cls n kv kDefault min mark) :=
  .ite (.ite h.setReg h) h.setReg.setRf.setKern

theorem State.Keeps.cmdQueueThresholdSet {r : Req} {u : Nat} (h : s₀.Keeps s) : s₀.Keeps (cmdQueueThresholdSet.act r u s).state := by
  dsimp only [Machine.cmdQueueThresholdSet]
  exact h.checked h.setThresh.ok

theorem State.Keeps.cmdSchedNodeSet {r : Req} {u : Nat} (h : s₀.Keeps s) : s₀.Keeps (cmdSchedNodeSet.act r u s).state :=
  .ite_state h.setRf.ok (.ite_state (h.checked h.setRf.setRf.ok) h.setReg.ok)

theorem State.Keeps.resetTokens {k n : Nat} (h : s₀.Keeps s) : s₀.Keeps (s.resetTokens k n) := h.setTokens

theorem State.Keeps.cmdShaperSet {r : Req} {u : Nat} (h : s₀.Keeps s) : s₀.Keeps (cmdShaperSet.act r u s).state :=
  .ok (.resetTokens (.ite h.setReg.setReg.setReg h.setReg.setReg))

theorem State.Keeps.refreshRows {k t : Nat} {rows : List Nat} (h : s₀.Keeps s) : s₀.Keeps (s.refreshRows k t rows) := .ite h.setDin h

theorem State.Keeps.dropLeg {k t m leg : Nat} {whole : Bool} (h : s₀.Keeps s) : s₀.Keeps (s.dropLeg k t m leg whole) := by
  unfold State.dropLeg
  dsimp only
  split
  · exact .ite h.setCtxAt.dropFetched.refreshRows h.setCtxAt.dropFetched.refreshRows.bump
  · exact h.setCtxAt.dropFetched.refreshRows

theorem State.Keeps.unbindList {k l : Nat} {keep : Nat → Bool} (h : s₀.Keeps s) : s₀.Keeps (s.unbindList k l keep) :=
  .ite h (.setRf (.foldl h (fun ht => .ite ht ht.dropLeg.dropLeg.setCtx.setCtxAt)))

theorem State.Keeps.cmdMcastListSet {r : Req} {u : Nat} (h : s₀.Keeps s) : s₀.Keeps (cmdMcastListSet.act r u s).state :=
  .checked h (.ok (.ite (.foldl (.foldl (.ite (.setRf (.setReg (.foldl h.unbindList (fun ht => ht.setReg)))) (.setReg (.foldl h.unbindList (fun
      ht => ht.setReg)))) (fun ht => ht.doutClosed)) (fun ht => ht.doutOpened)) (.foldl (.ite (.setRf (.setReg (.foldl h.unbindList (fun ht =>
      ht.setReg)))) (.setReg (.foldl h.unbindList (fun ht => ht.setReg)))) (fun ht => ht.doutClosed))))

theorem State.Yields.execResidueAgeExpiry {k t leg : Nat} (h : s₀.Keeps s) : s₀.Yields (execResidueAgeExpiry k t leg s) :=
  .onUnit h (.ite h.dropLeg h)

theorem State.Keeps.liftFence {k set b : Nat} (h : s₀.Keeps s) : s₀.Keeps (s.liftFence k set b) := by
  unfold State.liftFence
  dsimp only
  split
  · exact h
  · split
    · exact h.setKern.moveBucket
    · exact h.setKern

theorem State.Yields.execFenceLift {k hashSet bucket : Nat} (h : s₀.Keeps s) : s₀.Yields (execFenceLift k hashSet bucket s) :=
  .onUnit h (.ite h.liftFence h)

theorem State.Keeps.latClear {k q : Nat} (h : s₀.Keeps s) : s₀.Keeps (s.latClear k q) := h.resetRange

theorem State.Keeps.latSet {k q interval base : Nat} (h : s₀.Keeps s) : s₀.Keeps (s.latSet k q interval base) := h.latClear.setReg

theorem State.Keeps.cmdLatSampleSet {r : Req} {u : Nat} (h : s₀.Keeps s) : s₀.Keeps (cmdLatSampleSet.act r u s).state := h.latSet.ok

theorem State.Keeps.cmdLatSampleRead {r : Req} {u : Nat} (h : s₀.Keeps s) : s₀.Keeps (cmdLatSampleRead.act r u s).state := .ok (.ite h.latClear h)

theorem State.Yields.execLatCtrlWrite {_via : Via} {k q : Nat} {w : Word} (h : s₀.Keeps s) : s₀.Yields (execLatCtrlWrite _via k q w s) :=
  .onUnit h (.ite h.ignoreWrite h.latSet)

theorem State.Keeps.latNote {cnt a v : Nat} (h : s₀.Keeps s) : s₀.Keeps (s.latNote cnt a v) := h.setReg.setReg.setReg.setReg.setReg.setReg

theorem State.Keeps.latTick {k q : Nat} (h : s₀.Keeps s) : s₀.Keeps (s.latTick k q) := by
  unfold State.latTick
  dsimp only
  split
  · exact h.latNote
  · split
    · exact h.latNote
    · exact h.latNote.latNote.setReg

theorem State.Yields.execLatSampleTick {k q : Nat} (h : s₀.Keeps s) : s₀.Yields (execLatSampleTick k q s) := .onUnit h (.ite h h.latTick)

/-! ### What `Machine/Capture` changes -/

theorem State.Keeps.flushFrom {fuel k a t : Nat} (h : s₀.Keeps s) : s₀.Keeps (s.flushFrom fuel k a t) := by
  induction fuel generalizing s with
  | zero => exact h
  | succ n ih =>
    unfold State.flushFrom
    split
    · exact h
    · split
      · next e => exact ih (State.Keeps.handover? e h).setOutbox
      · exact h

theorem State.Keeps.flush {k a : Nat} (h : s₀.Keeps s) : s₀.Keeps (s.flush k a) := by
  unfold State.flush
  split
  · exact h.flushFrom
  · exact h

theorem State.Keeps.inputGone {k i : Nat} (h : s₀.Keeps s) : s₀.Keeps (s.inputGone k i) := h.encAbort

theorem State.Keeps.setDinState {k i v : Nat} (h : s₀.Keeps s) : s₀.Keeps (s.setDinState k i v) := h.setRf

theorem State.Keeps.dinApply {k i : Nat} {w : Word} (h : s₀.Keeps s) : s₀.Keeps (s.dinApply k i w) :=
  .presentChange (.ite h.setReg.setDinState (.ite h.setReg.inputGone.setReg.setDin h.setReg))

theorem State.Keeps.cmdDinConfig {r : Req} {u : Nat} (h : s₀.Keeps s) : s₀.Keeps (cmdDinConfig.act r u s).state := h.dinApply.ok

theorem State.Keeps.cmdEdidProxySet {r : Req} {u : Nat} (h : s₀.Keeps s) : s₀.Keeps (cmdEdidProxySet.act r u s).state :=
  .ok (.presentChange (.ite h.setRb.setRb.setDin h.setRb.setRb))

theorem State.Keeps.cmdPurlModeSet {r : Req} {u : Nat} (h : s₀.Keeps s) : s₀.Keeps (cmdPurlModeSet.act r u s).state := h.setReg.ok

theorem State.Keeps.cmdExactRegionSet {r : Req} {u : Nat} (h : s₀.Keeps s) : s₀.Keeps (cmdExactRegionSet.act r u s).state :=
  .checked h (.ok (.setRf (.foldl h (fun ht => ht.setReg.setReg))))

theorem State.Keeps.cmdDamageConfig {r : Req} {u : Nat} (h : s₀.Keeps s) : s₀.Keeps (cmdDamageConfig.act r u s).state := h.setReg.ok

theorem State.Keeps.cmdPurlFrameReport {r : Req} {u : Nat} (h : s₀.Keeps s) : s₀.Keeps (cmdPurlFrameReport.act r u s).state := .ok (.ite h.setRegs h)

theorem State.Yields.onInput {k i : Nat} {c : Bool} {f : State} (h : s₀.Keeps s) (hs1 : s₀.Keeps f) : s₀.Yields (onInput k i c s f) :=
  .onUnit h (.ite hs1 h)

theorem State.Yields.execDinTraining {k i : Nat} {trained : Option (Nat × Nat)} (h : s₀.Keeps s) : s₀.Yields (execDinTraining k i trained s) :=
  .onInput h (by split; exacts [h.inputGone.setDinState.setRf, .ite h.setRf.setRf.bump h])

theorem State.Yields.execDinSignalLost {k i : Nat} {link : Bool} (h : s₀.Keeps s) : s₀.Yields (execDinSignalLost k i link s) :=
  .onInput h (.ite (.ite h.setRf h) (.ite (.bump (.log (.setDinState (.inputGone (.ite h.setRf h))))) (.log (.setDinState (.inputGone (.ite
      h.setRf h))))))

theorem State.Yields.execHpdPulseEnd {k i : Nat} (h : s₀.Keeps s) : s₀.Yields (execHpdPulseEnd k i s) := .onInput h h.setDin.dinHpd.log

theorem State.Keeps.beginFrame {k i : Nat} {f : InFrame} (h : s₀.Keeps s) : s₀.Keeps (s.beginFrame k i f) :=
  .setOutbox (.setRb (.setRf (.ite h.draw.setDin.bump h.draw.setDin)))

theorem State.Keeps.noteFrame {k i : Nat} {f : InFrame} (h : s₀.Keeps s) : s₀.Keeps (s.noteFrame k i f) := h.setReg.setRegs

theorem State.Keeps.noteForm {k i : Nat} {f : InFrame} (h : s₀.Keeps s) : s₀.Keeps (s.noteForm k i f) := h.setDin

theorem State.Keeps.noteExact {k i : Nat} {f : InFrame} (h : s₀.Keeps s) : s₀.Keeps (s.noteExact k i f) := .ite h.setRb.log h.setRb

theorem State.Yields.execInputFrameStart {k i : Nat} {frame : InFrame} (h : s₀.Keeps s) : s₀.Yields (execInputFrameStart k i frame s) :=
  .onInput h (.ite (by
    dsimp only
    split
    · exact h.noteForm.setDinState.noteFrame.bump.noteExact
    · exact .ite h.noteForm.setDinState.noteFrame.bump.noteExact.bump h.noteForm.setDinState.noteFrame.bump.noteExact.beginFrame) (.ite
        h.noteForm.noteFrame h.noteForm.noteFrame.inputGone.setDinState.bump.log))

theorem State.Keeps.encProgress {k i t : Nat} (h : s₀.Keeps s) : s₀.Keeps (s.encProgress k i t) := .ite h h.setDin.setRegs.setRb

theorem State.Keeps.portAdapters {k p : Nat} (h : s₀.Keeps s) : s₀.Keeps (s.portAdapters k p) := .forCtxs h (fun ht => .ite ht.encProgress ht.flush)

theorem State.Yields.execStitchStart {k p : Nat} {late : Bool} (h : s₀.Keeps s) : s₀.Yields (execStitchStart k p late s) :=
  .onPort h (.ite h.castStitch (.ite h.shellStitch h.moveFlights.admitPort.stitch.closeDrained.portAdapters))

theorem State.Keeps.offer {k t p : Nat} {busy : Bool} {bytes : List Byte} (h : s₀.Keeps s) : s₀.Keeps (s.offer k t p busy bytes) := by
  unfold State.offer
  dsimp only
  split
  · exact .ite h (.getD (State.KeepsAny.handover? h) h)
  · split
    · next e => exact (State.Keeps.handover? e h).setOutbox
    · exact .ite h.encAbort h

theorem State.Yields.execPacketHandover {k t p : Nat} {bytes : List Byte} {busy : Bool} (h : s₀.Keeps s) : s₀.Yields (execPacketHandover k t p
    bytes busy s) :=
  .onUnit h h.offer

theorem State.Keeps.adapterViolation {k t : Nat} (h : s₀.Keeps s) : s₀.Keeps (s.adapterViolation k t) := h.violation.quarantine

theorem State.Yields.onReverse {k i ptype : Nat} {f : State → List Byte → State} (h : s₀.Keeps s) (hf : ∀ {t x1}, s₀.Keeps t → s₀.Keeps (f t x1))
    : s₀.Yields (onReverse k i ptype s f) :=
  .onInput h (by
    split
    · exact h
    · split
      · exact h
      · next he1 =>
          exact .ite (.adapterViolation (.takeAdapter he1 h)) (.ite (hf (.takeAdapter he1 h)) h))

theorem State.Yields.execRefresh {k i : Nat} (h : s₀.Keeps s) : s₀.Yields (execRefresh k i s) :=
  .onReverse h (fun ht => .bump (.ite ht.setDin ht.setDin))

theorem State.Keeps.takeEdid {k i : Nat} {b : List Byte} (h : s₀.Keeps s) : s₀.Keeps (s.takeEdid k i b) :=
  .ite h (.ite h.setDin.presentChange h.setDin)

theorem State.Yields.execSinkEdid {k i : Nat} (h : s₀.Keeps s) : s₀.Yields (execSinkEdid k i s) := .onReverse h (fun ht => ht.takeEdid)

theorem State.Yields.execSinkStatus {k i : Nat} (h : s₀.Keeps s) : s₀.Yields (execSinkStatus k i s) := .onReverse h (fun ht => ht)

/-! ### What `Machine/EtherCmds` changes -/

theorem State.Keeps.ethDown {k e : Nat} (h : s₀.Keeps s) : s₀.Keeps (s.ethDown k e) := h.setEth.setRf.setRb.setReg

theorem State.Keeps.cmdEthConfig {r : Req} {u : Nat} (h : s₀.Keeps s) : s₀.Keeps (cmdEthConfig.act r u s).state :=
  .checked h (.ok (.ite h.setReg.setRb.ethDown h.setReg))

theorem State.Keeps.setPair {k : Nat} {on sup : Bool} (h : s₀.Keeps s) : s₀.Keeps (s.setPair k on sup) :=
  .ite h.setReg h.setReg.setNet.setRb.setRb.setReg

theorem State.Keeps.cmdPrpPairSet {r : Req} {u : Nat} (h : s₀.Keeps s) : s₀.Keeps (cmdPrpPairSet.act r u s).state :=
  h.checked h.setPair.setReg.setReg.ok

theorem State.Keeps.cmdEthStatus {r : Req} {u : Nat} (h : s₀.Keeps s) : s₀.Keeps (cmdEthStatus.act r u s).state := .ok (.ite h.setRegs h)

theorem State.Yields.onEth {k e : Nat} {f : State → State} (h : s₀.Keeps s) (hf : ∀ {t}, s₀.Keeps t → s₀.Keeps (f t)) : s₀.Yields (onEth k e s f) :=
  .onUnit h (.ite (hf h) h)

theorem State.Yields.execEthLinkChange {k e : Nat} {up : Bool} {rate : Nat} (h : s₀.Keeps s) : s₀.Yields (execEthLinkChange k e up rate s) :=
  .onEth h (fun ht => .ite (.ite ht.ethDown ht) (.ite ht ht.setEth.setRf))

theorem State.Yields.execSfpModuleInsert {k e : Nat} {present fits : Bool} {code : Nat} (h : s₀.Keeps s) : s₀.Yields (execSfpModuleInsert k e
    present fits code s) :=
  .onEth h (fun ht => .ite ht.setRb.setRb.ethDown.log (.ite ht.setRb.setRb ht.setRb.setRb.ethDown))

theorem State.Yields.execPrpLanChange {k lan : Nat} (h : s₀.Keeps s) : s₀.Yields (execPrpLanChange k lan s) :=
  .onEth h (fun ht => .ite ht ht.setRb.log)

theorem State.Yields.execPrpEntryExpiry {k : Nat} {proxy : Bool} {mac seq : Nat} (h : s₀.Keeps s) : s₀.Yields (execPrpEntryExpiry k proxy mac seq
    s) :=
  .onEth h (fun ht => .ite ht.setNet.prpCount ht.setNet.prpCount)

theorem State.Yields.execPrpLifeCheckTimer {k : Nat} (h : s₀.Keeps s) : s₀.Yields (execPrpLifeCheckTimer k s) :=
  .onEth h (fun ht => .ite (.foldl ht (fun ht1 => ht1.setNet.pairSend)) ht)

theorem State.Keeps.ethIngress {k e : Nat} {packet : List Byte} (h : s₀.Keeps s) : s₀.Keeps (s.ethIngress k e packet) := .ite h.emit.flush h.bump

theorem State.Keeps.ptpIngress {k e : Nat} {b : List Byte} (h : s₀.Keeps s) : s₀.Keeps (s.ptpIngress k e b) := .ite h (.ite h.ethIngress h.ethIngress)

theorem State.Keeps.ethRx {k e : Nat} {b : List Byte} {fcsOk full : Bool} (h : s₀.Keeps s) : s₀.Keeps (s.ethRx k e b fcsOk full) :=
  .ite h.bump (.ite h.bump (.ite h.bump (.ite (.ite h.bump.bump.setEth h.bump.bump) (.ite h.bump.ptpIngress (.ite (.ite h.bump (by
    split
    · next he =>
        exact .ethIngress (.of_snd he h.bump.pairReceive)
    · next he =>
        exact .of_snd he h.bump.pairReceive)) h.bump.ethIngress)))))

theorem State.Yields.execEthFrameRx {k e : Nat} {bytes : List Byte} {fcsOk full : Bool} (h : s₀.Keeps s) : s₀.Yields (execEthFrameRx k e bytes
    fcsOk full s) :=
  .onEth h (fun ht => .ite ht.ethRx ht)

theorem State.Yields.onEthPacket {k e ptype : Nat} {f : State → Bool → List Byte → Nat → State} (h : s₀.Keeps s) (hf : ∀ {t x1 x2 x3}, s₀.Keeps t
    → s₀.Keeps (f t x1 x2 x3)) : s₀.Yields (onEthPacket k e ptype s f) :=
  .onEth h (fun ht => by
    split
    · exact ht
    · exact .ite ht (by
        split
        · exact ht
        · next he2 =>
            exact .ite (.adapterViolation (.takeAdapter he2 ht)) (.ite ht (hf (.takeAdapter he2 ht)))))

theorem State.Yields.execEthFramePacket {k e : Nat} (h : s₀.Keeps s) : s₀.Yields (execEthFramePacket k e s) :=
  .onEthPacket h (fun ht => .ite (.foldl (.fresh (.ite_snd (by split; exacts [ht.setNet, ht]) ht)) (fun ht1 => ht1.ethSend)) (.ite (.pairSend
      (by split; exacts [ht.bump, ht])) (.ethSend (by split; exacts [ht.bump, ht]))))

theorem State.Yields.execPtpFramePacket {k e : Nat} (h : s₀.Keeps s) : s₀.Yields (execPtpFramePacket k e s) :=
  .onEthPacket h (fun ht => .ite ht.bump (.bump (.foldl (.fresh (.ite ht.fresh.setNet ht.fresh)) (fun ht1 => ht1.ethSend))))

/-! ### What `Machine/FrameStore` changes -/

theorem State.Yields.onOutput {k o : Nat} {c : Bool} {f : State} (h : s₀.Keeps s) (hs1 : s₀.Keeps f) : s₀.Yields (onOutput k o c s f) :=
  .onUnit h (.ite hs1 h)

theorem State.Keeps.syncStore {k o : Nat} (h : s₀.Keeps s) : s₀.Keeps (s.syncStore k o) := .ite h.setDout.setRegs.setReg h.setDout.setRegs

theorem State.Keeps.sinkTake {k o : Nat} {x : List Byte × State} (e : s.sinkTake k o = some x) (h : s₀.Keeps s) : s₀.Keeps x.2 := by
  unfold State.sinkTake at e
  split at e
  · cases e
    exact h.remap rfl rfl rfl rfl fun c => { c with localRx := smapPut_wf _ _ c.localRx }
  · split at e
    · cases e
    · obtain ⟨y, hy, rfl⟩ := Option.map_eq_some_iff.1 e
      exact .takeAdapter hy h

theorem State.Keeps.sinkViolation {k o : Nat} (h : s₀.Keeps s) : s₀.Keeps (s.sinkViolation k o) := by
  unfold State.sinkViolation
  split
  · exact h.adapterViolation
  · exact h

theorem State.Yields.onForward {k o ptype : Nat} {f : State → List Byte → State} (h : s₀.Keeps s) (hf : ∀ {t x1}, s₀.Keeps t → s₀.Keeps (f t x1))
    : s₀.Yields (onForward k o ptype s f) :=
  .onOutput h (by
    split
    · exact h
    · next he =>
        exact .ite (.sinkViolation (.sinkTake he h)) (.ite (hf (.sinkTake he h)) h))

theorem State.Keeps.dropBuild {k o : Nat} (h : s₀.Keeps s) : s₀.Keeps (s.dropBuild k o) := h.setDout.syncStore

theorem State.Keeps.sinkStart {k o : Nat} {b : List Byte} (h : s₀.Keeps s) : s₀.Keeps (s.sinkStart k o b) :=
  .ite h.setDout.syncStore.sendRefresh h.setDout.syncStore

theorem State.Yields.execFrameStart {k o : Nat} (h : s₀.Keeps s) : s₀.Yields (execFrameStart k o s) := .onForward h (fun ht => ht.sinkStart)

theorem State.Keeps.noSpace {k o frame : Nat} (h : s₀.Keeps s) : s₀.Keeps (s.noSpace k o frame) := by
  unfold State.noSpace
  exact .sendRefresh (.ite h.bump.setDout.dropBuild.setDout h.bump.setDout.dropBuild.setDout.log)

theorem State.Keeps.guardRecord {k o : Nat} {r : SinkRec} (h : s₀.Keeps s) : s₀.Keeps (s.guardRecord k o r) := h.chkInit.chkBytes

theorem State.Keeps.storeRow {k o : Nat} {f : FrameSet} {row : Nat} {cols : List Nat} {groups : List (List (Nat × Nat × Nat × List Byte))} (h :
    s₀.Keeps s) : s₀.Keeps (s.storeRow k o f row cols groups) := by
  unfold State.storeRow
  dsimp only
  split
  · exact h.noSpace
  · exact .syncStore (.setDout (.ite (.foldl h (fun ht1 => ht1.guardRecord)) h))

theorem State.Keeps.sinkRow {k o : Nat} {b : List Byte} (h : s₀.Keeps s) : s₀.Keeps (s.sinkRow k o b) := by
  unfold State.sinkRow
  dsimp only
  split
  · exact h
  · exact .ite h (by split; exacts [h.storeRow, h.bump.setDout.sendRefresh.sinkViolation])

theorem State.Yields.execTileRow {k o : Nat} (h : s₀.Keeps s) : s₀.Yields (execTileRow k o s) := .onForward h (fun ht => ht.sinkRow)

theorem State.Keeps.completeBuild {k o : Nat} (h : s₀.Keeps s) : s₀.Keeps (s.completeBuild k o) := .syncStore (.setDout (.ite h.bump h))

theorem State.Keeps.sinkEnd {k o : Nat} {b : List Byte} (h : s₀.Keeps s) : s₀.Keeps (s.sinkEnd k o b) := by
  unfold State.sinkEnd
  dsimp only
  split
  · exact .ite h h.setDout.sendRefresh
  · exact .ite h.setDout.sendRefresh (.ite h.setDout.syncStore.setDout.sendRefresh (.ite h.setDout.syncStore (.ite h.setDout.syncStore.setDout
      h.setDout.syncStore.completeBuild)))

theorem State.Yields.execFrameEnd {k o : Nat} (h : s₀.Keeps s) : s₀.Yields (execFrameEnd k o s) := .onForward h (fun ht => ht.sinkEnd)

theorem State.Yields.execFrameAbort {k o : Nat} (h : s₀.Keeps s) : s₀.Yields (execFrameAbort k o s) := .onForward h (fun ht => .ite ht ht.dropBuild)

theorem State.Yields.execRecordScanDone {k o : Nat} (h : s₀.Keeps s) : s₀.Yields (execRecordScanDone k o s) :=
  .onOutput h (.completeBuild (.setDout (.foldl h (fun ht => ht.guardRecord))))

theorem State.Yields.execRecordCheckFail {k o group row : Nat} (h : s₀.Keeps s) : s₀.Yields (execRecordCheckFail k o group row s) :=
  .onOutput h (by
    dsimp only
    split
    · exact h
    · split
      · exact h
      · exact h.setDout.syncStore.sendRefresh.bump.log)

/-! ### What `Machine/PcieCmds` changes -/

theorem State.Keeps.spendCred {a data : Nat} (h : s₀.Keeps s) : s₀.Keeps (s.spendCred a data) := h.setReg

theorem State.Keeps.enterTunnel {k : Nat} {b : List Byte} (h : s₀.Keeps s) : s₀.Keeps (s.enterTunnel k b) := by
  unfold State.enterTunnel
  dsimp only
  split
  · exact h.bump.emit
  · exact h.bump.spendCred.emit
  · exact h.bump.setNp.spendCred.emit

theorem State.Keeps.pump {fuel k : Nat} (h : s₀.Keeps s) : s₀.Keeps (s.pump fuel k) := by
  induction fuel generalizing s with
  | zero => exact h
  | succ n ih =>
    unfold State.pump
    dsimp only
    split
    · exact h
    · split
      · exact h
      · exact ih h.setBridge.enterTunnel

theorem State.Keeps.pumpAll {k : Nat} (h : s₀.Keeps s) : s₀.Keeps (s.pumpAll k) := h.pump.flush

theorem State.Keeps.raIssue {fuel k w a lim : Nat} (h : s₀.Keeps s) : s₀.Keeps (s.raIssue fuel k w a lim) := by
  induction fuel generalizing s a with
  | zero => exact h
  | succ n ih =>
    unfold State.raIssue
    refine .ite h ?_
    dsimp only
    split
    · exact ih h
    · split
      · exact h
      · exact .ite h (ih h.setBridge.setNp.bump.bump.spendCred.emit)

theorem State.Keeps.raTopUp {k a e : Nat} (h : s₀.Keeps s) : s₀.Keeps (s.raTopUp k a e) := .ite h (by split; exacts [h, h.raIssue])

theorem State.Keeps.hostRead {k : Nat} {b : List Byte} (h : s₀.Keeps s) : s₀.Keeps (s.hostRead k b) :=
  .ite (.raTopUp (.bump (.foldl h.setBridge (fun ht => ht.xSend)))) (.ite h.setBridge (.raTopUp (.pump (.setBridge (.ite h.raDrop h)))))

theorem State.Keeps.raOverlap {k a e : Nat} (h : s₀.Keeps s) : s₀.Keeps (s.raOverlap k a e) := h.raDrop.setBridge

theorem State.Keeps.raRetry {k : Nat} (h : s₀.Keeps s) : s₀.Keeps (s.raRetry k) := .foldl h.setBridge (fun ht => ht.hostRead)

theorem State.Keeps.cmdPcieConfig {r : Req} {u : Nat} (h : s₀.Keeps s) : s₀.Keeps (cmdPcieConfig.act r u s).state :=
  h.checked h.setRegs.pcieSync.pumpAll.ok

theorem State.Keeps.applyWindow {k w : Nat} {valid : Bool} {base size depth : Nat} (h : s₀.Keeps s) : s₀.Keeps (s.applyWindow k w valid base size
    depth) :=
  h.setBridge.raDrop.setBridge

theorem State.Keeps.cmdPcieWindow {r : Req} {u : Nat} (h : s₀.Keeps s) : s₀.Keeps (cmdPcieWindow.act r u s).state :=
  h.checked h.setRegs.applyWindow.ok

theorem State.Keeps.applyPciwCtrl {k win : Nat} {w : Word} (h : s₀.Keeps s) : s₀.Keeps (s.applyPciwCtrl k win w) :=
  .ite h.ignoreWrite h.setReg.applyWindow

theorem State.Yields.execPciwCtrlWrite {_via : Via} {k win : Nat} {w : Word} (h : s₀.Keeps s) : s₀.Yields (execPciwCtrlWrite _via k win w s) :=
  .onUnit h h.applyPciwCtrl

theorem State.Keeps.cmdPcieStatus {r : Req} {u : Nat} (h : s₀.Keeps s) : s₀.Keeps (cmdPcieStatus.act r u s).state := .ok (.ite h.setRegs h)

theorem State.Keeps.cmdPcieReadaheadLog {r : Req} {u : Nat} (h : s₀.Keeps s) : s₀.Keeps (cmdPcieReadaheadLog.act r u s).state :=
  .ok (.ite h.resetRange.setReg.setBridge h)

theorem State.Yields.onBridge {k ptype n : Nat} {f : State → List Byte → Nat → State} (h : s₀.Keeps s) (hf : ∀ {t x1 x2}, s₀.Keeps t → s₀.Keeps
    (f t x1 x2)) : s₀.Yields (onBridge k ptype n s f) :=
  .onUnit h (by
    split
    · exact h
    · split
      · exact h
      · next he1 =>
          exact .ite (.adapterViolation (.takeAdapter he1 h)) (.ite h (.ite (.adapterViolation (.takeAdapter he1 h)) (hf (.takeAdapter he1 h)))))

theorem State.Keeps.useLeft {k : Nat} {b : List Byte} {u : State} (e : s.useLeft k b = some u) (h : s₀.Keeps s) : s₀.Keeps u := by
  unfold State.useLeft at e
  dsimp only at e
  split at e
  · cases e
    exact h
  all_goals
    split at e
    · cases e
    · cases e
      exact h.setBridge

theorem State.Keeps.tlpArrives {k t : Nat} {kind : TlpKind} {b : List Byte} {f : State → State} (h : s₀.Keeps s) (hf : ∀ {t}, s₀.Keeps t →
    s₀.Keeps (f t)) : s₀.Keeps (s.tlpArrives k t kind b f) :=
  .ite h.adapterViolation (by
    split
    · exact h.adapterViolation
    · next he =>
        exact hf (.bump (.useLeft he h)))

theorem State.Yields.execTlpP {k : Nat} (h : s₀.Keeps s) : s₀.Yields (execTlpP k s) := .onBridge h (fun ht => .tlpArrives ht (fun ht1 => ht1.xSend))

theorem State.Yields.execTlpNp {k : Nat} {toDevice : Bool} (h : s₀.Keeps s) : s₀.Yields (execTlpNp k toDevice s) :=
  .onBridge h (fun ht => .tlpArrives ht (fun ht1 => ht1.xSend))

theorem State.Keeps.unexpected {k : Nat} {b : List Byte} (h : s₀.Keeps s) : s₀.Keeps (s.unexpected k b) := h.setBridge.bump

theorem State.Keeps.raCompletion {k : Nat} {q : RaReq} {b : List Byte} (h : s₀.Keeps s) : s₀.Keeps (s.raCompletion k q b) :=
  .ite h.setBridge.raNote.setNp.raRetry (.ite h.setBridge.setBridge (.ite h.setBridge.raNote.setNp.raRetry h.setBridge.setBridge.setNp.raRetry))

theorem State.Keeps.cplArrives {k : Nat} {b : List Byte} (h : s₀.Keeps s) : s₀.Keeps (s.cplArrives k b) := by
  unfold State.cplArrives
  dsimp only
  split
  · exact h.raCompletion
  · split
    · exact h.unexpected
    · exact h.setNp.xSend

theorem State.Yields.execTlpCpl {k : Nat} (h : s₀.Keeps s) : s₀.Yields (execTlpCpl k s) :=
  .onBridge h (fun ht => .pumpAll (.tlpArrives ht (fun ht1 => ht1.cplArrives)))

theorem State.Keeps.addCred {a maxH maxD : Nat} {w : Word} (h : s₀.Keeps s) : s₀.Keeps (s.addCred a maxH maxD w) := h.setReg

theorem State.Yields.execBridgeCredit {k : Nat} (h : s₀.Keeps s) : s₀.Yields (execBridgeCredit k s) :=
  .onBridge h (fun ht => ht.addCred.addCred.pumpAll)

theorem State.Keeps.linkStateRx {k : Nat} {w : Word} (h : s₀.Keeps s) : s₀.Keeps (s.linkStateRx k w) :=
  .ite (.surpriseDown (.setRb (.setSlot (.ite h.setBridge.setRb.setRb.pathLost h.setBridge.setRb.setRb)))) (.setRb (.setSlot (.ite
      h.setBridge.setRb.setRb.pathLost h.setBridge.setRb.setRb)))

theorem State.Yields.execLinkState {k : Nat} (h : s₀.Keeps s) : s₀.Yields (execLinkState k s) :=
  .onBridge h (fun ht => .ite ht.linkStateRx ht.adapterViolation)

theorem State.Keeps.dockReset {k : Nat} (h : s₀.Keeps s) : s₀.Keeps (s.dockReset k) := h.pathLost.setRf.setRf

theorem State.Keeps.linkCtrlRx {k : Nat} {w : Word} (h : s₀.Keeps s) : s₀.Keeps (s.linkCtrlRx k w) :=
  .ite (.flush (.emit (.ite (.setRb (.ite (.bump (.setRb (.dockReset (.ite (.bump (.dockReset (.ite h.setBridge.setRf.setRb h.setBridge))) (.ite
      h.setBridge.setRf.setRb h.setBridge))))) (.ite (.bump (.dockReset (.ite h.setBridge.setRf.setRb h.setBridge))) (.ite
      h.setBridge.setRf.setRb h.setBridge)))) (.ite (.bump (.setRb (.dockReset (.ite (.bump (.dockReset (.ite h.setBridge.setRf.setRb
      h.setBridge))) (.ite h.setBridge.setRf.setRb h.setBridge))))) (.ite (.bump (.dockReset (.ite h.setBridge.setRf.setRb h.setBridge))) (.ite
      h.setBridge.setRf.setRb h.setBridge)))))) (.ite (.setRb (.ite (.bump (.setRb (.dockReset (.ite (.bump (.dockReset (.ite
      h.setBridge.setRf.setRb h.setBridge))) (.ite h.setBridge.setRf.setRb h.setBridge))))) (.ite (.bump (.dockReset (.ite
      h.setBridge.setRf.setRb h.setBridge))) (.ite h.setBridge.setRf.setRb h.setBridge)))) (.ite (.bump (.setRb (.dockReset (.ite (.bump
      (.dockReset (.ite h.setBridge.setRf.setRb h.setBridge))) (.ite h.setBridge.setRf.setRb h.setBridge))))) (.ite (.bump (.dockReset (.ite
      h.setBridge.setRf.setRb h.setBridge))) (.ite h.setBridge.setRf.setRb h.setBridge))))

theorem State.Yields.execLinkCtrl {k : Nat} (h : s₀.Keeps s) : s₀.Yields (execLinkCtrl k s) :=
  .onBridge h (fun ht => .ite ht.linkCtrlRx ht.adapterViolation)

theorem State.Yields.execPcieWake {k : Nat} {hostInL2 : Bool} (h : s₀.Keeps s) : s₀.Yields (execPcieWake k hostInL2 s) :=
  .onBridge h (fun ht => .ite ht.setBridge ht)

theorem State.Yields.execCplTimeout {k reqId tag : Nat} (h : s₀.Keeps s) : s₀.Yields (execCplTimeout k reqId tag s) :=
  .onUnit h (by
    dsimp only
    split
    · exact h.setBridge.setNp.bump.log.raNote.raRetry.pumpAll
    · split
      · exact h
      · exact h.setNp.bump.log.synth.pumpAll)

theorem State.Yields.execReadAheadAge {k num : Nat} (h : s₀.Keeps s) : s₀.Yields (execReadAheadAge k num s) := .onUnit h h.raDrop

theorem State.Keeps.hostReset {k : Nat} {perst : Bool} (h : s₀.Keeps s) : s₀.Keeps (s.hostReset k perst) := by
  unfold State.hostReset
  exact h.raClear.setNp.clearWindows.setBridge.setPcieFn.viaDown.bump.emit.flush

theorem State.Yields.execPxPerstLow {k : Nat} (h : s₀.Keeps s) : s₀.Yields (execPxPerstLow k s) :=
  .onUnit h (.ite h h.hostReset.setBridge.setRf.setRf)

theorem State.Yields.execPxPerstRise {k width speed : Nat} (h : s₀.Keeps s) : s₀.Yields (execPxPerstRise k width speed s) :=
  .onUnit h (.ite h (.flush (.emit (.ite h.setBridge.setRf.setRf.setRf h.setBridge.setRf.setRf.setRf.viaUpNow))))

theorem State.Yields.execHostHotReset {k : Nat} {down : Bool} (h : s₀.Keeps s) : s₀.Yields (execHostHotReset k down s) :=
  .onUnit h (.ite h (.ite h.hostReset.setRf.setRf h.hostReset.viaUpNow))

theorem State.Yields.execDockLinkDown {k : Nat} {present : Bool} (h : s₀.Keeps s) : s₀.Yields (execDockLinkDown k present s) :=
  .onUnit h (.ite h h.dockReset.setBridge.emit.flush)

theorem State.Yields.execDockLinkUp {k width speed : Nat} (h : s₀.Keeps s) : s₀.Yields (execDockLinkUp k width speed s) :=
  .onUnit h (.ite h h.setRf.setRf.setRf.setBridge.setRb.emit.flush)

theorem State.Yields.execPerstReleaseTimer {k : Nat} (h : s₀.Keeps s) : s₀.Yields (execPerstReleaseTimer k s) := .onUnit h (.ite h.setRb h)

theorem State.Yields.execPxWakeNFall {k : Nat} (h : s₀.Keeps s) : s₀.Yields (execPxWakeNFall k s) := .onUnit h (.ite h.emit.flush h)

theorem State.Keeps.bridgeCredit {k : Nat} (h : s₀.Keeps s) : s₀.Keeps (s.bridgeCredit k) := .ite h h.setBridge.emit.flush

theorem State.Keeps.portBridges {k p : Nat} (h : s₀.Keeps s) : s₀.Keeps (s.portBridges k p) := .forCtxs h (fun ht => ht.bridgeCredit)

theorem State.Yields.execRowBoundary {k p : Nat} {transitHeld : Bool} (h : s₀.Keeps s) : s₀.Yields (execRowBoundary k p transitHeld s) :=
  .onPort h (.ite (.bump (.ite h.moveFlights.rowStart h.moveFlights.rowStart.sendCredit.portBridges)) (.ite h.moveFlights.rowStart
      h.moveFlights.rowStart.sendCredit.portBridges))

/-! ### What `Machine/Scanout` changes -/

theorem State.Keeps.cmdDoutTimingStage {r : Req} {u : Nat} (h : s₀.Keeps s) : s₀.Keeps (cmdDoutTimingStage.act r u s).state :=
  h.checked h.setRegs.setRb.setDout.ok

theorem State.Keeps.cmdDoutPairSet {r : Req} {u : Nat} (h : s₀.Keeps s) : s₀.Keeps (cmdDoutPairSet.act r u s).state := h.checked h.setDout.ok

theorem State.Keeps.cmdFrameLockSet {r : Req} {u : Nat} (h : s₀.Keeps s) : s₀.Keeps (cmdFrameLockSet.act r u s).state :=
  h.checked h.setDout.setRegs.ok

theorem State.Keeps.cmdPsrConfig {r : Req} {u : Nat} (h : s₀.Keeps s) : s₀.Keeps (cmdPsrConfig.act r u s).state := h.setReg.ok

theorem State.Keeps.cmdTestPattern {r : Req} {u : Nat} (h : s₀.Keeps s) : s₀.Keeps (cmdTestPattern.act r u s).state := h.checked h.setRegs.ok

theorem State.Keeps.cmdDoutStatus {r : Req} {u : Nat} (h : s₀.Keeps s) : s₀.Keeps (cmdDoutStatus.act r u s).state := .ok (.ite h.setRegs h)

theorem State.Keeps.linkUp {k o : Nat} (h : s₀.Keeps s) : s₀.Keeps (s.linkUp k o) := h.setDoutState

theorem State.Keeps.startTraining {k o : Nat} (h : s₀.Keeps s) : s₀.Keeps (s.startTraining k o) := h.setDout.setDoutState.setRf.setRf.bump

theorem State.Keeps.enterPsr {k o : Nat} (h : s₀.Keeps s) : s₀.Keeps (s.enterPsr k o) := h.setDoutState.setDout.bump

theorem State.Keeps.leavePsr {k o : Nat} (h : s₀.Keeps s) : s₀.Keeps (s.leavePsr k o) := .ite h.startTraining h.setDout

theorem State.Keeps.flip {k d : Nat} (h : s₀.Keeps s) : s₀.Keeps (s.flip k d).1 := by
  unfold State.flip
  dsimp only
  split
  · exact .ite_fst h.setDout.syncStore.bump h.setDout
  · exact .ite_fst h.setDout.setDout.bump h.setDout

theorem State.Keeps.applyPair {k : Nat} (h : s₀.Keeps s) : s₀.Keeps (s.applyPair k) := by
  unfold State.applyPair
  split
  · exact h
  · exact .ite h.setReg.setDout.log (.ite (.ite h.setReg.setDout.setRegs.startTraining.setDout h.setReg.setDout.setRegs) h.setReg.setDout)

theorem State.Keeps.retime {k o : Nat} {hold : Bool} {old new : Word} (h : s₀.Keeps s) : s₀.Keeps (s.retime k o hold old new) :=
  .ite h.startTraining.setDout (.ite (.ite h.enterPsr.bump.setDout h.startTraining.setDout) (.ite h.bump.setDout (.ite h.leavePsr h)))

theorem State.Keeps.applyTiming {k g : Nat} (h : s₀.Keeps s) : s₀.Keeps (s.applyTiming k g) :=
  .ite h (.setRb (.setDout (by
    split
    · exact .setRegs (.foldl (.foldl h (fun ht1 => ht1.retime)) (fun ht1 => ht1.setRegs))
    · exact .foldl (.foldl h (fun ht1 => ht1.retime)) (fun ht1 => ht1.setRegs))))

theorem State.Keeps.applyPattern {k o : Nat} (h : s₀.Keeps s) : s₀.Keeps (s.applyPattern k o) := h.setDout.setRb

theorem State.Keeps.rejoin {k : Nat} {outs : List Nat} (h : s₀.Keeps s) : s₀.Keeps (s.rejoin k outs) := .foldl h (fun ht => .ite ht.setDout.linkUp ht)

theorem State.Keeps.psrBoundary {k g : Nat} {flipped : Nat → Bool} (h : s₀.Keeps s) : s₀.Keeps (s.psrBoundary k g flipped) :=
  .ite (.ite (.foldl h (fun ht => ht.leavePsr)) h) (.ite (.foldl (.ite (.foldl h (fun ht => ht.leavePsr)) h) (fun ht => .ite ht.enterPsr
      ht.setDout)) (.foldl (.ite (.foldl h (fun ht => ht.leavePsr)) h) (fun ht => ht.setDout)))

theorem State.Keeps.lockMeasure {k g : Nat} (h : s₀.Keeps s) : s₀.Keeps (s.lockMeasure k g) :=
  .ite (.setReg (.foldl h (fun ht => ht.setRf))) (.ite (.setReg (.foldl h.setReg.setDout (fun ht => ht.setRf))) (.ite (.ite (.bump (.foldl
      h.setReg.fresh.setReg.setDout (fun ht => ht.setRf))) h.setReg.fresh.setReg.setDout) (.foldl h.setReg.fresh.setReg.setDout (fun ht =>
      ht.setRf))))

theorem State.Keeps.boundary {k g : Nat} (h : s₀.Keeps s) : s₀.Keeps (s.boundary k g) :=
  .foldl (.foldl (.lockMeasure (.psrBoundary (.foldl (.applyTiming (.foldl (.foldl_fst (.rejoin (.ite h.applyPair h)) (fun ht => ht.flip)) (fun
      ht => ht.applyPattern))) (fun ht => .ite ht.linkUp ht)))) (fun ht => ht.setRb)) (fun ht => .ite (.sendSinkStatus (.ite
      ht.setDout.fresh.setReg ht.setDout)) (.ite ht.setDout.fresh.setReg ht.setDout))

theorem State.Yields.execFrameBoundary {k o : Nat} (h : s₀.Keeps s) : s₀.Yields (execFrameBoundary k o s) := .onOutput h h.boundary

theorem State.Yields.execUnderrun {k o line : Nat} (h : s₀.Keeps s) : s₀.Yields (execUnderrun k o line s) :=
  .onOutput h h.bump.setReg.log.setDout.boundary

theorem State.Keeps.panelChange {k o : Nat} {on : Bool} (h : s₀.Keeps s) : s₀.Keeps (s.panelChange k o on) := h.setRb.sendEdid.sendSinkStatus

theorem State.Yields.execPanelHpdRise {k o : Nat} {edid : List Byte} {selfRefresh trainOnExit : Bool} (h : s₀.Keeps s) : s₀.Yields
    (execPanelHpdRise k o edid selfRefresh trainOnExit s) :=
  .onOutput h (.ite h.setDout.setRb.panelChange.startTraining h.setDout.setRb.panelChange)

theorem State.Yields.execPanelHpdFall {k o : Nat} (h : s₀.Keeps s) : s₀.Yields (execPanelHpdFall k o s) :=
  .onOutput h (.panelChange (.setDout (.setRb (.setRf (.setRf (.ite h.setDoutState h))))))

theorem State.Yields.execIrqHpd {k o : Nat} (h : s₀.Keeps s) : s₀.Yields (execIrqHpd k o s) := .onOutput h h

theorem State.Yields.execDoutTrainPass {k o : Nat} (h : s₀.Keeps s) : s₀.Yields (execDoutTrainPass k o s) := .onOutput h h.setRf.setRf.setDout

theorem State.Yields.execDoutTrainFail {k o : Nat} (h : s₀.Keeps s) : s₀.Yields (execDoutTrainFail k o s) := .onOutput h h.setDout.setDoutState.log

theorem State.Yields.execDoutRetryTimer {k o : Nat} (h : s₀.Keeps s) : s₀.Yields (execDoutRetryTimer k o s) := .onOutput h h.startTraining

/-! ### What `Machine/TimeCmds` changes -/

theorem State.Keeps.setSources {l : List Word} (h : s₀.Keeps s) : s₀.Keeps (s.setSources l) :=
  .ite (.foldl h (fun ht => ht.setTime)) (by
    split
    · exact .putTimeState (.foldl h (fun ht1 => ht1.setTime))
    · exact .moveSource (.foldl h (fun ht1 => ht1.setTime)))

theorem State.Keeps.cmdTimeSourceList {r : Req} {u : Nat} (h : s₀.Keeps s) : s₀.Keeps (cmdTimeSourceList.act r u s).state := h.setTime.setSources.ok

theorem State.Keeps.cmdTimeRead {r : Req} {u : Nat} (h : s₀.Keeps s) : s₀.Keeps (cmdTimeRead.act r u s).state := .ok (.ite_snd h h.fresh)

theorem State.Keeps.cmdTimeSet {r : Req} {u : Nat} (h : s₀.Keeps s) : s₀.Keeps (cmdTimeSet.act r u s).state :=
  h.checked h.setTaiX.setTime.sendTimeInfos.ok

theorem State.Keeps.cmdPtpConfig {r : Req} {u : Nat} (h : s₀.Keeps s) : s₀.Keeps (cmdPtpConfig.act r u s).state :=
  .ok (.foldl h.setRegs.setNet (fun ht => ht.setRf))

theorem State.Keeps.cmdAsymmetrySet {r : Req} {u : Nat} (h : s₀.Keeps s) : s₀.Keeps (cmdAsymmetrySet.act r u s).state := h.setReg.ok

theorem State.Keeps.cmdLogRead {r : Req} {u : Nat} (h : s₀.Keeps s) : s₀.Keeps (cmdLogRead.act r u s).state := h.ok

theorem State.Keeps.cmdBlackboxRead {r : Req} {u : Nat} (h : s₀.Keeps s) : s₀.Keeps (cmdBlackboxRead.act r u s).state := h.ok

theorem State.Yields.execTimeSourceChange {i : Nat} (h : s₀.Keeps s) : s₀.Yields (execTimeSourceChange i s) := .next (.ite h.moveSource h)

theorem State.Yields.execHoldoverExpiry (h : s₀.Keeps s) : s₀.Yields (execHoldoverExpiry s) := .next (.ite h.putTimeState.sendTimeInfos h)

theorem State.Yields.execRefclkChange {present : Bool} (h : s₀.Keeps s) : s₀.Yields (execRefclkChange present s) :=
  .next (.ite h h.fresh.with_tb.setTime)

theorem State.Yields.execAonLockTimeSave (h : s₀.Keeps s) : s₀.Yields (execAonLockTimeSave s) := .next (.ite h.setRegs h)

theorem State.Keeps.captureTime {k : Nat} (h : s₀.Keeps s) : s₀.Keeps (s.captureTime k) := h.setRegs

theorem State.Yields.execTimeNowRead {k : Nat} (h : s₀.Keeps s) : s₀.Yields (execTimeNowRead k s) := .onUnit h h.captureTime.with_readOut

theorem State.Keeps.steerPps {o : Int} (h : s₀.Keeps s) : s₀.Keeps (s.steerPps o) := .ite h.steer h

theorem State.Yields.execPpsEdge (h : s₀.Keeps s) : s₀.Yields (execPpsEdge s) :=
  .next (by split; exacts [.ite h.with_tb.steerPps h.with_tb, h.with_tb])

theorem State.Yields.execIrigFrame {ok : Bool} {year : Option Nat} {day sod : Nat} {ext : Bool} {utc zone : Int} {leaps age : Nat} (h : s₀.Keeps
    s) : s₀.Yields (execIrigFrame ok year day sod ext utc zone leaps age s) :=
  .ite (.next h.with_tb) (.ite (.next h.with_tb.bump) (.next (.ite (.steerPps (.ite h.with_tb.setTime h.with_tb)) (.ite h.with_tb.setTime
      h.with_tb))))

theorem State.Yields.execRowInfoRx {k p n : Nat} {b0 b1 b2 b3 b4 b5 : Block} (h : s₀.Keeps s) : s₀.Yields (execRowInfoRx k p n b0 b1 b2 b3 b4 b5 s) :=
  .onPort h (by dsimp only; split; exacts [h.setPort.receive.setPort.rowInfoRx, h.setPort.receive.setPort])

theorem State.Yields.execTimeInfoTimer (h : s₀.Keeps s) : s₀.Yields (execTimeInfoTimer s) := .next h.sendTimeInfos

theorem State.Keeps.takeTimeInfo {k p : Nat} {b : List Byte} (h : s₀.Keeps s) : s₀.Keeps (s.takeTimeInfo k p b) :=
  .ite h.violation.quarantineShared (.ite h.setPort.setTime h.setPort)

theorem State.Yields.execTimeInfo {k p : Nat} (h : s₀.Keeps s) : s₀.Yields (execTimeInfo k p s) :=
  .onPort h (by dsimp only; split; exacts [h, h.setCtxAt.takeTimeInfo])

theorem State.Keeps.ptpSend {k e : Nat} {m : List Byte} (h : s₀.Keeps s) : s₀.Keeps (s.ptpSend k e m) := h.ethSend

theorem State.Keeps.setOc {k st : Nat} (h : s₀.Keeps s) : s₀.Keeps (s.setOc k st) := .foldl h.setNet (fun ht => ht.setRf)

theorem State.Keeps.setDelay {k e : Nat} {d : Int} (h : s₀.Keeps s) : s₀.Keeps (s.setDelay k e d) := h.setEth.setRb.setReg

theorem State.Keeps.announceRx {k e : Nat} {m : List Byte} (h : s₀.Keeps s) : s₀.Keeps (s.announceRx k e m) := by
  unfold State.announceRx
  dsimp only
  split
  · exact .ite (.setOc (.fresh (.ite h.setNet.setRegs h))) (.ite (.fresh (.ite h.setNet.setRegs h)) (.setOc (.fresh (.ite h.setNet.setRegs h))))
  · exact .fresh (.ite h.setNet.setRegs h)

theorem State.Keeps.syncDone {k e : Nat} {origin t2 corr : Int} (h : s₀.Keeps s) : s₀.Keeps (s.syncDone k e origin t2 corr) :=
  .ite h.setNet.setReg.setOc.steer h.setNet.setReg.setOc

theorem State.Keeps.ptpRx {k e : Nat} {m : List Byte} (h : s₀.Keeps s) : s₀.Keeps (s.ptpRx k e m) := by
  unfold State.ptpRx
  dsimp only
  split
  · exact h.ptpSend.ptpSend
  · split
    · exact .ite h (.ite h.setEth h.setDelay)
    · exact h
  · split
    · exact .ite h.setDelay h
    · exact h
  · exact .ite h.announceRx h
  · exact .ite (.ite h.setNet h.syncDone) h
  · split
    · exact .ite h.syncDone h
    · exact h
  · exact h

theorem State.Yields.execPtpMessageRx {k e : Nat} {msg : List Byte} (h : s₀.Keeps s) : s₀.Yields (execPtpMessageRx k e msg s) :=
  .onEth h (fun ht => .ite ht.ptpRx ht)

theorem State.Yields.execPtpIntervalTimer {k e kind : Nat} (h : s₀.Keeps s) : s₀.Yields (execPtpIntervalTimer k e kind s) :=
  .onEth h (fun ht => .ite ht (by
    dsimp only
    split
    · exact .ite ht.setEth.ptpSend ht
    · exact .ite ht.setNet.ptpSend.ptpSend ht
    · exact .ite ht.setNet.fresh.ptpSend ht
    · exact .ite ht.setNet.setOc ht))

/-! ### What `Machine/UsbCmds` changes -/

theorem State.Keeps.cmdUsbConfig {r : Req} {u : Nat} (h : s₀.Keeps s) : s₀.Keeps (cmdUsbConfig.act r u s).state := h.checked h.setReg.usbSync.ok

theorem State.Keeps.cmdUsbEpLayout {r : Req} {u : Nat} (h : s₀.Keeps s) : s₀.Keeps (cmdUsbEpLayout.act r u s).state := h.checked h.setRegs.ok

theorem State.Keeps.portAction {k p a : Nat} (h : s₀.Keeps s) : s₀.Keeps (s.portAction k p a) := .ite h.setRf h.setRf.reportPort

theorem State.Keeps.cmdUsbPortPower {r : Req} {u : Nat} (h : s₀.Keeps s) : s₀.Keeps (cmdUsbPortPower.act r u s).state :=
  h.checked h.portAction.flush.ok

theorem State.Keeps.cmdUsbStatus {r : Req} {u : Nat} (h : s₀.Keeps s) : s₀.Keeps (cmdUsbStatus.act r u s).state := .ok (.ite h.setRegs h)

theorem State.Yields.onHub {k form : Nat} {f : State → State} (h : s₀.Keeps s) (hf : ∀ {t}, s₀.Keeps t → s₀.Keeps (f t)) : s₀.Yields (onHub k
    form s f) :=
  .onUnit h (.ite (hf h).flush h)

theorem State.Keeps.hubAnswer {k : Nat} {a : UsbAnswer} (h : s₀.Keeps s) : s₀.Keeps (s.hubAnswer k a) := h.setHub

theorem State.Keeps.hostFrame {k uf : Nat} (h : s₀.Keeps s) : s₀.Keeps (s.hostFrame k uf) :=
  .ite h (.ite (.emit (.setIso (.ite h.setHub h.setHub.bump))) (.setIso (.ite h.setHub h.setHub.bump)))

theorem State.Keeps.noContext {k : Nat} {t : UsbTok} {dirIn : Bool} (h : s₀.Keeps s) : s₀.Keeps (s.noContext k t dirIn) :=
  .ite h.bump.hubAnswer.setHub h.bump.hubAnswer.setHub.log

theorem State.Keeps.deviceToken {k : Nat} {t : UsbTok} {dirIn : Bool} {heldF : State → State} {run : State → Nat → UsbEp → State} (h : s₀.Keeps
    s) (hHeldF : ∀ {t}, s₀.Keeps t → s₀.Keeps (heldF t)) (hRun : ∀ {t x1 x2}, s₀.Keeps t → s₀.Keeps (run t x1 x2)) : s₀.Keeps (s.deviceToken k t
    dirIn heldF run) := by
  unfold State.deviceToken
  dsimp only
  split
  · exact hHeldF h.hostFrame
  · split
    · exact h.hostFrame.noContext
    · exact .ite h.hostFrame.putEp.hubAnswer (.ite h.hostFrame.putEp.bump.hubAnswer (hRun h.hostFrame))
  · exact h.hostFrame.hubAnswer

theorem State.Yields.onToken {k : Nat} {f : State → State} (h : s₀.Keeps s) (hf : ∀ {t}, s₀.Keeps t → s₀.Keeps (f t)) : s₀.Yields (onToken k s f) :=
  .onHub h (fun ht => .ite (hf ht) ht)

theorem State.Keeps.activeIso {k key uf : Nat} {x : UsbIso × State} (e : s.activeIso k key uf = some x) (h : s₀.Keeps s) :
    s₀.Keeps x.2 := by
  unfold State.activeIso at e
  dsimp only at e
  split at e
  · cases e
    exact h.setIso
  · split at e
    · cases e
    · split at e
      · cases e
      · cases e
        exact h.setIso

theorem State.Keeps.setupToken {k : Nat} {t : UsbTok} {setup : List Byte} (h : s₀.Keeps s) : s₀.Keeps (s.setupToken k t setup) := by
  unfold State.setupToken
  dsimp only
  split
  · split
    · exact h.hostFrame.noContext
    · exact h.hostFrame.dropData.putEp.emit.hubAnswer
  · split
    · exact h.hostFrame.noContext
    · exact h.hostFrame.dropData.putEp.emit.hubAnswer
  · exact h.hostFrame.hubAnswer

theorem State.Yields.execSetupToken {k : Nat} {t : UsbTok} {setup : List Byte} (h : s₀.Keeps s) : s₀.Yields (execSetupToken k t setup s) :=
  .onToken h (fun ht => .ite ht.setupToken ht)

theorem State.Keeps.fetch {k key : Nat} {e : UsbEp} (h : s₀.Keeps s) : s₀.Keeps (s.fetch k key e) := .ite h.putEp h.putEp.emit

theorem State.Keeps.isoInToken {k key : Nat} {t : UsbTok} (h : s₀.Keeps s) : s₀.Keeps (s.isoInToken k key t) := by
  unfold State.isoInToken
  split
  · exact h.bump.hubAnswer
  · next he =>
      dsimp only
      split
      · exact .ite (.hubAnswer (.activeIso he h)) (.hubAnswer (.setHub (.activeIso he h)))
      · exact .hubAnswer (.activeIso he h)

theorem State.Keeps.inToken {k key : Nat} {e : UsbEp} {t : UsbTok} {ack : Bool} (h : s₀.Keeps s) : s₀.Keeps (s.inToken k key e t ack) :=
  .ite h.putEp.isoInToken (.ite h.fetch.hubAnswer (by
    split
    · exact h.hubAnswer.putEp
    · exact .ite (.ite h.putEp.hubAnswer h.putEp.hubAnswer) h.fetch.hubAnswer))

theorem State.Keeps.mgmtReply {k : Nat} {ack : Bool} (h : s₀.Keeps s) : s₀.Keeps (s.mgmtReply k ack) := by
  unfold State.mgmtReply
  dsimp only
  split
  · exact h.hubAnswer
  · exact .ite h.hubAnswer.setHub (.ite h.hubAnswer.setHub.setEp.keep h.hubAnswer.setHub)

theorem State.Keeps.nextUsbEvent {k : Nat} {x : (EventItem × Packet) × State} (e : s.nextUsbEvent k = some x) (h : s₀.Keeps s) :
    s₀.Keeps x.2 := by
  unfold State.nextUsbEvent at e
  dsimp only at e
  split at e
  · cases e
  · split at e <;> (cases e; exact h.setEp)

theorem State.Keeps.mgmtEvent {k : Nat} {ack : Bool} (h : s₀.Keeps s) : s₀.Keeps (s.mgmtEvent k ack) := by
  unfold State.mgmtEvent
  dsimp only
  split
  · exact h.hubAnswer
  · next e =>
    refine .setHub (.hubAnswer ?_)
    split at e
    · cases e
      exact h
    · obtain ⟨y, hy, hx⟩ := Option.map_eq_some_iff.1 e
      cases hx
      exact .nextUsbEvent hy h

theorem State.Keeps.statusPoll {k : Nat} (h : s₀.Keeps s) : s₀.Keeps (s.statusPoll k) := h.hubAnswer

theorem State.Yields.execInToken {k : Nat} {t : UsbTok} {ack : Bool} (h : s₀.Keeps s) : s₀.Yields (execInToken k t ack s) :=
  .onToken h (fun ht => .ite (.ite ht.mgmtReply (.ite ht.mgmtEvent ht.hubAnswer)) (.ite (.ite ht.statusPoll ht.hubAnswer) (.deviceToken ht (fun
      ht1 => ht1.hubAnswer) (fun ht1 => ht1.inToken))))

theorem State.Keeps.outToken {k key : Nat} {e : UsbEp} {t : UsbTok} {toggle : Bool} {data : List Byte} (h : s₀.Keeps s) : s₀.Keeps (s.outToken k
    key e t toggle data) :=
  .ite (by
    split
    · exact h.putEp.bump.hubAnswer
    · next he =>
        exact .hubAnswer (.emit (.activeIso he h.putEp))) (.ite (by split; exacts [h.putEp.hubAnswer, h.putEp.hubAnswer]) (.ite (.ite
            h.putEp.hubAnswer (.ite h.putEp.hubAnswer h.emit.putEp.hubAnswer)) (.ite h.putEp.hubAnswer (.ite h.putEp.emit.hubAnswer
            h.emit.putEp.hubAnswer))))

theorem State.Yields.execOutToken {k : Nat} {t : UsbTok} {toggle : Bool} {data : List Byte} (h : s₀.Keeps s) : s₀.Yields (execOutToken k t toggle
    data s) :=
  .onToken h (fun ht => .deviceToken ht (fun ht1 => ht1.hubAnswer) (fun ht1 => ht1.outToken))

theorem State.Yields.execPingToken {k : Nat} {t : UsbTok} (h : s₀.Keeps s) : s₀.Yields (execPingToken k t s) :=
  .onToken h (fun ht => .deviceToken ht (fun ht1 => ht1.hubAnswer) (fun ht1 => ht1.putEp.hubAnswer))

theorem State.Keeps.portRequest {k p cmd sel : Nat} (h : s₀.Keeps s) : s₀.Keeps (s.portRequest k p cmd sel) :=
  .ite (.hubAnswer (.ite h.setUsbPort h)) (.hubAnswer (.setHub (.ite h.emit.freeEps h.emit)))

theorem State.Keeps.mgmtReset {k : Nat} {cmdPart ep0 : Bool} (h : s₀.Keeps s) : s₀.Keeps (s.mgmtReset k cmdPart ep0) :=
  .setReg (.setHub (by
    split
    · exact .bump (.setEp (.foldl (.setEp (.ite (.bump (.ite (.bump (.ite h.bump h)) (.ite h.bump h))) (.ite (.bump (.ite h.bump h)) (.ite h.bump
        h)))) (fun ht1 => ht1.keep)))
    · exact .foldl (.setEp (.ite (.bump (.ite (.bump (.ite h.bump h)) (.ite h.bump h))) (.ite (.bump (.ite h.bump h)) (.ite h.bump h)))) (fun ht1
        => ht1.keep)))

theorem State.Keeps.port5Request {k : Nat} {set : Bool} {feature : Nat} (h : s₀.Keeps s) : s₀.Keeps (s.port5Request k set feature) := by
  unfold State.port5Request
  dsimp only
  split
  · exact h.setHub.hubAnswer
  · exact h.mgmtReset.setHub.hubAnswer
  · exact h.setRb.setHub.hubAnswer
  · exact h.hubAnswer
  · exact h.usbDetach.setHub.hubAnswer
  · exact h.setHub.hubAnswer
  · exact h.setRb.setHub.hubAnswer
  · exact .ite h.setHub.hubAnswer h.hubAnswer
  · exact h.hubAnswer

theorem State.Keeps.portFeature {k p : Nat} {set : Bool} {feature sel : Nat} (h : s₀.Keeps s) : s₀.Keeps (s.portFeature k p set feature sel) :=
  .ite h.hubAnswer (.ite h.port5Request (by
    split
    · exact h.portRequest
    · exact h.portRequest
    · exact h.portRequest
    · exact h.portRequest
    · exact h.portRequest
    · exact h.portRequest
    · exact h.portRequest
    · exact .ite h.setUsbPort.hubAnswer h.hubAnswer
    · exact h.hubAnswer))

theorem State.Keeps.freeBytes {n : Nat} (h : s₀.Keeps s) : s₀.Keeps (s.freeBytes n).2 := .foldl_snd h (fun ht => ht.fresh)

theorem State.Keeps.deviceDescriptor {cls proto vid pid : Nat} {bcd names : Option Nat} (h : s₀.Keeps s) : s₀.Keeps (s.deviceDescriptor cls proto
    vid pid bcd names).2 :=
  h.freeBytes

theorem State.Keeps.hubDescriptor (h : s₀.Keeps s) : s₀.Keeps (s.hubDescriptor).2 := h.freeBytes

theorem State.Keeps.answerData {k n : Nat} {d : List Byte × State} (h : s₀.Keeps d.2) : s₀.Keeps (answerData k n d) := h.hubAnswer

theorem State.Keeps.hubRequest {k : Nat} {b : List Byte} (h : s₀.Keeps s) : s₀.Keeps (s.hubRequest k b) := by
  unfold State.hubRequest
  dsimp only
  split
  · exact h.hubAnswer
  · exact .ite h.hubAnswer h.hubAnswer
  · exact h.hubDescriptor.answerData
  · exact h.hubAnswer
  · exact h.portFeature
  · exact h.portFeature
  · exact h.dropData.hubAnswer
  · exact h.dropData.hubAnswer
  · exact h.setHub.hubAnswer
  · exact h.setHub.hubAnswer
  · exact .ite h.setRb.hubAnswer h.hubAnswer
  · exact .ite h.setRb.hubAnswer h.hubAnswer
  · exact h.hubAnswer
  · exact h.hubAnswer
  · exact .ite h.deviceDescriptor.answerData (.ite (by split; exacts [h.hubAnswer, h.hubAnswer]) h.freeBytes.answerData)
  · exact h.hubAnswer

theorem State.Yields.execHubClassRequest {k : Nat} {setup : List Byte} (h : s₀.Keeps s) : s₀.Yields (execHubClassRequest k setup s) :=
  .onToken h (fun ht => .ite ht.setHub.hubRequest ht)

theorem State.Keeps.mgmtRequest {k : Nat} {b : List Byte} (h : s₀.Keeps s) : s₀.Keeps (s.mgmtRequest k b) := by
  unfold State.mgmtRequest
  dsimp only
  split
  · exact h.setRf.setRf.hubAnswer
  · exact .ite h.setRf.hubAnswer (.ite h.setEp.setRf.hubAnswer h.hubAnswer)
  · exact .ite h.setRb.hubAnswer h.hubAnswer
  · exact .ite h.setRb.hubAnswer h.hubAnswer
  · exact h.hubAnswer
  · exact h.hubAnswer
  · exact h.hubAnswer
  · exact h.hubAnswer
  · exact .ite h.deviceDescriptor.answerData h.freeBytes.answerData
  · exact h.hubAnswer

theorem State.Yields.execManagementEp0Request {k : Nat} {setup : List Byte} (h : s₀.Keeps s) : s₀.Yields (execManagementEp0Request k setup s) :=
  .onToken h (fun ht => .ite ht.mgmtRequest ht)

theorem State.Keeps.upstreamReset {k : Nat} {full cmdPart ep0 : Bool} (h : s₀.Keeps s) : s₀.Keeps (s.upstreamReset k full cmdPart ep0) :=
  h.freeEps.setHub.setIso.mgmtReset.bump.setRf.setRb.setRb.emit.bump

theorem State.Yields.execUpstreamBusReset {k : Nat} {full cmdPart ep0 : Bool} (h : s₀.Keeps s) : s₀.Yields (execUpstreamBusReset k full cmdPart
    ep0 s) :=
  .onHub h (fun ht => ht.setHub.upstreamReset)

theorem State.Yields.execUsbUpstreamDisconnect {k : Nat} (h : s₀.Keeps s) : s₀.Yields (execUsbUpstreamDisconnect k s) :=
  .onHub h (fun ht => ht.usbDetach.setHub)

theorem State.Yields.execUpstreamIdleSuspend {k : Nat} (h : s₀.Keeps s) : s₀.Yields (execUpstreamIdleSuspend k s) :=
  .onToken h (fun ht => ht.setRf.setRb.setHub.emit)

theorem State.Keeps.mergeWake {k p : Nat} (h : s₀.Keeps s) : s₀.Keeps (s.mergeWake k p) := h.bump.log

theorem State.Yields.execHostResume {k : Nat} {start : Bool} (h : s₀.Keeps s) : s₀.Yields (execHostResume k start s) :=
  .onHub h (fun ht => .ite ht (.ite (.emit (.setHub (by split; exacts [.ite ht.mergeWake ht, ht]))) ht.setRf.setRb.setHub.emit))

theorem State.Yields.execUsbFormReconnect {k : Nat} (h : s₀.Keeps s) : s₀.Yields (execUsbFormReconnect k s) := .onHub h (fun ht => ht.setHub)

theorem State.Yields.onHubPacket {k form ptype : Nat} {tok : Bool} {n : Nat} {f : State → List Byte → Nat → State} (h : s₀.Keeps s) (hf : ∀ {t x1
    x2}, s₀.Keeps t → s₀.Keeps (f t x1 x2)) : s₀.Yields (onHubPacket k form ptype tok n s f) :=
  .onHub h (fun ht => by
    split
    · exact ht
    · split
      · exact ht
      · next he2 =>
          exact .ite (.adapterViolation (.takeAdapter he2 ht)) (.ite ht (.ite (.adapterViolation (.takeAdapter he2 ht)) (.ite (.adapterViolation
              (.takeAdapter he2 ht)) (hf (.takeAdapter he2 ht))))))

theorem State.Keeps.ctlData {k key : Nat} {e : UsbEp} {data : List Byte} (h : s₀.Keeps s) : s₀.Keeps (s.ctlData k key e data).2 :=
  .ite_snd h (.ite_snd h h.ctlDone)

theorem State.Keeps.takeInResult {k : Nat} {b : List Byte} {late : Bool} (h : s₀.Keeps s) : s₀.Keeps (s.takeInResult k b late) := by
  unfold State.takeInResult
  dsimp only
  split
  · exact .ite h.countDrop h
  · split
    · exact .ite h.putEp.bump h.ctlData.putEp
    · exact h.putEp
    · exact h.putEp
    · exact h.putEp

theorem State.Yields.execInResult {k : Nat} {late : Bool} (h : s₀.Keeps s) : s₀.Yields (execInResult k late s) :=
  .onHubPacket h (fun ht => .ite ht.adapterViolation ht.takeInResult)

theorem State.Yields.execOutResult {k : Nat} (h : s₀.Keeps s) : s₀.Yields (execOutResult k s) :=
  .onHubPacket h (fun ht => .ite ht.adapterViolation (by split; exacts [ht, .ite ht.putEp (.ite ht.putEp (.putEp (.ite ht.ctlDone ht)))]))

theorem State.Yields.execIsoIn {k : Nat} (h : s₀.Keeps s) : s₀.Yields (execIsoIn k s) := .onHubPacket h (fun ht => .ite ht.adapterViolation ht.setHub)

theorem State.Yields.execPortStatus {k : Nat} (h : s₀.Keeps s) : s₀.Yields (execPortStatus k s) :=
  .onHubPacket h (fun ht => .ite ht.adapterViolation (by
    dsimp only
    split
    · exact .ite (.hubAnswer (.setHub (.setHub (.ite ht.setUsbPort.dropData ht.setUsbPort)))) (.setHub (.ite ht.setUsbPort.dropData ht.setUsbPort))
    · exact .setHub (.ite ht.setUsbPort.dropData ht.setUsbPort)))

theorem State.Yields.execUsbWake {k : Nat} (h : s₀.Keeps s) : s₀.Yields (execUsbWake k s) :=
  .onHubPacket h (fun ht => .ite ht.adapterViolation (.ite (.ite ht.mergeWake (.ite ht.setHub ht.bump)) (.ite ht.setUsbPort.emit ht.bump)))

theorem State.Yields.execEndpointIdleExpiry {k addr ep : Nat} {dirIn : Bool} (h : s₀.Keeps s) : s₀.Yields (execEndpointIdleExpiry k addr ep dirIn
    s) :=
  .onUnit h (by dsimp only; split; exacts [.ite h h.freeEps, h])

theorem State.Yields.execSetupPacket {k : Nat} (h : s₀.Keeps s) : s₀.Yields (execSetupPacket k s) :=
  .onHubPacket h (fun ht => .ite ht.adapterViolation (.ite ht.dropData.putEp ht.dropData.putEp))

theorem State.Yields.execFetch {k : Nat} (h : s₀.Keeps s) : s₀.Yields (execFetch k s) := .onHubPacket h (fun ht => .ite ht.adapterViolation ht.putEp)

theorem State.Keeps.sendOutResult {k key : Nat} {e : UsbEp} {res : Nat} {grant : Bool} (h : s₀.Keeps s) : s₀.Keeps (s.sendOutResult k key e res
    grant) :=
  h.putEp.putEp.emit

theorem State.Yields.execOutPacket {k : Nat} (h : s₀.Keeps s) : s₀.Yields (execOutPacket k s) :=
  .onHubPacket h (fun ht => .ite ht.adapterViolation ht.putEp)

theorem State.Yields.execCreditReq {k : Nat} (h : s₀.Keeps s) : s₀.Yields (execCreditReq k s) :=
  .onHubPacket h (fun ht => .ite ht.adapterViolation ht.sendOutResult)

theorem State.Yields.execIsoOut {k : Nat} (h : s₀.Keeps s) : s₀.Yields (execIsoOut k s) :=
  .onHubPacket h (fun ht => .ite ht.adapterViolation ht.setHub)

theorem State.Yields.execSofPacket {k : Nat} (h : s₀.Keeps s) : s₀.Yields (execSofPacket k s) :=
  .onHubPacket h (fun ht => .ite ht.adapterViolation ht.setHub)

theorem State.Keeps.deviceDone {k key : Nat} {e : UsbEp} {kind result : Nat} {toggle recent : Bool} {data : List Byte} (h : s₀.Keeps s) :
    s₀.Keeps (s.deviceDone k key e kind result toggle recent data) := by
  unfold State.deviceDone
  dsimp only
  split
  · exact .ite h (.ite h.sendOutResult h.putEp)
  · exact .ite h (by split; exacts [.ite h h.ctlData.putEp.emit, .ite h h.putEp.emit, h.putEp.emit, h.putEp.emit])
  · split
    · exact h
    · split
      · exact .sendOutResult (.ite h.ctlDone h)
      · exact h
      · exact h.bump.sendOutResult
      · exact h.bump.sendOutResult
  · exact h.putEp.emit

theorem State.Yields.execDeviceTransactionDone {k addr ep kind result : Nat} {toggle recent : Bool} {data : List Byte} (h : s₀.Keeps s) :
    s₀.Yields (execDeviceTransactionDone k addr ep kind result toggle recent data s) :=
  .onHub h (fun ht => .ite ht (.ite (.ite ht.deviceDone ht) (by split; exacts [ht.deviceDone, ht])))

theorem State.Keeps.portCommand {k p cmd sel : Nat} (h : s₀.Keeps s) : s₀.Keeps (s.portCommand k p cmd sel) := by
  unfold State.portCommand
  dsimp only
  split
  · exact .ite h.freeEps.bump.bump.reportPort h.reportPort
  · exact h.reportPort
  · exact h.reportPort
  · exact h.reportPort
  · exact h.reportPort
  · exact h.freeEps.reportPort
  · exact h.reportPort
  · exact h

theorem State.Yields.execPortCmd {k : Nat} (h : s₀.Keeps s) : s₀.Yields (execPortCmd k s) :=
  .onHubPacket h (fun ht => .ite ht.adapterViolation ht.portCommand)

theorem State.Yields.execBusState {k : Nat} (h : s₀.Keeps s) : s₀.Yields (execBusState k s) :=
  .onHubPacket h (fun ht => .ite ht.adapterViolation (.ite (.foldl ht.freeEps.bump.setHub.setIso (fun ht1 => ht1.reportPort))
      (by dsimp only; split; exacts [ht.setHub, ht.setHub, ht.setHub])))

theorem State.Yields.execDeviceRemoteWake {k p : Nat} (h : s₀.Keeps s) : s₀.Yields (execDeviceRemoteWake k p s) :=
  .onHub h (fun ht => .ite ht.setHub.emit ht)

theorem State.Yields.execBabble {k p : Nat} (h : s₀.Keeps s) : s₀.Yields (execBabble k p s) :=
  .onHub h (fun ht => .ite ht.dropData.bump.reportPort ht)

theorem State.Yields.execUsbOverCurrent {k p : Nat} (h : s₀.Keeps s) : s₀.Yields (execUsbOverCurrent k p s) :=
  .onHub h (fun ht => .ite ht.bump.reportPort ht)

theorem State.Yields.execPortResetEnd {k p : Nat} {high low : Bool} (h : s₀.Keeps s) : s₀.Yields (execPortResetEnd k p high low s) :=
  .onHub h (fun ht => .ite ht.setHub.reportPort ht)

theorem State.Yields.execDownstreamConnectChange {k p : Nat} {connected low : Bool} (h : s₀.Keeps s) : s₀.Yields (execDownstreamConnectChange k p
    connected low s) :=
  .onHub h (fun ht => .ite (.reportPort (.ite ht ht.freeEps)) ht)

theorem State.Yields.execUsbPowerCycleEnd {k p : Nat} (h : s₀.Keeps s) : s₀.Yields (execUsbPowerCycleEnd k p s) :=
  .onHub h (fun ht => .ite ht.setRf ht)

/-! ### What `Machine/Domains` changes -/

theorem State.Keeps.setDomain {k d v : Nat} (h : s₀.Keeps s) : s₀.Keeps (s.setDomain k d v) := h.setRf

theorem State.Keeps.resetDomainRegs {k d : Nat} (h : s₀.Keeps s) : s₀.Keeps (s.resetDomainRegs k d) := .foldl h (fun ht => ht.resetBlock)

theorem State.Keeps.dropUnits {k d : Nat} (h : s₀.Keeps s) : s₀.Keeps (s.dropUnits k d) := by
  unfold State.dropUnits
  split
  · exact .foldl h (fun ht1 => ht1.setDin)
  · exact .foldl h (fun ht1 => ht1.setDout.setRegs)
  · exact h.setBridge.setPcieFn.setEp
  · exact h.setNet
  · exact h.setHub.setEp
  · exact h

theorem State.Keeps.domainOff {k d : Nat} (h : s₀.Keeps s) : s₀.Keeps (s.domainOff k d) := h.resetDomainRegs.dropUnits.setDomain

theorem State.Keeps.domEnWrite {k : Nat} {w : Word} (h : s₀.Keeps s) : s₀.Keeps (s.domEnWrite k w) :=
  .ite h.ignoreWrite (.ite (.foldl (.foldl h.setReg (fun ht => ht.domainOff)) (fun ht => ht.setDomain)) h.setReg)

/-! ### What `Machine/MapperCmds` changes -/

theorem State.Keeps.ownPins {k : Nat} (h : s₀.Keeps s) : s₀.Keeps (s.ownPins k) := h.setReg

theorem State.Keeps.cmdSmapSignalSet {r : Req} {u : Nat} (h : s₀.Keeps s) : s₀.Keeps (cmdSmapSignalSet.act r u s).state :=
  .checked h (.ok (.ite (.sigsInvalid (.ite h.setRegs.setSig.ownPins.setMapper.driveGpio h.setRegs.setSig.ownPins.setMapper)) (.ite
      h.setRegs.setSig.ownPins.setMapper.driveGpio h.setRegs.setSig.ownPins.setMapper)))

theorem State.Keeps.cmdSmapSignalRead {r : Req} {u : Nat} (h : s₀.Keeps s) : s₀.Keeps (cmdSmapSignalRead.act r u s).state := h.ok

theorem State.Keeps.cmdGooseSubscribe {r : Req} {u : Nat} (h : s₀.Keeps s) : s₀.Keeps (cmdGooseSubscribe.act r u s).state := h.setRegs.setSub.ok

theorem State.Keeps.cmdGoosePublishSet {r : Req} {u : Nat} (h : s₀.Keeps s) : s₀.Keeps (cmdGoosePublishSet.act r u s).state := h.setRegs.setPub.ok

theorem State.Keeps.cmdHidSnoopSet {r : Req} {u : Nat} (h : s₀.Keeps s) : s₀.Keeps (cmdHidSnoopSet.act r u s).state :=
  .checked h (.ok (.ite h.setRegs.sigsInvalid h.setRegs))

theorem State.Keeps.setUnit {k u : Nat} {cfg poly init xorout : Word} {st : Option Word} (h : s₀.Keeps s) : s₀.Keeps (s.setUnit k u cfg poly init
    xorout st) :=
  .chkLatch (by split; exacts [h.setRegs.setReg, h.setRegs.chkInit])

theorem State.Keeps.cmdCheckUnitSet {r : Req} {u : Nat} (h : s₀.Keeps s) : s₀.Keeps (cmdCheckUnitSet.act r u s).state := h.checked h.setUnit.ok

theorem State.Keeps.cmdCheckScan {r : Req} {u : Nat} (h : s₀.Keeps s) : s₀.Keeps (cmdCheckScan.act r u s).state :=
  .checked h (.accepted (.startJob (.ite h h.chkInit.chkLatch)))

theorem State.Yields.execScanStep {k : Nat} (h : s₀.Keeps s) : s₀.Yields (execScanStep k s) :=
  .onUnit h (by split; exacts [h, h.fresh.setReg.chkLatch.bump.nextStep])

theorem State.Keeps.cmdSealSet {r : Req} {u : Nat} (h : s₀.Keeps s) : s₀.Keeps (cmdSealSet.act r u s).state :=
  .ite_state h.setRf.ok (h.checked h.setRb.setRf.ok)

theorem State.Keeps.gooseApply {k i : Nat} {m : GooseMsg} {j : Nat} (h : s₀.Keeps s) : s₀.Keeps (s.gooseApply k i m j) := by
  unfold State.gooseApply
  split
  · exact h
  · exact .ite h (.foldl h (fun ht1 => ht1.sigUpdate))

theorem State.Keeps.gooseRx {k i : Nat} {m : GooseMsg} (h : s₀.Keeps s) : s₀.Keeps (s.gooseRx k i m) :=
  .ite h (.ite h.bump (.ite (.ite h.sigsInvalid h.sigsInvalid.setSub.log) (.ite h (.pipFlush (.foldl (.setSub (.setRb (.setRegs (.ite h.bump
      h)))) (fun ht => ht.gooseApply))))))

theorem State.Yields.execGooseFrame {k e : Nat} {msg : GooseMsg} (h : s₀.Keeps s) : s₀.Yields (execGooseFrame k e msg s) :=
  .onUnit h (.foldl h (fun ht => ht.gooseRx))

theorem State.Yields.execGooseTalExpiry {k sub : Nat} (h : s₀.Keeps s) : s₀.Yields (execGooseTalExpiry k sub s) :=
  .onUnit h (.ite h.setSub.setRb.bump.sigsInvalid.log h)

theorem State.Yields.execGooseGatherEnd {k pub : Nat} (h : s₀.Keeps s) : s₀.Yields (execGooseGatherEnd k pub s) :=
  .onUnit h (by split; exacts [h.gooseNew, h])

theorem State.Yields.execGooseRetransmit {k pub : Nat} (h : s₀.Keeps s) : s₀.Yields (execGooseRetransmit k pub s) :=
  .onUnit h (.ite h.setReg.setPub.gooseSend h)

theorem State.Yields.execGpioDebounce {k g : Nat} {level : Bool} {stamp : Nat} (h : s₀.Keeps s) : s₀.Yields (execGpioDebounce k g level stamp s) :=
  .onUnit h (.ite h (.pipFlush (.foldl h.setRb.setRb (fun ht => ht.sigUpdate))))

theorem State.Yields.execHidReport {k p ep : Nat} {data : List Byte} (h : s₀.Keeps s) : s₀.Yields (execHidReport k p ep data s) :=
  .onUnit h (.pipFlush (.foldl h (fun ht => .ite (.foldl ht (fun ht1 => ht1.sigUpdate)) ht)))

theorem State.Keeps.pipEntries {k p : Nat} {w : List Word} (h : s₀.Keeps s) : s₀.Keeps (s.pipEntries k p w) :=
  .pipFlush (.foldl h (fun ht => .foldl ht (fun ht1 => ht1.setSig.sigUpdate)))

theorem State.Keeps.pipGap {k p n : Nat} (h : s₀.Keeps s) : s₀.Keeps (s.pipGap k p n) := .ite h.bump.setPort h.bump.setPort.log

theorem State.Keeps.pipRxFrame {k p : Nat} {b : List Byte} (h : s₀.Keeps s) : s₀.Keeps (s.pipRxFrame k p b) :=
  .ite h (.ite h.bump (.ite h.violation.quarantineShared (.ite h.bump (.pipEntries (.bump (.ite h.setPort h.setPort.pipGap))))))

theorem State.Yields.execPipFrame {k p : Nat} (h : s₀.Keeps s) : s₀.Yields (execPipFrame k p s) :=
  .onPort h (by dsimp only; split; exacts [h, h.setCtxAt.pipRxFrame])

theorem State.Yields.execPipHeartbeat {k p : Nat} (h : s₀.Keeps s) : s₀.Yields (execPipHeartbeat k p s) := .onPort h h.pipSendAll

theorem State.Yields.execPipTimeout {k g : Nat} (h : s₀.Keeps s) : s₀.Yields (execPipTimeout k g s) := .onUnit h (.ite h.setSig.sigsInvalid.log h)

/-! ### What `Machine/Power` changes -/

theorem State.Keeps.setPath {x : PowerPath} (h : s₀.Keeps s) : s₀.Keeps (s.setPath x) := h.with_path

theorem State.Keeps.setFeedState {f st : Nat} {reverse : Bool} (h : s₀.Keeps s) : s₀.Keeps (s.setFeedState f st reverse) :=
  .ite h.setReg (.ite h.setReg.setRf.setPath h.setReg.setRf.setPath.logPower)

theorem State.Keeps.evalFeed {f : Nat} (h : s₀.Keeps s) : s₀.Keeps (s.evalFeed f) :=
  .ite h (.ite h.setFeedState (.ite h.setFeedState (.ite h (.ite h.setFeedState h.setFeedState))))

theorem State.Keeps.feedVoltage {f mv : Nat} (h : s₀.Keeps s) : s₀.Keeps (s.feedVoltage f mv) := .ite h.setPath (.ite h.setPath h.setPath.evalFeed)

theorem State.Keeps.setFeed {f : Nat} {w : Word} (h : s₀.Keeps s) : s₀.Keeps (s.setFeed f w) :=
  .ite (.ite h.setReg.setPath h.setReg) (.evalFeed (.ite h.setReg.setPath h.setReg))

theorem State.Keeps.setSwEn {b : Bool} (h : s₀.Keeps s) : s₀.Keeps (s.setSwEn b) := h.setRb.setRb

theorem State.Keeps.loadGateOff {st : Nat} (h : s₀.Keeps s) : s₀.Keeps (s.loadGateOff st) := h.setRf.setRb.setRb.setRegs

theorem State.Keeps.startRamp (h : s₀.Keeps s) : s₀.Keeps (s.startRamp) := h.setRf.setReg.setPath

theorem State.Keeps.tryRamp (h : s₀.Keeps s) : s₀.Keeps (s.tryRamp) := .ite h.startRamp h

theorem State.Keeps.clearTrip (h : s₀.Keeps s) : s₀.Keeps (s.clearTrip) := .ite h.setRf.setRf h

theorem State.Keeps.logTrip {ma mv : Nat} (h : s₀.Keeps s) : s₀.Keeps (s.logTrip ma mv) := .ite h.setRb.logTo h

theorem State.Keeps.tripLoad {cause point ma mv : Nat} (h : s₀.Keeps s) : s₀.Keeps (s.tripLoad cause point ma mv) :=
  h.loadGateOff.setRf.setRf.bump.setReg.logTrip

theorem State.Keeps.syncShort (h : s₀.Keeps s) : s₀.Keeps (s.syncShort) := h.setRf

theorem State.Keeps.loadEnable (h : s₀.Keeps s) : s₀.Keeps (s.loadEnable) := h.setSwEn.setRb.tryRamp

theorem State.Keeps.loadDisable {delay : Nat} (h : s₀.Keeps s) : s₀.Keeps (s.loadDisable delay) :=
  .ite h.setSwEn.clearTrip (.ite h.setSwEn.clearTrip.loadGateOff h.setSwEn.clearTrip.setRb)

theorem State.Keeps.setPfw {b : Bool} (h : s₀.Keeps s) : s₀.Keeps (s.setPfw b) := h.setRb.setRb

theorem State.Keeps.setPanel {mv : Nat} (h : s₀.Keeps s) : s₀.Keeps (s.setPanel mv) := h.setPath

theorem State.Keeps.startWarn (h : s₀.Keeps s) : s₀.Keeps (s.startWarn) := h.setPath.setPfw.setRb.logPower

theorem State.Keeps.endWarn (h : s₀.Keeps s) : s₀.Keeps (s.endWarn) := h.setPfw.setRb.setPath

theorem State.Keeps.panelBelowWarn (h : s₀.Keeps s) : s₀.Keeps (s.panelBelowWarn) := .ite h.startWarn h.setPath

theorem State.Keeps.showChannel {c : Nat} (h : s₀.Keeps s) : s₀.Keeps (s.showChannel c) := h.setRegs

theorem State.Keeps.showMeter (h : s₀.Keeps s) : s₀.Keeps (s.showMeter) := .ite h (.foldl h (fun ht => ht.showChannel))

theorem State.Keeps.setHold {b : Bool} (h : s₀.Keeps s) : s₀.Keeps (s.setHold b) := .ite h.setRb h.setRb.showMeter

theorem State.Keeps.meterSample {l : List (Nat × Int)} (h : s₀.Keeps s) : s₀.Keeps (s.meterSample l) := h.setPath

theorem State.Keeps.curveSample {i : Int} {v : Nat} (h : s₀.Keeps s) : s₀.Keeps (s.curveSample i v) :=
  .ite (by dsimp only; split; exacts [h.setRegs.tripLoad, h.setRegs]) h

/-! ### What `Machine/Pd` changes -/

theorem State.Keeps.setHook {h : Nat} {x : Hook} (hs : s₀.Keeps s) : s₀.Keeps (s.setHook h x) :=
  hs.remap rfl rfl rfl rfl fun c => { c with hooks := smapPut_wf _ _ c.hooks }

theorem State.Keeps.pdSend {h : Nat} {ms : List PdMsg} (hs : s₀.Keeps s) : s₀.Keeps (s.pdSend h ms) := hs.setHook

theorem State.Keeps.setPd {h st : Nat} (hs : s₀.Keeps s) : s₀.Keeps (s.setPd h st) := hs.setRf

theorem State.Keeps.setVbus {h v : Nat} (hs : s₀.Keeps s) : s₀.Keeps (s.setVbus h v) := hs.setRf

theorem State.Keeps.logPd {h : Nat} {d : EvDef} {ps : List Nat} (hs : s₀.Keeps s) : s₀.Keeps (s.logPd h d ps) := hs.logPower

theorem State.Keeps.sinkChoice {h : Nat} (hs : s₀.Keeps s) : s₀.Keeps (s.sinkChoice h).2 :=
  .ite_snd (by split; exacts [hs, hs.fresh]) (by
    split
    · exact hs
    · split
      · exact hs
      · exact hs.fresh)

theorem State.Keeps.sendRequest {h : Nat} (hs : s₀.Keeps s) : s₀.Keeps (s.sendRequest h) := hs.sinkChoice.setHook.pdSend

theorem State.Keeps.sinkPath {h : Nat} {on : Bool} (hs : s₀.Keeps s) : s₀.Keeps (s.sinkPath h on) :=
  .evalFeed (.ite hs.setRb.setRb.setFeedState hs.setRb.setRb)

theorem State.Keeps.syncBudget (h : s₀.Keeps s) : s₀.Keeps (s.syncBudget) := h.setRf

theorem State.Keeps.sendCaps {h : Nat} (hs : s₀.Keeps s) : s₀.Keeps (s.sendCaps h) := hs.setHook.pdSend

theorem State.Keeps.recaps (h : s₀.Keeps s) : s₀.Keeps (s.recaps) := .foldl h (fun ht => .ite ht.sendCaps ht)

theorem State.Keeps.sourceOn {h v a : Nat} (hs : s₀.Keeps s) : s₀.Keeps (s.sourceOn h v a) := hs.setReg.setRb.setRb

theorem State.Keeps.sourceOff {h : Nat} (hs : s₀.Keeps s) : s₀.Keeps (s.sourceOff h) := .ite hs.setReg.setRb.setRb hs

theorem State.Keeps.answerAsk {h : Nat} {st : Status} {detail : Nat} {data : List Word} (hs : s₀.Keeps s) : s₀.Keeps (s.answerAsk h st detail data) := by
  unfold State.answerAsk
  split
  · exact hs
  · exact hs.setHook.deliver

theorem State.Keeps.dropContract {h : Nat} (hs : s₀.Keeps s) : s₀.Keeps (s.dropContract h) := hs.answerAsk.setReg.setReg.setHook.syncBudget

theorem State.Keeps.takeContract {h role : Nat} (hs : s₀.Keeps s) : s₀.Keeps (s.takeContract h role) := by
  unfold State.takeContract
  split
  · exact hs
  · exact hs.setReg.setReg.setHook.setVbus.syncBudget.logPd

theorem State.Keeps.loadTables {h : Nat} (hs : s₀.Keeps s) : s₀.Keeps (s.loadTables h) := hs.draw.setRegs.setHook

theorem State.Keeps.runImage {h i : Nat} (hs : s₀.Keeps s) : s₀.Keeps (s.runImage h i) :=
  .ite hs.setHook.setRf.setRb.logPd hs.setHook.setRf.setRb.logPd.loadTables

theorem State.Keeps.imageDue {h : Nat} (hs : s₀.Keeps s) : s₀.Keeps (s.imageDue h) := .ite hs.runImage hs

theorem State.Keeps.renegotiate {h : Nat} (hs : s₀.Keeps s) : s₀.Keeps (s.renegotiate h) :=
  .ite (.sendCaps (.pdSend (.ite hs.answerAsk.setHook.setPd hs.answerAsk.setHook))) (.pdSend (.ite hs.answerAsk.setHook.setPd hs.answerAsk.setHook))

theorem State.Keeps.armFrs {h : Nat} (hs : s₀.Keeps s) : s₀.Keeps (s.armFrs h) := hs.setRb

theorem State.Keeps.hookFeeds (h : s₀.Keeps s) : s₀.Keeps (s.hookFeeds) := h.armFrs.armFrs.recaps

theorem State.Keeps.frsTrigger {t : Nat} (h : s₀.Keeps s) : s₀.Keeps (s.frsTrigger t) :=
  .foldl h (fun ht => .ite ht.dropContract.sourceOff.setPd.pdSend ht)

theorem State.Keeps.leaveMode {h : Nat} (hs : s₀.Keeps s) : s₀.Keeps (s.leaveMode h) := .ite (.setPort (.setRf (.ite hs.setRb hs.setRb.portLost))) hs

theorem State.Keeps.modeMissing {h : Nat} (hs : s₀.Keeps s) : s₀.Keeps (s.modeMissing h) :=
  .ite (.ite hs.setPortState.castReason.endPortJob hs.castReason) (.log (.setPort (.ite hs.setPortState.castReason.endPortJob hs.castReason)))

theorem State.Keeps.modeEntered {h : Nat} (hs : s₀.Keeps s) : s₀.Keeps (s.modeEntered h) :=
  .ite hs.setRb.setPort.useRow.castTo.castJobStep hs.setRb.setPort

theorem State.Keeps.startModes {h : Nat} (hs : s₀.Keeps s) : s₀.Keeps (s.startModes h) := .ite hs (.ite hs.setHook.pdSend hs.setHook)

/-! ### What `Machine/PowerCmds` changes -/

theorem State.Keeps.feedsFrom {t : State} (hs1 : s₀.Keeps t) : s₀.Keeps (s.feedsFrom t) := .ite hs1 hs1.hookFeeds

theorem State.Keeps.cmdPwrFeedStatus {r : Req} {u : Nat} (h : s₀.Keeps s) : s₀.Keeps (cmdPwrFeedStatus.act r u s).state := h.ok

theorem State.Keeps.cmdPwrLoadEnable {r : Req} {u : Nat} (h : s₀.Keeps s) : s₀.Keeps (cmdPwrLoadEnable.act r u s).state := h.checked h.loadEnable.ok

theorem State.Keeps.cmdPwrLoadDisable {r : Req} {u : Nat} (h : s₀.Keeps s) : s₀.Keeps (cmdPwrLoadDisable.act r u s).state := h.loadDisable.ok

theorem State.Keeps.cmdPwrBreakerSet {r : Req} {u : Nat} (h : s₀.Keeps s) : s₀.Keeps (cmdPwrBreakerSet.act r u s).state := h.setRegs.syncShort.ok

theorem State.Keeps.setWarn {warn hold : Word} (h : s₀.Keeps s) : s₀.Keeps (s.setWarn warn hold) :=
  .ite h.setReg.setReg.startWarn.frsTrigger h.setReg.setReg

theorem State.Keeps.cmdPwrWarnSet {r : Req} {u : Nat} (h : s₀.Keeps s) : s₀.Keeps (cmdPwrWarnSet.act r u s).state := h.setWarn.ok

theorem State.Keeps.cmdPwrMeterRead {r : Req} {u : Nat} (h : s₀.Keeps s) : s₀.Keeps (cmdPwrMeterRead.act r u s).state := h.ok

theorem State.Keeps.cmdPwrEnergyClear {r : Req} {u : Nat} (h : s₀.Keeps s) : s₀.Keeps (cmdPwrEnergyClear.act r u s).state :=
  .ok (.ite h.setPath h.setPath.setRegs)

theorem State.Yields.execLoadSwEnWrite {_via : Via} {on : Bool} (h : s₀.Keeps s) : s₀.Yields (execLoadSwEnWrite _via on s) :=
  .next (.ite h.loadDisable (.ite h.ignoreWrite h.loadEnable))

theorem State.Yields.execMtrSnapWrite {_via : Via} {hold : Bool} (h : s₀.Keeps s) : s₀.Yields (execMtrSnapWrite _via hold s) := .next h.setHold

theorem State.Yields.onPath {present : Bool} {f : State} (h : s₀.Keeps s) (hs1 : s₀.Keeps f) : s₀.Yields (onPath present s f) :=
  .onUnit h (.ite h hs1)

theorem State.Yields.execFeedVoltageChange {f mv : Nat} (h : s₀.Keeps s) : s₀.Yields (execFeedVoltageChange f mv s) :=
  .onUnit h h.feedVoltage.feedsFrom

theorem State.Yields.execFeedReverse {f : Nat} {reverse : Bool} (h : s₀.Keeps s) : s₀.Yields (execFeedReverse f reverse s) :=
  .onPath h (.feedsFrom (.ite h.setFeedState.bump (.ite h.setFeedState h)))

theorem State.Yields.execFeedOverVoltage {f peak : Nat} (h : s₀.Keeps s) : s₀.Yields (execFeedOverVoltage f peak s) :=
  .onPath h (.ite h h.setFeedState.bump.logPower.feedsFrom)

theorem State.Yields.execFeedOvRecover {f : Nat} (h : s₀.Keeps s) : s₀.Yields (execFeedOvRecover f s) :=
  .onPath h (.ite h.setFeedState.evalFeed.feedsFrom h)

theorem State.Yields.execFeedFault {f ma : Nat} (h : s₀.Keeps s) : s₀.Yields (execFeedFault f ma s) :=
  .onPath h (.ite h.setFeedState.bump.logPower.feedsFrom h)

theorem State.Yields.execLoadEnChange {level : Bool} (h : s₀.Keeps s) : s₀.Yields (execLoadEnChange level s) :=
  .next (.ite h (.ite h.setRb.clearTrip.tryRamp (.ite h.setRb h.setRb.loadGateOff)))

theorem State.Yields.execRampComplete {us mj : Nat} (h : s₀.Keeps s) : s₀.Yields (execRampComplete us mj s) :=
  .onPath h (.ite (.ite h.setRf.setRb.setRegs.logPower.endWarn h.setRf.setRb.setRegs.logPower) h)

theorem State.Yields.execRampTimer {ma mv mj : Nat} (h : s₀.Keeps s) : s₀.Yields (execRampTimer ma mv mj s) := .onPath h (.ite h.setReg.tripLoad h)

theorem State.Yields.execSoaTrip {ma mv : Nat} (h : s₀.Keeps s) : s₀.Yields (execSoaTrip ma mv s) := .onPath h (.ite h.setReg.tripLoad h)

theorem State.Yields.execShortTrip {ma mv : Nat} (h : s₀.Keeps s) : s₀.Yields (execShortTrip ma mv s) := .onPath h (.ite h.tripLoad h)

theorem State.Yields.execLoadDisableDelayEnd (h : s₀.Keeps s) : s₀.Yields (execLoadDisableDelayEnd s) := .next (.ite h.loadGateOff h)

theorem State.Yields.execMeterSample {codes : List (Nat × Int)} (h : s₀.Keeps s) : s₀.Yields (execMeterSample codes s) :=
  .onPath h (.ite h.meterSample.setPanel.showMeter.curveSample.setPath.logPower h.meterSample.setPanel.showMeter.curveSample)

theorem State.Yields.execPanelWarn {mv : Nat} (h : s₀.Keeps s) : s₀.Yields (execPanelWarn mv s) :=
  .onPath h (.ite h.setPanel.panelBelowWarn.frsTrigger h.setPanel.panelBelowWarn)

theorem State.Yields.execPanelDrop {mv : Nat} (h : s₀.Keeps s) : s₀.Yields (execPanelDrop mv s) :=
  .onPath h (.ite h.setPanel.panelBelowWarn (.frsTrigger (.logPower (.bump (.ite h.setPanel.panelBelowWarn.setPath.setRb.loadGateOff
      h.setPanel.panelBelowWarn.setPath.setRb)))))

theorem State.Yields.execPanelRise {mv : Nat} (h : s₀.Keeps s) : s₀.Yields (execPanelRise mv s) := .onPath h (.ite h.setPanel.setPath h.setPanel)

theorem State.Yields.execPanelHoldExpiry (h : s₀.Keeps s) : s₀.Yields (execPanelHoldExpiry s) :=
  .onPath h (by
    split
    · exact h
    · exact .ite (.ite h.setRf.tryRamp h.tryRamp) (.ite h.endWarn h.setRegs.bump.endWarn.logPower))

theorem State.Yields.execPanelAboveDrop {mv : Nat} (h : s₀.Keeps s) : s₀.Yields (execPanelAboveDrop mv s) :=
  .onPath h (.tryRamp (.ite h.setPanel.setPfw.setPath h.setPanel))

theorem State.Yields.execPanelBelow8v {mv : Nat} (h : s₀.Keeps s) : s₀.Yields (execPanelBelow8v mv s) := .onPath h h.setPanel.sourceOff.sourceOff

/-! ### What `Machine/PdCmds` changes -/

theorem State.Keeps.cmdPdStatus {r : Req} {u : Nat} (h : s₀.Keeps s) : s₀.Keeps (cmdPdStatus.act r u s).state := h.ok

theorem State.Keeps.cmdPdRolePrefSet {r : Req} {u : Nat} (h : s₀.Keeps s) : s₀.Keeps (cmdPdRolePrefSet.act r u s).state := h.setReg.ok

theorem State.Keeps.cmdPdSourceCapsSet {r : Req} {u : Nat} (h : s₀.Keeps s) : s₀.Keeps (cmdPdSourceCapsSet.act r u s).state :=
  .checked h (.ok (.ite h.setRegs.sendCaps h.setRegs))

theorem State.Keeps.cmdPdSinkRequest {r : Req} {u : Nat} (h : s₀.Keeps s) : s₀.Keeps (cmdPdSinkRequest.act r u s).state :=
  h.checked h.setHook.sendRequest

theorem State.Keeps.cmdPdFrsSet {r : Req} {u : Nat} (h : s₀.Keeps s) : s₀.Keeps (cmdPdFrsSet.act r u s).state := h.setRf.armFrs.ok

theorem State.Keeps.cmdCableIdRead {r : Req} {u : Nat} (h : s₀.Keeps s) : s₀.Keeps (cmdCableIdRead.act r u s).state := h.checked h.ok

theorem State.Keeps.cmdHookPolicyUpdate {r : Req} {u : Nat} (h : s₀.Keeps s) : s₀.Keeps (cmdHookPolicyUpdate.act r u s).state :=
  .checked h (.ite_state (h.checked h.with_images.startJob.accepted) h.with_images.ok)

theorem State.Keeps.applyImage {h : Nat} (hs : s₀.Keeps s) : s₀.Keeps (s.applyImage h) :=
  .ite hs (.ite hs.runImage (.ite (.renegotiate (.ite hs.runImage.setPd hs.runImage)) hs))

theorem State.Keeps.newImageFor {h : Nat} (hs : s₀.Keeps s) : s₀.Keeps (s.newImageFor h) := hs.setHook.setRb.applyImage

theorem State.Yields.execPolicyImageStep (h : s₀.Keeps s) : s₀.Yields (execPolicyImageStep s) :=
  .next (by
    split
    · exact h
    · exact .ite h.setReg.nextStep (.ite (by split; exacts [h.log.endJob, h.nextStep]) h.setReg.nextStep.newImageFor.newImageFor))

theorem State.Yields.onHook {h : Nat} {c : Bool} {f : State} (hs : s₀.Keeps s) (hs1 : s₀.Keeps f) : s₀.Yields (onHook h c s f) :=
  .onUnit hs (.ite hs1 hs)

theorem State.Keeps.setVconn {h : Nat} {b : Bool} (hs : s₀.Keeps s) : s₀.Keeps (s.setVconn h b) := hs.setRb.setRb

theorem State.Keeps.askCable {h : Nat} (hs : s₀.Keeps s) : s₀.Keeps (s.askCable h) := hs.setHook.pdSend

theorem State.Keeps.startSource {h amps : Nat} (hs : s₀.Keeps s) : s₀.Keeps (s.startSource h amps) := hs.sourceOn.setVbus.setRb.setPd.sendCaps

theorem State.Keeps.clearPd {h : Nat} (hs : s₀.Keeps s) : s₀.Keeps (s.clearPd h) := hs.setReg

theorem State.Keeps.attachPd {h : Nat} {source cc2 : Bool} (hs : s₀.Keeps s) : s₀.Keeps (s.attachPd h source cc2) :=
  .ite (.startCast (.setPort (.ite hs.clearPd.setRb.setRegs.setHook.setVconn.setRb.startSource.askCable
      hs.clearPd.setRb.setRegs.setHook.setVbus.setPd.pdSend))) (.setPort (.ite
      hs.clearPd.setRb.setRegs.setHook.setVconn.setRb.startSource.askCable hs.clearPd.setRb.setRegs.setHook.setVbus.setPd.pdSend))

theorem State.Yields.execTypecAttach {h : Nat} {source cc2 : Bool} {accessory : Nat} (hs : s₀.Keeps s) : s₀.Yields (execTypecAttach h source cc2
    accessory s) :=
  .onHook hs (.ite hs.logPd (.ite hs.attachPd hs))

theorem State.Keeps.endAttach {h : Nat} (hs : s₀.Keeps s) : s₀.Keeps (s.endAttach h) :=
  hs.dropContract.sinkPath.sourceOff.setVconn.setRb.clearPd.setHook.imageDue.recaps

theorem State.Yields.execTypecDetach {h vbus : Nat} (hs : s₀.Keeps s) : s₀.Yields (execTypecDetach h vbus s) :=
  .onUnit hs (.ite hs (.detachPort (.endAttach (.ite hs.setVbus.bump.logPd hs.setVbus))))

theorem State.Keeps.requestDue {h : Nat} (hs : s₀.Keeps s) : s₀.Keeps (s.requestDue h) := .ite hs.sendRequest hs

theorem State.Yields.execPdSourceCapabilities {h : Nat} {pdos : List Word} {frs epr : Bool} (hs : s₀.Keeps s) : s₀.Yields
    (execPdSourceCapabilities h pdos frs epr s) :=
  .onHook hs (.requestDue (.armFrs (.ite hs.setRegs.setHook.setRf.setRb (.ite hs.setRegs.setHook.fresh.setRf hs.setRegs.setHook))))

theorem State.Keeps.rejectRequest {h : Nat} (hs : s₀.Keeps s) : s₀.Keeps (s.rejectRequest h) := hs.bump.pdSend

theorem State.Yields.execPdRequest {h index volts amps : Nat} {frs : Bool} (hs : s₀.Keeps s) : s₀.Yields (execPdRequest h index volts amps frs s) :=
  .onHook hs (.ite hs.setHook.rejectRequest.logPd (.ite hs.setHook.rejectRequest hs.setHook.setHook.setPd.sourceOn.pdSend))

theorem State.Keeps.keepAlive {h : Nat} (hs : s₀.Keeps s) : s₀.Keeps (s.keepAlive h) := by
  unfold State.keepAlive
  dsimp only
  split
  · exact hs
  · exact hs.setHook.pdSend
  · exact hs.pdSend

theorem State.Keeps.afterTransition {h : Nat} (hs : s₀.Keeps s) : s₀.Keeps (s.afterTransition h) :=
  .recaps (.applyImage (.ite hs.setHook.keepAlive hs))

theorem State.Keeps.frsDone {h : Nat} (hs : s₀.Keeps s) : s₀.Keeps (s.frsDone h) :=
  .ite hs.bump.logPd.setRb.setPd.armFrs hs.bump.logPd.setRb.setPd.pdSend.sendCaps

theorem State.Yields.execPdPsRdy {h : Nat} (hs : s₀.Keeps s) : s₀.Yields (execPdPsRdy h s) :=
  .onHook hs (.ite hs.frsDone.afterTransition (.ite (.ite hs.takeContract.setPd.setRb.sinkPath.armFrs.answerAsk.runImage.setPd.sendRequest
      hs.takeContract.setPd.setRb.sinkPath.armFrs.answerAsk.startModes.afterTransition) hs))

theorem State.Yields.execPdAcceptOrReject {h : Nat} {accepted : Bool} (hs : s₀.Keeps s) : s₀.Yields (execPdAcceptOrReject h accepted s) :=
  .onHook hs (.ite (.ite hs.setHook.setRb.startModes hs.setHook.modeMissing) (.ite (.ite hs.setHook.setVconn.askCable hs.setHook.requestDue)
      (.ite hs (.ite hs.setPd hs.setHook.bump.answerAsk))))

theorem State.Yields.execVbusTransitionComplete {h : Nat} (hs : s₀.Keeps s) : s₀.Yields (execVbusTransitionComplete h s) :=
  .onHook hs hs.takeContract.setPd.pdSend.startModes.afterTransition

theorem State.Keeps.hardReset {h : Nat} {received : Bool} (hs : s₀.Keeps s) : s₀.Keeps (s.hardReset h received) :=
  .recaps (.ite hs.bump.logPd.dropContract.leaveMode.sinkPath.setHook.setVconn.setRb.setRb.sourceOff.startSource
      hs.bump.logPd.dropContract.leaveMode.sinkPath.setHook.setVconn.setRb.setRb.setPd.armFrs)

theorem State.Yields.execPdHardReset {h : Nat} (hs : s₀.Keeps s) : s₀.Yields (execPdHardReset h s) :=
  .onUnit hs (.ite hs (.ite hs.hardReset (.ite hs.setHook hs)))

theorem State.Keeps.swapPower {h : Nat} (hs : s₀.Keeps s) : s₀.Keeps (s.swapPower h) :=
  .recaps (.armFrs (.ite hs.pdSend.dropContract.setHook.sourceOff.setRb.setPd.pdSend hs.pdSend.dropContract.setHook.sinkPath.pdSend.startSource))

theorem State.Yields.execPdSwapRequest {h kind : Nat} (hs : s₀.Keeps s) : s₀.Yields (execPdSwapRequest h kind s) :=
  .onHook hs (by
    dsimp only
    split
    · exact .ite hs.swapPower hs.pdSend
    · exact .ite hs.pdSend.hardReset (.ite (.ite hs.pdSend.setRb.setHook.startModes hs.pdSend.setRb.setHook) hs.pdSend)
    · exact .ite hs.pdSend.setVconn hs.pdSend
    · exact .ite hs.pdSend hs.pdSend
    · exact hs.pdSend)

theorem State.Yields.execDiscoverMessage {h kind : Nat} {object : VdmObject} {reply : Nat} (hs : s₀.Keeps s) : s₀.Yields (execDiscoverMessage h
    kind object reply s) :=
  .onHook hs (.ite (.ite (.ite hs.pdSend.setHook hs.pdSend) hs.pdSend) (.ite hs (.ite (.ite hs.pdSend (.ite hs.pdSend hs)) hs.modeMissing)))

theorem State.Yields.execAlavinModeEnter {h : Nat} {ok : Bool} (hs : s₀.Keeps s) : s₀.Yields (execAlavinModeEnter h ok s) :=
  .onHook hs (.ite hs.setHook.modeEntered hs.modeMissing)

theorem State.Yields.execAlavinModeExit {h : Nat} (hs : s₀.Keeps s) : s₀.Yields (execAlavinModeExit h s) := .onHook hs hs.leaveMode

theorem State.Yields.execUfpModeWaitExpiry {h : Nat} (hs : s₀.Keeps s) : s₀.Yields (execUfpModeWaitExpiry h s) :=
  .onHook hs (.ite hs.setHook.setHook.pdSend hs.setHook.modeMissing)

theorem State.Yields.execCableDiscoverIdentity {h : Nat} {vdos : List Word} (hs : s₀.Keeps s) : s₀.Yields (execCableDiscoverIdentity h vdos s) :=
  .onHook hs hs.setReg.setRegs.setHook.requestDue.recaps

theorem State.Yields.execPdKeepaliveTimer {h : Nat} (hs : s₀.Keeps s) : s₀.Yields (execPdKeepaliveTimer h s) :=
  .onHook hs (.ite hs.setHook hs.keepAlive)

theorem State.Yields.execPdKeepaliveLost {h : Nat} (hs : s₀.Keeps s) : s₀.Yields (execPdKeepaliveLost h s) :=
  .onHook hs hs.bump.logPd.pdSend.hardReset

theorem State.Yields.execFrsSignal {h : Nat} (hs : s₀.Keeps s) : s₀.Yields (execFrsSignal h s) :=
  .onHook hs (.ite hs.dropContract.sinkPath.setRb.sourceOn.setPd.pdSend hs.logPd)

theorem State.Yields.execDeadBatteryStart {h : Nat} (hs : s₀.Keeps s) : s₀.Yields (execDeadBatteryStart h s) := .onUnit hs (.ite hs hs.setRb.setVbus)

theorem State.Yields.execHookRomStart {h : Nat} (hs : s₀.Keeps s) : s₀.Yields (execHookRomStart h s) :=
  .onUnit hs (.ite hs (.ite hs.with_part.runImage.setRb.attachPd hs.with_part.runImage))

theorem State.Keeps.stopHook {h : Nat} {count : Bool} (hs : s₀.Keeps s) : s₀.Keeps (s.stopHook h count) :=
  .ite (.breakLocks (.logPd (.with_hooksDown (.ite hs (.ite hs.setRf hs.fresh.setRf))))) (.logPd (.with_hooksDown (.ite hs (.ite hs.setRf
      hs.fresh.setRf))))

theorem State.Yields.execHookWatchdog {h : Nat} (hs : s₀.Keeps s) : s₀.Yields (execHookWatchdog h s) := .onHook hs hs.stopHook

theorem State.Yields.execHookRestarted {h : Nat} (hs : s₀.Keeps s) : s₀.Yields (execHookRestarted h s) :=
  .onUnit hs (.ite hs (.ite hs.with_hooksDown (.ite (.hardReset (.ite hs.with_hooksDown hs.with_hooksDown.renegotiate)) (.ite hs.with_hooksDown
      hs.with_hooksDown.renegotiate))))

/-! ### What `Machine/RegAccess` changes -/

theorem State.Keeps.clearRc {a : Nat} (h : s₀.Keeps s) : s₀.Keeps (s.clearRc a) := .ite (.ite h.setReg.setPath h.setReg.setPath) h.setReg

theorem State.Keeps.captureLog {k : Nat} (h : s₀.Keeps s) : s₀.Keeps (s.captureLog k) := by
  unfold State.captureLog
  split
  · exact h
  · exact h.setRegs

theorem State.Keeps.readReg {via : Via} {a : Nat} (h : s₀.Keeps s) : s₀.Keeps (s.readReg via a).2 := by
  unfold State.readReg
  dsimp only
  split
  · exact h
  · exact .ite_snd h.fresh (.ite_snd h.clearRc (.ite_snd h (by
      split
      · exact .ite_snd h.mboxConsume (.ite_snd h.lockRead h)
      · exact .ite_snd h.captureTime h
      · exact .ite_snd h.captureLog h
      · exact h)))

theorem State.Keeps.readRegs {via : Via} {l : List Nat} (h : s₀.Keeps s) : s₀.Keeps (s.readRegs via l).2 := by
  induction l generalizing s with
  | nil => exact h
  | cons a l ih => exact ih h.readReg

theorem State.Keeps.plainWrite {k a : Nat} {fs : List RwField} {w : Word} (h : s₀.Keeps s) : s₀.Keeps (s.plainWrite k a fs w) :=
  .ite h.setReg h.ignoreWrite

theorem State.Keeps.asCommand {via : Via} {c : Cmd} {k a sub : Nat} {ws : List Word} (h : s₀.Keeps s)
    (hc : ∀ {r u}, s₀.Keeps (c.act r u s).state) : s₀.Keeps (s.asCommand via c k a sub ws) := by
  unfold State.asCommand
  dsimp only
  split
  · exact h.ignoreWrite
  · exact .ite hc h.ignoreWrite

theorem State.Keeps.writeMbox {via : Via} {k off : Nat} {w : Word} (h : s₀.Keeps s) : s₀.Keeps (s.writeMbox via k off w) :=
  .ite h.mboxDataWrite (.ite (by dsimp only; split; exacts [.ite h.setRb h, .ite h.ignoreWrite h.setReg, h.lockWrite, h]) (.ite h.ringDoorbells
      (.ite h.setReg (.ite (.ite h.ignoreWrite h.setReg) h.plainWrite))))

theorem State.Keeps.writeTime {k off : Nat} {w : Word} (h : s₀.Keeps s) : s₀.Keeps (s.writeTime k off w) := by
  unfold State.writeTime
  dsimp only
  split
  · exact .ite h.ignoreWrite (.ite h.setReg h.setReg)
  · exact h.setTime.sendTimeInfos
  · exact .ite h.ignoreWrite h.setTime
  · exact .ite h.setTime h.ignoreWrite
  · exact .ite h.setTime h.ignoreWrite
  · exact .ite h.setTime h.ignoreWrite
  · exact .ite h.ignoreWrite h.setReg

theorem State.Keeps.writeLnk {k p off : Nat} {fs : List RwField} {w : Word} (h : s₀.Keeps s) : s₀.Keeps (s.writeLnk k p off fs w) :=
  .ite (.ite h.setReg.setPolicy h.ignoreWrite) (.ite (.ite h.plainWrite.useRow h.plainWrite) h.plainWrite)

theorem State.Keeps.writeRows {k off : Nat} {w : Word} (h : s₀.Keeps s) : s₀.Keeps (s.writeRows k off w) :=
  .ite h.ignoreWrite (.ite h h.setRowEntry.setRowEntry)

theorem State.Keeps.writeSched {via : Via} {k off : Nat} {w : Word} (h : s₀.Keeps s) : s₀.Keeps (s.writeSched via k off w) :=
  .ite (.asCommand h h.cmdSchedNodeSet) (.ite (.asCommand h h.cmdSchedNodeSet) (.ite (.asCommand h h.cmdSchedNodeSet) h.setReg))

theorem State.Keeps.writeShape {via : Via} {k off : Nat} {w : Word} (h : s₀.Keeps s) : s₀.Keeps (s.writeShape via k off w) :=
  .asCommand h h.cmdShaperSet

theorem State.Keeps.writeHash {k set w0 : Nat} {w : Word} (h : s₀.Keeps s) : s₀.Keeps (s.writeHash k set w0 w) := .foldl h (fun ht => ht.moveBucket)

theorem State.Keeps.writeCong {via : Via} {k off : Nat} {fs : List RwField} {w : Word} (h : s₀.Keeps s) : s₀.Keeps (s.writeCong via k off fs w) :=
  .ite (.ite (.asCommand h h.cmdQueueThresholdSet) (.ite h.ignoreWrite h.setReg)) (.ite (.asCommand h h.cmdQueueThresholdSet) (.ite h.writeHash
      (.ite (.ite h.writeHash h.ignoreWrite) h.plainWrite)))

theorem State.Keeps.writeDin {via : Via} {k i : Nat} {w : Word} (h : s₀.Keeps s) : s₀.Keeps (s.writeDin via k i w) :=
  .ite (.dinApply (.asCommand h h.cmdDinConfig)) (.asCommand h h.cmdDinConfig)

theorem State.Keeps.writePurl {via : Via} {k off : Nat} {w : Word} (h : s₀.Keeps s) : s₀.Keeps (s.writePurl via k off w) :=
  .ite (.asCommand h h.cmdPurlModeSet) (.asCommand h h.cmdDamageConfig)

theorem State.Keeps.enableOut {k o : Nat} {on : Bool} (h : s₀.Keeps s) : s₀.Keeps (s.enableOut k o on) :=
  .ite h (.ite h.setRb.setDout.setDoutState (.ite h.setRb.startTraining h.setRb.setDoutState))

theorem State.Keeps.writeDout {via : Via} {k o off : Nat} {fs : List RwField} {w : Word} (h : s₀.Keeps s) : s₀.Keeps (s.writeDout via k o off fs w) := by
  unfold State.writeDout
  dsimp only
  split
  · exact h.setReg.enableOut
  · exact .ite h.ignoreWrite (.asCommand h h.cmdDoutPairSet)
  · exact .asCommand h h.cmdFrameLockSet
  · exact .asCommand h h.cmdFrameLockSet
  · exact .asCommand h h.cmdFrameLockSet
  · exact .asCommand h h.cmdFrameLockSet
  · exact .asCommand h h.cmdPsrConfig
  · exact .asCommand h h.cmdTestPattern
  · exact .asCommand h h.cmdTestPattern
  · exact h.plainWrite

theorem State.Keeps.writeFstore {k off : Nat} {w : Word} (h : s₀.Keeps s) : s₀.Keeps (s.writeFstore k off w) := .ite h.ignoreWrite h.setReg

theorem State.Keeps.writePcie {via : Via} {k off : Nat} {w : Word} (h : s₀.Keeps s) : s₀.Keeps (s.writePcie via k off w) :=
  .ite (.ite h.cmdPcieConfig h.ignoreWrite) h.ignoreWrite

theorem State.Keeps.writeUsbh {via : Via} {k off : Nat} {w : Word} (h : s₀.Keeps s) : s₀.Keeps (s.writeUsbh via k off w) :=
  .ite (.ite h.cmdUsbConfig h.ignoreWrite) (.asCommand h h.cmdUsbPortPower)

theorem State.Keeps.writePrp {via : Via} {k off : Nat} {w : Word} (h : s₀.Keeps s) : s₀.Keeps (s.writePrp via k off w) := .asCommand h h.cmdPrpPairSet

theorem State.Keeps.writePtp {via : Via} {k off : Nat} {w : Word} (h : s₀.Keeps s) : s₀.Keeps (s.writePtp via k off w) :=
  .ite h.setReg (.asCommand h h.cmdPtpConfig)

theorem State.Keeps.writeEth {via : Via} {k e : Nat} {w : Word} (h : s₀.Keeps s) : s₀.Keeps (s.writeEth via k e w) :=
  .ite h.cmdEthConfig h.ignoreWrite

theorem State.Keeps.writeChk {k off : Nat} {w : Word} (h : s₀.Keeps s) : s₀.Keeps (s.writeChk k off w) :=
  .ite h.setReg (.ite h.ignoreWrite (by
    split
    · exact .ite (.ignoreWrite (.ite h.setRb h)) (.ite (.ite h.setRb h) (.setUnit (.ite h.setRb h)))
    · exact .ite h.ignoreWrite h.setUnit
    · exact .ite h.ignoreWrite h.setUnit
    · exact .ite h.ignoreWrite h.setUnit
    · exact h.setUnit))

theorem State.Keeps.writeGpio {k off : Nat} {w : Word} (h : s₀.Keeps s) : s₀.Keeps (s.writeGpio k off w) :=
  .ite h.setReg (.ite (by split; exacts [h.setReg.driveGpio, h.setReg]) h.setReg)

theorem State.Keeps.writeKctl {k off : Nat} {fs : List RwField} {w : Word} (h : s₀.Keeps s) : s₀.Keeps (s.writeKctl k off fs w) :=
  .ite h.domEnWrite h.plainWrite

theorem State.Keeps.writeKernel {via : Via} {k blk off : Nat} {fs : List RwField} {w : Word} (h : s₀.Keeps s) : s₀.Keeps (s.writeKernel via k blk
    off fs w) := by
  unfold State.writeKernel
  dsimp only
  split
  · exact h.writeKctl
  · exact h.writeMbox
  · exact h.writeTime
  · exact h.writeLnk
  · exact h.writeLnk
  · exact h.writeLnk
  · exact h.writeLnk
  · exact h.writeRows
  · exact h.writeSched
  · exact h.writeShape
  · exact h.writeCong
  · exact .ite h.ignoreWrite h.latSet
  · exact h.writeDin
  · exact h.writeDin
  · exact h.writePurl
  · exact h.writeDout
  · exact h.writeDout
  · exact h.writeFstore
  · exact h.writePcie
  · exact .ite h.applyPciwCtrl h.plainWrite
  · exact h.writeUsbh
  · exact h.writeEth
  · exact h.writeEth
  · exact h.writePrp
  · exact h.writePtp
  · exact h.writeChk
  · exact h.writeGpio
  · exact h.plainWrite

theorem State.Keeps.writePower {via : Via} {blk off : Nat} {fs : List RwField} {w : Word} (h : s₀.Keeps s) : s₀.Keeps (s.writePower via blk off
    fs w) := by
  unfold State.writePower
  dsimp only
  split
  · exact .ite h (.ite h.setFeed.feedsFrom h.ignoreWrite)
  · exact .ite (.ite h (.ite h.loadDisable (.ite h.ignoreWrite h.loadEnable))) (.ite (.asCommand h h.cmdPwrWarnSet) (.ite (.asCommand h
      h.cmdPwrWarnSet) (.asCommand h h.cmdPwrBreakerSet)))
  · exact .ite h.setHold h.plainWrite
  · exact .ite (.ite h.ignoreWrite h.setReg.armFrs) h.plainWrite
  · exact .ite (.ite h.ignoreWrite h.setReg.armFrs) h.plainWrite
  · exact h.plainWrite

theorem State.Keeps.writeReg {via : Via} {a : Nat} {w : Word} (h : s₀.Keeps s) : s₀.Keeps (s.writeReg via a w) := by
  unfold State.writeReg
  split
  · exact h
  · exact .ite h (.ite h.writePower h.writeKernel)

theorem State.Keeps.writeRegs {via : Via} {a : Nat} {l : List Word} (h : s₀.Keeps s) : s₀.Keeps (s.writeRegs via a l) := by
  induction l generalizing s a with
  | nil => exact h
  | cons w l ih => exact ih h.writeReg

theorem State.Keeps.cmdRegRead {r : Req} {u : Nat} (h : s₀.Keeps s) : s₀.Keeps (cmdRegRead.act r u s).state := h.checked h.readRegs.ok

theorem State.Keeps.cmdRegWrite {r : Req} {u : Nat} (h : s₀.Keeps s) : s₀.Keeps (cmdRegWrite.act r u s).state := h.checked h.writeRegs.ok

theorem State.Keeps.modifyReg {via : Via} {a : Nat} {mask value : Word} (h : s₀.Keeps s) : s₀.Keeps (s.modifyReg via a mask value).2.2 :=
  h.readReg.writeReg

theorem State.Keeps.cmdRegModify {r : Req} {u : Nat} (h : s₀.Keeps s) : s₀.Keeps (cmdRegModify.act r u s).state := h.checked h.modifyReg.ok

theorem State.Yields.execLogWinRead {k : Nat} (h : s₀.Keeps s) : s₀.Yields (execLogWinRead k s) := .onUnit h (.ite h.captureLog.with_readOut h)

theorem State.Yields.execRcFieldRead {a : Nat} (h : s₀.Keeps s) : s₀.Yields (execRcFieldRead a s) :=
  .onUnit h (.ite (.ite h.fresh.with_readOut h.clearRc.with_readOut) h)

theorem State.Yields.execRegisterWrite {via : Via} {a : Nat} {w : Word} (h : s₀.Keeps s) : s₀.Yields (execRegisterWrite via a w s) :=
  .onUnit h (.ite h.writeReg h)

theorem State.Keeps.showCounters {l : List Nat} (h : s₀.Keeps s) : s₀.Keeps (s.showCounters l).2 := .foldl_snd h (fun ht => .ite ht.fresh ht)

theorem State.Keeps.cmdDiagCountersRead {r : Req} {u : Nat} (h : s₀.Keeps s) : s₀.Keeps (cmdDiagCountersRead.act r u s).state :=
  .checked h (.ok (.ite (.foldl h.showCounters (fun ht => ht.clearRc)) h.showCounters))

theorem State.Keeps.cmdDiagLoopback {r : Req} {u : Nat} (h : s₀.Keeps s) : s₀.Keeps (cmdDiagLoopback.act r u s).state := h.checked h.setRb.setRb.ok

theorem State.Keeps.freshList {n : Nat} (h : s₀.Keeps s) : s₀.Keeps (s.freshList n).2 := h.draw

theorem State.Keeps.cmdDiagSensors {r : Req} {u : Nat} (h : s₀.Keeps s) : s₀.Keeps (cmdDiagSensors.act r u s).state :=
  .ite_state h.freshList.ok h.freshList.ok

/-! ### What `Machine/Board` changes -/

theorem State.Keeps.preset {k : Nat} {addr mask value : Word} (h : s₀.Keeps s) : s₀.Keeps (s.preset k addr mask value) :=
  .ite h.ignoreWrite h.modifyReg

theorem State.Keeps.applyPresets {k : Nat} {inScope : Nat → Bool} {x : Section} (h : s₀.Keeps s) : s₀.Keeps (s.applyPresets k inScope x) :=
  .foldl h (fun ht => .ite ht.preset ht)

theorem State.Keeps.applyCarve {k : Nat} {x : Section} (h : s₀.Keeps s) : s₀.Keeps (s.applyCarve k x) := by
  unfold State.applyCarve
  exact .ite h.cmdSkeinCarve h

theorem State.Keeps.applyLinkEq {k : Nat} {inScope : Nat → Bool} {x : Section} (h : s₀.Keeps s) : s₀.Keeps (s.applyLinkEq k inScope x) :=
  .with_images (.foldl h (fun ht => .ite (.setReg (.setReg (.foldl ht (fun ht1 => ht1.setReg.setReg)))) ht))

theorem State.Keeps.applyIdentity {k : Nat} {inScope : Nat → Bool} {x : Section} (h : s₀.Keeps s) : s₀.Keeps (s.applyIdentity k inScope x) :=
  .with_images (.ite (.setRegs (.ite h.setReg h)) (.ite h.setReg h))

theorem State.Keeps.applySection {k : Nat} {inScope : Nat → Bool} {x : Section} (h : s₀.Keeps s) : s₀.Keeps (s.applySection k inScope x) := by
  unfold State.applySection
  split
  · exact .ite h.applyCarve h
  · exact h.applyLinkEq
  · exact h.with_images
  · exact h.applyIdentity
  · exact .ite h.setRegs h
  · exact .ite h.setRegs h
  · exact h

theorem State.Keeps.applyBoard {k : Nat} {inScope : Nat → Bool} (h : s₀.Keeps s) : s₀.Keeps (s.applyBoard k inScope) :=
  .foldl (.foldl h (fun ht => ht.applySection)) (fun ht => ht.applyPresets)

theorem State.Keeps.loadPowerPath (h : s₀.Keeps s) : s₀.Keeps (s.loadPowerPath) :=
  .syncShort (.setReg (.ite h.resetRange.resetRange.resetRange h.resetRange.resetRange.resetRange.setRegs))

/-! ### What `Machine/KeyCmds` changes -/

theorem State.Keeps.cmdKeySlotInfo {r : Req} {u : Nat} (h : s₀.Keeps s) : s₀.Keeps (cmdKeySlotInfo.act r u s).state := h.ok

theorem State.Keeps.keyChanged {slot how m : Nat} (h : s₀.Keeps s) : s₀.Keeps (s.keyChanged slot how m) := h.log

theorem State.Keeps.fillSlot {r : Req} (h : s₀.Keeps s) : s₀.Keeps (s.fillSlot r) := h.setReg.setRf.setKeySlot.keyChanged

theorem State.Keeps.cmdKeyDerive {r : Req} {u : Nat} (h : s₀.Keeps s) : s₀.Keeps (cmdKeyDerive.act r u s).state := h.checked h.fillSlot.ok

theorem State.Keeps.bumpGen {slot : Nat} (h : s₀.Keeps s) : s₀.Keeps (s.bumpGen slot) := h.setRf

theorem State.Keeps.clearSlot {slot : Nat} (h : s₀.Keeps s) : s₀.Keeps (s.clearSlot slot) := h.setReg.setRf.bumpGen.setKeySlot

theorem State.Keeps.cmdKeyErase {r : Req} {u : Nat} (h : s₀.Keeps s) : s₀.Keeps (cmdKeyErase.act r u s).state := h.checked h.clearSlot.keyChanged.ok

theorem State.Keeps.cmdKeyAttrSet {r : Req} {u : Nat} (h : s₀.Keeps s) : s₀.Keeps (cmdKeyAttrSet.act r u s).state :=
  h.checked h.setReg.bumpGen.keyChanged.ok

theorem State.Keeps.bindOff {k p : Nat} (h : s₀.Keeps s) : s₀.Keeps (s.bindOff k p) := by
  unfold State.bindOff
  split
  · exact h.castOff
  · exact h.endPortJob.startBind.sendMsg
  · exact h

theorem State.Keeps.applyLife (h : s₀.Keeps s) : s₀.Keeps (s.applyLife) :=
  .ite h (.log (.ite (.foldl (.foldl h.setReg (fun ht => .ite ht ht.clearSlot)) (fun ht => ht.bindOff)) h.setReg))

theorem State.Keeps.cmdLifecycleAdvance {r : Req} {u : Nat} (h : s₀.Keeps s) : s₀.Keeps (cmdLifecycleAdvance.act r u s).state :=
  h.checked h.startJob.accepted

theorem State.Yields.execLifecycleFuseStep (h : s₀.Keeps s) : s₀.Yields (execLifecycleFuseStep s) :=
  .next (by split; exacts [h, .ite h.with_part.nextStep h.with_part.nextStep.applyLife.nextStep])

theorem State.Keeps.cmdLinkAuthPolicy {r : Req} {u : Nat} (h : s₀.Keeps s) : s₀.Keeps (cmdLinkAuthPolicy.act r u s).state := h.checked h.setRegs.ok

theorem State.Yields.execDrbgHealthFail {k test : Nat} (h : s₀.Keeps s) : s₀.Yields (execDrbgHealthFail k test s) := .onUnit h (.ite h h.setKern.log)

theorem State.Yields.execPhaseChange {k p : Nat} (h : s₀.Keeps s) : s₀.Yields (execPhaseChange k p s) := .onPort h h.nextPhase

theorem State.Yields.execOldPhaseDiscard {k p : Nat} (h : s₀.Keeps s) : s₀.Yields (execOldPhaseDiscard k p s) := .onPort h h.setPort

/-! ### What `Machine/FwCmds` changes -/

theorem State.Keeps.setImages {x : Images} (h : s₀.Keeps s) : s₀.Keeps (s.setImages x) := h.with_images

theorem State.Keeps.setFwSession {isOpen : Bool} {owner : Nat} (h : s₀.Keeps s) : s₀.Keeps (s.setFwSession isOpen owner) := h.setRb.setRf

theorem State.Keeps.setCopies {slot mask : Nat} (h : s₀.Keeps s) : s₀.Keeps (s.setCopies slot mask) := h.with_images

theorem State.Keeps.markCopy {slot k : Nat} (h : s₀.Keeps s) : s₀.Keeps (s.markCopy slot k) := h.setCopies

theorem State.Keeps.cmdFwInfo {r : Req} {u : Nat} (h : s₀.Keeps s) : s₀.Keeps (cmdFwInfo.act r u s).state := h.ok

theorem State.Keeps.cmdFwWriteBegin {r : Req} {u : Nat} (h : s₀.Keeps s) : s₀.Keeps (cmdFwWriteBegin.act r u s).state :=
  h.checked h.setCopies.setFwSession.with_images.ok

theorem State.Keeps.writeFw {data : List Byte} (h : s₀.Keeps s) : s₀.Keeps (s.writeFw data) := h.with_images

theorem State.Keeps.cmdFwWriteData {r : Req} {u : Nat} (h : s₀.Keeps s) : s₀.Keeps (cmdFwWriteData.act r u s).state := h.checked h.writeFw.ok

theorem State.Keeps.cmdFwWriteCommit {r : Req} {u : Nat} (h : s₀.Keeps s) : s₀.Keeps (cmdFwWriteCommit.act r u s).state :=
  h.checked h.setFwSession.startJob.accepted

theorem State.Yields.execFwSessionIdle (h : s₀.Keeps s) : s₀.Yields (execFwSessionIdle s) := .next (.ite h.setFwSession h)

theorem State.Yields.execFwCommitStep {good : Bool} (h : s₀.Keeps s) : s₀.Yields (execFwCommitStep good s) :=
  .next (by
    split
    · exact h
    · exact .ite (by split; exacts [h.log.endJob, h.nextStep]) (.ite h.markCopy.nextStep (.ite h.endJob (.nextStep (.ite h.markCopy.log
        h.markCopy)))))

theorem State.Keeps.cmdFwSlotSelect {r : Req} {u : Nat} (h : s₀.Keeps s) : s₀.Keeps (cmdFwSlotSelect.act r u s).state := by
  dsimp only [Machine.cmdFwSlotSelect, fwCmd]
  split
  · exact h.setRf.setRf.setRb.ok
  · exact .checked h (.ok (.ite h h.setReg.log))
  · exact .checked h (.ok (.ite h.setRf h.setRf))

theorem State.Keeps.cmdBoardTableLoad {r : Req} {u : Nat} (h : s₀.Keeps s) : s₀.Keeps (cmdBoardTableLoad.act r u s).state :=
  .checked h (.ite_state (h.checked h.with_images.startJob.accepted) h.with_images.ok)

theorem State.Yields.execBoardTableStep (h : s₀.Keeps s) : s₀.Yields (execBoardTableStep s) :=
  .next (by
    split
    · exact h
    · exact .ite (by split; exacts [.endJob (.ite h h.log), h.nextStep]) (.ite h.setImages.nextStep h.setImages.nextStep))

theorem State.Keeps.cmdBlackboxClear {r : Req} {u : Nat} (h : s₀.Keeps s) : s₀.Keeps (cmdBlackboxClear.act r u s).state := h.setKern.ok

theorem State.Keeps.cmdLockBreak {r : Req} {u : Nat} (h : s₀.Keeps s) : s₀.Keeps (cmdLockBreak.act r u s).state := h.checked h.breakLock.ok

/-! ### What `Machine/SeamEvents` changes -/

theorem State.Keeps.repin {was : State} {behind : Bool} (h : s₀.Keeps s) : s₀.Keeps (s.repin was behind) :=
  .foldl h (fun ht => .ite (.ite ht (by
    split
    · exact .ite (.foldl ht (fun ht2 => ht2.moveBucket)) ht.setKern.allBuckets
    · exact ht.defaultBuckets
    · exact ht)) ht)

theorem State.Keeps.seamLostTun {k t : Nat} (h : s₀.Keeps s) : s₀.Keeps (s.seamLostTun k t) := .loseTun (.ite h.gaugeTunLost.sendMsg h.gaugeTunLost)

theorem State.Keeps.loseReach {a b : Nat} (h : s₀.Keeps s) : s₀.Keeps (s.loseReach a b) :=
  .log (.foldl (.forCtxs h (fun ht => ht.seamLostTun)) (fun ht => ht.dropRoute))

theorem State.Keeps.seamsChanged {was : State} (h : s₀.Keeps s) : s₀.Keeps (s.seamsChanged was) :=
  .foldl (.foldl h.repin (fun ht => ht.loseReach)) (fun ht => ht.log)

theorem State.Keeps.seamTo {k i n st : Nat} (h : s₀.Keeps s) : s₀.Keeps (s.seamTo k i n st) := h.setSeam.setSeam

theorem State.Keeps.failSeam {k i : Nat} (h : s₀.Keeps s) : s₀.Keeps (s.failSeam k i) := by
  unfold State.failSeam
  split
  · exact h
  · exact .seamsChanged (.foldl h.seamTo.log.log (fun ht1 => ht1.log))

theorem State.Keeps.seamBack {k i n : Nat} {again : Bool} (h : s₀.Keeps s) : s₀.Keeps (s.seamBack k i n again) :=
  .ite h.seamTo.bump.bump.log.log h.seamTo

theorem State.Keeps.raiseSeam {k i : Nat} (h : s₀.Keeps s) : s₀.Keeps (s.raiseSeam k i) := by
  unfold State.raiseSeam
  split
  · exact h
  · exact h.seamBack.seamsChanged

theorem State.Yields.execSeamFailed {k i : Nat} (h : s₀.Keeps s) : s₀.Yields (execSeamFailed k i s) := .onUnit h (.ite h.failSeam h)

theorem State.Yields.execSeamUp {k i : Nat} (h : s₀.Keeps s) : s₀.Yields (execSeamUp k i s) := .onUnit h (.ite h.raiseSeam h)

theorem State.Keeps.showTest {k n : Nat} (h : s₀.Keeps s) : s₀.Keeps (s.showTest k n) := h.setRf

theorem State.Keeps.endTest {k n errs : Nat} (h : s₀.Keeps s) : s₀.Keeps (s.endTest k n errs) := h.showTest.setRb.endJob

theorem State.Keeps.cmdDiagSeamTest {r : Req} {u : Nat} (h : s₀.Keeps s) : s₀.Keeps (cmdDiagSeamTest.act r u s).state :=
  .checked h (.ite_state h.startJob.endJob.accepted h.startJob.jobStep.repin.showTest.accepted)

theorem State.Yields.execSeamTestEnd {k i errNear errFar : Nat} (h : s₀.Keeps s) : s₀.Yields (execSeamTestEnd k i errNear errFar s) :=
  .onUnit h (by
    split
    · exact h
    · exact .ite h.showTest.endJob.repin (.repin (.endTest (.ite h.jobStep h.jobStep.log))))

theorem State.Keeps.cmdDiagStoreTest {r : Req} {u : Nat} (h : s₀.Keeps s) : s₀.Keeps (cmdDiagStoreTest.act r u s).state :=
  h.checked h.startJob.showTest.accepted

theorem State.Yields.execStoreTestStep {k fails firstOffset : Nat} (h : s₀.Keeps s) : s₀.Yields (execStoreTestStep k fails firstOffset s) :=
  .onUnit h (by
    split
    · exact h
    · exact .ite (.endTest (.ite h.mapJob h.mapJob.log)) (.ite h.mapJob.showTest.endJob h.mapJob.jobStep))

/-! ### What `Machine/Parts` changes -/

theorem State.Keeps.setPart {x : PartState} (h : s₀.Keeps s) : s₀.Keeps (s.setPart x) := h.with_part

/-- A kernel's share of a map dropped leaves its form. -/
theorem dropRange_wf {α : Type} [DecidableEq α] {d : Nat → α} {m : List (Nat × α)} {lo hi : Nat} (h : smapWf d m = true) :
    smapWf d (dropRange m lo hi) = true := smapFilter_wf _ h

theorem State.Keeps.clearKernel {k : Nat} {gens : Bool} (h : s₀.Keeps s) : s₀.Keeps (s.clearKernel k gens) := by
  unfold State.clearKernel
  extract_lets gen att images t u v
  have ht : s₀.Keeps t := h.remap rfl rfl rfl rfl fun c =>
    ⟨smapFilter_wf _ c.regs, smapFilter_wf _ c.ends, dropRange_wf c.pcieFns, c.kerns, dropRange_wf c.irqs, dropRange_wf c.ports,
      dropRange_wf c.ctxs, dropRange_wf c.routeCtxs, dropRange_wf c.localRx, dropRange_wf c.outbox, dropRange_wf c.dins,
      dropRange_wf c.douts, dropRange_wf c.bridges, dropRange_wf c.hubs, dropRange_wf c.nets, dropRange_wf c.maps, c.hooks, c.keys⟩
  have hv : s₀.Keeps v := .foldl ht.setKern fun hx => hx.setPort
  exact .ite hv.setRegs hv

theorem State.Keeps.passLead {k : Nat} (h : s₀.Keeps s) : s₀.Keeps (s.passLead k) := .ite h (.logTo (.ite h.with_lead h.with_lead.viaDown))

theorem State.Keeps.partReset {cause : Nat} (h : s₀.Keeps s) : s₀.Keeps (s.partReset cause) := by
  unfold State.partReset
  extract_lets gens t lock images part u v w x
  have ht : s₀.Keeps t := .foldl h fun hx => hx.clearKernel
  have hu : s₀.Keeps u := ht.remap rfl rfl rfl rfl fun c => { c with ends := rfl }
  have hv : s₀.Keeps v := .foldl hu fun hx => hx.setHook
  exact .ite hv.setFwSession.setRf.setRb.setRf.bumpSat hv.setFwSession.setRf.setRb.setRf

theorem State.Keeps.reloadPowerPath (h : s₀.Keeps s) : s₀.Keeps (s.reloadPowerPath) := .loadPowerPath (by split; exacts [h.setImages, h])

theorem State.Keeps.powerDieReset (h : s₀.Keeps s) : s₀.Keeps s.powerDieReset := by
  unfold State.powerDieReset
  extract_lets vers pins t x
  have ht : s₀.Keeps t := h.resetRange.setRegs
  exact ht.remap rfl rfl rfl rfl fun c => { c with hooks := rfl, irqs := smapFilter_wf _ c.irqs }

theorem State.Keeps.failSlot {slot : Nat} {good : Bool} (h : s₀.Keeps s) : s₀.Keeps (s.failSlot slot good) := .ite h h.setCopies.log

theorem State.Keeps.chooseSlot {goodA goodB bootSlot : Bool} (h : s₀.Keeps s) : s₀.Keeps (s.chooseSlot goodA goodB bootSlot).1 := by
  unfold State.chooseSlot
  dsimp only
  split
  · exact .ite h.setRb.failSlot h.setRb.failSlot.failSlot
  · exact .ite (.log (.log (.ite (.setRf (.setRb (.setRf (.ite h.setRb.failSlot h.setRb.failSlot.failSlot)))) (.setRb (.setRf (.ite
      h.setRb.failSlot h.setRb.failSlot.failSlot)))))) (.log (.ite (.setRf (.setRb (.setRf (.ite h.setRb.failSlot h.setRb.failSlot.failSlot))))
      (.setRb (.setRf (.ite h.setRb.failSlot h.setRb.failSlot.failSlot)))))

theorem State.Keeps.repairCopy {k : Nat} {good : Bool} (h : s₀.Keeps s) : s₀.Keeps (s.repairCopy k good) := .ite h h.markCopy.log

theorem State.Keeps.romStart {attempts : Nat} {rootOk : Bool} (h : s₀.Keeps s) : s₀.Keeps (s.romStart attempts rootOk).1 := by
  unfold State.romStart
  exact .ite_fst h.applyLife.setRb (.ite_fst h.applyLife.setRb.setRb.log h.applyLife.fresh.logBoxed)

theorem State.Keeps.swapBoard (h : s₀.Keeps s) : s₀.Keeps (s.swapBoard) := .setImages (.ite h.setImages h)

theorem State.Keeps.trainSeams {k : Nat} {again : Bool} (h : s₀.Keeps s) : s₀.Keeps (s.trainSeams k again) :=
  .ite (.seamsChanged (.foldl h (fun ht => by split; exacts [.ite ht.seamBack ht, ht]))) (.foldl h (fun ht =>
      by split; exacts [.ite ht.seamBack ht, ht]))

theorem State.Keeps.startBoard {k : Nat} (h : s₀.Keeps s) : s₀.Keeps (s.startBoard k) := .ite h (by split; exacts [h.log, h.applyBoard.setReg])

theorem State.Keeps.followTime {k : Nat} (h : s₀.Keeps s) : s₀.Keeps (s.followTime k) := h.setRegs

theorem State.Keeps.startDomains {k : Nat} (h : s₀.Keeps s) : s₀.Keeps (s.startDomains k) := .foldl h (fun ht => ht.domainOff)

theorem State.Keeps.leadStarts (h : s₀.Keeps s) : s₀.Keeps (s.leadStarts) :=
  .ite (.logTrip (.fresh (.foldl h.setPath (fun ht => ht.logPower)))) (.foldl h.setPath (fun ht => ht.logPower))

theorem State.Keeps.startKernel {k : Nat} {alone : Bool} (h : s₀.Keeps s) : s₀.Keeps (s.startKernel k alone) :=
  .foldl (.usbSync (.pcieSync (.ite (.log (.ite (.leadStarts (.ite (.viaUpNow (.passLead (.setPart (.viaUpNow (.setRf (.startDomains (.startBoard
      (.trainSeams (.ite (.followTime (.foldl h.setRf.setReg (fun ht => ht.setDomain))) (.foldl h.setRf.setReg (fun ht => ht.setDomain)))))))))))
      (.viaUpNow (.setRf (.startDomains (.startBoard (.trainSeams (.ite (.followTime (.foldl h.setRf.setReg (fun ht => ht.setDomain))) (.foldl
      h.setRf.setReg (fun ht => ht.setDomain)))))))))) (.ite (.viaUpNow (.passLead (.setPart (.viaUpNow (.setRf (.startDomains (.startBoard
      (.trainSeams (.ite (.followTime (.foldl h.setRf.setReg (fun ht => ht.setDomain))) (.foldl h.setRf.setReg (fun ht => ht.setDomain)))))))))))
      (.viaUpNow (.setRf (.startDomains (.startBoard (.trainSeams (.ite (.followTime (.foldl h.setRf.setReg (fun ht => ht.setDomain))) (.foldl
      h.setRf.setReg (fun ht => ht.setDomain))))))))))) (.ite (.leadStarts (.ite (.viaUpNow (.passLead (.setPart (.viaUpNow (.setRf
      (.startDomains (.startBoard (.trainSeams (.ite (.followTime (.foldl h.setRf.setReg (fun ht => ht.setDomain))) (.foldl h.setRf.setReg (fun
      ht => ht.setDomain))))))))))) (.viaUpNow (.setRf (.startDomains (.startBoard (.trainSeams (.ite (.followTime (.foldl h.setRf.setReg (fun ht
      => ht.setDomain))) (.foldl h.setRf.setReg (fun ht => ht.setDomain)))))))))) (.ite (.viaUpNow (.passLead (.setPart (.viaUpNow (.setRf
      (.startDomains (.startBoard (.trainSeams (.ite (.followTime (.foldl h.setRf.setReg (fun ht => ht.setDomain))) (.foldl h.setRf.setReg (fun
      ht => ht.setDomain))))))))))) (.viaUpNow (.setRf (.startDomains (.startBoard (.trainSeams (.ite (.followTime (.foldl h.setRf.setReg (fun ht
      => ht.setDomain))) (.foldl h.setRf.setReg (fun ht => ht.setDomain))))))))))))) (fun ht => ht.autoCast)

theorem State.Keeps.abortJobs {k keep : Nat} (h : s₀.Keeps s) : s₀.Keeps (s.abortJobs k keep) :=
  .foldl h (fun ht => .ite ht.stopGauge (.endJob (.ite ht.showTest ht)))

theorem State.Keeps.answerWaits {k : Nat} (h : s₀.Keeps s) : s₀.Keeps (s.answerWaits k) :=
  .foldl (.with_gaugeWaits (.foldl h (fun ht => ht.answerAsk))) (fun ht => ht.deliver)

theorem State.Keeps.loseFetch {x : Src} {c : Cell} (h : s₀.Keeps s) : s₀.Keeps (s.loseFetch x c) := .ite h h.setCtxAt

theorem State.Keeps.dropWithKernel {k : Nat} (h : s₀.Keeps s) : s₀.Keeps (s.dropWithKernel k).1 := by
  unfold State.dropWithKernel
  dsimp only
  exact .forCtxs (.foldl (.dropFlights (.foldl h fun ht => by split; exacts [ht.loseFetch, ht])) fun ht => ht.bump) fun ht => ht.faultCtx

theorem State.Keeps.drainSeams {k : Nat} (h : s₀.Keeps s) : s₀.Keeps (s.drainSeams k).1 := by
  unfold State.drainSeams
  dsimp only
  exact .foldl (.foldl (.repin (.foldl h.dropWithKernel fun ht => by split; exacts [.ite ht.seamTo.seamCredits ht, ht])) fun ht => ht.loseReach)
    fun ht => .ite ht ht.bump

theorem State.Keeps.dropThrough {k : Nat} (h : s₀.Keeps s) : s₀.Keeps (s.dropThrough k) := by
  unfold State.dropThrough
  exact .forCtxs (.dropFetched (.foldl (.forCtxs (.foldl h (fun ht => .releaseFar (.dropWaits (.dropRemotes (.gaugePortLost (.ite ht.degradePly
      ht)))))) (fun ht => ht.gaugeTunLost.loseTun)) (fun ht => ht.dropRoute))) (fun ht => ht.releaseRows)

theorem State.Keeps.kernelReset {k st : Nat} (h : s₀.Keeps s) : s₀.Keeps (s.kernelReset k st) := h.clearKernel.setRf.setReg

theorem State.Keeps.faultSteps {k cause n : Nat} (h : s₀.Keeps s) : s₀.Keeps (s.faultSteps k cause n) :=
  h.setRf.answerWaits.abortJobs.logTo.jobStep.drainSeams.jobStep.dropThrough.jobStep.breakLocks.mapJob

theorem State.Keeps.faultReset {k n : Nat} (h : s₀.Keeps s) : s₀.Keeps (s.faultReset k n) :=
  .ite h.jobStep.kernelReset.logTo.endJob h.jobStep.kernelReset.setPart

theorem State.Keeps.declareFault {k cause : Nat} (h : s₀.Keeps s) : s₀.Keeps (s.declareFault k cause) := by
  unfold State.declareFault
  exact .faultReset (.faultSteps (.addJob (.ite h.passLead h)))

theorem State.Keeps.commandReset {k : Nat} (h : s₀.Keeps s) : s₀.Keeps (s.commandReset k) :=
  .ite h.partReset (.kernelReset (.dropThrough (.drainSeams (.abortJobs (.answerWaits (.setRf (.ite h.passLead h)))))))

/-! ### What `Machine/PartCmds` changes -/

theorem State.Keeps.setKernels {st : Nat} (h : s₀.Keeps s) : s₀.Keeps (s.setKernels st) := .foldl h (fun ht => ht.setRf)

theorem State.Keeps.quietKernel {mask k : Nat} (h : s₀.Keeps s) : s₀.Keeps (s.quietKernel mask k) :=
  .setKern (.setDomain (.setDomain (.setDomain (.domainOff (.foldl (.foldl h (fun ht => ht.domainOff)) (fun ht => ht.setReg))))))

theorem State.Keeps.enterQuiet {mask m : Nat} (h : s₀.Keeps s) : s₀.Keeps (s.enterQuiet mask m) :=
  .log (.setPart (.setRf (.setKernels (.foldl h (fun ht => ht.quietKernel)))))

theorem State.Keeps.wakeKernel {k : Nat} (h : s₀.Keeps s) : s₀.Keeps (s.wakeKernel k) :=
  .foldl (.foldl (.foldl (.applyBoard (.setDomain (.foldl h.setRegs (fun ht => ht.setDomain)))) (fun ht => .ite (.ite ht.setDomain
      ht.setDomain.applyBoard) (.ite ht.domainOff ht))) (fun ht => .ite ht ht.resetTokens)) (fun ht => .ite ht ht.latClear)

theorem State.Keeps.flushQuiet {k : Nat} (h : s₀.Keeps s) : s₀.Keeps (s.flushQuiet k) := .ite h.setQuiet h.setQuiet.log

theorem State.Keeps.leaveQuiet {src m : Nat} (h : s₀.Keeps s) : s₀.Keeps (s.leaveQuiet src m) :=
  .foldl (.foldl (.log (.setPart (.foldl (.setReg (.setKernels (.setRf (.foldl h (fun ht => ht.wakeKernel))))) (fun ht => ht.trainSeams)))) (fun
      ht => ht.flushQuiet.pcieSync.usbSync)) (fun ht => ht.autoCast)

theorem State.Keeps.askKept {n mask : Nat} (h : s₀.Keeps s) : s₀.Keeps (s.askKept n mask) := by
  unfold State.askKept
  dsimp only
  split
  · exact h.endJob
  · exact .quietStep (.foldl h (fun ht1 => .ite ht1 ht1.askHusk))

theorem State.Keeps.startSeed {m : Nat} (h : s₀.Keeps s) : s₀.Keeps (s.startSeed m) :=
  .seedStep (.endAttach (.endAttach (.foldl (.ite h.leaveQuiet h) (fun ht => ht.bindOff))))

theorem State.Keeps.cmdSysStateSet {r : Req} {u : Nat} (h : s₀.Keeps s) : s₀.Keeps (cmdSysStateSet.act r u s).state := by
  dsimp only [Machine.cmdSysStateSet]
  split
  · exact h.checked h.startJob.leaveQuiet.endJob.accepted
  · exact .checked h (.accepted (.askKept (.setPart (.foldl h.startJob (fun ht1 => ht1.setReg)))))
  · exact h.checked h.startJob.startSeed.accepted

theorem State.Yields.execQuietDrainEnd (h : s₀.Keeps s) : s₀.Yields (execQuietDrainEnd s) :=
  .next (by split; exacts [.ite (.ite h.quietBoundary h.jobStep.enterQuiet.nextStep) h, h])

theorem State.Keeps.wakePart {src : Nat} (h : s₀.Keeps s) : s₀.Keeps (s.wakePart src) := .ite h.leaveQuiet (.ite h.setPart h)

theorem State.Yields.execQuietWake {k src : Nat} (h : s₀.Keeps s) : s₀.Yields (execQuietWake k src s) := .onUnit h (.ite h.wakePart h)

theorem State.Yields.execHuskAck {k p : Nat} (h : s₀.Keeps s) : s₀.Yields (execHuskAck k p s) := .onMsg h (fun ht => .ite ht.enterHusk ht.violation)

theorem State.Yields.execHuskNak {k p code : Nat} (h : s₀.Keeps s) : s₀.Yields (execHuskNak k p code s) :=
  .onMsg h (fun ht => .ite (by dsimp only; split; exacts [.ite ht.setPort.endJob ht.setPort, ht.setPort]) ht.violation)

theorem State.Yields.execHuskExit {k : Nat} {wake : HuskWake} (h : s₀.Keeps s) : s₀.Yields (execHuskExit k wake s) := .onPort h h.wakePart.leaveHusk

theorem State.Keeps.enterSeed (h : s₀.Keeps s) : s₀.Keeps (s.enterSeed) :=
  .with_hooksDown_part (.partReset (.bumpSat (.setRf (.setRegs (.ite h h.loadGateOff)))))

theorem State.Yields.execSeedDelayExpiry (h : s₀.Keeps s) : s₀.Yields (execSeedDelayExpiry s) := .next (.ite h.enterSeed h)

theorem State.Yields.execSeedWake {sources : Nat} (h : s₀.Keeps s) : s₀.Yields (execSeedWake sources s) :=
  .next (.ite h (.ite h.setPart.setRf.log (.ite (.tryRamp (.foldl h.setPart.setReg (fun ht => ht.evalFeed))) h)))

theorem State.Yields.execPowerOn (h : s₀.Keeps s) : s₀.Yields (execPowerOn s) :=
  .next (.ite h (.tryRamp (.foldl h.setPart.reloadPowerPath.setSwEn (fun ht => ht.evalFeed))))

theorem State.Yields.execVaonFall (h : s₀.Keeps s) : s₀.Yields (execVaonFall s) := .next (.ite h h.partReset.powerDieReset.with_taiOff_part)

theorem State.Yields.execSysPwrokRise (h : s₀.Keeps s) : s₀.Yields (execSysPwrokRise s) := .next (.ite h.setRb h)

theorem State.Yields.execSysPwrokFall (h : s₀.Keeps s) : s₀.Yields (execSysPwrokFall s) := .next (.ite h.partReset.setRb h)

theorem State.Yields.execResetNLow (h : s₀.Keeps s) : s₀.Yields (execResetNLow s) := .next (.ite h h.reloadPowerPath.partReset.setRb)

theorem State.Yields.execLeadLost (h : s₀.Keeps s) : s₀.Yields (execLeadLost s) := .next (.ite h h.partReset)

theorem State.Keeps.release {k attempts : Nat} {rootOk goodA goodB bootSlot : Bool} (h : s₀.Keeps s) : s₀.Keeps (s.release k attempts rootOk
    goodA goodB bootSlot) :=
  .ite (.ite (.viaUpNow (.setRf (.setPart (.ite_fst (.romStart (.ite h.setRb.setRb h.setRb.setRb.setReg.setRf)) (.ite_fst (.romStart (.ite
      h.setRb.setRb h.setRb.setRb.setReg.setRf)) (.chooseSlot (.romStart (.ite h.setRb.setRb h.setRb.setRb.setReg.setRf)))))))) (.startKernel
      (.ite (.ite_fst (.romStart (.ite h.setRb.setRb h.setRb.setRb.setReg.setRf)) (.ite_fst (.romStart (.ite h.setRb.setRb
      h.setRb.setRb.setReg.setRf)) (.chooseSlot (.romStart (.ite h.setRb.setRb h.setRb.setRb.setReg.setRf))))) (.swapBoard (.ite_fst (.romStart
      (.ite h.setRb.setRb h.setRb.setRb.setReg.setRf)) (.ite_fst (.romStart (.ite h.setRb.setRb h.setRb.setRb.setReg.setRf)) (.chooseSlot
      (.romStart (.ite h.setRb.setRb h.setRb.setRb.setReg.setRf))))))))) (.startKernel (.repairCopy (.ite h.setRb.setRb
      h.setRb.setRb.setReg.setRf)))

theorem State.Yields.execKernelRelease {k attempts : Nat} {rootOk goodA goodB bootSlot : Bool} (h : s₀.Keeps s) : s₀.Yields (execKernelRelease k
    attempts rootOk goodA goodB bootSlot s) :=
  .onUnit h (.ite h.release h)

theorem State.Yields.execDomainPowerUp {k d : Nat} (h : s₀.Keeps s) : s₀.Yields (execDomainPowerUp k d s) :=
  .onUnit h (.ite (.ite (.foldl h.setDomain.applyBoard (fun ht => ht.autoCast)) (.ite h.setDomain.applyBoard.pcieSync (.ite
      h.setDomain.applyBoard.usbSync (.ite (.foldl h.setDomain.applyBoard (fun ht => ht.startAuth)) h.setDomain.applyBoard)))) h)

theorem State.Keeps.resetUnit {k a n : Nat} (h : s₀.Keeps s) : s₀.Keeps (s.resetUnit k a n) := h.resetRange.setRegs

theorem State.Keeps.unitClose {k a : Nat} (h : s₀.Keeps s) : s₀.Keeps (s.unitClose k a) := by
  unfold State.unitClose
  split
  · exact h
  · split
    · exact h.gaugeTunLost.adapterDrain.sendCloseReq.moveCtx.closeProgress
    · exact h
    · exact h.endCtxJob.closeCtx

theorem State.Keeps.resetPort {k p : Nat} (h : s₀.Keeps s) : s₀.Keeps (s.resetPort k p) :=
  .autoCast (.setRb (.setRb (.setPort (.resetUnit (by split; exacts [h.setPortState.endPortJob, h.portLost])))))

theorem State.Keeps.resetDin {k i : Nat} (h : s₀.Keeps s) : s₀.Keeps (s.resetDin k i) := h.unitClose.setDin.resetUnit.resetUnit

theorem State.Keeps.resetDout {k o : Nat} (h : s₀.Keeps s) : s₀.Keeps (s.resetDout k o) := h.unitClose.setDout.resetUnit.resetUnit

theorem State.Keeps.resetPcie {k : Nat} (h : s₀.Keeps s) : s₀.Keeps (s.resetPcie k) := by
  unfold State.resetPcie
  exact h.pathLost.unitClose.resetUnit.resetUnit.setBridge.dropX.pcieSync

theorem State.Keeps.resetUsb {k : Nat} (h : s₀.Keeps s) : s₀.Keeps (s.resetUsb k) := h.upstreamReset.unitClose.resetUnit.resetUnit.setRegs

theorem State.Keeps.resetEth {k e : Nat} (h : s₀.Keeps s) : s₀.Keeps (s.resetEth k e) :=
  .ite h.unitClose.ethDown.setEth.resetUnit.setRb.unitClose.ethDown.setEth.resetUnit.setRb.setReg h.unitClose.ethDown.setEth.resetUnit.setRb

theorem State.Keeps.resetMapper {k : Nat} (h : s₀.Keeps s) : s₀.Keeps (s.resetMapper k) :=
  .setReg (.resetUnit (.setMapper (.foldl h (fun ht => ht.setRf))))

theorem State.Keeps.resetCheck {k u : Nat} (h : s₀.Keeps s) : s₀.Keeps (s.resetCheck k u) := .resetUnit (by split; exacts [h.endJob, h])

theorem State.Keeps.unitReset {k code : Nat} (h : s₀.Keeps s) : s₀.Keeps (s.unitReset k code) :=
  .ite h.stopHook (.ite h.setReg.resetPort (.ite h.setReg.resetDin (.ite (.ite h.setReg.resetDout.resetDout h.setReg.resetDout) (.ite
      h.setReg.resetPcie (.ite h.setReg.resetUsb (.ite h.setReg.resetEth (.ite h.setReg.resetMapper h.setReg.resetCheck)))))))

theorem State.Keeps.doReset {scope k unit : Nat} (h : s₀.Keeps s) : s₀.Keeps (s.doReset scope k unit) := by
  unfold State.doReset
  split
  · exact h.partReset
  · exact .ite h.commandReset h
  · exact .ite h.unitReset h

theorem State.Keeps.dueResets (h : s₀.Keeps s) : s₀.Keeps (s.dueResets) := .foldl h.setPart (fun ht => ht.doReset)

theorem State.Keeps.cmdSysReset {r : Req} {u : Nat} (h : s₀.Keeps s) : s₀.Keeps (cmdSysReset.act r u s).state := h.checked h.setPart.ok

theorem State.Yields.execSysReset {r : Req} (h : s₀.Keeps s) : s₀.Yields (execSysReset r s) := by
  obtain ⟨t, e, ht⟩ := State.Yields.onCommand (r := r) h h.cmdSysReset
  unfold Machine.execSysReset
  rw [e]
  exact .next ht.dueResets

theorem State.Keeps.cmdKernelRecover {r : Req} {u : Nat} (h : s₀.Keeps s) : s₀.Keeps (cmdKernelRecover.act r u s).state :=
  .checked h (.ite_state (.accepted (.faultReset (.setPart (.startJob (.ite h.passLead h))))) (.accepted (.faultReset (.faultSteps (.startJob
      (.ite h.passLead h))))))

theorem State.Yields.execWatchdogExpiry {k : Nat} (h : s₀.Keeps s) : s₀.Yields (execWatchdogExpiry k s) :=
  .onUnit h (.ite (.ite h.bump.logTo.declareFault h.bump.logTo.setRf) h)

theorem State.Yields.execHeartbeatTimeout {k : Nat} (h : s₀.Keeps s) : s₀.Yields (execHeartbeatTimeout k s) := .onUnit h (.ite h.declareFault h)

theorem State.Yields.execInternalFault {k : Nat} (h : s₀.Keeps s) : s₀.Yields (execInternalFault k s) := .onUnit h (.ite h.declareFault h)

theorem State.Yields.execLeadTakeover (h : s₀.Keeps s) : s₀.Yields (execLeadTakeover s) := .next (.ite h.declareFault h)

theorem State.Yields.execKernelRejoin {k : Nat} {good : Bool} (h : s₀.Keeps s) : s₀.Yields (execKernelRejoin k good s) :=
  .onUnit h (.ite (.ite h.log (by
    dsimp only
    split
    · exact .endJob (.logTo (.startKernel (.ite h h.repairCopy)))
    · exact .startKernel (.ite h h.repairCopy))) h)

theorem State.Yields.execRejoinTimeout {k : Nat} (h : s₀.Keeps s) : s₀.Yields (execRejoinTimeout k s) :=
  .onUnit h (.ite (by split; exacts [h.endJob.declareFault, h.declareFault]) h)

theorem State.Keeps.abortJob {j : Job} (h : s₀.Keeps s) : s₀.Keeps (s.abortJob j) := .ite h (.ite h.endJob.closeCtx h.mapJob)

theorem State.Keeps.cmdJobAbort {r : Req} {u : Nat} (h : s₀.Keeps s) : s₀.Keeps (cmdJobAbort.act r u s).state := by
  dsimp only [Machine.cmdJobAbort]
  split
  · exact h.fail
  · exact h.checked h.abortJob.ok

/-! ### What `Machine/Transports` changes -/

theorem State.Keeps.runUnknown {opcode : Nat} {r : Req} (h : s₀.Keeps s) : s₀.Keeps (runUnknown opcode r s) := by
  unfold Machine.runUnknown
  dsimp only
  split
  · exact h.countReject.deliver
  · exact h.refuse
  · exact .ite (by split; exacts [h.refuse, h.forward]) h.refuse

/-- The effect of every command of the opcode index. -/
theorem State.Keeps.command {r : Req} {u : Nat} (h : s₀.Keeps s) : ∀ c ∈ commands, s₀.Keeps (c.act r u s).state := by
  rw [← List.forall_iff_forall_mem]
  exact ⟨h.cmdSysInfo, h.cmdSysStateSet, h.cmdSysReset, h.cmdGetReply, h.cmdEventSubscribe, h.cmdJobStatus, h.cmdJobAbort, h.cmdNop,
    h.cmdKernelRecover, h.cmdPortInfo, h.cmdPortCastOn, h.cmdPortBindOff, h.cmdPortPowerState, h.cmdPortEqSelect, h.cmdPortAlignMode,
    h.cmdPortBitSlip, h.cmdPortPrbs, h.cmdPlyForm, h.cmdPlySplit, h.cmdRoleSwapRequest, h.cmdTunOpen, h.cmdTunClose, h.cmdTunInfo,
    h.cmdTunModify, h.cmdTunRelease, h.cmdResumeWindowSet, h.cmdRawRouteSet, h.cmdRowTableRead, h.cmdRowShadowWrite, h.cmdRowSwap, h.cmdRegauge,
    h.cmdRegaugeRollback, h.cmdGaugeCeilingSet, h.cmdRawRouteRead, h.cmdSkeinCarve, h.cmdSkeinInfo, h.cmdQueueThresholdSet, h.cmdSchedNodeSet,
    h.cmdShaperSet, h.cmdMcastListSet, h.cmdLatSampleSet, h.cmdLatSampleRead, h.cmdDinConfig, h.cmdEdidProxySet, h.cmdPurlModeSet,
    h.cmdExactRegionSet, h.cmdDamageConfig, h.cmdPurlFrameReport, h.cmdDoutTimingStage, h.cmdDoutPairSet, h.cmdFrameLockSet, h.cmdPsrConfig,
    h.cmdTestPattern, h.cmdDoutStatus, h.cmdPcieConfig, h.cmdPcieWindow, h.cmdPcieStatus, h.cmdPcieReadaheadLog, h.cmdUsbConfig,
    h.cmdUsbEpLayout, h.cmdUsbPortPower, h.cmdUsbStatus, h.cmdEthConfig, h.cmdPrpPairSet, h.cmdEthStatus, h.cmdTimeSourceList, h.cmdTimeRead,
    h.cmdTimeSet, h.cmdPtpConfig, h.cmdAsymmetrySet, h.cmdLogRead, h.cmdBlackboxRead, h.cmdBlackboxClear, h.cmdSmapSignalSet,
    h.cmdSmapSignalRead, h.cmdGooseSubscribe, h.cmdGoosePublishSet, h.cmdHidSnoopSet, h.cmdCheckUnitSet, h.cmdCheckScan, h.cmdSealSet,
    h.cmdPwrFeedStatus, h.cmdPwrLoadEnable, h.cmdPwrLoadDisable, h.cmdPwrBreakerSet, h.cmdPwrWarnSet, h.cmdPwrMeterRead, h.cmdPwrEnergyClear,
    h.cmdPdStatus, h.cmdPdRolePrefSet, h.cmdPdSourceCapsSet, h.cmdPdSinkRequest, h.cmdPdFrsSet, h.cmdHookPolicyUpdate, h.cmdCableIdRead,
    h.cmdKeySlotInfo, h.cmdKeyDerive, h.cmdKeyErase, h.cmdKeyAttrSet, h.cmdLifecycleAdvance, h.cmdLinkAuthPolicy, h.cmdFwInfo,
    h.cmdFwWriteBegin, h.cmdFwWriteData, h.cmdFwWriteCommit, h.cmdFwSlotSelect, h.cmdBoardTableLoad, h.cmdMboxWrite, h.cmdMboxRead,
    h.cmdDoorbellRing, h.cmdLockAcquire, h.cmdLockRelease, h.cmdLockBreak, h.cmdLockStatus, h.cmdDiagCountersRead, h.cmdDiagLoopback,
    h.cmdDiagSensors, h.cmdDiagSeamTest, h.cmdDiagStoreTest, h.cmdRegRead, h.cmdRegWrite, h.cmdRegModify⟩

theorem State.Keeps.runRequest {q : Nat × Req} (h : s₀.Keeps s) : s₀.Keeps (runRequest q s) := by
  unfold Machine.runRequest
  split
  · next e => exact h.runCmd (h.command _ (List.mem_of_find?_eq_some e))
  · exact h.runUnknown

theorem State.Keeps.spiTransaction {rest : List Byte} (h : s₀.Keeps s) : s₀.Keeps (s.spiTransaction rest) := h.with_spi

theorem State.Keeps.setFrameErr {b : Bool} (h : s₀.Keeps s) : s₀.Keeps (s.setFrameErr b) := h.with_spi

theorem State.Yields.execSpiWritePacket {bytes : List Byte} (h : s₀.Keeps s) : s₀.Yields (execSpiWritePacket bytes s) :=
  .next (.ite (.ite h.spiTransaction.setFrameErr h.spiTransaction) (.ite h.spiTransaction.setFrameErr h.spiTransaction.runRequest.dueResets))

theorem State.Yields.execSpiReadPacket {clocked : Nat} (h : s₀.Keeps s) : s₀.Yields (execSpiReadPacket clocked s) := by
  unfold Machine.execSpiReadPacket
  split
  · exact .next h.spiTransaction
  · exact .next (.ite h.spiTransaction.setEp (.ite h.spiTransaction.setEp.keep.dueResets h.spiTransaction.setEp))

theorem State.Yields.execSpiReadStatus (h : s₀.Keeps s) : s₀.Yields (execSpiReadStatus s) := .next h.spiTransaction.setFrameErr

theorem State.Yields.execSpiBadInstruction {instruction : Byte} (h : s₀.Keeps s) : s₀.Yields (execSpiBadInstruction instruction s) :=
  .next (.ite h h.spiTransaction.setFrameErr)

theorem State.Yields.execUsbCommandTransfer {k : Nat} {bytes : List Byte} (h : s₀.Keeps s) : s₀.Yields (execUsbCommandTransfer k bytes s) :=
  .onUnit h (.ite h.bump.runRequest.dueResets h)

theorem State.Keeps.postSlot {k slot : Nat} (h : s₀.Keeps s) : s₀.Keeps (s.postSlot k slot) := .ite h.log h.setPcieFn.runRequest.dueResets

theorem State.Yields.execCmdPost {k slot : Nat} {bytes : List Byte} (h : s₀.Keeps s) : s₀.Yields (execCmdPost k slot bytes s) :=
  .onUnit h (.ite h.setPcieFn.postSlot h)

theorem State.Keeps.freeSlots {k m : Nat} (h : s₀.Keeps s) : s₀.Keeps (s.freeSlots k m) := h.setPcieFn

theorem State.Yields.execRspReadyWrite {k : Nat} {w : Word} (h : s₀.Keeps s) : s₀.Yields (execRspReadyWrite k w s) := .onUnit h (.ite h.freeSlots h)

theorem State.Keeps.setEvTail {k n : Nat} (h : s₀.Keeps s) : s₀.Keeps (s.setEvTail k n) := h.setPcieFn

theorem State.Yields.execEvtTailWrite {k : Nat} {w : Word} (h : s₀.Keeps s) : s₀.Yields (execEvtTailWrite k w s) := .onUnit h (.ite h.setEvTail h)

theorem State.Yields.execRemoteRequestRx {k p : Nat} {bytes : List Byte} (h : s₀.Keeps s) : s₀.Yields (execRemoteRequestRx k p bytes s) :=
  .onMsg h (fun ht => .ite ht.violation (.ite ht ht.runRequest.dueResets))

theorem State.Yields.execRemoteReplyRx {k p : Nat} {pk : Packet} (h : s₀.Keeps s) : s₀.Yields (execRemoteReplyRx k p pk s) :=
  .onMsg h (fun ht => by
    split
    · dsimp only
      split
      · exact ht.freeRemote.farGaugeReply
      · exact ht.freeRemote.gaugeWaitReply
      · exact ht.freeRemote.deliver
    · split
      · exact ht.log
      · exact ht.violation)

theorem State.Yields.execRemoteTimeout {k p linkTag : Nat} (h : s₀.Keeps s) : s₀.Yields (execRemoteTimeout k p linkTag s) :=
  .onPort h (by
    split
    · exact h
    · dsimp only
      split
      · exact h.timeoutRemote.farUnreached.stopGauge
      · split
        · exact h.timeoutRemote.endGaugeWait
        · exact h.timeoutRemote
      · exact h.timeoutRemote)

/-! ### What `Machine/HostTlp` changes -/

theorem State.Keeps.cfgRead {k fn w : Nat} (h : s₀.Keeps s) : s₀.Keeps (s.cfgRead k fn w).2 :=
  .ite_snd h (.ite_snd h (.ite_snd h.fresh (.ite_snd h (.ite_snd h.fresh (.ite_snd h (.ite_snd h h.fresh))))))

theorem State.Keeps.secondaryReset {k : Nat} (h : s₀.Keeps s) : s₀.Keeps (s.secondaryReset k) := .ite h.pathLost.emit.flush h.pathLost.setBridge

theorem State.Keeps.cfgWrite {k fn w : Nat} {v m : Word} (h : s₀.Keeps s) : s₀.Keeps (s.cfgWrite k fn w v m) :=
  .ite h.setBridge.secondaryReset (.ite h.setBridge.emit.flush (.ite h.setBridge.emit.flush (.ite h.setBridge.setBridge (.ite
      h.setBridge.setBridge h.setBridge))))

theorem State.Keeps.cfgAnswer {k fn : Nat} {b : List Byte} (h : s₀.Keeps s) : s₀.Keeps (s.cfgAnswer k fn b) :=
  .ite (.xSend (.cfgWrite (.ite h.setBridge h))) h.cfgRead.xSend

theorem State.Keeps.answerUr {k : Nat} {b : List Byte} (h : s₀.Keeps s) : s₀.Keeps (s.answerUr k b) := .ite h.synth h

theorem State.Keeps.toFar {k : Nat} {b : List Byte} (h : s₀.Keeps s) : s₀.Keeps (s.toFar k b) := h.setBridge.pumpAll

theorem State.Keeps.hostDown {k : Nat} {b : List Byte} (h : s₀.Keeps s) : s₀.Keeps (s.hostDown k b) :=
  .ite h.answerUr (.ite h.hostRead.flush (.ite h.raOverlap.toFar h.toFar))

theorem State.Keeps.windowRead {k o n : Nat} (h : s₀.Keeps s) : s₀.Keeps (s.windowRead k o n).2 := .ite h.setPcieFn h

theorem State.Keeps.windowWrite {k o be : Nat} {w : Word} (h : s₀.Keeps s) : s₀.Keeps (s.windowWrite k o be w) :=
  .ite (.foldl h (fun ht => .ite ht.setPcieFn ht)) (.ite h.postSlot (.ite h.freeSlots (.ite h.setEvTail h)))

theorem State.Keeps.barAccess {k o : Nat} {b : List Byte} (h : s₀.Keeps s) : s₀.Keeps (s.barAccess k o b) :=
  .ite h.answerUr (.ite (.foldl h (fun ht => ht.windowWrite)) (.foldl h.windowRead (fun ht => ht.xSend)))

theorem State.Keeps.hostConfig {k : Nat} {b : List Byte} (h : s₀.Keeps s) : s₀.Keeps (s.hostConfig k b) :=
  .ite (.ite h.cfgAnswer h.answerUr) (.ite (.ite h.cfgAnswer h.answerUr) (.ite h.hostDown h.answerUr))

theorem State.Keeps.hostMessage {k : Nat} {b : List Byte} (h : s₀.Keeps s) : s₀.Keeps (s.hostMessage k b) := .ite h.hostDown (.ite h.setBridge h)

theorem State.Keeps.fromHost {k : Nat} {b : List Byte} (h : s₀.Keeps s) : s₀.Keeps (s.fromHost k b) :=
  .ite (.ite h.toFar h.bump) (.ite h.hostConfig (.ite h.hostMessage (.ite h.setBridge.bump.synth
      (by split; exacts [h.barAccess, .ite h.hostDown h.answerUr]))))

theorem State.Keeps.fromDevice {k : Nat} {b : List Byte} (h : s₀.Keeps s) : s₀.Keeps (s.fromDevice k b) :=
  .ite h.bump.synth (.ite h.toFar (by split; exacts [h.synth, h.bump, h.bump]))

theorem State.Keeps.hostLinkUp {k : Nat} (h : s₀.Keeps s) : s₀.Keeps (s.hostLinkUp k) :=
  .ite (.ite h.fresh.setRf.setRf.setRf h.fresh.setRf.setRf.setRf.viaUpNow) h

theorem State.Yields.execHostTlp {k : Nat} {bytes : List Byte} (h : s₀.Keeps s) : s₀.Yields (execHostTlp k bytes s) :=
  .onUnit h (.ite h (.ite h.hostLinkUp.fromHost (.ite h.fromDevice h)))

/-! ### What `Machine/Step` changes -/

/-- Time passes in an empty queue. -/
theorem State.Keeps.idle (h : s₀.Keeps s) : s₀.Keeps (idle s) :=
  .dueResets (h.trans ⟨fun c => { c with }, rfl, rfl, Nat.le_succ _, le_rfl⟩)

theorem State.Yields.exec (i : Instr) (h : s₀.Keeps s) : s₀.Yields (exec i s) := by
  cases i with
  | spiWritePacket _ => exact .execSpiWritePacket h
  | spiReadPacket _ => exact .execSpiReadPacket h
  | spiReadStatus => exact .execSpiReadStatus h
  | spiBadInstruction _ => exact .execSpiBadInstruction h
  | usbCommandTransfer _ _ => exact .execUsbCommandTransfer h
  | cmdPost _ _ _ => exact .execCmdPost h
  | rspReadyWrite _ _ => exact .execRspReadyWrite h
  | evtTailWrite _ _ => exact .execEvtTailWrite h
  | sysInfo _ => exact .onCommand h h.cmdSysInfo
  | sysStateSet _ => exact .onCommand h h.cmdSysStateSet
  | sysReset _ => exact .execSysReset h
  | getReply _ => exact .onCommand h h.cmdGetReply
  | eventSubscribe _ => exact .onCommand h h.cmdEventSubscribe
  | jobStatus _ => exact .onCommand h h.cmdJobStatus
  | jobAbort _ => exact .onCommand h h.cmdJobAbort
  | nop _ => exact .onCommand h h.cmdNop
  | kernelRecover _ => exact .onCommand h h.cmdKernelRecover
  | portInfo _ => exact .onCommand h h.cmdPortInfo
  | portCastOn _ => exact .onCommand h h.cmdPortCastOn
  | portBindOff _ => exact .onCommand h h.cmdPortBindOff
  | portPowerState _ => exact .onCommand h h.cmdPortPowerState
  | portEqSelect _ => exact .onCommand h h.cmdPortEqSelect
  | portAlignMode _ => exact .onCommand h h.cmdPortAlignMode
  | portBitSlip _ => exact .onCommand h h.cmdPortBitSlip
  | portPrbs _ => exact .onCommand h h.cmdPortPrbs
  | plyForm _ => exact .onCommand h h.cmdPlyForm
  | plySplit _ => exact .onCommand h h.cmdPlySplit
  | roleSwapRequest _ => exact .onCommand h h.cmdRoleSwapRequest
  | tunOpen _ => exact .onCommand h h.cmdTunOpen
  | tunClose _ => exact .onCommand h h.cmdTunClose
  | tunInfo _ => exact .onCommand h h.cmdTunInfo
  | tunModify _ => exact .onCommand h h.cmdTunModify
  | tunRelease _ => exact .onCommand h h.cmdTunRelease
  | resumeWindowSet _ => exact .onCommand h h.cmdResumeWindowSet
  | rawRouteSet _ => exact .onCommand h h.cmdRawRouteSet
  | rowTableRead _ => exact .onCommand h h.cmdRowTableRead
  | rowShadowWrite _ => exact .onCommand h h.cmdRowShadowWrite
  | rowSwap _ => exact .onCommand h h.cmdRowSwap
  | regauge _ => exact .onCommand h h.cmdRegauge
  | regaugeRollback _ => exact .onCommand h h.cmdRegaugeRollback
  | gaugeCeilingSet _ => exact .onCommand h h.cmdGaugeCeilingSet
  | rawRouteRead _ => exact .onCommand h h.cmdRawRouteRead
  | skeinCarve _ => exact .onCommand h h.cmdSkeinCarve
  | skeinInfo _ => exact .onCommand h h.cmdSkeinInfo
  | queueThresholdSet _ => exact .onCommand h h.cmdQueueThresholdSet
  | schedNodeSet _ => exact .onCommand h h.cmdSchedNodeSet
  | shaperSet _ => exact .onCommand h h.cmdShaperSet
  | mcastListSet _ => exact .onCommand h h.cmdMcastListSet
  | latSampleSet _ => exact .onCommand h h.cmdLatSampleSet
  | latSampleRead _ => exact .onCommand h h.cmdLatSampleRead
  | dinConfig _ => exact .onCommand h h.cmdDinConfig
  | edidProxySet _ => exact .onCommand h h.cmdEdidProxySet
  | purlModeSet _ => exact .onCommand h h.cmdPurlModeSet
  | exactRegionSet _ => exact .onCommand h h.cmdExactRegionSet
  | damageConfig _ => exact .onCommand h h.cmdDamageConfig
  | purlFrameReport _ => exact .onCommand h h.cmdPurlFrameReport
  | doutTimingStage _ => exact .onCommand h h.cmdDoutTimingStage
  | doutPairSet _ => exact .onCommand h h.cmdDoutPairSet
  | frameLockSet _ => exact .onCommand h h.cmdFrameLockSet
  | psrConfig _ => exact .onCommand h h.cmdPsrConfig
  | testPattern _ => exact .onCommand h h.cmdTestPattern
  | doutStatus _ => exact .onCommand h h.cmdDoutStatus
  | pcieConfig _ => exact .onCommand h h.cmdPcieConfig
  | pcieWindow _ => exact .onCommand h h.cmdPcieWindow
  | pcieStatus _ => exact .onCommand h h.cmdPcieStatus
  | pcieReadaheadLog _ => exact .onCommand h h.cmdPcieReadaheadLog
  | usbConfig _ => exact .onCommand h h.cmdUsbConfig
  | usbEpLayout _ => exact .onCommand h h.cmdUsbEpLayout
  | usbPortPower _ => exact .onCommand h h.cmdUsbPortPower
  | usbStatus _ => exact .onCommand h h.cmdUsbStatus
  | ethConfig _ => exact .onCommand h h.cmdEthConfig
  | prpPairSet _ => exact .onCommand h h.cmdPrpPairSet
  | ethStatus _ => exact .onCommand h h.cmdEthStatus
  | timeSourceList _ => exact .onCommand h h.cmdTimeSourceList
  | timeRead _ => exact .onCommand h h.cmdTimeRead
  | timeSet _ => exact .onCommand h h.cmdTimeSet
  | ptpConfig _ => exact .onCommand h h.cmdPtpConfig
  | asymmetrySet _ => exact .onCommand h h.cmdAsymmetrySet
  | logRead _ => exact .onCommand h h.cmdLogRead
  | blackboxRead _ => exact .onCommand h h.cmdBlackboxRead
  | blackboxClear _ => exact .onCommand h h.cmdBlackboxClear
  | smapSignalSet _ => exact .onCommand h h.cmdSmapSignalSet
  | smapSignalRead _ => exact .onCommand h h.cmdSmapSignalRead
  | gooseSubscribe _ => exact .onCommand h h.cmdGooseSubscribe
  | goosePublishSet _ => exact .onCommand h h.cmdGoosePublishSet
  | hidSnoopSet _ => exact .onCommand h h.cmdHidSnoopSet
  | checkUnitSet _ => exact .onCommand h h.cmdCheckUnitSet
  | checkScan _ => exact .onCommand h h.cmdCheckScan
  | sealSet _ => exact .onCommand h h.cmdSealSet
  | pwrFeedStatus _ => exact .onCommand h h.cmdPwrFeedStatus
  | pwrLoadEnable _ => exact .onCommand h h.cmdPwrLoadEnable
  | pwrLoadDisable _ => exact .onCommand h h.cmdPwrLoadDisable
  | pwrBreakerSet _ => exact .onCommand h h.cmdPwrBreakerSet
  | pwrWarnSet _ => exact .onCommand h h.cmdPwrWarnSet
  | pwrMeterRead _ => exact .onCommand h h.cmdPwrMeterRead
  | pwrEnergyClear _ => exact .onCommand h h.cmdPwrEnergyClear
  | pdStatus _ => exact .onCommand h h.cmdPdStatus
  | pdRolePrefSet _ => exact .onCommand h h.cmdPdRolePrefSet
  | pdSourceCapsSet _ => exact .onCommand h h.cmdPdSourceCapsSet
  | pdSinkRequest _ => exact .onCommand h h.cmdPdSinkRequest
  | pdFrsSet _ => exact .onCommand h h.cmdPdFrsSet
  | hookPolicyUpdate _ => exact .onCommand h h.cmdHookPolicyUpdate
  | cableIdRead _ => exact .onCommand h h.cmdCableIdRead
  | keySlotInfo _ => exact .onCommand h h.cmdKeySlotInfo
  | keyDerive _ => exact .onCommand h h.cmdKeyDerive
  | keyErase _ => exact .onCommand h h.cmdKeyErase
  | keyAttrSet _ => exact .onCommand h h.cmdKeyAttrSet
  | lifecycleAdvance _ => exact .onCommand h h.cmdLifecycleAdvance
  | linkAuthPolicy _ => exact .onCommand h h.cmdLinkAuthPolicy
  | fwInfo _ => exact .onCommand h h.cmdFwInfo
  | fwWriteBegin _ => exact .onCommand h h.cmdFwWriteBegin
  | fwWriteData _ => exact .onCommand h h.cmdFwWriteData
  | fwWriteCommit _ => exact .onCommand h h.cmdFwWriteCommit
  | fwSlotSelect _ => exact .onCommand h h.cmdFwSlotSelect
  | boardTableLoad _ => exact .onCommand h h.cmdBoardTableLoad
  | mboxWrite _ => exact .onCommand h h.cmdMboxWrite
  | mboxRead _ => exact .onCommand h h.cmdMboxRead
  | doorbellRing _ => exact .onCommand h h.cmdDoorbellRing
  | lockAcquire _ => exact .onCommand h h.cmdLockAcquire
  | lockRelease _ => exact .onCommand h h.cmdLockRelease
  | lockBreak _ => exact .onCommand h h.cmdLockBreak
  | lockStatus _ => exact .onCommand h h.cmdLockStatus
  | diagCountersRead _ => exact .onCommand h h.cmdDiagCountersRead
  | diagLoopback _ => exact .onCommand h h.cmdDiagLoopback
  | diagSensors _ => exact .onCommand h h.cmdDiagSensors
  | diagSeamTest _ => exact .onCommand h h.cmdDiagSeamTest
  | diagStoreTest _ => exact .onCommand h h.cmdDiagStoreTest
  | regRead _ => exact .onCommand h h.cmdRegRead
  | regWrite _ => exact .onCommand h h.cmdRegWrite
  | regModify _ => exact .onCommand h h.cmdRegModify
  | mboxLockRead _ _ _ => exact .execMboxLockRead h
  | mboxLockWrite _ _ _ _ => exact .execMboxLockWrite h
  | mboxWord63Write _ _ _ _ => exact .execMboxWord63Write h
  | mboxWord63Read v _ _ => exact .execMboxWord63Read h (_via := v)
  | dbRingWrite v _ _ => exact .execDbRingWrite h (_via := v)
  | dbPendWrite v _ _ => exact .execDbPendWrite h (_via := v)
  | timeNowRead _ => exact .execTimeNowRead h
  | logWinRead _ => exact .execLogWinRead h
  | rcFieldRead _ => exact .execRcFieldRead h
  | latCtrlWrite v _ _ _ => exact .execLatCtrlWrite h (_via := v)
  | pciwCtrlWrite v _ _ _ => exact .execPciwCtrlWrite h (_via := v)
  | loadSwEnWrite v _ => exact .execLoadSwEnWrite h (_via := v)
  | mtrSnapWrite v _ => exact .execMtrSnapWrite h (_via := v)
  | registerWrite _ _ _ => exact .execRegisterWrite h
  | remoteRequestRx _ _ _ => exact .execRemoteRequestRx h
  | remoteReplyRx _ _ _ => exact .execRemoteReplyRx h
  | remoteTimeout _ _ _ => exact .execRemoteTimeout h
  | badControlPacket _ _ => exact .execBadControlPacket h
  | moduleAttach _ _ => exact .execModuleAttach h
  | moduleReady _ _ _ _ _ => exact .execModuleReady h
  | moduleDetach _ _ => exact .execModuleDetach h
  | typecAttach _ _ _ _ => exact .execTypecAttach h
  | typecDetach _ _ => exact .execTypecDetach h
  | alavinModeEnter _ _ => exact .execAlavinModeEnter h
  | ufpModeWaitExpiry _ => exact .execUfpModeWaitExpiry h
  | trainRx _ _ _ _ _ _ _ => exact .execTrainRx h
  | laneLockLoss _ _ _ => exact .execLaneLockLoss h
  | relockTimeout _ _ => exact .execRelockTimeout h
  | castOnStepTimeout _ _ => exact .execCastOnStepTimeout h
  | backoffExpiry _ _ => exact .execBackoffExpiry h
  | ident _ _ _ => exact .execIdent h
  | authHello _ _ _ => exact .execAuthHello h
  | authCert _ _ _ _ _ _ => exact .execAuthCert h
  | authSig _ _ _ => exact .execAuthSig h
  | authDone _ _ _ => exact .execAuthDone h
  | roleMsg _ _ _ => exact .execRoleMsg h
  | rateGo _ _ _ => exact .execRateGo h
  | prbsWindowEnd _ _ _ _ _ => exact .execPrbsWindowEnd h
  | rateResult _ _ _ => exact .execRateResult h
  | rowSync _ _ _ => exact .execRowSync h
  | rowMarkRx _ _ _ _ => exact .execRowMarkRx h
  | rowInfoRx _ _ _ _ _ _ _ _ _ => exact .execRowInfoRx h
  | shellIdleExpiry _ _ => exact .execShellIdleExpiry h
  | shellEnterRx _ _ => exact .execShellEnterRx h
  | shellExit _ _ => exact .execShellExit h
  | huskIdleExpiry _ _ => exact .execHuskIdleExpiry h
  | huskReq _ _ _ => exact .execHuskReq h
  | huskAck _ _ => exact .execHuskAck h
  | huskNak _ _ _ => exact .execHuskNak h
  | huskEnterRx _ _ => exact .execHuskEnterRx h
  | huskExit _ _ => exact .execHuskExit h
  | bindReq _ _ _ _ => exact .execBindReq h
  | bindAck _ _ => exact .execBindAck h
  | bindTimeout _ _ => exact .execBindTimeout h
  | bindDrainEnd _ _ => exact .execBindDrainEnd h
  | bindEndRx _ _ => exact .execBindEndRx h
  | plyReq _ _ _ _ => exact .execPlyReq h
  | plyNak _ _ _ => exact .execPlyNak h
  | roleSwap _ _ _ _ _ _ => exact .execRoleSwap h
  | roleSwapAck _ _ => exact .execRoleSwapAck h
  | roleSwapNak _ _ _ => exact .execRoleSwapNak h
  | roleFlip _ _ => exact .execRoleFlip h
  | roleSwapRetry _ _ => exact .execRoleSwapRetry h
  | roleSwapTimeout _ _ => exact .execRoleSwapTimeout h
  | openReq _ _ _ _ _ => exact .execOpenReq h
  | openAck _ _ _ _ _ => exact .execOpenAck h
  | openNak _ _ _ _ _ => exact .execOpenNak h
  | openTimeout _ _ => exact .execOpenTimeout h
  | prearrangedOpenResend _ _ => exact .execPrearrangedOpenResend h
  | closeReq _ _ _ _ _ => exact .execCloseReq h
  | closeDone _ _ _ _ => exact .execCloseDone h
  | closeDrainExpiry _ _ => exact .execCloseDrainExpiry h
  | credit _ _ _ => exact .execCredit h
  | replayTimeout _ _ _ _ => exact .execReplayTimeout h
  | epochAck _ _ _ => exact .execEpochAck h
  | regaugeStepTimeout _ => exact .execRegaugeStepTimeout h
  | resumeList _ _ _ => exact .execResumeList h
  | resumePairingTimeout _ _ => exact .execResumePairingTimeout h
  | resumeWindowExpiry _ _ => exact .execResumeWindowExpiry h
  | violationNotice _ _ _ _ _ => exact .execViolationNotice h
  | quarantine _ _ _ _ => exact .execQuarantine h
  | cellRx _ _ _ _ _ _ _ => exact .execCellRx h
  | packetHandover _ _ _ _ _ => exact .execPacketHandover h
  | stitchStart _ _ _ => exact .execStitchStart h
  | rowBoundary _ _ _ => exact .execRowBoundary h
  | fenceLift _ _ _ => exact .execFenceLift h
  | residueAgeExpiry _ _ _ => exact .execResidueAgeExpiry h
  | latSampleTick _ _ => exact .execLatSampleTick h
  | seamFailed _ _ => exact .execSeamFailed h
  | seamUp _ _ => exact .execSeamUp h
  | seamTestEnd _ _ _ _ => exact .execSeamTestEnd h
  | storeTestStep _ _ _ => exact .execStoreTestStep h
  | scanStep _ => exact .execScanStep h
  | dinTraining _ _ _ => exact .execDinTraining h
  | dinSignalLost _ _ _ => exact .execDinSignalLost h
  | inputFrameStart _ _ _ => exact .execInputFrameStart h
  | hpdPulseEnd _ _ => exact .execHpdPulseEnd h
  | sinkEdid _ _ => exact .execSinkEdid h
  | refresh _ _ => exact .execRefresh h
  | sinkStatus _ _ => exact .execSinkStatus h
  | frameStart _ _ => exact .execFrameStart h
  | tileRow _ _ => exact .execTileRow h
  | frameEnd _ _ => exact .execFrameEnd h
  | frameAbort _ _ => exact .execFrameAbort h
  | recordScanDone _ _ => exact .execRecordScanDone h
  | frameBoundary _ _ => exact .execFrameBoundary h
  | underrun _ _ _ => exact .execUnderrun h
  | recordCheckFail _ _ _ _ => exact .execRecordCheckFail h
  | panelHpdRise _ _ _ _ _ => exact .execPanelHpdRise h
  | panelHpdFall _ _ => exact .execPanelHpdFall h
  | irqHpd _ _ => exact .execIrqHpd h
  | doutTrainFail _ _ => exact .execDoutTrainFail h
  | doutRetryTimer _ _ => exact .execDoutRetryTimer h
  | hostTlp _ _ => exact .execHostTlp h
  | tlpP _ => exact .execTlpP h
  | tlpNp _ _ => exact .execTlpNp h
  | tlpCpl _ => exact .execTlpCpl h
  | bridgeCredit _ => exact .execBridgeCredit h
  | linkState _ => exact .execLinkState h
  | linkCtrl _ => exact .execLinkCtrl h
  | pcieWake _ _ => exact .execPcieWake h
  | cplTimeout _ _ _ => exact .execCplTimeout h
  | readAheadAge _ _ => exact .execReadAheadAge h
  | pxPerstLow _ => exact .execPxPerstLow h
  | hostHotReset _ _ => exact .execHostHotReset h
  | dockLinkDown _ _ => exact .execDockLinkDown h
  | setupToken _ _ _ => exact .execSetupToken h
  | inToken _ _ _ => exact .execInToken h
  | outToken _ _ _ _ => exact .execOutToken h
  | pingToken _ _ => exact .execPingToken h
  | hubClassRequest _ _ => exact .execHubClassRequest h
  | upstreamBusReset _ _ _ _ => exact .execUpstreamBusReset h
  | upstreamIdleSuspend _ => exact .execUpstreamIdleSuspend h
  | hostResume _ _ => exact .execHostResume h
  | deviceRemoteWake _ _ => exact .execDeviceRemoteWake h
  | babble _ _ => exact .execBabble h
  | usbOverCurrent _ _ => exact .execUsbOverCurrent h
  | deviceTransactionDone _ _ _ _ _ _ _ _ => exact .execDeviceTransactionDone h
  | endpointIdleExpiry _ _ _ _ => exact .execEndpointIdleExpiry h
  | portResetEnd _ _ _ _ => exact .execPortResetEnd h
  | setupPacket _ => exact .execSetupPacket h
  | fetch _ => exact .execFetch h
  | inResult _ _ => exact .execInResult h
  | outPacket _ => exact .execOutPacket h
  | outResult _ => exact .execOutResult h
  | creditReq _ => exact .execCreditReq h
  | isoOut _ => exact .execIsoOut h
  | isoIn _ => exact .execIsoIn h
  | sofPacket _ => exact .execSofPacket h
  | portCmd _ => exact .execPortCmd h
  | portStatus _ => exact .execPortStatus h
  | busState _ => exact .execBusState h
  | usbWake _ => exact .execUsbWake h
  | ethFrameRx _ _ _ _ _ => exact .execEthFrameRx h
  | ethFramePacket _ _ => exact .execEthFramePacket h
  | ptpFramePacket _ _ => exact .execPtpFramePacket h
  | ptpMessageRx _ _ _ => exact .execPtpMessageRx h
  | prpLifeCheckTimer _ => exact .execPrpLifeCheckTimer h
  | prpLanChange _ _ => exact .execPrpLanChange h
  | prpEntryExpiry _ _ _ _ => exact .execPrpEntryExpiry h
  | ppsEdge => exact .execPpsEdge h
  | irigFrame _ _ _ _ _ _ _ _ _ => exact .execIrigFrame h
  | timeSourceChange _ => exact .execTimeSourceChange h
  | holdoverExpiry => exact .execHoldoverExpiry h
  | timeInfoTimer => exact .execTimeInfoTimer h
  | timeInfo _ _ => exact .execTimeInfo h
  | gooseFrame _ _ _ => exact .execGooseFrame h
  | gooseTalExpiry _ _ => exact .execGooseTalExpiry h
  | gooseGatherEnd _ _ => exact .execGooseGatherEnd h
  | gooseRetransmit _ _ => exact .execGooseRetransmit h
  | gpioDebounce _ _ _ _ => exact .execGpioDebounce h
  | hidReport _ _ _ _ => exact .execHidReport h
  | pipFrame _ _ => exact .execPipFrame h
  | pipHeartbeat _ _ => exact .execPipHeartbeat h
  | pipTimeout _ _ => exact .execPipTimeout h
  | powerOn => exact .execPowerOn h
  | vaonFall => exact .execVaonFall h
  | feedVoltageChange _ _ => exact .execFeedVoltageChange h
  | feedReverse _ _ => exact .execFeedReverse h
  | feedOverVoltage _ _ => exact .execFeedOverVoltage h
  | feedOvRecover _ => exact .execFeedOvRecover h
  | feedFault _ _ => exact .execFeedFault h
  | loadEnChange _ => exact .execLoadEnChange h
  | rampComplete _ _ => exact .execRampComplete h
  | rampTimer _ _ _ => exact .execRampTimer h
  | soaTrip _ _ => exact .execSoaTrip h
  | meterSample _ => exact .execMeterSample h
  | shortTrip _ _ => exact .execShortTrip h
  | loadDisableDelayEnd => exact .execLoadDisableDelayEnd h
  | panelWarn _ => exact .execPanelWarn h
  | panelDrop _ => exact .execPanelDrop h
  | panelRise _ => exact .execPanelRise h
  | panelHoldExpiry => exact .execPanelHoldExpiry h
  | frsSignal _ => exact .execFrsSignal h
  | panelBelow8v _ => exact .execPanelBelow8v h
  | deadBatteryStart _ => exact .execDeadBatteryStart h
  | hookRomStart _ => exact .execHookRomStart h
  | pdSourceCapabilities _ _ _ _ => exact .execPdSourceCapabilities h
  | pdRequest _ _ _ _ _ => exact .execPdRequest h
  | pdPsRdy _ => exact .execPdPsRdy h
  | pdHardReset _ => exact .execPdHardReset h
  | pdSwapRequest _ _ => exact .execPdSwapRequest h
  | discoverMessage _ _ _ _ => exact .execDiscoverMessage h
  | cableDiscoverIdentity _ _ => exact .execCableDiscoverIdentity h
  | pdKeepaliveTimer _ => exact .execPdKeepaliveTimer h
  | pdKeepaliveLost _ => exact .execPdKeepaliveLost h
  | hookWatchdog _ => exact .execHookWatchdog h
  | hookRestarted _ => exact .execHookRestarted h
  | sysPwrokRise => exact .execSysPwrokRise h
  | sysPwrokFall => exact .execSysPwrokFall h
  | resetNLow => exact .execResetNLow h
  | kernelRelease _ _ _ _ _ _ => exact .execKernelRelease h
  | quietDrainEnd => exact .execQuietDrainEnd h
  | quietWake _ _ => exact .execQuietWake h
  | seedDelayExpiry => exact .execSeedDelayExpiry h
  | seedWake _ => exact .execSeedWake h
  | domainPowerUp _ _ => exact .execDomainPowerUp h
  | watchdogExpiry _ => exact .execWatchdogExpiry h
  | heartbeatTimeout _ => exact .execHeartbeatTimeout h
  | internalFault _ => exact .execInternalFault h
  | kernelRejoin _ _ => exact .execKernelRejoin h
  | rejoinTimeout _ => exact .execRejoinTimeout h
  | leadTakeover => exact .execLeadTakeover h
  | leadLost => exact .execLeadLost h
  | lockIdleBreak _ _ => exact .execLockIdleBreak h
  | drbgHealthFail _ _ => exact .execDrbgHealthFail h
  | phaseChange _ _ => exact .execPhaseChange h
  | oldPhaseDiscard _ _ => exact .execOldPhaseDiscard h
  | fwSessionIdle => exact .execFwSessionIdle h
  | jobExpiry _ => exact .execJobExpiry h
  | replyKeepExpiry _ _ => exact .execReplyKeepExpiry h
  | downstreamConnectChange _ _ _ _ => exact .execDownstreamConnectChange h
  | usbUpstreamDisconnect _ => exact .execUsbUpstreamDisconnect h
  | managementEp0Request _ _ => exact .execManagementEp0Request h
  | pxPerstRise _ _ _ => exact .execPxPerstRise h
  | pxWakeNFall _ => exact .execPxWakeNFall h
  | dockLinkUp _ _ _ => exact .execDockLinkUp h
  | perstReleaseTimer _ => exact .execPerstReleaseTimer h
  | doutTrainPass _ _ => exact .execDoutTrainPass h
  | alavinModeExit _ => exact .execAlavinModeExit h
  | ethLinkChange _ _ _ _ => exact .execEthLinkChange h
  | sfpModuleInsert _ _ _ _ _ => exact .execSfpModuleInsert h
  | refclkChange _ => exact .execRefclkChange h
  | ptpIntervalTimer _ _ _ => exact .execPtpIntervalTimer h
  | panelAboveDrop _ => exact .execPanelAboveDrop h
  | pdAcceptOrReject _ _ => exact .execPdAcceptOrReject h
  | vbusTransitionComplete _ => exact .execVbusTransitionComplete h
  | usbPowerCycleEnd _ _ => exact .execUsbPowerCycleEnd h
  | usbFormReconnect _ => exact .execUsbFormReconnect h
  | roleSwapDone _ _ => exact .execRoleSwapDone h
  | fwCommitStep _ => exact .execFwCommitStep h
  | policyImageStep => exact .execPolicyImageStep h
  | boardTableStep => exact .execBoardTableStep h
  | lifecycleFuseStep => exact .execLifecycleFuseStep h
  | aonLockTimeSave => exact .execAonLockTimeSave h

/-! ### A step -/

/-- Settles O53, from what each command keeps. -/
theorem everyStepKeepsTheForm : Obligations.EveryStepKeepsTheForm := by
  intro s t h
  unfold step at h
  split at h
  · next hp =>
    cases h
    have k : s.Keeps (Machine.idle s) := State.Keeps.refl.idle
    exact ⟨k.canonical, by rw [k.pending, hp, List.tail_nil], k.variant, k.now, k.free⟩
  · next c rest hp =>
    obtain ⟨u, hu, k⟩ := State.Yields.exec c (State.Keeps.refl (s := { s with pending := rest }))
    obtain rfl : u = t := Host.Outcome.next.inj (hu.symm.trans h)
    exact ⟨fun hs => k.canonical { hs with }, by rw [k.pending, hp, List.tail_cons], k.variant, k.now, k.free⟩

/-! ### Every command answers -/

/-- A command packet on a transport that is down does nothing; after SYS_RESET the resets that wait follow (R465). -/
theorem exec_of_down {i : Instr} {c : Cmd} {r : Req} {s : State} (h : request? i = some (c, r)) (hv : s.viaUp r.via = false) :
    exec i s = .next (s.settled i) := by
  have hc : onCommand c r s = .next s := onCommand_down hv
  cases i with
  | sysReset r' =>
    cases h
    simp [exec, execSysReset, hc, State.settled]
  | _ => cases h <;> exact hc

/-- An event of a unit that the part does not have brings nothing about. -/
theorem onUnit_of_absent {s f : State} {present : Bool} (h : present = false) : onUnit s present f = .next s := by
  simp [onUnit, h]

/-- Settles O54: each command yields a next state; a transport that is down and a port that is not there stop it at its first test. -/
theorem everyCommandAnswers : Obligations.EveryCommandAnswers := by
  refine ⟨fun i s => ?_, fun i c r s => exec_of_down, fun i k p s h hi => ?_⟩
  · obtain ⟨t, ht, -⟩ := State.Yields.exec i (State.Keeps.refl (s := s))
    exact ⟨t, ht⟩
  · simp only [List.mem_cons, List.not_mem_nil, or_false] at hi
    rcases hi with rfl | rfl | rfl | rfl | rfl | rfl | rfl | rfl | rfl | rfl | rfl | rfl | rfl | rfl | rfl <;> exact onUnit_of_absent h

end Sys2Proof.Machine
end

section
/-! Rules for the shared forms of a meaning: a command that answers or starts a job, and an event at a unit where it takes effect. -/

namespace Sys2Proof.Machine

/-! ### Commands -/

section
variable {c : Cmd} {r : Req} {s t : State} {data : List Word}

/-- An admitted request that its command's own BAD_PARAM and DENIED conditions let pass is allowed. -/
theorem allowed_of_admitted (h : admitted c r s = true) (hb : passes (c.bad r (reqTarget r) s) = true)
    (hd : passes (c.denied r (reqTarget r) s) = true) : allowed c r s = true := by
  simp [allowed, h, hb, hd]

/-- A command without DENIED conditions whose effect is DONE. -/
theorem onCommand_answers (h : admitted c r s = true) (hd : c.denied r (reqTarget r) s = [])
    (hb : passes (c.bad r (reqTarget r) s) = true) (ha : c.act r (reqTarget r) s = .ok t data) :
    onCommand c r s = .next (t.answer c.opcode r data) :=
  onCommand_done (allowed_of_admitted h hb (by rw [hd]; rfl)) ha

/-- A command without DENIED conditions that starts a job. -/
theorem onCommand_starts {num : Nat} (h : admitted c r s = true) (hd : c.denied r (reqTarget r) s = [])
    (hb : passes (c.bad r (reqTarget r) s) = true) (ha : c.act r (reqTarget r) s = .accepted num t data) :
    onCommand c r s = .next (t.answerJob c.opcode r num data) :=
  onCommand_accepted (allowed_of_admitted h hb (by rw [hd]; rfl)) ha

end

/-! ### Fields of a register beside one that is written -/

section
variable {s : State} {a b : Nat} (h : b ≠ a)
include h

theorem State.rf_setReg_ne (w : Word) (i m : Nat) : (s.setReg a w).rf b i m = s.rf b i m :=
  congrArg (fld · i m) (s.reg_setReg_ne w h)

theorem State.rb_setReg_ne (w : Word) (i : Nat) : (s.setReg a w).rb b i = s.rb b i :=
  congrArg (bitAt · i) (s.reg_setReg_ne w h)

theorem State.rf_setRf_ne (lo n v i m : Nat) : (s.setRf a lo n v).rf b i m = s.rf b i m := State.rf_setReg_ne h _ i m

theorem State.rb_setRf_ne (lo n v i : Nat) : (s.setRf a lo n v).rb b i = s.rb b i := State.rb_setReg_ne h _ i

theorem State.rf_setRb_ne (j : Nat) (x : Bool) (i m : Nat) : (s.setRb a j x).rf b i m = s.rf b i m := State.rf_setReg_ne h _ i m

theorem State.rb_setRb_ne (j : Nat) (x : Bool) (i : Nat) : (s.setRb a j x).rb b i = s.rb b i := State.rb_setReg_ne h _ i

end

/-! ### A job that starts touches the list of jobs only -/

section
variable {s : State} {o k n : Nat} {r : Req} {l : List Word}

@[simp] theorem State.startJob_reg (a : Nat) : (s.startJob o r k n l).reg a = s.reg a := rfl
@[simp] theorem State.startJob_rf (a i m : Nat) : (s.startJob o r k n l).rf a i m = s.rf a i m := rfl
@[simp] theorem State.startJob_rb (a i : Nat) : (s.startJob o r k n l).rb a i = s.rb a i := rfl
@[simp] theorem State.startJob_port (a b : Nat) : (s.startJob o r k n l).port a b = s.port a b := rfl
@[simp] theorem State.startJob_portState (a b : Nat) : (s.startJob o r k n l).portState a b = s.portState a b := rfl
@[simp] theorem State.startJob_isTight (a b : Nat) : (s.startJob o r k n l).isTight a b = s.isTight a b := rfl

end

/-! ### Events -/

section
variable {s f : State} {k p : Nat} {c : Bool}

theorem onUnit_of_present {b : Bool} (h : b = true) : onUnit s b f = .next f := by simp [onUnit, h]

theorem onPort_of_true (hp : s.hasPort k p = true) (hc : c = true) : onPort k p c s f = .next f := by
  simp [onPort, onUnit, hp, hc]

/-- A link message is read from the packet that its arrival takes. -/
theorem onMsg_of_hears {f : State → State} (h : s.hears k p = true) : onMsg k p s f = .next (f (s.taken k p)) := by
  simp only [State.hears, Bool.and_eq_true] at h
  exact onPort_of_true h.1 h.2

/-- Taking a packet from a control tunnel touches the contexts only. -/
theorem State.taken_eq : ∃ cs, s.taken k p = { s with ctxs := cs } := by
  unfold State.taken State.takeRx
  dsimp only
  split
  · exact ⟨s.ctxs, rfl⟩
  · exact ⟨_, rfl⟩

@[simp] theorem State.taken_variant : (s.taken k p).variant = s.variant := by obtain ⟨cs, h⟩ := State.taken_eq (s := s) (k := k) (p := p); rw [h]
@[simp] theorem State.taken_regs : (s.taken k p).regs = s.regs := by obtain ⟨cs, h⟩ := State.taken_eq (s := s) (k := k) (p := p); rw [h]
@[simp] theorem State.taken_ports : (s.taken k p).ports = s.ports := by obtain ⟨cs, h⟩ := State.taken_eq (s := s) (k := k) (p := p); rw [h]
@[simp] theorem State.taken_jobs : (s.taken k p).jobs = s.jobs := by obtain ⟨cs, h⟩ := State.taken_eq (s := s) (k := k) (p := p); rw [h]

@[simp] theorem State.taken_hasKernel (a : Nat) : (s.taken k p).hasKernel a = s.hasKernel a := by simp [State.hasKernel]
@[simp] theorem State.taken_rf (a i n : Nat) : (s.taken k p).rf a i n = s.rf a i n := by simp [State.rf, State.reg]
@[simp] theorem State.taken_portState (a b : Nat) : (s.taken k p).portState a b = s.portState a b := State.taken_rf _ _ _
@[simp] theorem State.taken_tunState (a b : Nat) : (s.taken k p).tunState a b = s.tunState a b := State.taken_rf _ _ _
@[simp] theorem State.taken_port (a b : Nat) : (s.taken k p).port a b = s.port a b := by simp [State.port]
@[simp] theorem State.taken_findRunning (q : Job → Bool) : (s.taken k p).findRunning q = s.findRunning q := by simp [State.findRunning]

@[simp] theorem State.setPort_findRunning (x : Port) (q : Job → Bool) : (s.setPort k p x).findRunning q = s.findRunning q := rfl

/-- An answer to a link message waits in a context, and touches no register. -/
@[simp] theorem State.sendAnswer_portState (o tag : Nat) (l : List Word) (a b : Nat) :
    (s.sendAnswer k p o tag l).portState a b = s.portState a b := rfl

end

end Sys2Proof.Machine
end

section
/-! The link ports: their commands, attach, cast-on, authentication, markers, low-power states, bind-off and plies (Chapter 3, R432 to R435). -/

namespace Sys2Proof.Machine

/-! ### Commands (Table 3.12) -/

/-- The selected equalisation row is no part of the port's state. -/
theorem State.portState_of_eqSel {s : State} {k p v : Nat} {b : Bool} :
    ((s.setRb (Reg.LNK_EQ_SEL k p) 8 b).setRf (Reg.LNK_EQ_SEL k p) 12 4 v).portState k p = s.portState k p := by
  have h : Reg.LNK_STATE k p ≠ Reg.LNK_EQ_SEL k p := by simp only [Reg.LNK_STATE, Reg.LNK_EQ_SEL, regAddr]; omega
  simp [State.portState, State.rf_setRf_ne h, State.rf_setRb_ne h]

/-- Settles O7, command by command: the checks pass, and the effect is the one stated. -/
theorem linkPortCommandsRun : Obligations.LinkPortCommandsRun := by
  refine ⟨?portInfo, ?castOn, ?bindOff, ?powerState, ?eqSelect, ?alignMode, ?bitSlip, ?prbs, ?plyForm, ?plySplit⟩
  case portInfo =>
    intro r s h hs
    exact onCommand_answers h rfl (by simp [cmdPortInfo, badSub, hs]) rfl
  case castOn =>
    rintro r s _ _ h rfl rfl hs h1 h2 hst ha hj
    exact onCommand_starts h rfl (by simp [cmdPortCastOn, badSub, hs, h1, h2])
      (checked_of_passes s _ (by simpa [portIn, jobLimit, ha, hj] using hst))
  case bindOff =>
    rintro r s _ _ h rfl rfl hs hd hst hh hj
    refine onCommand_starts h rfl (by simp [cmdPortBindOff, badSub, hs, hd]) ((checked_of_passes s _ ?_).trans ?_)
    · simp [portIn, jobLimit, hst, hh, hj]
    · exact if_neg (by rw [State.startJob_portState, hst]; decide)
  case powerState =>
    rintro r s _ _ h rfl rfl hs hp hi hi' hk hk' hst hb
    exact onCommand_answers h rfl (by simp [cmdPortPowerState, badSub, hs, hp, hi, hi', Nat.ne_of_gt hk, hk'])
      ((checked_of_passes s _ (by simp [portIn, hst, hb])).trans (by simp [hb]))
  case eqSelect =>
    rintro r s _ _ h rfl rfl hs hv hst
    have : reqField r 12 0 8 ≠ 255 := by omega
    refine onCommand_answers h rfl (by simp [cmdPortEqSelect, badSub, hs, hv]) ?_
    simp only [cmdPortEqSelect, if_neg this]
    rw [if_neg]
    rwa [State.portState_of_eqSel]
  case alignMode =>
    rintro r s _ _ h rfl rfl hs hst hb
    exact onCommand_answers h rfl (by simp [cmdPortAlignMode, badSub, hs])
      ((checked_of_passes s _ (by simpa [portIn] using hst)).trans (by simp [hb]))
  case bitSlip =>
    rintro r s _ _ _ h rfl rfl hs h1 h2 hst rfl hb
    exact onCommand_answers h rfl (by simp [cmdPortBitSlip, badSub, hs, Nat.ne_of_gt h1, h2])
      ((checked_of_passes s _ (by simp [portIn, hst])).trans (by simp [hb, slipped]))
  case prbs =>
    rintro r s _ _ h rfl rfl hs ha hst
    exact onCommand_answers h rfl (by simp [cmdPortPrbs, badSub, hs, ha])
      ((checked_of_passes s _ (by simp [portIn, hst])).trans (by simp [ha]))
  case plyForm =>
    rintro r s _ _ h rfl rfl hs hk ho ho' hh hh' ht hj
    refine onCommand_starts h rfl (by rcases List.mem_pair.1 hs with hs | hs <;> simp [cmdPlyForm, hs, hk]) ((checked_of_passes s _ ?_).trans ?_)
    · simp [plyMembers, portIn, jobLimit, hk, ho, ho', hh, hh', ht, hj]
    · simp [hk, word]
  case plySplit =>
    rintro r s _ _ h rfl rfl hs ht hc hr hh hj
    have hply : s.portPly (reqTarget r) (reqSub r) = 1 := by simpa [State.isTight] using ht
    refine onCommand_starts h rfl (by simp [cmdPlySplit, badSub, hs]) ((checked_of_passes s _ ?_).trans ?_)
    · simp [jobLimit, hply, ht, hc, hr, hh, hj]
    · simp [ht]

/-! ### Role swaps (R159 to R161) -/

/-- Settles O8. -/
theorem roleSwapsRun : Obligations.RoleSwapsRun := by
  refine ⟨?request, ?refused, ?accepted, ?ack, ?nak, ?flip, ?retry, ?timeout, ?done⟩
  case request =>
    rintro r s _ _ h rfl rfl hs hst hpr hu hd hw hf hj
    exact onCommand_starts h rfl (by simp [cmdRoleSwapRequest, badSub, hs])
      (checked_of_passes s _ (by simp [portIn, jobLimit, hst, hpr, hu, hd, hw, hf, hj]))
  case refused =>
    intro k p tag prio tok att s c h hw hr
    exact (onMsg_of_hears h : execRoleSwap k p tag prio tok att s = _).trans (by simp [hw, hr])
  case accepted =>
    intro k p tag prio tok att s h hw hr
    exact (onMsg_of_hears h : execRoleSwap k p tag prio tok att s = _).trans (by simp [hw, hr])
  case ack =>
    intro k p s x h hx ha hw
    exact (onMsg_of_hears h : execRoleSwapAck k p s = _).trans (by simp [hx, ha, hw])
  case nak =>
    intro k p status s x h hx ha
    exact (onMsg_of_hears h : execRoleSwapNak k p status s = _).trans (by simp [hx, ha, statusCode])
  case flip =>
    intro k p s x hp hx ha hf hr
    exact (onPort_of_true hp (by simp [hx, ha, hf, hr])).trans (by simp [hx])
  case retry =>
    intro k p s x hp hx hw
    exact (onPort_of_true hp (by simp [hx, hw])).trans (by simp [hx])
  case timeout =>
    intro k p s x hp hx ha hw
    exact onPort_of_true hp (by simp [hx, ha, hw])
  case done =>
    intro k p s x hp hx hf
    exact (onPort_of_true hp (by simp [hx, hf])).trans (by simp [hx])

/-! ### Cast-on and authentication (R105 to R108, R123, R432 to R435) -/

/-- No message comes in no fragments. -/
theorem assemble_nil {msg len : Nat} (h : 0 < len) : assemble msg len [] = none := by
  have hn : ceilDiv len 16 ≠ 0 := by unfold ceilDiv; omega
  refine if_neg fun hc => hn ?_
  simpa using (congrArg List.length hc.1).symm

section
variable {s u : State} {k p st msg len : Nat} {blocks : List Block} {body : List Byte}

/-- A message of the step that the port is at, come whole. -/
theorem onCast_of_gets {f : List Byte → State → State} (hl : 0 < len) (hp : s.hasPort k p = true)
    (h : s.castGets k p st msg len blocks = some (body, u)) : onCast k p st msg len blocks s f = .next (f body u) := by
  unfold State.castGets at h
  split at h
  case isFalse => cases h
  case isTrue hc =>
    obtain ⟨b, hb, he⟩ := Option.map_eq_some_iff.1 h
    cases he
    have hne : s.castMsgs k p blocks ≠ [] := fun h0 => by simp [h0, assemble_nil hl] at hb
    exact (onPort_of_true hp hc.1).trans (by simp [hne, hc.2, hb])

theorem onAuth_of_castAt {f : State} (hp : s.hasPort k p = true) (h : s.castAt k p 5 = true) : onAuth k p s f = .next f := by
  obtain ⟨hst, hcs⟩ : s.portState k p = 2 ∧ s.castStep k p = 5 := by simpa [State.castAt] using h
  exact (onPort_of_true hp (by simp [State.castHears, hst, hcs])).trans (by simp [hcs])

end

/-- Settles O10. -/
theorem castOnStepsAdvance : Obligations.CastOnStepsAdvance := by
  refine ⟨?timeout, ?timeout9, ?ident, ?malformed, ?role, ?rateGo, ?prbs, ?rateResult, ?rowSync⟩
  case timeout =>
    intro k p s n hp hf hst hn
    refine (onPort_of_true hp rfl).trans ?_
    simp only [List.mem_cons, Prod.mk.injEq, List.not_mem_nil, or_false] at hn
    rcases hn with ⟨hc, rfl⟩ | ⟨hc, rfl⟩ | ⟨hc, rfl⟩ | ⟨hc, rfl⟩ <;> simp [hf, hst, hc, stepTimeout]
  case timeout9 =>
    intro k p s hp hf hst hc ht
    exact (onPort_of_true hp rfl).trans (by simp [hf, hst, hc, ht, State.portOpen])
  case ident =>
    rintro k p blocks s body u _ hp hg rfl hn hf
    exact (onCast_of_gets (by decide) hp hg : execIdent k p blocks s = _).trans (by rw [if_neg (not_or.2 ⟨hn, hf⟩)])
  case malformed =>
    intro k p blocks s hp hh hc hm ha
    exact (onPort_of_true hp hh).trans (by simp [hc, hm, ha])
  case role =>
    intro k p blocks s body u x hp hg hx hb hne
    exact (onCast_of_gets (by decide) hp hg : execRoleMsg k p blocks s = _).trans (by simp [hx, hb, hne])
  case rateGo =>
    intro k p blocks s body u hp hg hb
    exact (onCast_of_gets (by decide) hp hg : execRateGo k p blocks s = _).trans (by simp [hb])
  case prbs =>
    intro k p e0 e1 b s hp hc he
    exact onPort_of_true hp (by simp [hc, he])
  case rateResult =>
    intro k p blocks s body u hp hg
    exact (onCast_of_gets (by decide) hp hg : execRateResult k p blocks s = _)
  case rowSync =>
    intro k p blocks s row e u hp hc hm hu
    exact (onPort_of_true hp (by simp [hc])).trans (by simp [hm, State.rowSynced, hu])

/-- Settles O11. -/
theorem linkAuthenticationAdvances : Obligations.LinkAuthenticationAdvances := by
  refine ⟨?hello, ?cert, ?sig, ?done, ?badSig⟩
  case hello =>
    intro k p blocks s body u hp hg ha
    exact (onCast_of_gets (by decide) hp hg : execAuthHello k p blocks s = _).trans (by simp [ha])
  case cert =>
    intro k p anchor s hp hc ha hi he
    exact (onAuth_of_castAt hp hc).trans (by simp [ha, hi, he])
  case sig =>
    intro k p s hp hc ha
    exact (onAuth_of_castAt hp hc).trans (by simp [ha])
  case done =>
    intro k p s hp hc ha
    exact (onAuth_of_castAt hp hc).trans (by simp [ha])
  case badSig =>
    intro k p s hp hc ha
    exact (onAuth_of_castAt hp hc).trans (by simp [ha, State.authFail])

/-! ### Markers, Shell and Husk (R90, R109 to R112, R148) -/

section
variable {s : State} {k p : Nat} {c : Bool} {is : Control → Bool} {blocks : List Block} {f : State → State}

/-- Blocks that hold the control block which the port waits for. -/
theorem onControl_of_any (hp : s.hasPort k p = true) (hc : c = true) (h : (controlsOf (s.receive k p blocks).1).any is = true) :
    onControl k p c is blocks s f = .next (f (s.receive k p blocks).2) :=
  (onPort_of_true hp hc).trans (by simp only [h, if_true])

/-- A port that is Open or Binding hears no cast-on messages. -/
theorem State.castHears_of_up (h : s.portState k p ∈ [3, 4]) : s.castHears k p = false := by
  simp only [List.mem_cons, List.not_mem_nil, or_false] at h
  rcases h with h | h <;> simp [State.castHears, h]

/-- A row marker at a port that is Open or Binding. -/
theorem exec_rowMarkRx {b : Block} {bs : List Block} (hp : s.hasPort k p = true) (h : s.portState k p ∈ [3, 4]) :
    exec (.rowMarkRx k p b bs) s = .next (match s.receiveMarker k p (b :: bs) with
      | (some (_, epoch, _), s) => if s.castHears k p then s else s.newEpoch k p epoch
      | (none, s) => s) :=
  onPort_of_true hp (by simpa using Or.inl (by simpa using h))

end

/-- Settles O12. -/
theorem markersAndLowPowerStatesFollow : Obligations.MarkersAndLowPowerStatesFollow := by
  refine ⟨?noMark, ?newEpoch, ?shellIdle, ?shellEnter, ?shellExit, ?huskIdle, ?huskAcked, ?huskRefused, ?huskEnter, ?huskAck, ?huskNak, ?huskExit⟩
  case noMark =>
    intro k p b bs s u hp hst hm
    exact (exec_rowMarkRx hp hst).trans (by rw [hm])
  case newEpoch =>
    intro k p b bs s row e v u hp hst hm hu he
    exact (exec_rowMarkRx hp hst).trans (by simp [hm, State.castHears_of_up hu, State.newEpoch, he])
  case shellIdle =>
    intro k p s hp ho hw hpol hi hr hc
    exact onPort_of_true hp (by simp [ho, hw, hpol, hi, hr, hc])
  case shellEnter =>
    intro k p blocks s hp ho hc
    exact (onControl_of_any hp ho hc : execShellEnterRx k ⟨p, blocks⟩ s = _)
  case shellExit =>
    intro k p s hp hw hu
    exact (onPort_of_true hp (by simp [hw])).trans (by simp [State.wakeShell, hu])
  case huskIdle =>
    intro k p s hp ho hw hr ha
    exact onPort_of_true hp (by simp [ho, hw, hr, ha])
  case huskAcked =>
    intro k p tag s h ha hr
    exact (onMsg_of_hears h : execHuskReq k p tag s = _).trans (by simp [ha, hr])
  case huskRefused =>
    intro k p tag s c h ha hr
    exact (onMsg_of_hears h : execHuskReq k p tag s = _).trans (by simp [ha, hr])
  case huskEnter =>
    intro k p blocks s hp ho hw hc
    exact (onControl_of_any hp (by simp [ho, hw]) hc : execHuskEnterRx k ⟨p, blocks⟩ s = _)
  case huskAck =>
    intro k p s h ha
    exact (onMsg_of_hears h : execHuskAck k p s = _).trans (by simp only [ha, if_true])
  case huskNak =>
    intro k p code s h ha hj
    have hn : ((s.taken k p).setPort k p { (s.taken k p).port k p with huskAsked := false }).stateJob 1 = none :=
      ((s.taken k p).setPort_findRunning _ _).trans (State.taken_findRunning _ |>.trans hj)
    exact (onMsg_of_hears h : execHuskNak k p code s = _).trans (by simp only [ha, if_true, hn])
  case huskExit =>
    intro k p far s hp ho hw
    exact onPort_of_true hp (by simp [ho, hw])

/-! ### Bind-off and plies (R114, R117, R119) -/

/-- Settles O13. -/
theorem bindOffAndPlyMessagesRun : Obligations.BindOffAndPlyMessagesRun := by
  refine ⟨?bindReq, ?bindAck, ?bindTimeout, ?drainEnd, ?bindEnd, ?plyReq, ?plyNak⟩
  case bindReq =>
    intro k p tag drain s h hst
    exact (onMsg_of_hears h : execBindReq k p tag drain s = _).trans (by simp [hst])
  case bindAck =>
    intro k p s h hst hc
    exact (onMsg_of_hears h : execBindAck k p s = _).trans (by simp [hst, hc])
  case bindTimeout =>
    intro k p s hp hst hc
    exact onPort_of_true hp (by simp [hst, hc])
  case drainEnd =>
    intro k p s hp hst
    exact onPort_of_true hp (by simp [hst])
  case bindEnd =>
    rintro k p blocks s _ c hp rfl hc
    have key : execBindEndRx k ⟨p, blocks⟩ s = _ :=
      onControl_of_any hp rfl (List.any_eq_true.2 ⟨_, hc, rfl⟩)
    refine ⟨fun h => ?_, fun h => ?_, fun h => ?_⟩ <;> exact key.trans (by simp only [h])
  case plyReq =>
    intro k p tag kind s h
    exact (onMsg_of_hears h : execPlyReq k p tag kind s = _)
  case plyNak =>
    intro k p status s j h hj
    have hj' : (s.taken k p).plyJob? [(k, p)] = some j := (State.taken_findRunning _).trans hj
    exact (onMsg_of_hears h : execPlyNak k p status s = _).trans (by simp only [hj', statusCode])

end Sys2Proof.Machine
end

section
/-! Tunnels, rows and gauges: their commands and the messages that open, close, credit and resume them (Chapter 4). -/

namespace Sys2Proof.Machine

/-! ### Commands (Tables 4.15 and 4.16) -/

/-- Settles O14. -/
theorem tunnelCommandsRun : Obligations.TunnelCommandsRun := by
  refine ⟨?close, ?info, ?modify, ?release, ?window, ?routeDrop, ?routeAdd, ?routeRead, ?tunOpen⟩
  case close =>
    rintro r s _ _ h rfl rfl hst hc hj
    exact onCommand_accepted h (checked_of_passes s _ (by simp [ctxIn, ctxHeld, jobLimit, hst, hc, hj]))
  case info =>
    intro r s h hs ht
    exact onCommand_answers h rfl (by simp [cmdTunInfo, badSub, hs, ht]) rfl
  case modify =>
    rintro r s _ _ h hs rfl rfl ht ho hst
    exact onCommand_answers h rfl (by simp [cmdTunModify, badSub, hs, ht, ho]) (checked_of_passes s _ (by simp [ctxIn, hst]))
  case release =>
    rintro r s _ _ h rfl rfl hb hst hc
    exact onCommand_done h ((checked_of_passes s _ (by simpa [ctxIn, ctxHeld, hb, hc] using hst)).trans (by simp [hb]))
  case window =>
    intro r s h hs hw
    exact onCommand_answers h rfl (by simp [cmdResumeWindowSet, badSub, hs, hw]) rfl
  case routeDrop =>
    rintro r s _ _ h rfl rfl hb hv
    exact onCommand_done h (by simp [cmdRawRouteSet, hb, hv])
  case routeAdd =>
    rintro r s _ _ _ _ _ _ _ _ h rfl rfl rfl rfl rfl rfl rfl rfl hb he hv hr hi hl hc hk hg
    refine onCommand_done h ?_
    simp only [cmdRawRouteSet, hb, he, hv]
    exact checked_of_passes s _ (by simp [unreached, hr, hi, hl, hc, hk, hg])
  case routeRead =>
    rintro r s _ _ h hs rfl rfl hn
    exact onCommand_answers h rfl (by simp [cmdRawRouteRead, badSub, badRoute, hs, hn]) rfl
  case tunOpen =>
    rintro r s _ t _ _ _ _ _ h rfl rfl rfl rfl rfl rfl hn hp hd hf ho hr he hw hc ha hi hg hj
    refine onCommand_accepted h ((checked_of_passes s _ ?_).trans ?_)
    · have hc' : passes (((s.adapterChecks true (reqTarget r) (reqField r 12 20 4) (reqField r 16 0 3) (reqField r 16 4 2)
          ((reqBytes r 28).take (reqField r 24 16 16))).filter fun c => c.2.1 != 0x0102).map fun c => (c.1, codeStatus c.2.1, c.2.2)) = true := by
        simp only [passes, List.all_map, List.all_eq_true, List.mem_filter]
        rintro c ⟨hc', -⟩
        simp [hc c hc']
      simp [unreached, swapBlocks, jobLimit, hn, hp, hf, ho, hr, he, hw, hc', ha, hi, hg, hj]
    · simp [hn, hp, hd, hf]

/-- Settles O15. -/
theorem rowAndGaugeCommandsRun : Obligations.RowAndGaugeCommandsRun := by
  refine ⟨?read, ?write, ?swap, ?ceiling, ?regauge, ?rollback⟩
  case read =>
    rintro r s _ _ h rfl rfl
    exact onCommand_done h rfl
  case write =>
    rintro r s _ _ h rfl rfl ha hh
    exact onCommand_done h (checked_of_passes s _ (by simp [rowsArmed, rowsBusyFor, ha, hh]))
  case swap =>
    rintro r s _ _ h rfl rfl hs ha hst hh hc
    exact onCommand_answers h rfl (by simp [cmdRowSwap, badSub, hs]) (checked_of_passes s _ (by simp [rowsArmed, rowsBusyFor, ha, hst, hh, hc]))
  case ceiling =>
    rintro r s _ _ h rfl rfl hs hc hh hr
    exact onCommand_answers h rfl (by simp [cmdGaugeCeilingSet, badSub, hs, hc]) (checked_of_passes s _ (by simp [rowsBusyFor, hh, hr]))
  case regauge =>
    intro r s h hc hl ho
    exact onCommand_accepted h ((checked_of_passes s _ hc).trans (by simp [hl, State.gaugeGo, ho]))
  case rollback =>
    intro r s j g h hj hg hc hf ho
    refine onCommand_accepted h ?_
    simp only [cmdRegaugeRollback, hj, hg]
    exact (checked_of_passes s _ hc).trans (by simp [hf, State.gaugeGo, ho])

/-! ### Messages about tunnels (R139 to R148, R155, R162 to R167) -/

/-- Settles O16. -/
theorem openAndCloseMessagesRun : Obligations.OpenAndCloseMessagesRun := by
  refine ⟨?accepted, ?refused, ?openAck, ?openNak, ?openTimeout, ?resend, ?closeReq, ?closeDone, ?drained⟩
  case accepted =>
    rintro k p tag w s _ h rfl hx hc
    exact (onMsg_of_hears h : execOpenReq k p tag none w s = _).trans (by simp only [State.openReqDirect, hx, hc])
  case refused =>
    rintro k p tag w s _ c h rfl hx hc
    exact (onMsg_of_hears h : execOpenReq k p tag none w s = _).trans (by simp only [State.openReqDirect, hx, hc])
  case openAck =>
    intro k p tag label s n t h hc hl
    exact (onMsg_of_hears h : execOpenAck k p tag label none s = _).trans (by simp [hc, hl])
  case openNak =>
    intro k p tag status s c h hc
    exact (onMsg_of_hears h : execOpenNak k p tag status none s = _).trans (by simp only [hc])
  case openTimeout =>
    intro k t s hc ht
    exact (onUnit_of_present hc).trans (by simp [ht])
  case resend =>
    intro k t s hc ht hp
    exact (onUnit_of_present hc).trans (by simp [ht, hp])
  case closeReq =>
    rintro k p tag label drain s _ _ h rfl rfl hk ht hst hl
    exact (onMsg_of_hears h : execCloseReq k p tag label drain s = _).trans (by simp [hk, Nat.not_lt.2 ht, hst, hl])
  case closeDone =>
    intro k p tag label s c h hc
    exact (onMsg_of_hears h : execCloseDone k p tag label s = _).trans (by simp [hc])
  case drained =>
    intro k t s hc ht
    exact (onUnit_of_present hc).trans (by simp [ht])

/-- Settles O17. -/
theorem creditResumeAndViolationMessagesRun : Obligations.CreditResumeAndViolationMessagesRun := by
  refine ⟨?credit, ?replayNone, ?replay, ?replayRoute, ?epochAck, ?stepTimeout, ?resumeList, ?pairingTimeout, ?windowExpiry, ?notice, ?quarantine⟩
  case credit =>
    intro k p es s h
    exact (onMsg_of_hears h : execCredit k p es s = _)
  case replayNone =>
    intro k t p s hc hu
    exact (onUnit_of_present hc).trans (by simp [hu, State.resend])
  case replay =>
    rintro k t p s _ hc hu rfl
    exact (onUnit_of_present hc).trans (by simp [hu, State.resend])
  case replayRoute =>
    intro k n m s hk hn hm
    exact onUnit_of_present (by simp [hk, hn, hm])
  case epochAck =>
    intro k p e s n h hj
    have hj' : (s.taken k p).epochJob k p e = some n := by simpa [State.epochJob] using hj
    exact (onMsg_of_hears h : execEpochAck k p e s = _).trans (by simp only [hj'])
  case stepTimeout =>
    intro n s hn
    exact congrArg Host.Outcome.next (if_pos (by simpa using hn))
  case resumeList =>
    rintro k p w s _ h hp rfl
    exact (onMsg_of_hears h : execResumeList k p w s = _).trans (by simp [hp])
  case pairingTimeout =>
    intro k p s hp ho hx
    exact onPort_of_true hp (by simp [ho, hx])
  case windowExpiry =>
    intro k p s hp ho hh
    exact onPort_of_true hp (by simpa [hh] using ho)
  case notice =>
    intro k p cls label count s h hn
    exact (onMsg_of_hears h : execViolationNotice k p cls label count s = _).trans (by simp [hn])
  case quarantine =>
    rintro k p label cls s _ _ h rfl rfl hk ht hst
    exact (onMsg_of_hears h : execQuarantine k p label cls s = _).trans (by simp [hk, ht, hst])

end Sys2Proof.Machine
end

section
/-! The switch core: buffers and scheduling, arriving cells, stitches and handovers (Chapter 5, R85, R128 to R137). -/

namespace Sys2Proof.Machine

/-! ### Commands (Table 5.7) -/

/-- Idle skeins may be carved anew. -/
theorem State.skeinHit_of_idle {s : State} {k : Nat} (ws : List (Nat × Word)) (h : ∀ i ∈ [2, 3, 4], s.skeinBusy k i = false) :
    s.skeinHit k ws = none := by
  simp only [State.skeinHit, List.find?_eq_none]
  intro i hi
  simp [h i hi]

/-- A kernel without a test runs none on a skein. -/
theorem State.skeinTest_of_noDiag {s : State} {k : Nat} (ws : List (Nat × Word)) (h : s.diagJob k = none) : s.skeinTest k ws = none := by
  have ht (i : Nat) : s.storeTestOn k i = none := by
    simp only [State.diagJob, State.findRunning, State.storeTestOn, List.find?_eq_none] at h ⊢
    intro j hj hc
    simp only [Bool.and_eq_true, decide_eq_true_eq, beq_iff_eq] at hc
    simpa [hc] using h j hj
  simp [State.skeinTest, ht]

/-- Settles O18. -/
theorem switchCommandsRun : Obligations.SwitchCommandsRun := by
  refine ⟨?carve, ?info, ?threshold, ?queueNode, ?serviceNode, ?shaper, ?list, ?sampleSet, ?sampleRead⟩
  case carve =>
    rintro r s _ _ _ _ h rfl rfl rfl rfl hs hb hd
    have hsum : (reqWord r 12).toNat + (reqWord r 16).toNat + (reqWord r 20).toNat ≤ 704 := by omega
    refine onCommand_done h ?_
    simp only [cmdSkeinCarve]
    rw [checked_of_passes s _ (by simp [State.skeinHit_of_idle _ hb, State.skeinTest_of_noDiag _ hd, heldBy, hsum]), skeinWords]
  case info =>
    rintro r s _ h hs rfl
    exact onCommand_answers h rfl (by simp [cmdSkeinInfo, badSub, hs]) rfl
  case threshold =>
    rintro r s _ _ _ h rfl hc rfl hn rfl hm
    refine onCommand_done h ?_
    simp only [cmdQueueThresholdSet, hc, State.setThresh, if_true, hn]
    exact checked_of_passes s _ (by simp [hm])
  case queueNode =>
    rintro r s _ _ h rfl rfl hn
    exact onCommand_done h (by simp [cmdSchedNodeSet, hn])
  case serviceNode =>
    rintro r s _ _ h rfl rfl hn
    exact onCommand_done h (by simp [cmdSchedNodeSet, show ¬ reqField r 12 0 10 < 576 by omega, show ¬ reqField r 12 0 10 < 704 by omega])
  case shaper =>
    rintro r s _ _ h rfl rfl hn
    exact onCommand_done h (by simp [cmdShaperSet, Nat.not_lt.2 hn])
  case list =>
    rintro r s _ _ h rfl rfl ht
    refine onCommand_done h ((checked_of_passes s _ (by simp [ht])).trans ?_)
    simp [ht]
  case sampleSet =>
    rintro r s _ _ h rfl rfl
    exact onCommand_done h rfl
  case sampleRead =>
    rintro r s _ _ h rfl rfl
    exact onCommand_done h rfl

/-! ### Cells, stitches and handovers -/

section
variable {s : State} {k p : Nat} {b0 b1 b2 : Block} {plain : Option (List Byte)} {busy : Bool}

/-- A port that is Open or Binding takes the blocks of a stitch. -/
theorem onPort_of_up {f : State} (hp : s.hasPort k p = true) (h : s.portState k p ∈ [3, 4]) :
    onPort k p ([3, 4].contains (s.portState k p) || s.castHears k p) s f = .next f :=
  onPort_of_true hp (by rw [List.contains_iff_mem.2 h, Bool.true_or])

/-- A cell among the blocks of a stitch is sorted, and moves on. -/
theorem exec_cellRx_of_cell {bits : BitVec 576} (hp : s.hasPort k p = true) (h : s.portState k p ∈ [3, 4]) (hh : s.lanesHunt k p = false)
    (hb : cellOfBlocks (s.receive k p [b0, b1, b2]).1 = some bits) : exec (.cellRx k p b0 b1 b2 plain busy) s =
      .next ((s.receive k p [b0, b1, b2]).2.cellRx k p (cellOfBits bits) plain busy).moveFlights :=
  (onPort_of_up hp h).trans (by simp [hh, hb, State.castHears_of_up h])

end

/-- Settles O20, by the header and then the label of the cell. -/
theorem cellsAreSortedByTheirLabel : Obligations.CellsAreSortedByTheirLabel := by
  rintro k p b0 b1 b2 plain busy s _ hp hst rfl
  refine ⟨fun hh => ?_, fun hh hn => ?_, ?_⟩
  · exact (onPort_of_up hp hst).trans (by rw [if_pos hh])
  · exact (onPort_of_up hp hst).trans (by simp [hh, hn])
  · rintro bits _ _ hh hb rfl rfl
    rw [exec_cellRx_of_cell hp hst hh hb]
    refine ⟨fun hcrc => ?_, fun hcrc n i hr => ?_, fun hcrc hr hpip ht => ⟨fun h1 => ?_, fun h1 h4 => ?_, fun h1 h4 => ?_⟩⟩
    · rw [State.cellRx, if_pos hcrc]
    · simp only [State.cellRx, hcrc, ne_eq, not_true, if_false, hr]
    · simp [State.cellRx, hcrc, hr, hpip, ht, h1]
    · simp [State.cellRx, hcrc, hr, hpip, ht, h1, h4]
    · simp [State.cellRx, hcrc, hr, hpip, ht, h1, h4]

/-- Settles O21. -/
theorem rowsAndHandoversAdvance : Obligations.RowsAndHandoversAdvance := by
  refine ⟨?stitch, ?shell, ?cast, ?row, ?shared, ?adapter⟩
  case stitch =>
    intro k p late s hp hr hst hw h1 h2
    exact (onPort_of_true hp (by simp [hr, h1, h2])).trans (by simp [hst, hw])
  case shell =>
    intro k p late s hp hr hst hw h1 h2
    exact (onPort_of_true hp (by simp [hr, h1, h2])).trans (by simp [hst, hw])
  case cast =>
    intro k p late s hp hr hst h1 h2
    exact (onPort_of_true hp (by simp [hr, h1, h2])).trans (by simp [hst])
  case row =>
    rintro k p held s _ hp hr rfl hst
    exact (onPort_of_true hp hr).trans (by simp [hst])
  case shared =>
    intro k t p bytes busy s u hc ht hp hb hh
    exact (onUnit_of_present (by simp [hc, hp])).trans (by simp [State.offer, ht, hb, hh])
  case adapter =>
    intro k t p bytes busy s u b l hc ht hp ho hh
    exact (onUnit_of_present (by simp [hc, hp])).trans (by simp [State.offer, Nat.not_lt.2 ht, ho, hh])

end Sys2Proof.Machine
end

section
/-! Display: the inputs, the packets of a display tunnel at its source and at its sink, and the outputs (Chapters 6 and 7). -/

namespace Sys2Proof.Machine

/-! ### Inputs (Tables 6.1, 6.2, 6.13 to 6.16) -/

/-- Settles O22. -/
theorem inputCommandsRun : Obligations.InputCommandsRun := by
  refine ⟨?config, ?proxy, ?proxyFixed, ?mode, ?regions, ?damage, ?report⟩
  case config =>
    rintro r s _ _ h rfl rfl
    exact onCommand_done h rfl
  case proxy =>
    rintro r s _ _ h rfl rfl hb
    exact onCommand_done h (by simp [cmdEdidProxySet, hb])
  case proxyFixed =>
    rintro r s _ _ _ h rfl rfl hb rfl
    exact onCommand_done h (by simp [cmdEdidProxySet, hb])
  case mode =>
    intro r s h
    exact onCommand_done h rfl
  case regions =>
    rintro r s _ _ h rfl rfl hc
    exact onCommand_done h ((checked_of_passes s _ (by simp [hc])).trans (by simp [hc]))
  case damage =>
    intro r s h
    exact onCommand_done h rfl
  case report =>
    rintro r s _ h rfl
    exact onCommand_done h rfl

section
variable {s f : State} {k i : Nat} {c : Bool}

theorem onInput_of_true (hk : s.hasKernel k = true) (hi : i < 2) (hc : c = true) : onInput k i c s f = .next f := by
  simp [onInput, onUnit, hk, hi, hc]

/-- The oldest reverse packet of a display input, where it breaks no table and has the type read. -/
theorem onReverse_of_type {f : State → List Byte → State} {ptype t : Nat} {v : Bool} {b : List Byte} {u : State} (hk : s.hasKernel k = true)
    (hi : i < 2) (ho : s.adapterOpen? k (dinAdapter i) = some t) (ht : s.takeAdapter k t = some ((v, b), u)) (hb : reverseOk b = true)
    (hp : ptypeOf b = ptype) : onReverse k i ptype s f = .next (f u b) :=
  (onInput_of_true hk hi rfl).trans (by simp [ho, ht, hb, hp])

/-- A reverse packet that breaks the tables, whichever type was to be read. -/
theorem onReverse_of_broken {f : State → List Byte → State} {ptype t : Nat} {v : Bool} {b : List Byte} {u : State} (hk : s.hasKernel k = true)
    (hi : i < 2) (ho : s.adapterOpen? k (dinAdapter i) = some t) (ht : s.takeAdapter k t = some ((v, b), u)) (hb : reverseOk b = false) :
    onReverse k i ptype s f = .next (u.adapterViolation k t) :=
  (onInput_of_true hk hi rfl).trans (by simp [ho, ht, hb])

end

/-- Settles O23. -/
theorem inputsFollowTheirSource : Obligations.InputsFollowTheirSource := by
  refine ⟨?train, ?trained, ?msaLost, ?linkLost, ?lost, ?pulse, ?accepted, ?unsupported⟩
  case train =>
    intro k i s hk hi hd
    exact onInput_of_true hk hi (by simpa using hd)
  case trained =>
    intro k i lanes rate s hk hi hd hl hl' hr
    exact (onInput_of_true hk hi (by simp [hd])).trans (by simp_all)
  case msaLost =>
    intro k i s hk hi hd
    exact (onInput_of_true hk hi (by simp [hd])).trans (by simp [hd])
  case linkLost =>
    intro k i s hk hi hd
    exact (onInput_of_true hk hi (by simp [hd])).trans (by simp [hd])
  case lost =>
    intro k i s hk hi hd
    rcases List.mem_pair.1 hd with hd | hd <;> exact (onInput_of_true hk hi (by simp [hd])).trans (by simp [hd])
  case pulse =>
    rintro k i s _ hk hi hp rfl
    exact onInput_of_true hk hi hp
  case accepted =>
    rintro k i f s _ hk hi hd hl hf rfl
    have key : execInputFrameStart k i f s = _ := onInput_of_true hk hi (by simp [hd, hl])
    refine ⟨fun ho => key.trans ?_, fun ho hs => key.trans ?_, fun ho hs => key.trans ?_⟩
    · simp [hf, ho]
    · obtain ⟨t, ht⟩ := Option.ne_none_iff_exists'.1 ho
      simp [hf, ht, hs]
    · obtain ⟨t, ht⟩ := Option.ne_none_iff_exists'.1 ho
      simp [hf, ht, hs]
  case unsupported =>
    rintro k i f s _ _ _ hk hi hd hl hf rfl rfl rfl
    have key : execInputFrameStart k i f s = _ := onInput_of_true hk hi (by simp [hd, hl])
    exact ⟨fun h4 => key.trans (by simp [hf, h4]), fun h4 => key.trans (by simp [hf, h4])⟩

/-- Settles O24. -/
theorem reversePacketsAreRead : Obligations.ReversePacketsAreRead := by
  intro k i s t v b u hk hi ho ht
  refine ⟨fun hb hp ha => ?_, fun hb hp ha => ?_, fun hb hp => ?_, fun hb hp => ?_, fun hb => ⟨?_, ?_, ?_⟩⟩
  · exact (onReverse_of_type hk hi ho ht hb hp : execRefresh k i s = _).trans (by simp [ha])
  · exact (onReverse_of_type hk hi ho ht hb hp : execRefresh k i s = _).trans (by simp [ha])
  · exact (onReverse_of_type hk hi ho ht hb hp : execSinkEdid k i s = _)
  · exact (onReverse_of_type hk hi ho ht hb hp : execSinkStatus k i s = _)
  · exact (onReverse_of_broken hk hi ho ht hb : execRefresh k i s = _)
  · exact (onReverse_of_broken hk hi ho ht hb : execSinkEdid k i s = _)
  · exact (onReverse_of_broken hk hi ho ht hb : execSinkStatus k i s = _)

/-! ### Outputs and the frame store (Tables 6.10, 6.11, 7.11) -/

section
variable {s f : State} {k o : Nat} {c : Bool}

theorem onOutput_of_true (hk : s.hasKernel k = true) (ho : o < 2) (hc : c = true) : onOutput k o c s f = .next f := by
  simp [onOutput, onUnit, hk, ho, hc]

/-- The oldest forward packet of an output, where it breaks no table and has the type read. -/
theorem onForward_of_type {f : State → List Byte → State} {ptype : Nat} {b : List Byte} {u : State} (hk : s.hasKernel k = true) (ho : o < 2)
    (ht : s.sinkTake k o = some (b, u)) (hb : forwardOk b = true) (hp : ptypeOf b = ptype) : onForward k o ptype s f = .next (f u b) :=
  (onOutput_of_true hk ho rfl).trans (by simp [ht, hb, hp])

/-- A forward packet that breaks the tables, whichever type was to be read. -/
theorem onForward_of_broken {f : State → List Byte → State} {ptype : Nat} {b : List Byte} {u : State} (hk : s.hasKernel k = true) (ho : o < 2)
    (ht : s.sinkTake k o = some (b, u)) (hb : forwardOk b = false) : onForward k o ptype s f = .next (u.sinkViolation k o) :=
  (onOutput_of_true hk ho rfl).trans (by simp [ht, hb])

end

/-- Settles O25. -/
theorem forwardPacketsBuildFrames : Obligations.ForwardPacketsBuildFrames := by
  refine ⟨?packets, ?scanDone, ?checkFail⟩
  case packets =>
    intro k o s b u hk ho ht
    refine ⟨fun hb hp => ?_, fun hb hp => ?_, fun hb hp => ?_, fun hb hp he => ?_, fun hb => ⟨?_, ?_, ?_, ?_⟩⟩
    · exact (onForward_of_type hk ho ht hb hp : execFrameStart k o s = _)
    · exact (onForward_of_type hk ho ht hb hp : execTileRow k o s = _)
    · exact (onForward_of_type hk ho ht hb hp : execFrameEnd k o s = _)
    · exact (onForward_of_type hk ho ht hb hp : execFrameAbort k o s = _).trans (by simp [he])
    · exact (onForward_of_broken hk ho ht hb : execFrameStart k o s = _)
    · exact (onForward_of_broken hk ho ht hb : execTileRow k o s = _)
    · exact (onForward_of_broken hk ho ht hb : execFrameEnd k o s = _)
    · exact (onForward_of_broken hk ho ht hb : execFrameAbort k o s = _)
  case scanDone =>
    rintro k o s _ hk ho hs rfl
    exact onOutput_of_true hk ho hs
  case checkFail =>
    intro k o g row s f e hk ho hg hf he
    exact (onOutput_of_true hk ho hg).trans (by simp only [hf, he])

/-- Output 0, or either output of an INDEPENDENT pair. -/
theorem pairForbids_of {r : Req} {s : State} {k : Nat} (h : reqSub r = 0 ∨ s.pairMode k = 3) : (pairForbids r k s).1 = false := by
  rcases h with h | h <;> simp [pairForbids, h]

/-- Settles O26. -/
theorem outputCommandsRun : Obligations.OutputCommandsRun := by
  refine ⟨?timing, ?pair, ?lock, ?psr, ?pattern, ?status⟩
  case timing =>
    rintro r s _ _ _ h rfl rfl hp ho rfl
    exact onCommand_done h (checked_of_passes s _ (by simp [pairForbids_of hp, offCheck, ho]))
  case pair =>
    rintro r s _ h rfl hp
    exact onCommand_done h (checked_of_passes s _ (by simpa [Nat.succ_le_iff] using hp))
  case lock =>
    rintro r s _ _ h rfl rfl hp
    exact onCommand_done h (checked_of_passes s _ (by simp [pairForbids_of hp]))
  case psr =>
    intro r s h
    exact onCommand_done h rfl
  case pattern =>
    rintro r s _ _ h rfl rfl hp ho
    exact onCommand_done h (checked_of_passes s _ (by simp [pairForbids_of hp, offCheck, ho]))
  case status =>
    rintro r s _ _ h rfl rfl
    exact onCommand_done h rfl

/-- Settles O27. -/
theorem outputsFollowTheirPanel : Obligations.OutputsFollowTheirPanel := by
  refine ⟨?boundary, ?underrun, ?rise, ?fall, ?pulse, ?pass, ?passHidden, ?fail, ?retry⟩
  case boundary =>
    intro k o s hk ho hg
    exact onOutput_of_true hk ho hg
  case underrun =>
    rintro k o line s _ _ _ hk ho hon hd hl rfl rfl rfl
    exact onOutput_of_true hk ho (by simpa [hon, hl] using hd)
  case rise =>
    rintro k o edid sr te s _ hk ho hb rfl
    exact onOutput_of_true hk ho (by simp [hb])
  case fall =>
    rintro k o s _ _ hk ho hb rfl rfl
    exact onOutput_of_true hk ho hb
  case pulse =>
    intro k o s hk ho
    exact onOutput_of_true hk ho rfl
  case pass =>
    rintro k o s _ _ hk ho hd hu rfl rfl ht
    exact (onOutput_of_true hk ho (by simp [State.training, hd, hu])).trans (by simp [ht])
  case passHidden =>
    rintro k o s _ _ hk ho hd hb rfl rfl ht
    exact (onOutput_of_true hk ho (by simp [State.training, hd, hb])).trans (by simp [ht])
  case fail =>
    rintro k o s _ hk ho hd hu rfl
    exact onOutput_of_true hk ho (by simp [State.training, hd, hu])
  case retry =>
    intro k o s hk ho hd
    exact onOutput_of_true hk ho (by simp [hd])

end Sys2Proof.Machine
end

section
/-! The PCIe bridges (Chapter 8). -/

namespace Sys2Proof.Machine

section
variable {k ptype n t : Nat} {s u : State} {v : Bool} {b : List Byte} {f : State → List Byte → Nat → State}

/-- The oldest packet of a bridge's tunnel, where it keeps Table 8.5 and has the type read. -/
theorem onBridge_of_type (hk : s.hasKernel k = true) (ho : s.adapterOpen? k pcieAdapter = some t) (ht : s.takeAdapter k t = some ((v, b), u))
    (hd : displayOk b 0 = true) (hn : 4 + n ≤ b.length) (hp : byteAt b 0 = ptype) (hm : ptype ∈ [1, 2, 3, 0x10, 0x11, 0x12, 0x13]) :
    onBridge k ptype n s f = .next (f u (b.drop 4) t) := by
  subst hp
  have hc : [1, 2, 3, 0x10, 0x11, 0x12, 0x13].contains (byteAt b 0) = true := List.contains_iff_mem.2 hm
  exact (onUnit_of_present hk).trans (by simp only [ho, ht, hd, hc, Nat.not_lt.2 hn]; simp)

/-- A packet of an unknown type, whichever type was to be read. -/
theorem onBridge_of_unknown (hk : s.hasKernel k = true) (ho : s.adapterOpen? k pcieAdapter = some t) (ht : s.takeAdapter k t = some ((v, b), u))
    (hm : byteAt b 0 ∉ [1, 2, 3, 0x10, 0x11, 0x12, 0x13]) : onBridge k ptype n s f = .next (u.adapterViolation k t) := by
  have hc : [1, 2, 3, 0x10, 0x11, 0x12, 0x13].contains (byteAt b 0) = false := by simpa using hm
  exact (onUnit_of_present hk).trans (by simp only [ho, ht, hc]; simp)

end

/-- Settles O29. -/
theorem bridgePacketsAreTaken : Obligations.BridgePacketsAreTaken := by
  intro k s t v b u hk ho ht hd
  have h4 : 4 + 0 ≤ b.length := by simpa [displayOk] using (Bool.and_eq_true_iff.1 hd).2
  refine ⟨?posted, ?nonPosted, ?completion, ?credit, ?state, ?ctrl, ?wake, ?broken⟩
  case posted =>
    intro hl hp
    exact (onBridge_of_type hk ho ht hd hl hp (by simp) : execTlpP k s = _)
  case nonPosted =>
    intro hl hp
    exact (onBridge_of_type hk ho ht hd hl hp (by simp) : execTlpNp k false s = _).trans (by simp)
  case completion =>
    intro hl hp
    exact (onBridge_of_type hk ho ht hd hl hp (by simp) : execTlpCpl k s = _)
  case credit =>
    intro hl hp
    exact (onBridge_of_type hk ho ht hd hl hp (by simp) : execBridgeCredit k s = _)
  case state =>
    intro hl hp hf
    exact (onBridge_of_type hk ho ht hd hl hp (by simp) : execLinkState k s = _).trans (by simp only [hf, if_true])
  case ctrl =>
    intro hl hp hf
    exact (onBridge_of_type hk ho ht hd hl hp (by simp) : execLinkCtrl k s = _).trans (by simp only [hf, if_true])
  case wake =>
    intro hp hf
    exact (onBridge_of_type hk ho ht hd h4 hp (by simp) : execPcieWake k true s = _).trans (by simp [hf])
  case broken =>
    intro hm
    exact (onBridge_of_unknown hk ho ht hm : execTlpP k s = _)

/-- Settles O30. -/
theorem bridgesFollowTheirLinks : Obligations.BridgesFollowTheirLinks := by
  refine ⟨?timeout, ?age, ?perstLow, ?perstRise, ?hotReset, ?linkDown, ?linkUp, ?release, ?hostTlp⟩
  case timeout =>
    intro k id tag s q hk hr hn
    exact (onUnit_of_present hk).trans (by simp only [hr, hn])
  case age =>
    intro k n s hk
    exact onUnit_of_present hk
  case perstLow =>
    intro k s t hk hf hp ht
    rw [ht]
    refine (onUnit_of_present hk).trans (congrArg Host.Outcome.next (if_neg ?_))
    simp [hf, hp]
  case perstRise =>
    rintro k w v s _ hk hf rfl
    exact (onUnit_of_present hk).trans (by simp [hf])
  case hotReset =>
    intro k s hk hf hl
    constructor <;> exact (onUnit_of_present hk).trans (by simp [hf, hl])
  case linkDown =>
    rintro k p s _ _ hk hf hl rfl rfl
    exact (onUnit_of_present hk).trans (by simp [hf, hl])
  case linkUp =>
    rintro k w v s _ _ hk hf hb hl rfl rfl
    exact (onUnit_of_present hk).trans (by simp [hf, hb, hl])
  case release =>
    intro k s hk hf ho
    exact ⟨fun hb => (onUnit_of_present hk).trans (by simp [hf, hb, ho]), (onUnit_of_present hk).trans (by simp [hf, ho])⟩
  case hostTlp =>
    intro k b s hk hb hd
    exact ⟨fun hf hp => (onUnit_of_present hk).trans (by simp [hb, hd, hf, hp]),
      fun hf hl => (onUnit_of_present hk).trans (by simp [hb, hd, hf, hl])⟩

end Sys2Proof.Machine
end

section
/-! The USB hubs: commands, bus events, tokens, the packets of a hub's tunnel, and the downstream ports (Chapter 9). -/

namespace Sys2Proof.Machine

/-! ### Commands and bus events (Tables 9.5 and 9.9) -/

section
variable {s : State} {k form : Nat} {f : State → State}

/-- An event at a hub of its form, whose domain is on. -/
theorem onHub_of_form (hk : s.hasKernel k = true) (hf : (s.hub k).form = form) (hd : s.domainOn k 11 = true) :
    onHub k form s f = .next ((f s).flush k usbAdapter) :=
  (onUnit_of_present hk).trans (by rw [if_pos ⟨hf, hd⟩])

/-- A token for a hub that is connected and not suspended. -/
theorem onToken_of_connected (hk : s.hasKernel k = true) (hf : (s.hub k).form = 1) (hd : s.domainOn k 11 = true) (hc : (s.hub k).conn = true)
    (hs : s.rf (Reg.USBH_STATUS k) 0 4 = 1) : onToken k s f = .next ((f s).flush k usbAdapter) :=
  (onHub_of_form hk hf hd).trans (by rw [if_pos ⟨hc, hs⟩])

end

/-- Settles O31. -/
theorem hubCommandsAndBusEventsRun : Obligations.HubCommandsAndBusEventsRun := by
  refine ⟨?config, ?layout, ?power, ?status, ?bus, ?idle⟩
  case config =>
    rintro r s _ h rfl ht
    exact onCommand_done h (checked_of_passes s _ (by simp [ht]))
  case layout =>
    rintro r s _ h rfl hc
    exact onCommand_done h (checked_of_passes s _ (by simp [hc]))
  case power =>
    rintro r s _ h rfl hf
    exact onCommand_done h (checked_of_passes s _ (by simp [hf]))
  case status =>
    rintro r s _ h rfl hb
    exact onCommand_done h (by simp [cmdUsbStatus, hb])
  case bus =>
    intro k s hk hf hd
    refine ⟨fun f c e => ?_, ?_, ?_, fun hc hs t ht => ?_, fun hs hr t ht => ?_⟩
    · exact (onHub_of_form hk hf hd : execUpstreamBusReset k f c e s = _)
    · exact (onHub_of_form hk hf hd : execUsbUpstreamDisconnect k s = _)
    · exact (onHub_of_form hk hf hd : execUsbFormReconnect k s = _)
    · rw [ht]
      exact (onToken_of_connected hk hf hd hc hs : execUpstreamIdleSuspend k s = _)
    · rw [ht]
      exact (onHub_of_form hk hf hd : execHostResume k false s = _).trans (by simp [hs, hr])
  case idle =>
    intro k addr ep d s e hk he hu hc hw hf
    refine (onUnit_of_present hk).trans ?_
    simp only [he]
    rw [if_neg]
    rcases hf with hf | hf <;> simp [Nat.not_lt.2 hu, hc, hw, hf]

/-! ### Packets of the tunnel (Table 9.7) -/

section
variable {k form ptype n t : Nat} {tok : Bool} {known : List Nat} {s u : State} {b : List Byte} {f : State → List Byte → Nat → State}

/-- The oldest packet of a hub's tunnel, where it keeps Table 9.7 and has the type read. -/
theorem onHubPacket_of_type (hknown : known = if form = 1 then [3, 5, 8, 0x12, 0x14] else [1, 2, 4, 6, 7, 0x10, 0x11, 0x13])
    (h : hubHears k form known s t b u) (hp : byteAt b 0 = ptype) (hn : 4 + n ≤ b.length) (ht : tok = true → tokenFits k s b) :
    onHubPacket k form ptype tok n s f = .next ((f u (b.drop 4) t).flush k usbAdapter) := by
  obtain ⟨hk, hf, hd, ho, htake, hl, h1, hm⟩ := h
  obtain ⟨⟨⟨v, b'⟩, u'⟩, hx, he⟩ := Option.map_eq_some_iff.1 htake
  obtain ⟨rfl, rfl⟩ := Prod.mk.inj he
  rw [hknown, ← List.contains_iff_mem] at hm
  have hbroken : ¬(b'.length < 4 ∨ byteAt b' 1 ≠ 1 ∨
      (!(if form = 1 then [3, 5, 8, 0x12, 0x14] else [1, 2, 4, 6, 7, 0x10, 0x11, 0x13]).contains (byteAt b' 0)) = true) := by
    simp only [hm]
    simp [h1, Nat.not_lt.2 hl]
  refine (onHub_of_form hk hf hd).trans ?_
  simp only [ho, hx]
  rw [if_neg hbroken, if_neg (not_not.2 hp), if_neg (Nat.not_lt.2 hn),
    if_neg fun hm => hm.2.elim (Nat.not_lt.2 (ht hm.1).1) (Nat.not_lt.2 (ht hm.1).2)]

end

/-- Settles O33. -/
theorem hubPacketsAreTaken : Obligations.HubPacketsAreTaken := by
  refine ⟨?host, ?dock⟩
  case host =>
    rintro k s t b u _ _ h rfl rfl
    refine ⟨?portStatus, ?wake⟩
    case portStatus =>
      rintro hl hp h1 h4 v p rfl hv hb hw y hy
      have hy' : (y.hub k).waitReq = none := by rw [hy]; exact hw
      refine (onHubPacket_of_type rfl h hp hl.ge nofun : execPortStatus k s = _).trans ?_
      simp only [← hv, hb]
      simp [Nat.ne_of_gt h1, Nat.not_lt.2 h4, hl, ← hy, hy']
    case wake =>
      intro hl hp h1 h4 hs hr hwake
      refine (onHubPacket_of_type rfl h hp hl.ge nofun : execUsbWake k s = _).trans ?_
      simp [Nat.ne_of_gt h1, Nat.not_lt.2 h4, hl, hs, hr, hwake]
  case dock =>
    rintro k s t b u _ _ e h rfl rfl he
    refine ⟨?setup, ?fetch, ?out, ?credit, ?iso, ?sof, ?portCmd, ?bus⟩
    case setup =>
      intro hf hl hp hw ho
      refine (onHubPacket_of_type rfl h hp hl.ge (fun _ => hf) : execSetupPacket k s = _).trans ?_
      simp only [← he, ho, hw]
      simp [hl]
    case fetch =>
      intro hf hl hp h1 h4
      refine (onHubPacket_of_type rfl h hp hl.ge (fun _ => hf) : execFetch k s = _).trans ?_
      simp only [← he]
      simp [hl, Nat.ne_of_gt h1, Nat.not_lt.2 h4]
    case out =>
      intro hf hl hp hd hk hc
      refine (onHubPacket_of_type rfl h hp hl (fun _ => hf) : execOutPacket k s = _).trans ?_
      simp only [← he, hk]
      simp [hd, hc]
    case credit =>
      intro hf hl hp
      refine (onHubPacket_of_type rfl h hp hl.ge (fun _ => hf) : execCreditReq k s = _).trans ?_
      simp only [← he]
      simp [hl]
    case iso =>
      rintro hf hl hp hd n rfl
      exact (onHubPacket_of_type rfl h hp hl (fun _ => hf) : execIsoOut k s = _).trans (by simp [hd])
    case sof =>
      rintro hl hp n rfl
      exact (onHubPacket_of_type rfl h hp hl.ge nofun : execSofPacket k s = _).trans (by simp [hl])
    case portCmd =>
      intro hl hp h1 h4 hc hc'
      refine (onHubPacket_of_type rfl h hp hl.ge nofun : execPortCmd k s = _).trans ?_
      simp [hl, Nat.ne_of_gt h1, Nat.not_lt.2 h4, Nat.ne_of_gt hc, Nat.not_lt.2 hc']
    case bus =>
      intro hl hp hr hb
      exact (onHubPacket_of_type rfl h hp hl.ge nofun : execBusState k s = _).trans (by simp [hl, hr, hb])

/-- A token for a device on an endpoint of an Open tunnel that is neither halted nor in error. -/
theorem State.deviceToken_of_open {s u : State} {k : Nat} {t : UsbTok} {dirIn : Bool} {heldF : State → State}
    {run : State → Nat → UsbEp → State} {e : UsbEp} (hu : u = s.hostFrame k (t.uf % 16384))
    (ho : (u.adapterCtx? k usbAdapter).map (u.tunState k) = some 2)
    (he : u.takeEp k (epKey (t.addr % 128) (t.ep % 16) dirIn) (upAttr t) = some e) (hs : e.stall = false) (hr : e.err = false) :
    s.deviceToken k t dirIn heldF run = run u (epKey (t.addr % 128) (t.ep % 16) dirIn) e := by
  simp [State.deviceToken, ← hu, ho, he, hs, hr]

/-- Settles O32. -/
theorem tokensAreAnswered : Obligations.TokensAreAnswered := by
  refine ⟨?tokens, ?results⟩
  case tokens =>
    intro k s t hk hf hd hc hs
    refine ⟨fun b hb => ?_, fun b hb => ?_, fun b hb hp => ?_, fun a hu ha => ⟨fun he => ?_, fun he => ?_⟩, fun a hu hh ha he => ?_,
      fun u dirIn e hu ho he hst her => ⟨?_, ?_, ?_⟩⟩
    · exact (onToken_of_connected hk hf hd hc hs : execSetupToken k t b s = _).trans (by rw [if_pos hb])
    · exact (onToken_of_connected hk hf hd hc hs : execHubClassRequest k b s = _).trans (by rw [if_pos hb])
    · exact (onToken_of_connected hk hf hd hc hs : execManagementEp0Request k b s = _).trans (by rw [if_pos ⟨hb, hp⟩])
    · exact (onToken_of_connected hk hf hd hc hs : execInToken k t a s = _).trans (by rw [if_pos ⟨hu, ha⟩, if_pos he])
    · exact (onToken_of_connected hk hf hd hc hs : execInToken k t a s = _).trans (by rw [if_pos ⟨hu, ha⟩]; simp [he])
    · refine (onToken_of_connected hk hf hd hc hs : execInToken k t a s = _).trans ?_
      rw [if_neg (by simp [hu]), if_pos ⟨hh, ha⟩, if_pos he]
    · rintro a rfl hn hh
      refine (onToken_of_connected hk hf hd hc hs : execInToken k t a s = _).trans ?_
      rw [if_neg (by simp [hn]), if_neg (by simp [hh]), State.deviceToken_of_open hu ho he hst her]
    · rintro tog data rfl
      refine (onToken_of_connected hk hf hd hc hs : execOutToken k t tog data s = _).trans ?_
      rw [State.deviceToken_of_open hu ho he hst her]
    · rintro rfl
      refine (onToken_of_connected hk hf hd hc hs : execPingToken k t s = _).trans ?_
      rw [State.deviceToken_of_open hu ho he hst her]
  case results =>
    rintro k s t b u _ _ h rfl rfl
    refine ⟨fun ht hl hp hr hd late => ?_, fun ht hl hp e he => ⟨fun hr => ?_, fun hr => ?_⟩, ?_⟩
    · exact (onHubPacket_of_type rfl h hp hl (fun _ => ht) : execInResult k late s = _).trans (by simp [hr, hd])
    · exact (onHubPacket_of_type rfl h hp hl.ge (fun _ => ht) : execOutResult k s = _).trans (by simp only [he, hr]; simp [hl])
    · exact (onHubPacket_of_type rfl h hp hl.ge (fun _ => ht) : execOutResult k s = _).trans (by simp only [he, hr]; simp [hl])
    · rintro ht hl hp hd n rfl
      exact (onHubPacket_of_type rfl h hp hl (fun _ => ht) : execIsoIn k s = _).trans (by simp [hd])

/-! ### Downstream ports -/

/-- Settles O34. -/
theorem downstreamPortsFollow : Obligations.DownstreamPortsFollow := by
  rintro k p s _ hk hf hd hp rfl
  refine ⟨?transaction, ?wake, ?babble, ?overCurrent, ?reset, ?connect, ?cycle⟩
  case transaction =>
    intro a e kind res tog rec data x hkind ho hx
    refine (onHub_of_form hk hf hd : execDeviceTransactionDone k a e kind res tog rec data s = _).trans ?_
    simp [ho, hx, Nat.not_le.2 hkind]
  case wake =>
    intro h0 h1 hb hw
    exact (onHub_of_form hk hf hd : execDeviceRemoteWake k p s = _).trans (by simp [hp, h0, h1, hb, hw])
  case babble =>
    intro h1
    exact (onHub_of_form hk hf hd : execBabble k p s = _).trans (by rw [if_pos ⟨hp, h1⟩])
  case overCurrent =>
    intro h8
    exact (onHub_of_form hk hf hd : execUsbOverCurrent k p s = _).trans (by rw [if_pos ⟨hp, h8⟩])
  case reset =>
    intro high low h4
    exact (onHub_of_form hk hf hd : execPortResetEnd k p high low s = _).trans (by rw [if_pos ⟨hp, h4⟩])
  case connect =>
    intro low h8 hr h0
    exact (onHub_of_form hk hf hd : execDownstreamConnectChange k p true low s = _).trans (by simp [hp, h8, hr, h0])
  case cycle =>
    intro h2
    exact (onHub_of_form hk hf hd : execUsbPowerCycleEnd k p s = _).trans (by rw [if_pos ⟨hp, h2⟩])

end Sys2Proof.Machine
end

section
/-! The Ethernet ports, the PRP pair and their tunnels (Chapter 10). -/

namespace Sys2Proof.Machine

section
variable {s u : State} {k e t ptype : Nat} {v : Bool} {b : List Byte} {f : State → State} {g : State → Bool → List Byte → Nat → State}

/-- An event at an Ethernet port, whose NET domain is on. -/
theorem onEth_of_on (hk : s.hasKernel k = true) (he : e < 2) (hd : s.domainOn k 10 = true) : onEth k e s f = .next (f s) :=
  (onUnit_of_present (by simp [hk, he])).trans (by rw [if_pos hd])

/-- The oldest packet of an Ethernet tunnel that no PAUSE holds back. -/
theorem onEthPacket_of_taken (hk : s.hasKernel k = true) (he : e < 2) (hd : s.domainOn k 10 = true)
    (ho : s.adapterOpen? k (ethAdapter e) = some t) (hp : ((s.net k).eth e).pauseEnd ≤ s.now)
    (ht : s.takeAdapter k t = some ((v, b), u)) : onEthPacket k e ptype s g = .next
      (if byteAt b 1 ≠ 1 ∨ (byteAt b 0 ≠ 1 ∧ byteAt b 0 ≠ 2) ∨ b.length < (if byteAt b 0 = 2 then 16 else 4) + 14 ∨
          s.maxFrame k e < b.length - (if byteAt b 0 = 2 then 16 else 4) + 4 then u.adapterViolation k t
        else if byteAt b 0 ≠ ptype then s else g u v b t) :=
  (onEth_of_on hk he hd).trans (by simp only [ho, if_neg (Nat.not_lt.2 hp), ht])

end

/-- Settles O35. -/
theorem ethernetPortsFollow : Obligations.EthernetPortsFollow := by
  refine ⟨?config, ?pair, ?status, ?port, ?timers⟩
  case config =>
    rintro r s _ _ _ h rfl rfl hb rfl
    refine ⟨fun hm => ?_, fun hm => ?_⟩
    · exact onCommand_done h ((checked_of_passes s _ (by simp [hb])).trans (by simp [hm]))
    · exact onCommand_done h ((checked_of_passes s _ (by simp [hb])).trans (by simp [hm]))
  case pair =>
    rintro r s _ h rfl h0 h1 hb0 hb1
    exact onCommand_done h (checked_of_passes s _ (by simp [h0, h1, hb0, hb1]))
  case status =>
    rintro r s _ _ _ _ h rfl rfl rfl rfl
    exact onCommand_done h rfl
  case port =>
    intro k e s hk he hd
    refine ⟨?down, ?up, ?module, ?lan, ?rx, ?packet⟩
    case down =>
      intro hl
      exact (onEth_of_on hk he hd : execEthLinkChange k e false 0 s = _).trans (by simp [hl])
    case up =>
      intro rate hm h5 hl
      exact (onEth_of_on hk he hd : execEthLinkChange k e true rate s = _).trans (by simp [hm, h5, hl])
    case module =>
      intro c t ht h5
      exact (onEth_of_on hk he hd : execSfpModuleInsert k e true true c s = _).trans (by simp [← ht, h5])
    case lan =>
      intro hp hl
      exact (onEth_of_on hk he hd : execPrpLanChange k e s = _).trans (by simp [hp, hl])
    case rx =>
      intro b fcs full hl hb
      exact (onEth_of_on hk he hd : execEthFrameRx k e b fcs full s = _).trans (by simp [hl, hb])
    case packet =>
      intro t v b u ho hp ht h1 hmin hmax
      refine ⟨fun h0 hty hv hu => ?_, fun h0 => ?_⟩
      · refine (onEthPacket_of_taken hk he hd ho hp ht : execEthFramePacket k e s = _).trans ?_
        rw [if_neg (by simp [h0, h1]; omega)]
        simp [h0, hty, hv, hu]
      · refine (onEthPacket_of_taken hk he hd ho hp ht : execEthFramePacket k e s = _).trans ?_
        rw [if_pos (by simpa using .inr (.inl (by simpa using h0)))]
  case timers =>
    intro k s hk hd
    refine ⟨fun mac q => ?_, fun mac q => ?_, fun hp hs => ?_⟩
    · exact (onEth_of_on hk Nat.two_pos hd : execPrpEntryExpiry k true mac q s = _)
    · exact (onEth_of_on hk Nat.two_pos hd : execPrpEntryExpiry k false mac q s = _)
    · exact (onEth_of_on hk Nat.two_pos hd : execPrpLifeCheckTimer k s = _).trans (by rw [if_pos ⟨hp, hs⟩])

end Sys2Proof.Machine
end

section
/-! Feeds, PANEL and LOAD (Chapter 12). -/

namespace Sys2Proof.Machine

/-- An event of the power path outside Seed. -/
theorem onPath_of_powered {s f : State} {present : Bool} (hp : present = true) (hs : s.inSeed = false) : onPath present s f = .next f := by
  simp [onPath, onUnit_of_present hp, hs]

/-- Settles O41. -/
theorem feedsAndPanelFollow : Obligations.FeedsAndPanelFollow := by
  refine ⟨fun f mv s hf => (onUnit_of_present (by simpa using hf) : execFeedVoltageChange f mv s = _), fun s hs => ?_⟩
  refine ⟨?conducting, ?forward, ?overVolt, ?recover, ?sample, ?warnOn, ?warnNew, ?rise, ?hold⟩
  case conducting =>
    intro f hf h3
    refine ⟨(onPath_of_powered (decide_eq_true hf) hs).trans (by simp [h3]), fun ma => (onPath_of_powered (decide_eq_true hf) hs).trans ?_⟩
    rw [if_pos h3]
  case forward =>
    intro f hf h2
    exact (onPath_of_powered (decide_eq_true hf) hs).trans (by simp [h2])
  case overVolt =>
    intro f v hf h4
    exact (onPath_of_powered (decide_eq_true hf) hs).trans (by rw [if_neg h4])
  case recover =>
    intro f hf h4
    exact (onPath_of_powered (decide_eq_true hf) hs).trans (by rw [if_pos h4])
  case sample =>
    rintro codes l t u rfl rfl rfl hd
    exact (onPath_of_powered rfl hs).trans (congrArg _ (if_neg fun h => absurd (hd.symm.trans h.1) Bool.false_ne_true))
  case warnOn =>
    intro mv hp
    exact (onPath_of_powered rfl hs).trans (by simp [hp])
  case warnNew =>
    intro mv hp
    exact (onPath_of_powered rfl hs).trans (by simp [hp])
  case rise =>
    rintro mv t rfl hp hd
    exact (onPath_of_powered rfl hs).trans (by simp [hp, hd])
  case hold =>
    intro d hd hdrop hrise
    exact (onPath_of_powered rfl hs).trans (by simp [hd, hdrop, hrise])

/-- Settles O42. -/
theorem loadFollowsItsInputs : Obligations.LoadFollowsItsInputs := by
  refine ⟨?enHigh, ?enLow, ?delay, ?ramp, ?panel⟩
  case enHigh =>
    intro s he
    change execLoadEnChange true s = _
    simp [execLoadEnChange, he]
  case enLow =>
    intro s he h4
    change execLoadEnChange false s = _
    simp [execLoadEnChange, he, h4]
  case delay =>
    intro s h7
    change execLoadDisableDelayEnd s = _
    simp [execLoadDisableDelayEnd, h7]
  case ramp =>
    intro s hs h1
    refine ⟨?_, fun ma mv mj => ?_, fun ma mv => ?_, fun ma mv hma => ?_⟩
    · intro us mj t ht hd
      exact (onPath_of_powered rfl hs : execRampComplete us mj s = _).trans (by simp [h1, ← ht, hd])
    · exact (onPath_of_powered rfl hs).trans (by rw [if_pos h1])
    · exact (onPath_of_powered rfl hs).trans (by rw [if_pos h1])
    · exact (onPath_of_powered rfl hs).trans (by rw [if_pos ⟨.inl h1, hma⟩])
  case panel =>
    intro s hs
    refine ⟨?drop, ?above, fun mv => onPath_of_powered rfl hs⟩
    case drop =>
      rintro mv t u v rfl hd rfl rfl
      exact (onPath_of_powered rfl hs).trans (by rw [if_neg (by simp [hd])])
    case above =>
      rintro mv t rfl hw
      exact (onPath_of_powered rfl hs).trans (by simp [Nat.not_lt.2 hw])

end Sys2Proof.Machine
end


section
/-! The cable power commands and the policy image (Chapter 13). -/

namespace Sys2Proof.Machine

/-- An event at a Hook that runs. -/
theorem onHook_of_up {s f : State} {h : Nat} {c : Bool} (hu : s.hookUp h = true) (hc : c = true) : onHook h c s f = .next f := by
  have hh : h < 2 := by
    simp only [State.hookUp, Bool.and_eq_true, decide_eq_true_eq] at hu
    exact hu.1.1.1
  rw [onHook, onUnit_of_present (by simpa using hh), if_pos (by simp [hu, hc])]

/-- Settles O43. -/
theorem cablePowerCommandsRun : Obligations.CablePowerCommandsRun := by
  refine ⟨?status, ?role, ?source, ?sink, ?frs, ?cable, ?update, ?step, ?watchdog, ?restarted⟩
  case status =>
    rintro r s _ h rfl
    exact onCommand_done h rfl
  case role =>
    rintro r s _ h rfl
    exact onCommand_done h rfl
  case source =>
    rintro r s _ t h rfl hst hi hp ht
    rw [ht]
    exact onCommand_done h (checked_of_passes s _ (by simpa [State.pdRefusal, hi, hp] using hst))
  case sink =>
    rintro r s _ h rfl h4 ha hm
    refine (onCommand_of_allowed h : execPdSinkRequest r s = _).trans ?_
    simp only [cmdPdSinkRequest, cableCmd, hm]
    rw [checked_of_passes s _ (by simp [State.pdRefusal, h4, ha])]
    rfl
  case frs =>
    rintro r s _ h rfl
    exact onCommand_done h rfl
  case cable =>
    rintro r s _ h rfl h2
    exact onCommand_done h (checked_of_passes s _ (by simpa [State.pdRefusal] using Nat.lt_of_succ_le h2))
  case update =>
    rintro r s _ h rfl hj hd
    exact onCommand_done h ((checked_of_passes s _ (by simp [heldBy, hj])).trans (by rw [hd]; rfl))
  case step =>
    intro s j hj
    have hx : exec .policyImageStep s = execPolicyImageStep s := rfl
    refine ⟨fun h1 => ?_, fun h2 hf => ?_, fun h2 hf => ?_, fun h3 => ?_⟩
    · simp [hx, execPolicyImageStep, hj, h1]
    · simp [hx, execPolicyImageStep, hj, h2, hf]
    · obtain ⟨f, hf⟩ := Option.ne_none_iff_exists'.1 hf
      simp [hx, execPolicyImageStep, hj, h2, hf]
    · simp [hx, execPolicyImageStep, hj, h3]
  case watchdog =>
    intro h s hu
    exact onHook_of_up hu rfl
  case restarted =>
    intro h s hh hs hd ha
    have hn : ({ s with hooksDown := s.hooksDown.filter fun x => x ≠ h } : State).attachedPd h = false :=
      decide_eq_false (Nat.not_le.2 (Nat.lt_succ_of_le ha))
    exact (onUnit_of_present (by simpa using hh) : execHookRestarted h s = _).trans (by rw [if_neg (by simpa [hs] using hd), if_pos (by rw [hn]; rfl)])

end Sys2Proof.Machine
end

section
/-! The key store, the life cycle and link security, firmware slots and board tables (Chapter 14). -/

namespace Sys2Proof.Machine

/-! ### Keys (Table 14.10) -/

/-- Settles O46. -/
theorem keyCommandsRun : Obligations.KeyCommandsRun := by
  refine ⟨?info, ?derive, ?erase, ?attr, ?advance, ?fuse, ?policy, ?drbg, ?phase, ?discard⟩
  case info =>
    rintro r s _ h rfl
    exact onCommand_done h rfl
  case derive =>
    rintro r s t _ h rfl ht hd he hp hk h23
    rw [ht]
    refine onCommand_done h (checked_of_passes s _ ?_)
    cases hder : derives r with
    | false => simp [hd, hk, h23]
    | true =>
      have hparent : deriveParent r = 0xFF ∨ s.keyKind (deriveParent r) ≠ 0 := or_iff_not_imp_left.2 (hp hder)
      rcases hparent with hparent | hparent <;> simp [hd, hk, h23, he hder, hparent]
  case erase =>
    rintro r s _ h rfl hk h23 hu
    exact onCommand_done h (checked_of_passes s _ (by simp [hk, h23, hu]))
  case attr =>
    rintro r s _ h rfl hk hu
    exact onCommand_done h (checked_of_passes s _ (by simp [hk, hu]))
  case advance =>
    intro r s h h3 h1 hj hf
    refine onCommand_accepted h (checked_of_passes s _ ?_)
    by_cases hl : s.lifeCycle = 1
    · simp [hl, h1 hl, hj, heldBy, hf]
    · simp [hl, h3, hj, heldBy, hf]
  case fuse =>
    intro s t j hj ha ht
    change execLifecycleFuseStep s = _
    simp [execLifecycleFuseStep, hj, ha, ← ht]
  case policy =>
    rintro r s _ _ h rfl rfl hr hid ha
    refine onCommand_done h (checked_of_passes s _ ?_)
    simpa [hr, hid] using ha
  case drbg =>
    intro k test s hk hst hd
    exact (onUnit_of_present hk : execDrbgHealthFail k test s = _).trans (by rw [if_neg (by simpa [hd] using hst)])
  case phase =>
    intro k p s hp hc ho
    exact onPort_of_true hp (by simp [hc, ho])
  case discard =>
    intro k p s hp ho
    exact onPort_of_true hp ho

/-! ### Firmware slots, board tables and the black box -/

/-- Settles O47. -/
theorem firmwareAndTablesRun : Obligations.FirmwareAndTablesRun := by
  refine ⟨?info, ?begin, ?data, ?commit, ?idle, ?commitStep, ?select, ?load, ?tableStep, ?clear⟩
  case info =>
    intro r s h
    exact onCommand_done h rfl
  case begin =>
    intro r s t h hs ht ho hj hu
    rw [hu]
    exact onCommand_done h (checked_of_passes s _ (by simp [hs, ht, ho, heldBy, hj]))
  case data =>
    intro r s h ho hm
    exact onCommand_done h (checked_of_passes s _ (by simp [notOwner, ho, hm]))
  case commit =>
    rintro r s _ h ho hm hl hj rfl
    exact onCommand_accepted h (checked_of_passes s _ (by simp [notOwner, ho, hm, hl, hj]))
  case idle =>
    intro s ho
    change execFwSessionIdle s = _
    rw [execFwSessionIdle, if_pos ho]
  case commitStep =>
    rintro s j _ hj rfl
    have hx (good : Bool) : exec (.fwCommitStep good) s = execFwCommitStep good s := rfl
    refine ⟨fun good h1 hf => ?_, fun good d h1 hf => ?_, fun good h2 => ?_, fun h2 => ?_, fun h2 hs => ?_⟩
    · simp [hx, execFwCommitStep, hj, h1, hf]
    · simp [hx, execFwCommitStep, hj, h1, hf]
    · simp [hx, execFwCommitStep, hj, h2]
    · have h1 : j.step ≠ 1 := by omega
      simp [hx, execFwCommitStep, hj, h1, Nat.ne_of_gt h2]
    · have h1 : j.step ≠ 1 := by omega
      simp [hx, execFwCommitStep, hj, h1, Nat.ne_of_gt h2, Nat.ne_of_lt hs]
  case select =>
    rintro r s _ h rfl
    refine ⟨fun ha => ?_, fun ha hv hs => ?_, fun ha hv hs => ?_, fun ha hr hs => ?_⟩ <;> refine onCommand_done h ?_ <;>
      simp only [cmdFwSlotSelect, fwCmd, ha]
    · exact (checked_of_passes s _ (by simp [hv, Nat.not_lt.2 hs])).trans (by simp)
    · exact (checked_of_passes s _ (by simp [hv, Nat.not_lt.2 hs])).trans (by simp)
    · exact (checked_of_passes s _ (by simp [hr])).trans (by simp [Nat.max_eq_right hs.le, Nat.ne_of_gt hs])
  case load =>
    rintro r s _ h rfl hj hd
    exact onCommand_done h ((checked_of_passes s _ (by simp [heldBy, hj])).trans (by rw [hd]; rfl))
  case tableStep =>
    intro s j hj
    have hx : exec .boardTableStep s = execBoardTableStep s := rfl
    refine ⟨fun h1 hf => ?_, fun h2 => ?_, fun h2 => ?_⟩
    · simp [hx, execBoardTableStep, hj, h1, hf]
    · simp [hx, execBoardTableStep, hj, h2]
    · have h1 : j.step ≠ 1 := by omega
      simp [hx, execBoardTableStep, hj, h1, Nat.ne_of_gt h2]
  case clear =>
    rintro r s _ h rfl
    exact onCommand_done h rfl

end Sys2Proof.Machine
end

section
/-! Mailboxes, hardware locks, register accesses and diagnostics (Chapter 2). -/

namespace Sys2Proof.Machine

/-! ### Mailboxes and locks (Table 2.16) -/

/-- An access to a mailbox of a kernel that runs. -/
theorem onMbox_of_running {s f : State} {k m : Nat} (hk : s.hasKernel k = true) (hm : m < 16) (hr : s.kernelRuns k = true) :
    onMbox k m s f = .next f := by
  simp [onMbox, onUnit, hk, hm, hr]

/-- Settles O48. -/
theorem mailboxesRun : Obligations.MailboxesRun := by
  refine ⟨fun v k m s w hk hm hr => ⟨onMbox_of_running hk hm hr, onMbox_of_running hk hm hr, onMbox_of_running hk (by decide) hr,
    onMbox_of_running hk (by decide) hr⟩, ?write, ?read, fun r s h => onCommand_done h rfl⟩
  case write =>
    rintro r s _ _ _ t h rfl rfl rfl hs hf ho ht
    rw [ht]
    refine onCommand_done h (checked_of_passes s _ ?_)
    rcases ho with ho | ⟨ho, hg⟩
    · simp [hs, hf, ho, (master_ne_zero (v := r.via)).symm]
    · simp [hs, hf, ho, hg]
  case read =>
    rintro r s _ _ h rfl rfl
    exact onCommand_done h rfl

/-- Settles O49. -/
theorem locksRun : Obligations.LocksRun := by
  refine ⟨fun v k m s w hk hm hr => ⟨exec_mboxLockRead hk hm hr, onMbox_of_running hk hm hr⟩, ?idle, ?acquire, ?release, ?status, ?break_⟩
  case idle =>
    intro k m s hk hm ho
    refine (onUnit_of_present (by simp [hk, hm]) : execLockIdleBreak k m s = _).trans ?_
    rcases ho with ⟨ho, hi⟩ | ⟨ho, hf⟩
    · simp [ho, hi]
    · have h : 1 ≤ s.lockOwner k m ∧ s.lockOwner k m ≤ 4 ∧ s.lockOwner k m ≠ 1 := by
        simp only [List.mem_cons, List.not_mem_nil, or_false] at ho
        omega
      simp only [h.2.2, if_false, hf, h.1, h.2.1, true_and, if_true]
  case acquire =>
    rintro r s _ _ h rfl rfl ho
    exact exec_lockAcquire_of_got h ho
  case release =>
    rintro r s _ _ h rfl rfl ho hg hs
    exact onCommand_done h ((checked_of_passes s _ (by simp [ho, hg, hs])).trans (by simp [ho, master_ne_zero]))
  case status =>
    rintro r s _ _ h rfl rfl
    exact onCommand_done h rfl
  case break_ =>
    rintro r s t _ _ _ h rfl rfl rfl ho hm ht
    rw [ht]
    exact onCommand_done h (checked_of_passes s _ (by rcases hm with hm | hm <;> simp [ho, hm]))

/-! ### Register accesses and diagnostics (Tables 2.10 and 2.17) -/

/-- Settles O50. -/
theorem registerAccessesRun : Obligations.RegisterAccessesRun := by
  refine ⟨?read, ?readLead, ?write, ?modify, ?logWin, ?rcField, ?single, ?counters, ?loopback, ?sensors⟩
  case read =>
    rintro r s _ _ h rfl rfl hr
    refine onCommand_done h (checked_of_passes s _ ?_)
    split
    · rfl
    · exact hr
  case readLead =>
    rintro r s _ h rfl hc hl
    refine onCommand_done h ?_
    simp only [cmdRegRead, regCmd, hc, hl]
    exact checked_of_passes s _ rfl
  case write =>
    rintro r s _ h rfl hr
    exact onCommand_done h (checked_of_passes s _ hr)
  case modify =>
    rintro r s _ x y t h rfl hr hx hy ht
    rw [ht, hy, hx]
    exact onCommand_done h (checked_of_passes s _ hr)
  case logWin =>
    intro k s t hk hr ht
    rw [ht]
    exact (onUnit_of_present hk : execLogWinRead k s = _).trans (by rw [if_pos hr])
  case rcField =>
    intro a s ha hrc hr
    refine (onUnit_of_present (by simpa using ha) : execRcFieldRead a s = _).trans ?_
    rw [if_pos ⟨hrc, firstFail_eq_none.2 hr⟩]
    cases s.openReg a <;> rfl
  case single =>
    intro v a w s ha h4 hm hw hr
    exact (onUnit_of_present (by simpa using ha) : execRegisterWrite v a w s = _).trans (by rw [if_pos ⟨h4, hm, hw, firstFail_eq_none.2 hr⟩])
  case counters =>
    rintro r s _ _ l h rfl rfl hd hl
    rw [hl]
    refine onCommand_done h ((checked_of_passes s _ ?_).trans (by rw [List.length_map]))
    rcases hd with (hd | hd) | hd
    · simp [hd]
    · by_cases hu : reqTarget r = 15 <;> simp [hu, Nat.not_lt.2 hd]
    · by_cases hu : reqTarget r = 15 <;> simp [hu, hd]
  case loopback =>
    rintro r s _ _ h rfl rfl hd h6
    exact onCommand_done h (checked_of_passes s _ (by simp [hd, h6]))
  case sensors =>
    intro r s h
    exact ⟨fun hu => onCommand_done h (if_pos hu), fun hu => onCommand_done h (if_neg hu)⟩

end Sys2Proof.Machine
end

section
/-! The system queries, the states of the part, its pins and resets, and the recovery of kernels (Chapters 2 and 15). -/

namespace Sys2Proof.Machine

/-! ### The system commands (Table 2.15) -/

/-- Settles O1. -/
theorem systemCommandsAnswer : Obligations.SystemCommandsAnswer := by
  refine ⟨?info, ?nop, ?getReply, ?subscribe, ?status, ?abort, ?expiry, fun v tag s => rfl⟩
  case info =>
    intro r s h hs
    exact onCommand_answers h rfl (by simp [cmdSysInfo, badSub, hs]) rfl
  case nop =>
    intro r s h hs
    exact onCommand_answers h rfl (by simp [cmdNop, badSub, hs]) rfl
  case getReply =>
    intro r s q h hs hq h4 ho
    refine onCommand_answers h rfl ?_ (by simp only [cmdGetReply, hq])
    rcases ho with ho | ho
    · simp [cmdGetReply, badSub, hs, hq, ho]
    · simp [cmdGetReply, badSub, hs, hq, h4, Nat.not_le.2 ho]
  case subscribe =>
    intro r s h hs hv hm
    exact onCommand_answers h rfl (by simp [cmdEventSubscribe, badSub, hs, Nat.not_lt.2 hv, hm]) rfl
  case status =>
    intro r s j h hs hj
    exact onCommand_answers h rfl (by simp [cmdJobStatus, badSub, hs, hj]) (by simp only [cmdJobStatus, hj])
  case abort =>
    intro r s j h hs hj hr ho
    refine onCommand_answers h rfl (by simp [cmdJobAbort, badSub, hs, hj]) ?_
    simp only [cmdJobAbort, hj]
    exact checked_of_passes s _ (by simpa [hr, Job.unstoppable, and_assoc] using ho)
  case expiry =>
    intro job s
    refine congrArg (fun l => Host.Outcome.next { s with jobs := l }) (List.filter_congr fun j _ => ?_)
    by_cases hn : j.num = job <;> by_cases hr : j.state = .running <;> simp [hn, hr]

/-! ### Run, Quiet and Seed (Tables 15.3 to 15.6) -/

/-- Settles O2. -/
theorem partStateCommandsRun : Obligations.PartStateCommandsRun := by
  refine ⟨?run, ?quiet, ?seed, ?drain, ?wake, ?delay, ?cancel, ?leave⟩
  case run =>
    intro r s h h0 hp hl
    refine onCommand_accepted h ?_
    simp only [cmdSysStateSet, h0]
    exact checked_of_passes s _ (by simp [hp, jobLimit, Nat.not_le.2 hl])
  case quiet =>
    intro r s h h1 hq hr
    refine onCommand_accepted h ?_
    simp only [cmdSysStateSet, h1]
    exact checked_of_passes s _ (by simp [anyJob, heldBy, hr, hq])
  case seed =>
    intro r s h h2 hp hr
    refine onCommand_accepted h ?_
    simp only [cmdSysStateSet, h2]
    exact checked_of_passes s _ (by simp [anyJob, heldBy, hr, Nat.not_lt.2 hp])
  case drain =>
    intro s j v hj h2 hv ha hw
    change execQuietDrainEnd s = _
    simp [execQuietDrainEnd, hj, h2, hv, ha, hw]
  case wake =>
    intro k src s hk hs hw hp
    refine (onUnit_of_present (by simp [hk, hs]) : execQuietWake k src s = _).trans ?_
    rw [if_pos hw, State.wakePart, if_pos hp]
  case delay =>
    intro s hd
    change execSeedDelayExpiry s = _
    rw [execSeedDelayExpiry, if_pos hd]
  case cancel =>
    intro sources s h0 hv hd
    change execSeedWake sources s = _
    simp [execSeedWake, h0, hv, hd]
  case leave =>
    intro sources s h0 hv hd hs
    change execSeedWake sources s = _
    simp [execSeedWake, h0, hv, hd, hs]

/-! ### Pins, kernels and domains -/

/-- Settles O3. -/
theorem pinsResetAndKernelsStart : Obligations.PinsResetAndKernelsStart := by
  refine ⟨?on, ?off, ?okRise, ?okFall, ?reset, ?lost, ?release, ?domain⟩
  case on =>
    intro s hv
    change execPowerOn s = _
    rw [execPowerOn, if_neg (by simp [hv])]
  case off =>
    intro s hv
    change execVaonFall s = _
    rw [execVaonFall, if_neg (by simp [hv])]
  case okRise =>
    intro s hv
    change execSysPwrokRise s = _
    rw [execSysPwrokRise, if_pos hv]
  case okFall =>
    intro s hv hs
    change execSysPwrokFall s = _
    rw [execSysPwrokFall, if_pos hv, if_neg (by simp [hs])]
  case reset =>
    intro s hs
    change execResetNLow s = _
    rw [execResetNLow, if_neg (by simp [hs])]
  case lost =>
    intro s hs h7
    change execLeadLost s = _
    rw [execLeadLost, if_neg (by simp [hs, h7])]
  case release =>
    intro k attempts ro ga gb bs s hk hs hok hst hr hlead
    refine (onUnit_of_present hk : execKernelRelease k attempts ro ga gb bs s = _).trans ?_
    rw [if_pos (by simpa [hs, hok, hst, hr] using hlead)]
  case domain =>
    intro k d s hk hd h3 h2
    simp only [List.mem_cons, List.not_mem_nil, or_false] at hd
    refine (onUnit_of_present (by simp [hk]; omega) : execDomainPowerUp k d s = _).trans ?_
    simp only [h3, h2, and_self, if_true]
    rw [if_neg (by omega), if_neg (by omega), if_neg (by omega), if_neg (by omega)]

/-! ### Faults and recovery -/

/-- Settles O4. -/
theorem kernelFaultsAreRecovered : Obligations.KernelFaultsAreRecovered := by
  refine ⟨?sysReset, ?recover, ?watchdog, ?heartbeat, ?internal, ?takeover, ?rejoin, ?timeout⟩
  case sysReset =>
    intro r s h h1 h2
    have hc : onCommand cmdSysReset r s = .next ((s.setPart { s.part with resetWait := s.part.resetWait ++
        [(reqField r 12 0 2, reqTarget r, reqField r 12 8 8, s.now + 10000000)] }).answer 0x0003 r []) := by
      refine onCommand_done h (checked_of_passes s _ ?_)
      rcases Nat.lt_trichotomy (reqField r 12 0 2) 2 with hlt | heq | hgt
      · by_cases hone : reqField r 12 0 2 = 1
        · simp [hone, h1 hone]
        · simp [hone, hlt.ne]
      · rcases h2 heq with hu | hu <;> simp [heq, hu]
      · simp [hgt.ne', (Nat.lt_trans Nat.one_lt_two hgt).ne']
    change execSysReset r s = _
    rw [execSysReset, hc]
  case recover =>
    intro r s h hl hst hne hj hn
    refine onCommand_accepted h ?_
    simp only [List.mem_cons, List.not_mem_nil, or_false] at hst
    have hpass : s.canPassLead (reqTarget r) = true := by simp [State.canPassLead, hne]
    refine (checked_of_passes s _ ?_).trans ?_
    · rcases hst with hst | hst | hst <;> simp [hl, hst, hpass, jobLimit, Nat.not_le.2 hj, heldBy, hn]
    · rw [if_neg (by omega), if_neg hne]
  case watchdog =>
    intro k s hk hr hl
    refine (onUnit_of_present hk : execWatchdogExpiry k s = _).trans ?_
    simp [hr, hl, State.canPassLead]
  case heartbeat =>
    intro k s hk hr hlr hl
    exact (onUnit_of_present hk : execHeartbeatTimeout k s = _).trans (by rw [if_pos (by simp [hr, hlr, hl])])
  case internal =>
    intro k s hk hr hp
    exact (onUnit_of_present hk : execInternalFault k s = _).trans (by rw [if_pos (by simp [hr, hp])])
  case takeover =>
    intro s hl h1 h2 h6
    change execLeadTakeover s = _
    rw [execLeadTakeover, if_pos ⟨hl, h1, h2, h6⟩]
  case rejoin =>
    intro k s j hk h0 h5 hl hj
    exact (onUnit_of_present hk : execKernelRejoin k true s = _).trans (by simp [h5, hl, h0, hj])
  case timeout =>
    intro k s j hk h5 hl hj
    refine (onUnit_of_present hk : execRejoinTimeout k s = _).trans ?_
    rw [if_pos ⟨h5, hl⟩, hj]
    rfl

end Sys2Proof.Machine
end

section
/-! Host transports and the remote link (Chapter 2). -/

namespace Sys2Proof.Machine

/-! ### SPI, USB and PCIe -/

/-- A field of a word is below the power of its width. -/
theorem fld_lt (w : Word) (lo n : Nat) : fld w lo n < 2 ^ n := by
  simpa [fld] using Nat.mod_lt _ (Nat.two_pow_pos n)

/-- Bytes written to a slot leave the busy bits. -/
theorem PcieFn.writeSlot_busy (f : PcieFn) (slot at' : Nat) (bytes : List Byte) : (f.writeSlot slot at' bytes).busy = f.busy := by
  rw [PcieFn.writeSlot]
  split <;> rfl

/-- A write of no bytes leaves the slot. -/
theorem PcieFn.writeSlot_nil (f : PcieFn) (slot at' : Nat) : f.writeSlot slot at' [] = f := rfl

/-- A management function stored as it is changes nothing. -/
theorem State.setPcieFn_pcieFn {s : State} (h : s.Canonical) (k : Nat) : s.setPcieFn k (s.pcieFn k) = s := by
  simp only [State.setPcieFn, State.pcieFn, smapPut_get k h.pcieFns]

/-- The packet that READ_PACKET gives is the oldest reply, where no other has been begun. -/
theorem State.spiNext_of_reply {s : State} {pk : Packet} {l : List Packet} (hr : (s.ep .spi).reading = none) (hl : (s.ep .spi).replies = pk :: l) :
    s.spiNext = some (pk, true, s.ep .spi) := by
  simp only [State.spiNext, hr, hl]

/-- Settles O5. -/
theorem hostTransportsMove : Obligations.HostTransportsMove := by
  refine ⟨?write, ?badLength, ?noSpace, ?part, ?whole, ?status, ?bad, ?usb, ?post, ?postBusy, ?free, ?tail⟩
  case write =>
    intro bytes s hs h12 h1040
    change execSpiWritePacket bytes s = _
    have hs' : (s.spiTransaction []).spiSpace = true := hs
    simp [execSpiWritePacket, hs', Nat.not_lt.2 h12, Nat.not_lt.2 h1040]
  case badLength =>
    intro bytes s hs hb
    change execSpiWritePacket bytes s = _
    have hs' : (s.spiTransaction []).spiSpace = true := hs
    simp only [execSpiWritePacket, hs', Bool.not_true, Bool.false_eq_true, if_false, if_pos hb]
  case noSpace =>
    intro bytes s hs hp
    change execSpiWritePacket bytes s = _
    have hs' : (s.spiTransaction []).spiSpace = false := hs
    have hp' : (s.spiTransaction []).part.spiSeen = true := hp
    simp [execSpiWritePacket, hs', hp']
  case part =>
    intro n s pk l hr hl hn
    change execSpiReadPacket n s = _
    simp only [execSpiReadPacket, State.spiNext_of_reply hr hl, if_pos hn]
  case whole =>
    intro n s pk l hr hl hn
    change execSpiReadPacket n s = _
    simp only [execSpiReadPacket, State.spiNext_of_reply hr hl, if_neg (Nat.not_lt.2 hn), if_true, hl, List.drop_one, List.tail_cons]
  case status =>
    intro s
    exact ⟨_, rfl, rfl, rfl, rfl, rfl⟩
  case bad =>
    intro b s hb
    change execSpiBadInstruction b s = _
    rw [execSpiBadInstruction, if_neg (by simpa using hb)]
  case usb =>
    intro k bytes s hk hv
    exact (onUnit_of_present hk : execUsbCommandTransfer k bytes s = _).trans (by rw [if_pos hv])
  case post =>
    intro k slot bytes s hc hk hs hv hb
    refine (onUnit_of_present (by simp [hk, hs]) : execCmdPost k slot bytes s = _).trans ?_
    have hb' : ((s.setPcieFn k ((s.pcieFn k).writeSlot slot 0 (bytes.take 2048))).pcieFn k).busy.testBit slot = false := by
      rw [State.pcieFn_setPcieFn_self s k _ hc, PcieFn.writeSlot_busy, hb]
    simp only [hv, if_true, State.postSlot, hb', Bool.false_eq_true, if_false]
  case postBusy =>
    intro k slot s hc hk hs hv hb
    refine (onUnit_of_present (by simp [hk, hs]) : execCmdPost k slot [] s = _).trans ?_
    rw [if_pos hv, List.take_nil, PcieFn.writeSlot_nil, State.setPcieFn_pcieFn hc, State.postSlot, if_pos hb]
  case free =>
    intro k w s hk hv
    exact (onUnit_of_present hk : execRspReadyWrite k w s = _).trans (by rw [if_pos hv]; rfl)
  case tail =>
    intro k w s hk hv
    refine (onUnit_of_present hk : execEvtTailWrite k w s = _).trans ?_
    have hm : fld w 0 8 % 256 = fld w 0 8 := Nat.mod_eq_of_lt (fld_lt w 0 8)
    rw [if_pos hv, State.setEvTail, hm]

/-! ### The remote link -/

/-- Settles O6. -/
theorem remoteRequestsRunAndReturn : Obligations.RemoteRequestsRunAndReturn := by
  refine ⟨?request, ?badRequest, ?reply, ?late, ?timeout, ?badControl, ?inBand⟩
  case request =>
    intro k p bytes s h hg hl hf hv
    exact (onMsg_of_hears h : execRemoteRequestRx k p bytes s = _).trans (by simp [hg, hl, hf, hv])
  case badRequest =>
    intro k p bytes s h hg
    exact (onMsg_of_hears h : execRemoteRequestRx k p bytes s = _).trans (by simp [hg])
  case reply =>
    intro k p pk s q h hq hj hw
    refine (onMsg_of_hears h : execRemoteReplyRx k p pk s = _).trans ?_
    simp only [State.taken_port, hq, hj, hw]
  case late =>
    intro k p pk s l h hq hl
    refine (onMsg_of_hears h : execRemoteReplyRx k p pk s = _).trans ?_
    simp only [State.taken_port, hq, hl]
  case timeout =>
    intro k p lt s q hp hq hj hw
    exact (onPort_of_true hp rfl : execRemoteTimeout k p lt s = _).trans (by simp only [hq, hj, hw])
  case badControl =>
    intro k p s h
    exact onMsg_of_hears (f := fun u => u.violation k p 9 0 none) h
  case inBand =>
    intro k p l s hp ho
    exact onPort_of_true (f := s.violation k p 9 l (some (labelK l, labelT l))) hp ho

end Sys2Proof.Machine
end

section
/-! What the commands that only read leave alone (R41, R59, R80). -/

namespace Sys2Proof.Machine

/-- A reply that leaves the state as it was and is given at once. -/
def Res.Leaves (res : Res) (s : State) : Prop := res.state = s ∧ res.later = false

theorem Res.leaves_checked {cs : List Check} {s : State} {ok : Res} (h : ok.Leaves s) : (Res.checked cs s ok).Leaves s := by
  rw [Res.checked]
  split
  · exact ⟨rfl, rfl⟩
  · exact h

theorem getReply_leaves {r : Req} (u : Nat) (s : State) : (cmdGetReply.act r u s).Leaves s := by
  simp only [cmdGetReply]
  split <;> exact ⟨rfl, rfl⟩

theorem jobStatus_leaves {r : Req} (u : Nat) (s : State) : (cmdJobStatus.act r u s).Leaves s := by
  simp only [cmdJobStatus]
  split <;> exact ⟨rfl, rfl⟩

/-- The commands that only read. -/
def readingRows (r : Req) : List Instr :=
  [.sysInfo r, .getReply r, .jobStatus r, .nop r, .portInfo r, .tunInfo r, .rowTableRead r, .rawRouteRead r, .skeinInfo r, .logRead r,
    .blackboxRead r, .smapSignalRead r, .pwrFeedStatus r, .pdStatus r, .cableIdRead r, .keySlotInfo r, .fwInfo r, .lockStatus r]

/-- A row that only reads runs its command, and what that does leaves the state, whatever it answers. -/
theorem reading_row {i : Instr} {c : Cmd} {r : Req} (hi : i ∈ readingRows r) (h : request? i = some (c, r)) (s : State) :
    exec i s = onCommand c r s ∧ ∀ u, (c.act r u s).Leaves s := by
  simp only [readingRows, List.mem_cons, List.not_mem_nil, or_false] at hi
  rcases hi with rfl | rfl | rfl | rfl | rfl | rfl | rfl | rfl | rfl | rfl | rfl | rfl | rfl | rfl | rfl | rfl | rfl | rfl <;> cases h <;>
    refine ⟨rfl, fun u => ?_⟩
  on_goal 15 => exact Res.leaves_checked ⟨rfl, rfl⟩
  on_goal 3 => exact jobStatus_leaves u s
  on_goal 2 => exact getReply_leaves u s
  all_goals exact ⟨rfl, rfl⟩

/-- A command that only reads, where it answers DONE, does nothing but deliver its reply. -/
theorem exec_of_reading {i : Instr} {c : Cmd} {r : Req} {s : State} (hi : i ∈ readingRows r) (h : request? i = some (c, r))
    (ha : allowed c r s = true) (hd : (runLocal c r s).status = .done) : ∃ pk, exec i s = .next (s.deliver r.via r.slot pk) := by
  obtain ⟨hx, hact⟩ := reading_row hi h s
  obtain ⟨hs, hl⟩ := hact (reqTarget r)
  rw [runLocal_of_allowed ha] at hd
  rw [hx, onCommand_of_allowed ha]
  simp only [hl, hs, hd, countReject, State.noteDenied, Bool.false_eq_true, if_false, true_or, if_true, reduceCtorEq]
  exact ⟨_, rfl⟩

/-! ### The delivery of a reply -/

section
variable (s : State) (v : Via) (slot : Nat) (pk : Packet)

/-- A reply touches the endpoints, the reply slots and the contexts, and nothing else. -/
theorem State.deliver_rest : { s.deliver v slot pk with ends := s.ends, pcieFns := s.pcieFns, ctxs := s.ctxs } = s := by
  cases v <;> rfl

/-- A reply leaves the endpoints of the other transports. -/
theorem State.deliver_ep {w : Via} (h : viaKey w ≠ viaKey v) : (s.deliver v slot pk).ep w = s.ep w := by
  cases v <;> exact smapGet_put_ne _ _ _ _ _ h

/-- A reply leaves the reply slots, but on PCIe. -/
theorem State.deliver_pcieFns (h : ∀ k, v ≠ .pcie k) : (s.deliver v slot pk).pcieFns = s.pcieFns := by
  cases v with
  | pcie k => exact absurd rfl (h k)
  | _ => rfl

/-- A reply leaves the contexts, but on a link. -/
theorem State.deliver_ctxs (h : ∀ k p, v ≠ .link k p) : (s.deliver v slot pk).ctxs = s.ctxs := by
  cases v with
  | link k p => exact absurd rfl (h k p)
  | _ => rfl

end

/-- Settles O56. -/
theorem readingCommandsChangeNothing : Obligations.ReadingCommandsChangeNothing := by
  intro i c r s hi h ha hd
  obtain ⟨pk, hx⟩ := exec_of_reading hi h ha hd
  exact ⟨_, hx, s.deliver_rest _ _ _, fun _ hv => s.deliver_ep _ _ _ hv, s.deliver_pcieFns _ _ _, s.deliver_ctxs _ _ _⟩

end Sys2Proof.Machine
end
